-- ==== Sys2Proof/Word.lean ====
section
/-!
DEFINITION. Words and their plainest arithmetic: the Grixis register types, and the two's-complement
and unsigned wrapping that the dictionary's fixed-width values use (R24, R301).
-/
namespace Sys2Proof

/-- A Grixis scalar word (R210). -/
abbrev Word := BitVec 32

/-- A half word: one 16-bit element of a Grixis vector (R210). -/
abbrev Half := BitVec 16

/-- One byte of engine data memory (R183). -/
abbrev Byte := BitVec 8

/-- The low `w` bits of an integer, as a natural number. -/
def wrapU (w : Nat) (x : Int) : Nat := (x % (2 ^ w : Nat)).toNat

/-- An integer brought into `w`-bit two's complement. -/
def wrapS (w : Nat) (x : Int) : Int :=
  if 2 ^ (w - 1) ≤ wrapU w x then (wrapU w x : Int) - (2 ^ w : Nat) else (wrapU w x : Int)

/-- An integer limited to the range `lo` to `hi`. -/
def clampI (lo hi x : Int) : Int := max lo (min hi x)

/-- Division rounded half up, for a positive divisor. -/
def roundDiv (n : Int) (d : Nat) : Int := (2 * n + d) / (2 * d : Nat)

/-- Division rounded up, for naturals. -/
def ceilDiv (n d : Nat) : Nat := (n + d - 1) / d

end Sys2Proof
end

