-- ==== Sys2Proof/Syntax.lean ====
section
/-!
DEFINITION. The commands of the block: one constructor per row of spec/opcode_table.json, with the operands the row
needs. An event, a timer or an input of the surroundings carries what the surroundings bring; a dictionary request carries
its sender.
-/
namespace Sys2Proof

/-- The second source of a Grixis vector instruction (R220, R221, R223): a vector register, or the low half of a scalar
register broadcast to every lane. -/
inductive VSrc where
  | vec (r : Fin 32)
  | scalar (r : Fin 16)
  deriving DecidableEq, Repr

/-- An edge of a segment whose halo transfer arrived in error (R148): exchange point 1, 2 or 3, and the east edge or the
west one. -/
structure HaloErr where
  exch : Nat
  east : Bool
  deriving DecidableEq, Repr

/-- A PCIe read of BAR2 (R202, R203): the byte offset, and the cycles for which a read that waited 64 cycles stalled the engine. -/
structure BarRead where
  off : Nat
  stall : Nat
  deriving DecidableEq, Repr

/-- A Millrace block as a Confluence port receives it (R287, R288): its place among the blocks of the stop that are not yet
acknowledged, and the pattern of bit errors, byte by byte, that the link has put on it. -/
structure BlockRx where
  place : Nat
  errs : List Nat
  deriving DecidableEq, Repr

/-- An embedded-data packet: the outcome of its payload CRC, and its bytes (R248). -/
structure Embedded where
  crcOk : Bool
  bytes : List Nat
  deriving DecidableEq, Repr

/-- The sender of a dictionary request (R308): its port, 0 debug, 1 PCIe, 2 field network, 3 two-wire target; on port 2 the
source address and the SEQ of its message (R332, R335). -/
structure Sender where
  port : Fin 4
  src : Nat
  seq : Nat
  deriving DecidableEq, Repr

/-- A command. -/
inductive Instr where
  /-- ENCODER_EDGE (R19): A level change on channel A, B or Z of ENC0 or ENC1 has stayed stable for F ticks, so the glitch
  filter accepts it and stamps it with the tick of its first raw transition. -/
  | encoderEdge (i : Fin 2) (ch : Fin 3) (level : Bool) (t : Nat)
  /-- DECODER_STEP_CLOSE (R21): A decoder step closes W ticks after it opened, and the edges it holds are judged as one
  legal transition or as an illegal transition. -/
  | decoderStepClose (i : Fin 2)
  /-- ENCODER_LOSS (R22): The differential voltage has stayed below 50 mV for more than 1 µs, so the encoder state becomes
  LOSS and an event is raised once. -/
  | encoderLoss (i : Fin 2) (ch : Fin 3)
  /-- ENCODER_RESTORED (R22): The differential voltage has stayed above 100 mV for 10 µs, so the encoder state returns to
  ACTIVE and an event is raised. -/
  | encoderRestored (i : Fin 2) (ch : Fin 3)
  /-- HORIZON_EXPIRY (R26): No edge has arrived within the estimator horizon, so extrapolation stops and the motion state
  becomes COASTING. -/
  | horizonExpiry
  /-- EPOCH_INPUT_EDGE (R29): A filtered rising edge on the EPOCH input sets an armed EPOCH_IN epoch, or is counted as
  unarmed. -/
  | epochInputEdge (level : Bool) (t : Nat)
  /-- ARM_EPOCH (R29): A write to 0x2018.02 in IDLE arms the epoch and ends the old grid. -/
  | armEpoch (w : Sender)
  /-- LINE_TRIGGER (R30): POS64 reaches the next grid point, so the line counter advances and, in RUNNING, the line is
  accepted, transferred and started. -/
  | lineTrigger (t : Nat)
  /-- QUEUED_LINE_START (R50): The previous conversion sequence or flush ends, so the queued line starts and is flagged
  OVERSPEED where due. -/
  | queuedLineStart
  /-- RUN_START (R41): The START run command moves the run state on, or is refused or latched, under the run machine. -/
  | runStart (w : Sender)
  /-- STOP_AT_SECTION (R41): The STOP_AT_SECTION command fixes the last accepted line as the one before the next boundary.
  -/
  | stopAtSection (w : Sender)
  /-- STOP_NOW (R41): The STOP_NOW command fixes the line in conversion, or a queued one, as the last accepted line. -/
  | stopNow (w : Sender)
  /-- RUN_STOPPED (R41): Every in-flight line has been delivered or reported, so STOPPING ends in IDLE with event 0x0113. -/
  | runStopped
  /-- STALL_TIMEOUT (R53): The stall condition has lasted the stall time, so the run becomes STALLED and the first flush
  transfer runs. -/
  | stallTimeout
  /-- FLUSH_TRANSFER (R53): The 1 ms stall timer expires and the enabled TDI registers are clocked through one discarded
  line. -/
  | flushTransfer
  /-- FLUSH_TRANSFER_END (R53): A flush transfer ends, releasing any trigger that waited for it. -/
  | flushTransferEnd
  /-- SOFTWARE_LINE (R46): A write of 0x01 to 0x2028.09 produces a line trigger in SOFTWARE mode, or is refused. -/
  | softwareLine (w : Sender)
  /-- TRIG_IN_EDGE (R46): A filtered active edge on TRIG_IN triggers a line in EXTERNAL mode or requests a sheet in SHEET
  mode. -/
  | trigInEdge (level : Bool) (t : Nat)
  /-- CLEAR_CROSSCHECK_FAULT (R57): A write of 0x01 to 0x2038.07 clears the cross-check fault latch. -/
  | clearCrosscheckFault (w : Sender)
  /-- ARM_USER_ENTRY (R40): A write of a user entry's type arms, disarms or refuses that entry of the event table. -/
  | armUserEntry (w : Sender) (n : Fin 64) (typ : Nat)
  /-- MARK (R40): A MARK user entry reaches its position and raises event 0x0110 with its tag. -/
  | mark (n : Fin 64)
  /-- TRIG_OUT_PULSE (R40): A TRIG_OUT_PULSE user entry reaches its position and drives TRIG_OUT high in TABLE mode. -/
  | trigOutPulse (n : Fin 64)
  /-- TRIG_OUT_PULSE_END (R58): The width of a TRIG_OUT pulse expires and the output falls. -/
  | trigOutPulseEnd
  /-- PHASE_START (R70): The time of a phase start is reached, so the phase's field opens its gates and closes its drains.
  -/
  | phaseStart (p : Fin 4)
  /-- PHASE_END (R70): A phase's length expires and its field returns to draining. -/
  | phaseEnd (p : Fin 4)
  /-- STROBE_ON (R71): A strobe's delay from its phase start expires and the strobe goes active. -/
  | strobeOn (k : Fin 6) (p : Fin 4)
  /-- STROBE_OFF (R71): A strobe's width expires and the strobe returns inactive. -/
  | strobeOff (k : Fin 6) (p : Fin 4)
  /-- W_FRAME_START (R83): In FREE_RUN the frame interval expires and a new W frame starts. -/
  | wFrameStart
  /-- W_SINGLE_FRAME (R83): A write of 0x01 to 0x2418.09 starts a W frame, or defers it to the end of the frame being read.
  -/
  | wSingleFrame (w : Sender)
  /-- W_ROW_READ (R82): The 625 ns W row timer reads the next row and delivers it as a line record. -/
  | wRowRead (levels : List (Nat × Nat))
  /-- STROBE_READBACK_FAULT (R89): A strobe pad has differed from its driven level for 100 ns, so the output goes high
  impedance and the fault latches. -/
  | strobeReadbackFault (k : Fin 6)
  /-- CLEAR_STROBE_FAULT (R89): A write to 0x2430.05 clears a strobe fault latch and re-enables the output from the next
  line. -/
  | clearStrobeFault (w : Sender) (m : Nat)
  /-- ROW_DRIVER_FAULT (R90): A row driver's clock current has left its window in three consecutive lines, so the fault
  latches and the array's records carry SEGMENT_FAIL. -/
  | rowDriverFault (bit : Fin 30)
  /-- CLEAR_ROW_DRIVER_FAULT (R90): A write to 0x2438.02 schedules the re-enable of a row driver at the next section
  boundary. -/
  | clearRowDriverFault (w : Sender) (m : Nat)
  /-- SLOT_END (R98): A 600 ns conversion slot ends and its samples pass to recombination. -/
  | slotEnd (bank : Nat) (k : Nat) (levels : List (Nat × Nat)) (diffs : List (Nat × Nat)) (second : List (Nat × Nat)) (singles : Nat) (words : List Nat)
  /-- CAL_START (R101): The START calibration command begins self-calibration of the masked banks, or is refused. -/
  | calStart (w : Sender)
  /-- CAL_ABORT (R106): The ABORT calibration command ends a running calibration, keeping the old factors of the bank in
  progress. -/
  | calAbort (w : Sender)
  /-- CAL_SAVE (R107): The SAVE calibration command stores the factors and repair maps into the calibration set. -/
  | calSave (w : Sender)
  /-- BANK_CAL_COMPLETE (R105): A bank's 12 ms calibration completes: its factors switch, failures are repaired and the next
  masked bank begins. -/
  | bankCalComplete (cols : List (Nat × Nat × Int)) (spares : List (Nat × Nat × Nat × Int))
      (blacks : List (Bool × Nat × Nat × Int)) (factors : List (Nat × List Nat)) (change : Nat)
  /-- RECALIBRATION_DUE (R108): The hours since the last calibration reach the interval, so the recalibration flag sets and
  0x030D is raised. -/
  | recalibrationDue
  /-- COLUMN_SUSPECT (R110): A column's count of consecutive mismatches reaches the limit and the column becomes suspect. -/
  | columnSuspect (seg : Fin 24) (bank : Nat) (col : Nat)
  /-- RAW_CAPTURE_ARM (R118): A write of 0x01 to 0x2870.03 arms the capture of the next accepted line's raw sample words. -/
  | rawCaptureArm (w : Sender)
  /-- SLIP_ESTIMATE (R132): The slip estimate of a section completes within 40 µs of its last line and is stored. -/
  | slipEstimate
  /-- SEGMENT_LINE_PROCESS (R142): A line whose look-ahead lines have arrived passes a segment's correction, engine,
  statistics and shaping stages. -/
  | segmentLineProcess (seg : Fin 24) (src : Nat) (line : Nat) (errs : List HaloErr)
  /-- SIDE_LINK_FAILED (R148): Sixteen consecutive erroneous transfers mark a side link failed and raise 0x040A. -/
  | sideLinkFailed (link : Fin 24)
  /-- STATS_RECORD_CLOSE (R172): The last line of a section has left stage 7 everywhere, so its image and summary records
  are completed. -/
  | statsRecordClose
  /-- WINDOW_READY (R188): The line window of a segment's engines becomes ready, releasing waiting engines and cutting off
  late ones. -/
  | windowReady (seg : Fin 24) (line : Nat) (errs : List HaloErr)
  /-- IMAGE_LOAD_COMPLETE (R197): An image load ends, installing the generation or failing its check. -/
  | imageLoadComplete
  /-- ENGINE_RESTART (R201): A write to 0x4004 restarts halted engines at its apply boundary as a kernel change. -/
  | engineRestart (w : Sender) (seg : Fin 24) (m : Nat)
  /-- BAR2_WRITE (R202): A PCIe write to BAR2 stores into engine memories, or is discarded. -/
  | bar2Write (off : Nat) (data : List Nat) (stall : Nat)
  /-- BAR2_READ (R203): A PCIe read of BAR2 returns engine memory, arbitrated against the engine. -/
  | bar2Read (r : BarRead)
  /-- CRUMB_DRAIN (R206): A segment's Millrace stop takes one crumb every 32 ns round-robin from its engines' buffers. -/
  | crumbDrain (seg : Fin 24)
  /-- CRUMB_MERGE (R207): Every engine has ended a line, so the merger joins and filters that line's crumbs and queues them.
  -/
  | crumbMerge (line : Nat)
  /-- BREAKPOINT_MATCH (R231): An engine's PC matches a hardware breakpoint, so the engine enters BREAK before the
  instruction. -/
  | breakpointMatch (e : Fin 192)
  /-- ADD (R215): Scalar add. -/
  | add_ (e : Fin 192) (rd : Fin 16) (ra : Fin 16) (rb : Fin 16)
  /-- SUB (R215): Scalar subtract. -/
  | sub_ (e : Fin 192) (rd : Fin 16) (ra : Fin 16) (rb : Fin 16)
  /-- AND (R215): Scalar bitwise AND. -/
  | and_ (e : Fin 192) (rd : Fin 16) (ra : Fin 16) (rb : Fin 16)
  /-- OR (R215): Scalar bitwise OR. -/
  | or_ (e : Fin 192) (rd : Fin 16) (ra : Fin 16) (rb : Fin 16)
  /-- XOR (R215): Scalar bitwise XOR. -/
  | xor_ (e : Fin 192) (rd : Fin 16) (ra : Fin 16) (rb : Fin 16)
  /-- SLL (R215): Scalar logical shift left. -/
  | sll (e : Fin 192) (rd : Fin 16) (ra : Fin 16) (rb : Fin 16)
  /-- SRL (R215): Scalar logical shift right. -/
  | srl (e : Fin 192) (rd : Fin 16) (ra : Fin 16) (rb : Fin 16)
  /-- SRA (R215): Scalar arithmetic shift right. -/
  | sra (e : Fin 192) (rd : Fin 16) (ra : Fin 16) (rb : Fin 16)
  /-- SLT (R215): Scalar set if less than, signed. -/
  | slt (e : Fin 192) (rd : Fin 16) (ra : Fin 16) (rb : Fin 16)
  /-- SLTU (R215): Scalar set if less than, unsigned. -/
  | sltu (e : Fin 192) (rd : Fin 16) (ra : Fin 16) (rb : Fin 16)
  /-- MIN (R215): Scalar signed minimum. -/
  | min_ (e : Fin 192) (rd : Fin 16) (ra : Fin 16) (rb : Fin 16)
  /-- MAX (R215): Scalar signed maximum. -/
  | max_ (e : Fin 192) (rd : Fin 16) (ra : Fin 16) (rb : Fin 16)
  /-- MINU (R215): Scalar unsigned minimum. -/
  | minu (e : Fin 192) (rd : Fin 16) (ra : Fin 16) (rb : Fin 16)
  /-- MAXU (R215): Scalar unsigned maximum. -/
  | maxu (e : Fin 192) (rd : Fin 16) (ra : Fin 16) (rb : Fin 16)
  /-- MUL (R215): Scalar multiply, low 32 bits. -/
  | mul (e : Fin 192) (rd : Fin 16) (ra : Fin 16) (rb : Fin 16)
  /-- MULH (R215): Scalar multiply, high 32 bits, signed. -/
  | mulh (e : Fin 192) (rd : Fin 16) (ra : Fin 16) (rb : Fin 16)
  /-- MULHU (R215): Scalar multiply, high 32 bits, unsigned. -/
  | mulhu (e : Fin 192) (rd : Fin 16) (ra : Fin 16) (rb : Fin 16)
  /-- ADDI (R216): Scalar add of a sign-extended immediate. -/
  | addi (e : Fin 192) (rd : Fin 16) (ra : Fin 16) (imm : BitVec 11)
  /-- ANDI (R216): Scalar AND with a zero-extended immediate. -/
  | andi (e : Fin 192) (rd : Fin 16) (ra : Fin 16) (imm : BitVec 11)
  /-- ORI (R216): Scalar OR with a zero-extended immediate. -/
  | ori (e : Fin 192) (rd : Fin 16) (ra : Fin 16) (imm : BitVec 11)
  /-- XORI (R216): Scalar XOR with a zero-extended immediate. -/
  | xori (e : Fin 192) (rd : Fin 16) (ra : Fin 16) (imm : BitVec 11)
  /-- SLTI (R216): Set if less than an immediate, signed. -/
  | slti (e : Fin 192) (rd : Fin 16) (ra : Fin 16) (imm : BitVec 11)
  /-- SLTIU (R216): Set if less than an immediate, unsigned. -/
  | sltiu (e : Fin 192) (rd : Fin 16) (ra : Fin 16) (imm : BitVec 11)
  /-- SLLI (R216): Logical shift left by an immediate. -/
  | slli (e : Fin 192) (rd : Fin 16) (ra : Fin 16) (sh : BitVec 5)
  /-- SRLI (R216): Logical shift right by an immediate. -/
  | srli (e : Fin 192) (rd : Fin 16) (ra : Fin 16) (sh : BitVec 5)
  /-- SRAI (R216): Arithmetic shift right by an immediate. -/
  | srai (e : Fin 192) (rd : Fin 16) (ra : Fin 16) (sh : BitVec 5)
  /-- LUI (R216): Load a 21-bit immediate shifted left by 11. -/
  | lui (e : Fin 192) (rd : Fin 16) (imm : BitVec 21)
  /-- BEQ (R217): Branch if equal. -/
  | beq (e : Fin 192) (ra : Fin 16) (rb : Fin 16) (imm : BitVec 11)
  /-- BNE (R217): Branch if not equal. -/
  | bne (e : Fin 192) (ra : Fin 16) (rb : Fin 16) (imm : BitVec 11)
  /-- BLT (R217): Branch if less than, signed. -/
  | blt (e : Fin 192) (ra : Fin 16) (rb : Fin 16) (imm : BitVec 11)
  /-- BGE (R217): Branch if greater or equal, signed. -/
  | bge (e : Fin 192) (ra : Fin 16) (rb : Fin 16) (imm : BitVec 11)
  /-- BLTU (R217): Branch if less than, unsigned. -/
  | bltu (e : Fin 192) (ra : Fin 16) (rb : Fin 16) (imm : BitVec 11)
  /-- BGEU (R217): Branch if greater or equal, unsigned. -/
  | bgeu (e : Fin 192) (ra : Fin 16) (rb : Fin 16) (imm : BitVec 11)
  /-- JAL (R217): Jump to a PC-relative target and link. -/
  | jal (e : Fin 192) (rd : Fin 16) (imm : BitVec 21)
  /-- JALR (R217): Jump to a register target and link. -/
  | jalr (e : Fin 192) (rd : Fin 16) (ra : Fin 16) (imm : BitVec 11)
  /-- LOOP (R218): Push a zero-overhead loop counted by a register. -/
  | loop_ (e : Fin 192) (ra : Fin 16) (words : BitVec 11)
  /-- LOOPI (R218): Push a zero-overhead loop with an immediate count. -/
  | loopi (e : Fin 192) (count : BitVec 10) (words : BitVec 11)
  /-- LW (R219): Load a word from data memory. -/
  | lw (e : Fin 192) (rd : Fin 16) (ra : Fin 16) (imm : BitVec 11)
  /-- LH (R219): Load a sign-extended halfword. -/
  | lh (e : Fin 192) (rd : Fin 16) (ra : Fin 16) (imm : BitVec 11)
  /-- LHU (R219): Load a zero-extended halfword. -/
  | lhu (e : Fin 192) (rd : Fin 16) (ra : Fin 16) (imm : BitVec 11)
  /-- LB (R219): Load a sign-extended byte. -/
  | lb (e : Fin 192) (rd : Fin 16) (ra : Fin 16) (imm : BitVec 11)
  /-- LBU (R219): Load a zero-extended byte. -/
  | lbu (e : Fin 192) (rd : Fin 16) (ra : Fin 16) (imm : BitVec 11)
  /-- SW (R219): Store a word to data memory. -/
  | sw (e : Fin 192) (rs : Fin 16) (ra : Fin 16) (imm : BitVec 11)
  /-- SH (R219): Store a halfword. -/
  | sh (e : Fin 192) (rs : Fin 16) (ra : Fin 16) (imm : BitVec 11)
  /-- SB (R219): Store a byte. -/
  | sb (e : Fin 192) (rs : Fin 16) (ra : Fin 16) (imm : BitVec 11)
  /-- VLD (R219): Load a 16-lane vector from data memory. -/
  | vld (e : Fin 192) (vd : Fin 32) (ra : Fin 16) (imm : BitVec 11)
  /-- VST (R219): Store a 16-lane vector to data memory. -/
  | vst (e : Fin 192) (vs : Fin 32) (ra : Fin 16) (imm : BitVec 11)
  /-- VADD (R220): Vector add modulo 2^16. -/
  | vadd (e : Fin 192) (vd : Fin 32) (va : Fin 32) (b : VSrc) (p : Fin 8)
  /-- VSUB (R220): Vector subtract modulo 2^16. -/
  | vsub (e : Fin 192) (vd : Fin 32) (va : Fin 32) (b : VSrc) (p : Fin 8)
  /-- VADDS (R220): Vector unsigned saturating add. -/
  | vadds (e : Fin 192) (vd : Fin 32) (va : Fin 32) (b : VSrc) (p : Fin 8)
  /-- VSUBS (R220): Vector unsigned saturating subtract. -/
  | vsubs (e : Fin 192) (vd : Fin 32) (va : Fin 32) (b : VSrc) (p : Fin 8)
  /-- VADDSS (R220): Vector signed saturating add. -/
  | vaddss (e : Fin 192) (vd : Fin 32) (va : Fin 32) (b : VSrc) (p : Fin 8)
  /-- VSUBSS (R220): Vector signed saturating subtract. -/
  | vsubss (e : Fin 192) (vd : Fin 32) (va : Fin 32) (b : VSrc) (p : Fin 8)
  /-- VABSD (R220): Vector unsigned absolute difference. -/
  | vabsd (e : Fin 192) (vd : Fin 32) (va : Fin 32) (b : VSrc) (p : Fin 8)
  /-- VAVG (R220): Vector rounded average. -/
  | vavg (e : Fin 192) (vd : Fin 32) (va : Fin 32) (b : VSrc) (p : Fin 8)
  /-- VMINU (R220): Vector unsigned minimum. -/
  | vminu (e : Fin 192) (vd : Fin 32) (va : Fin 32) (b : VSrc) (p : Fin 8)
  /-- VMAXU (R220): Vector unsigned maximum. -/
  | vmaxu (e : Fin 192) (vd : Fin 32) (va : Fin 32) (b : VSrc) (p : Fin 8)
  /-- VMIN (R220): Vector signed minimum. -/
  | vmin (e : Fin 192) (vd : Fin 32) (va : Fin 32) (b : VSrc) (p : Fin 8)
  /-- VMAX (R220): Vector signed maximum. -/
  | vmax (e : Fin 192) (vd : Fin 32) (va : Fin 32) (b : VSrc) (p : Fin 8)
  /-- VAND (R220): Vector bitwise AND. -/
  | vand (e : Fin 192) (vd : Fin 32) (va : Fin 32) (b : VSrc) (p : Fin 8)
  /-- VOR (R220): Vector bitwise OR. -/
  | vor (e : Fin 192) (vd : Fin 32) (va : Fin 32) (b : VSrc) (p : Fin 8)
  /-- VXOR (R220): Vector bitwise XOR. -/
  | vxor (e : Fin 192) (vd : Fin 32) (va : Fin 32) (b : VSrc) (p : Fin 8)
  /-- VANDN (R220): Vector AND with complement. -/
  | vandn (e : Fin 192) (vd : Fin 32) (va : Fin 32) (b : VSrc) (p : Fin 8)
  /-- VSHL (R220): Vector shift left. -/
  | vshl (e : Fin 192) (vd : Fin 32) (va : Fin 32) (b : VSrc) (p : Fin 8)
  /-- VSHR (R220): Vector logical shift right. -/
  | vshr (e : Fin 192) (vd : Fin 32) (va : Fin 32) (b : VSrc) (p : Fin 8)
  /-- VSRA (R220): Vector arithmetic shift right. -/
  | vsra (e : Fin 192) (vd : Fin 32) (va : Fin 32) (b : VSrc) (p : Fin 8)
  /-- VMUL (R220): Vector multiply, low 16 bits. -/
  | vmul (e : Fin 192) (vd : Fin 32) (va : Fin 32) (b : VSrc) (p : Fin 8)
  /-- VMULHU (R220): Vector multiply, high 16 bits, unsigned. -/
  | vmulhu (e : Fin 192) (vd : Fin 32) (va : Fin 32) (b : VSrc) (p : Fin 8)
  /-- VMULHS (R220): Vector multiply, high 16 bits, signed. -/
  | vmulhs (e : Fin 192) (vd : Fin 32) (va : Fin 32) (b : VSrc) (p : Fin 8)
  /-- VSEL (R220): Vector select per lane by predicate. -/
  | vsel (e : Fin 192) (vd : Fin 32) (va : Fin 32) (b : VSrc) (p : Fin 8)
  /-- VMOV (R220): Vector move. -/
  | vmov (e : Fin 192) (vd : Fin 32) (va : Fin 32) (b : VSrc) (p : Fin 8)
  /-- VCMP_EQ (R221): Vector compare equal into a predicate. -/
  | vcmpEq (e : Fin 192) (pd : Fin 8) (va : Fin 32) (b : VSrc) (p : Fin 8)
  /-- VCMP_NE (R221): Vector compare not equal into a predicate. -/
  | vcmpNe (e : Fin 192) (pd : Fin 8) (va : Fin 32) (b : VSrc) (p : Fin 8)
  /-- VCMP_LTU (R221): Vector compare less than, unsigned. -/
  | vcmpLtu (e : Fin 192) (pd : Fin 8) (va : Fin 32) (b : VSrc) (p : Fin 8)
  /-- VCMP_LEU (R221): Vector compare less or equal, unsigned. -/
  | vcmpLeu (e : Fin 192) (pd : Fin 8) (va : Fin 32) (b : VSrc) (p : Fin 8)
  /-- VCMP_GTU (R221): Vector compare greater than, unsigned. -/
  | vcmpGtu (e : Fin 192) (pd : Fin 8) (va : Fin 32) (b : VSrc) (p : Fin 8)
  /-- VCMP_GEU (R221): Vector compare greater or equal, unsigned. -/
  | vcmpGeu (e : Fin 192) (pd : Fin 8) (va : Fin 32) (b : VSrc) (p : Fin 8)
  /-- VCMP_LT (R221): Vector compare less than, signed. -/
  | vcmpLt (e : Fin 192) (pd : Fin 8) (va : Fin 32) (b : VSrc) (p : Fin 8)
  /-- VCMP_LE (R221): Vector compare less or equal, signed. -/
  | vcmpLe (e : Fin 192) (pd : Fin 8) (va : Fin 32) (b : VSrc) (p : Fin 8)
  /-- VCMP_GT (R221): Vector compare greater than, signed. -/
  | vcmpGt (e : Fin 192) (pd : Fin 8) (va : Fin 32) (b : VSrc) (p : Fin 8)
  /-- VCMP_GE (R221): Vector compare greater or equal, signed. -/
  | vcmpGe (e : Fin 192) (pd : Fin 8) (va : Fin 32) (b : VSrc) (p : Fin 8)
  /-- PAND (R222): Predicate AND. -/
  | pand (e : Fin 192) (pd : Fin 8) (pa : Fin 8) (pb : Fin 8)
  /-- POR (R222): Predicate OR. -/
  | por (e : Fin 192) (pd : Fin 8) (pa : Fin 8) (pb : Fin 8)
  /-- PXOR (R222): Predicate XOR. -/
  | pxor (e : Fin 192) (pd : Fin 8) (pa : Fin 8) (pb : Fin 8)
  /-- PANDN (R222): Predicate AND with complement. -/
  | pandn (e : Fin 192) (pd : Fin 8) (pa : Fin 8) (pb : Fin 8)
  /-- PNOT (R222): Predicate complement. -/
  | pnot (e : Fin 192) (pd : Fin 8) (pa : Fin 8)
  /-- MTP (R222): Move a scalar into a predicate. -/
  | mtp (e : Fin 192) (pd : Fin 8) (ra : Fin 16)
  /-- MFP (R222): Move a predicate into a scalar. -/
  | mfp (e : Fin 192) (rd : Fin 16) (pa : Fin 8)
  /-- PCNT (R222): Count the set bits of a predicate. -/
  | pcnt (e : Fin 192) (rd : Fin 16) (pa : Fin 8)
  /-- PFIRST (R222): Index of the lowest set predicate bit. -/
  | pfirst (e : Fin 192) (rd : Fin 16) (pa : Fin 8)
  /-- PLAST (R222): Index of the highest set predicate bit. -/
  | plast (e : Fin 192) (rd : Fin 16) (pa : Fin 8)
  /-- VMACU (R223): Unsigned multiply-accumulate. -/
  | vmacu (e : Fin 192) (ad : Fin 4) (va : Fin 32) (b : VSrc) (p : Fin 8)
  /-- VMACS (R223): Signed multiply-accumulate. -/
  | vmacs (e : Fin 192) (ad : Fin 4) (va : Fin 32) (b : VSrc) (p : Fin 8)
  /-- VMACSU (R223): Signed-by-unsigned multiply-accumulate. -/
  | vmacsu (e : Fin 192) (ad : Fin 4) (va : Fin 32) (b : VSrc) (p : Fin 8)
  /-- VMSUU (R223): Unsigned multiply-subtract. -/
  | vmsuu (e : Fin 192) (ad : Fin 4) (va : Fin 32) (b : VSrc) (p : Fin 8)
  /-- VMSUS (R223): Signed multiply-subtract. -/
  | vmsus (e : Fin 192) (ad : Fin 4) (va : Fin 32) (b : VSrc) (p : Fin 8)
  /-- VMULU (R223): Unsigned multiply into an accumulator. -/
  | vmulu (e : Fin 192) (ad : Fin 4) (va : Fin 32) (b : VSrc) (p : Fin 8)
  /-- VMULSU (R223): Signed-by-unsigned multiply into an accumulator. -/
  | vmulsu (e : Fin 192) (ad : Fin 4) (va : Fin 32) (b : VSrc) (p : Fin 8)
  /-- ACLR (R223): Clear an accumulator. -/
  | aclr (e : Fin 192) (ad : Fin 4) (p : Fin 8)
  /-- VRNDU (R223): Round an accumulator into an unsigned vector. -/
  | vrndu (e : Fin 192) (vd : Fin 32) (ad : Fin 4) (sh : BitVec 5) (p : Fin 8)
  /-- VRNDS (R223): Round an accumulator into a signed vector. -/
  | vrnds (e : Fin 192) (vd : Fin 32) (ad : Fin 4) (sh : BitVec 5) (p : Fin 8)
  /-- VTOA (R223): Zero-extend a vector into an accumulator. -/
  | vtoa (e : Fin 192) (ad : Fin 4) (va : Fin 32) (p : Fin 8)
  /-- VTOAS (R223): Sign-extend a vector into an accumulator. -/
  | vtoas (e : Fin 192) (ad : Fin 4) (va : Fin 32) (p : Fin 8)
  /-- WLD (R224): Load a vector from the line window. -/
  | wld (e : Fin 192) (vd : Fin 32) (ra : Fin 16) (sec : Bool) (off : BitVec 4) (sh : BitVec 5)
  /-- VRSUM (R225): Unsigned sum of active lanes. -/
  | vrsum (e : Fin 192) (rd : Fin 16) (va : Fin 32) (p : Fin 8)
  /-- VRSUMS (R225): Signed sum of active lanes. -/
  | vrsums (e : Fin 192) (rd : Fin 16) (va : Fin 32) (p : Fin 8)
  /-- VRMAXU (R225): Largest active lane, unsigned. -/
  | vrmaxu (e : Fin 192) (rd : Fin 16) (va : Fin 32) (p : Fin 8)
  /-- VRMINU (R225): Smallest active lane, unsigned. -/
  | vrminu (e : Fin 192) (rd : Fin 16) (va : Fin 32) (p : Fin 8)
  /-- VRMAXIX (R225): Lowest index of the largest active lane. -/
  | vrmaxix (e : Fin 192) (rd : Fin 16) (va : Fin 32) (p : Fin 8)
  /-- VRMINIX (R225): Lowest index of the smallest active lane. -/
  | vrminix (e : Fin 192) (rd : Fin 16) (va : Fin 32) (p : Fin 8)
  /-- VRSUMA (R225): Limited sum of accumulator lanes. -/
  | vrsuma (e : Fin 192) (rd : Fin 16) (ad : Fin 4) (p : Fin 8)
  /-- VPERM (R226): Permute lanes by an index vector. -/
  | vperm (e : Fin 192) (vd : Fin 32) (va : Fin 32) (vb : Fin 32) (p : Fin 8)
  /-- VSLIDE (R226): Slide lanes across two vectors. -/
  | vslide (e : Fin 192) (vd : Fin 32) (va : Fin 32) (vb : Fin 32) (k : Fin 16) (p : Fin 8)
  /-- VEXT (R226): Extract a lane into a scalar. -/
  | vext (e : Fin 192) (rd : Fin 16) (va : Fin 32) (k : Fin 16)
  /-- VINS (R226): Insert a limited scalar into a lane. -/
  | vins (e : Fin 192) (vd : Fin 32) (ra : Fin 16) (k : Fin 16)
  /-- VSPLAT (R226): Broadcast a scalar to the lanes. -/
  | vsplat (e : Fin 192) (vd : Fin 32) (ra : Fin 16) (p : Fin 8)
  /-- VREV (R226): Reverse the lane order. -/
  | vrev (e : Fin 192) (vd : Fin 32) (va : Fin 32) (p : Fin 8)
  /-- VSPLATI (R226): Broadcast a 16-bit immediate to the lanes. -/
  | vsplati (e : Fin 192) (vd : Fin 32) (imm : BitVec 16) (p : Fin 8)
  /-- VPUT (R227): Write vector lanes into an output buffer. -/
  | vput (e : Fin 192) (vs : Fin 32) (rq : Fin 16) (second : Bool) (p : Fin 8)
  /-- CEMIT (R228): Emit a crumb record into the crumb buffer. -/
  | cemit (e : Fin 192) (vf : Fin 32) (ra : Fin 16) (rb : Fin 16)
  /-- NOP (R229): No operation. -/
  | nop (e : Fin 192)
  /-- WAITLINE (R229): End line n: buffers take effect, the line leaves stage 6 and the engine waits for its next release.
  -/
  | waitline (e : Fin 192)
  /-- HALT (R229): Halt the engine in state HALTED. -/
  | halt (e : Fin 192)
  /-- BREAK (R229): Stop the engine in state BREAK. -/
  | break_ (e : Fin 192)
  /-- FENCE (R229): Wait until earlier stores and crumbs are visible. -/
  | fence (e : Fin 192)
  /-- MFS (R212): Read a special register. -/
  | mfs (e : Fin 192) (rd : Fin 16) (n : BitVec 5)
  /-- MTS (R212): Write the STAT special register. -/
  | mts (e : Fin 192) (n : BitVec 5) (ra : Fin 16)
  /-- MILLRACE_BLOCK_RECEIVED (R288): A Confluence port checks a Millrace block and acknowledges or refuses it, then places
  its contribution. -/
  | millraceBlockReceived (seg : Fin 24) (rx : BlockRx)
  /-- MILLRACE_RETRY_TIMEOUT (R288): No answer to a block within 1 µs counts as a negative acknowledgement and the block is
  resent. -/
  | millraceRetryTimeout (seg : Fin 24)
  /-- SEGMENT_FAILURE (R289): A block has failed 8 resends, so its segment is failed and its columns are padded. -/
  | segmentFailure (seg : Fin 24)
  /-- RESTORE_SEGMENT (R290): A write to 0x50C0.05 restores failed segments at its apply boundary. -/
  | restoreSegment (w : Sender) (m : Nat)
  /-- CSI_RECEIVER_ENABLE (R249): A write of 0x3900.01 starts or stops the CSI-2 receiver. -/
  | csiReceiverEnable (w : Sender) (on : Bool)
  /-- CSI_RECEIVER_ON (R249): The CSI-2 receiver finishes starting and reads ON. -/
  | csiReceiverOn
  /-- CSI_FRAME_START (R250): A frame-start packet opens a frame of an enabled channel. -/
  | csiFrameStart (v : Fin 16) (num : Nat) (ecc : Nat)
  /-- CSI_FRAME_END (R252): A frame-end packet closes the frame and pads any missing lines. -/
  | csiFrameEnd (v : Fin 16) (ecc : Nat)
  /-- CSI_LONG_PACKET (R248): A long packet carries one line, which is checked, indexed and buffered or discarded. -/
  | csiLongPacket (v : Fin 16) (dtype : Nat) (ecc : Nat) (crcOk : Bool) (samples : List Nat)
  /-- CSI_EMBEDDED_DATA (R248): An embedded-data packet keeps the first 256 bytes of the frame. -/
  | csiEmbeddedData (v : Fin 16) (ecc : Nat) (pkt : Embedded)
  /-- CSI_LINE_SHORT_PACKET (R248): A line start, line end or generic short packet is ignored. -/
  | csiLineShortPacket (v : Fin 16) (ecc : Nat)
  /-- AUX_FRAME_TIMEOUT (R252): No packet of a channel has arrived for the frame timeout, so its frame closes and is padded.
  -/
  | auxFrameTimeout (v : Fin 4)
  /-- AUX_STRIPE_COMPLETE (R255): The auxiliary pipeline finishes a stripe and takes the next ready stripe in channel order.
  -/
  | auxStripeComplete (waited : Nat)
  /-- PERST_RELEASE (R260): PERSTn is released and the function begins answering configuration requests. -/
  | perstRelease
  /-- CONFIG_REQUEST (R260): A PCIe configuration request is answered with retry status or a completion. -/
  | configRequest (isWrite : Bool) (off : Nat) (value : Nat) (be : Nat)
  /-- LINK_UP (R261): Link training ends, the margins are recorded, and a degraded link is reported. -/
  | linkUp (speed : Nat) (width : Nat) (margins : List Nat)
  /-- FUNCTION_RESET (R295): An FLR, hot reset, link disable, data-link down, PERSTn assertion or D3hot return clears the
  host side and detaches delivery. -/
  | functionReset (cause : Nat)
  /-- D3HOT_ENTRY (R262): Entering D3hot stops all DMA. -/
  | d3hotEntry
  /-- MAILBOX_GO (R265): A GO write to the mailbox starts the request held in the request buffer. -/
  | mailboxGo (req : List Nat)
  /-- DOORBELL (R268): A doorbell write sets a ring producer index or a queue consumer index. -/
  | doorbell (off : Nat) (value : Nat)
  /-- MSIX_MODERATION_TIMER (R266): The moderation time since a vector's first unsignalled entry expires and the MSI-X
  message is sent. -/
  | msixModerationTimer (v : Fin 64)
  /-- RING_ENABLE (R267): A write of a data ring's enable starts or stops the ring, or is refused. -/
  | ringEnable (w : Sender) (r : Fin 10) (on : Bool)
  /-- COMPLETION_QUEUE_ENABLE (R295): Enabling the completion queue writes the detached log first. -/
  | completionQueueEnable (w : Sender) (on : Bool)
  /-- DESCRIPTOR_FETCH_DONE (R267): A descriptor fetch completes and the descriptor is checked and used, or the ring enters
  ERROR. -/
  | descriptorFetchDone (r : Fin 10) (ok : Bool) (ds : List (Nat × Nat × Nat × Nat))
  /-- DESCRIPTOR_FETCH_TIMEOUT (R268): A descriptor fetch has no completion within 50 ms and the ring enters ERROR. -/
  | descriptorFetchTimeout (r : Fin 10)
  /-- BUFFER_FLUSH_TIME (R269): The flush time since a buffer's first record expires and the buffer completes. -/
  | bufferFlushTime (r : Fin 10)
  /-- RECORD_WRITTEN (R274): The last byte of a record is issued on the link and its stripe-buffer tokens return. -/
  | recordWritten
  /-- REACH_GRANT (R276): The GRANT command reads the host's page list into the page table. -/
  | reachGrant (w : Sender)
  /-- REACH_EXTEND (R276): The EXTEND command adds pages into empty slots. -/
  | reachExtend (w : Sender)
  /-- REACH_REVOKE (R276): The REVOKE command sends a slot range to RETURNING. -/
  | reachRevoke (w : Sender)
  /-- REACH_WITHDRAW (R276): The WITHDRAW command returns every page. -/
  | reachWithdraw (w : Sender)
  /-- REACH_FLUSH (R276): The FLUSH command closes the open page as SHORT. -/
  | reachFlush (w : Sender)
  /-- REACH_RELEASE (R276): The RELEASE command frees a CLOSED page. -/
  | reachRelease (w : Sender)
  /-- PAGE_LIST_READ_DONE (R276): The page-list read of a GRANT or EXTEND completes and the command finishes. -/
  | pageListReadDone (ok : Bool) (addrs : List Nat)
  /-- PAGE_RETURN_DONE (R277): A RETURNING page has nothing outstanding, so its slot empties with PAGE_RETURNED. -/
  | pageReturnDone (slot : Nat)
  /-- LOOKUP (R281): The lookup command searches the position index and reads the page found. -/
  | lookup (w : Sender)
  /-- LOOKUP_READ_DONE (R281): The lookup's page read completes with FOUND, NOT_FOUND or ERROR. -/
  | lookupReadDone (ok : Bool) (data : List Nat)
  /-- HOLD_PLACE (R282): The PLACE command activates a host hold over a position range within the limit. -/
  | holdPlace (w : Sender) (h : Fin 64)
  /-- HOLD_RELEASE (R282): The RELEASE command ends a host hold. -/
  | holdRelease (w : Sender) (h : Fin 64)
  /-- HOLD_EXPIRY (R282): The line counter passes a hold's expiry line and the hold ends. -/
  | holdExpiry (h : Fin 64)
  /-- READ (R305): The READ dictionary operation returns a value in force or staged. -/
  | read (w : Sender) (idx : Nat) (sub : Nat) (txn : Nat)
  /-- WRITE (R304): The WRITE dictionary operation checks a value and applies, stages or schedules it under its apply class.
  -/
  | write (w : Sender) (idx : Nat) (sub : Nat) (txn : Nat) (data : List Nat)
  /-- BEGIN (R309): The BEGIN operation opens a transaction on the port. -/
  | begin_ (w : Sender)
  /-- COMMIT (R312): The COMMIT operation checks a transaction and accepts it with an epoch and apply section. -/
  | commit (w : Sender) (txn : Nat) (target : Nat) (data : List Nat)
  /-- ROLLBACK (R318): The ROLLBACK operation frees an open transaction. -/
  | rollback (w : Sender) (txn : Nat)
  /-- READ_SEGMENT (R306): The READ_SEGMENT operation returns part of a BLOB. -/
  | readSegment (w : Sender) (idx : Nat) (sub : Nat) (txn : Nat) (off : Nat) (len : Nat)
  /-- WRITE_SEGMENT (R306): The WRITE_SEGMENT operation assembles a BLOB and writes it at the last segment. -/
  | writeSegment (w : Sender) (idx : Nat) (sub : Nat) (txn : Nat) (arg : Nat) (data : List Nat)
  /-- TXN_INACTIVITY_TIMEOUT (R318): An open transaction not named for the inactivity timeout rolls back. -/
  | txnInactivityTimeout (p : Fin 4)
  /-- PROFILE_WRITE (R322): A write of the startup profile is checked and queued for flash. -/
  | profileWrite (w : Sender) (data : List Nat)
  /-- PROFILE_STORE_DONE (R322): The startup profile's flash store ends and its status is reported. -/
  | profileStoreDone (ok : Bool)
  /-- INTEGRATOR_STORE_DONE (R324): A flash store of integrator objects ends, or fails with 0x0808. -/
  | integratorStoreDone (ok : Bool)
  /-- ENABLE_TX (R337): An ENABLE_TX frame with the device serial enables transmit and sets the partner. -/
  | enableTx (serial : Nat) (src : Nat) (seq : Nat)
  /-- POSREPORT_RECEIVED (R349): A POSREPORT of the same system updates the peer table. -/
  | posreportReceived (serial : Nat) (body : List Nat)
  /-- NOTIFY_RECEIVED (R333): A received NOTIFY or response frame is ignored. -/
  | notifyReceived
  /-- BARRIER_ABORT_RECEIVED (R344): A BARRIER_ABORT of the system withdraws a waiting barrier commit, or is ignored. -/
  | barrierAbortReceived (serial : Nat) (seq : Nat) (system : Nat)
  /-- BEACON_TIMEOUT (R330): No PLCA BEACON for the beacon timeout declares the link lost. -/
  | beaconTimeout
  /-- SILENCE_TIMEOUT (R330): No valid frame for the silence time declares the link lost. -/
  | silenceTimeout
  /-- FRAME_TRANSMIT (R338): At a transmit opportunity the next queued frame leaves in kind order. -/
  | frameTransmit (collisions : Nat)
  /-- SLUICE_PARTICIPATION (R345): A write of 0x5450.01 starts or ends participation on SLUICE. -/
  | sluiceParticipation (w : Sender) (on : Bool)
  /-- BARRIER_PASS (R342): SLUICE has been high for 2 µs, so the barrier passes and the apply section is fixed. -/
  | barrierPass (edge : Nat) (near : Option (Nat × Nat))
  /-- SLUICE_PULL_LOW (R342): 10 µs after the pass the head pulls SLUICE low again. -/
  | sluicePullLow
  /-- BARRIER_TIMER_EXPIRY (R343): The barrier timer expires before the pass and the head aborts its barrier. -/
  | barrierTimerExpiry
  /-- ABORT_BARRIER (R343): A host write of 0x5450.0C aborts a waiting or passed barrier. -/
  | abortBarrier (w : Sender)
  /-- ABORT_REPEAT (R343): The 0.5 ms abort timer sends the next copy of BARRIER_ABORT. -/
  | abortRepeat
  /-- LOCKSTEP_EVALUATION (R349): The collection window after a boundary expires and lock step is evaluated against the
  peers. -/
  | lockstepEvaluation
  /-- CLEAR_LOCKSTEP_FAULT (R350): A write of 0x5440.08 clears the lock-step fault latch. -/
  | clearLockstepFault (w : Sender)
  /-- TWT_REQUEST (R363): A command-mode request block completed at STOP is handed to the dictionary on port 3. -/
  | twtRequest (code : Nat) (data : List Nat) (ending : Nat)
  /-- TWT_STATE_READ (R364): The STATE command returns the port's request state. -/
  | twtStateRead (n : Nat)
  /-- TWT_RESPONSE_READ (R364): The RESPONSE command returns the response block. -/
  | twtResponseRead (n : Nat)
  /-- TWT_IDENT_READ (R362): The IDENT command returns the serial number. -/
  | twtIdentRead (n : Nat)
  /-- TWT_POINTER_READ (R368): A pointer-mode read returns bytes of the mapped objects from the pointer. -/
  | twtPointerRead (n : Nat)
  /-- TWT_POINTER_WRITE (R369): A pointer-mode write sets the pointer and writes the window's object at STOP. -/
  | twtPointerWrite (ptr : Nat) (data : List Nat) (ending : Nat)
  /-- TWT_STRETCH_ABANDON (R359): A stretch lasting 25 ms is abandoned and SCL released. -/
  | twtStretchAbandon
  /-- TWT_BUS_TIMEOUT (R359): SCL low for 35 ms resets the port and loses port 3. -/
  | twtBusTimeout
  /-- TWT_WAKE (R360): An address match in standby wakes the device and restarts the always-on clock. -/
  | twtWake
  /-- TWC_ENABLE (R373): A write of 0x5840.01 enables or disables the controller port. -/
  | twcEnable (w : Sender) (on : Bool)
  /-- TWC_BUS_READY (R373): Both TWC lines have been high for 50 µs after enable, so the port is ready. -/
  | twcBusReady
  /-- TWC_RUN (R375): The RUN command arms a job under its trigger. -/
  | twcRun (w : Sender) (j : Fin 16)
  /-- TWC_CANCEL (R375): The CANCEL command returns a job to IDLE. -/
  | twcCancel (w : Sender) (j : Fin 16)
  /-- TWC_PERIODIC_TRIGGER (R375): A periodic job's period expires and the job becomes READY. -/
  | twcPeriodicTrigger (j : Fin 16)
  /-- TWC_JOB_START (R375): The bus is free after its bus-free time and the lowest READY job starts its transaction. -/
  | twcJobStart
  /-- TWC_JOB_COMPLETE (R376): A job's transaction ends with a status and its results. -/
  | twcJobComplete (result : Nat) (data : List Nat)
  /-- TWC_ARBITRATION_LOST (R377): SDA reads low where the port sent high, so the transaction aborts and the job stays
  READY. -/
  | twcArbitrationLost
  /-- TWC_STRETCH_TIMEOUT (R378): A target holds SCL for more than 25 ms, so the job ends TIMEOUT and the bus is cleared. -/
  | twcStretchTimeout
  /-- TWC_BUS_CLEAR (R379): A clear attempt of up to nine pulses ends with SDA high, or latches BUS_STUCK. -/
  | twcBusClear (high : Bool)
  /-- TWC_STUCK_WAIT_EXPIRY (R379): The 10 ms wait between clear attempts expires and the next attempt begins. -/
  | twcStuckWaitExpiry
  /-- TWC_CLEAR_FAILURE (R379): A write of 0x5840.06 clears FAILED and starts a new bus clear. -/
  | twcClearFailure (w : Sender)
  /-- CALSET_STORE (R387): The store command snapshots the selected parts and erases the slot not in force. -/
  | calsetStore (w : Sender)
  /-- CALSET_ERASE_DONE (R387): The target slot's erase completes and programming begins. -/
  | calsetEraseDone (ok : Bool)
  /-- CALSET_PROGRAM_DONE (R387): The directory and parts are programmed and read back, and for a USER store an overwrite
  bit is burned. -/
  | calsetProgramDone (ok : Bool)
  /-- CALSET_HEADER_DONE (R387): The header is programmed and verified, so the slot in force switches. -/
  | calsetHeaderDone (ok : Bool)
  /-- START_DARK (R392): The START_DARK command begins dark accumulation from the next boundary. -/
  | startDark (w : Sender)
  /-- START_FLAT (R394): The START_FLAT command begins flat-field accumulation from the next boundary. -/
  | startFlat (w : Sender)
  /-- PROCEDURE_ABORT (R396): The ABORT procedure command ends a calibration procedure. -/
  | procedureAbort (w : Sender)
  /-- ACCEPT (R397): The ACCEPT command enters held results for application at section c + K. -/
  | accept (w : Sender)
  /-- DISCARD (R397): The DISCARD command drops held results. -/
  | discard (w : Sender)
  /-- PROCEDURE_EVALUATION_DONE (R397): The fit and checks finish and the results are held as PENDING or discarded. -/
  | procedureEvaluationDone
  /-- OPERATING_HOUR (R398): An operating hour completes and the age and hot counters advance. -/
  | operatingHour (hot : Bool)
  /-- HOURS_RECORD (R398): Every 10 operating hours the hours record is written to flash. -/
  | hoursRecord
  /-- AGEING_SAMPLE (R399): The 10 s ring-oscillator measurement updates each segment's degradation. -/
  | ageingSample (ms : List (Nat × Nat × Nat))
  /-- SENSOR_DRIFT_PERIOD (R399): A quiet period of at least 10 min records each thermal sensor's drift against PTAT. -/
  | sensorDriftPeriod
  /-- SCHEDULED_REPLAN (R401): 500 operating hours since the last plan start a re-plan. -/
  | scheduledReplan
  /-- REPLAN_REQUEST (R401): A host write of 0x7000.07 starts a re-plan. -/
  | replanRequest (w : Sender)
  /-- REPLAN_DONE (R401): A re-plan completes and is stored with origin PLAN. -/
  | replanDone
  /-- SENSOR_READING (R407): Every 100 µs each oscillator is counted over a 25 µs gate and converted. -/
  | sensorReading (n : Fin 32) (count : Nat)
  /-- VALUE_PERIOD (R408): Every 800 µs the sensor values, failures, Tp and the protection levels are evaluated. -/
  | valuePeriod
  /-- THROTTLE_STEP_TIMER (R410): The throttle has been asserted 200 ms or 2,200 ms, so step 2 or 3 is entered. -/
  | throttleStepTimer
  /-- THERMAL_RESTART (R412): A write of 0x6008.0B leaves SHUTDOWN and restores the shed domains, or is refused. -/
  | thermalRestart (w : Sender)
  /-- CLEAR_SENSOR_FAILURES (R413): A write of 0x6008.0E clears sensor failure latches. -/
  | clearSensorFailures (w : Sender) (m : Nat)
  /-- ADC_START (R419): The START command begins monitor ADC passes. -/
  | adcStart (w : Sender)
  /-- ADC_STOP (R419): The STOP command ends passes after the current one. -/
  | adcStop (w : Sender)
  /-- ADC_CALIBRATE (R423): The CALIBRATE command suspends the sequencer at the pass end and calibrates. -/
  | adcCalibrate (w : Sender)
  /-- ADC_CAL_COMPLETE (R423): The 2.1 ms ADC calibration ends, applying or rejecting the new factors. -/
  | adcCalComplete (offset : Int) (gain : Int)
  /-- ADC_SLOT_COMPLETE (R421): A sequencer slot finishes its conversions and its result is written. -/
  | adcSlotComplete (codes : List Nat)
  /-- ADC_CLEAR_LATCH (R422): A write of a channel's .07 clears its latched alarms. -/
  | adcClearLatch (w : Sender) (ch : Nat) (m : Nat)
  /-- DOMAIN_REQUEST (R430): A host write of a domain's request adds or removes the host holder, or is refused. -/
  | domainRequest (w : Sender) (n : Fin 80) (v : Nat)
  /-- DOMAIN_START_COMPLETE (R431): A domain finishes starting, releases reset and removes its clamps. -/
  | domainStartComplete (n : Fin 80) (pads : Nat)
  /-- DOMAIN_START_TIMEOUT (R431): A domain misses its start max and is powered down with 0x0D0A. -/
  | domainStartTimeout (n : Fin 80)
  /-- DOMAIN_STOP_COMPLETE (R431): A stopping domain's power is removed. -/
  | domainStopComplete (n : Fin 80)
  /-- RAIL_UNDERVOLTAGE (R432): A rail has stayed below its limit for 10 µs, so its domains shed and the run stops. -/
  | railUndervoltage (rail : Nat)
  /-- CLEAR_RAIL_FAULTS (R432): A write of 0x1480.03 clears rail fault latches. -/
  | clearRailFaults (w : Sender) (m : Nat)
  /-- CHARGER_CURRENT_STEP (R435): Every 100 µs the charge current moves by 1/16 of the programmed current toward the
  priority limit. -/
  | chargerCurrentStep
  /-- CHARGER_SAFETY_TIMER (R438): The safety timer reaches its limit, so charging stops and TIMER latches. -/
  | chargerSafetyTimer
  /-- CHARGE_TERMINATION (R437): Li-ion current has been below 1/10 for 1 s, so the charger enters FULL. -/
  | chargeTermination
  /-- CHARGER_FAULT_TIMER (R438): An overvoltage, short or sense condition lasts its time, so the fault latches. -/
  | chargerFaultTimer (bit : Nat)
  /-- CHARGER_FAULT_READ (R438): A read of 0x1510.08 returns and clears the latched charger faults. -/
  | chargerFaultRead (w : Sender)
  /-- RECHARGE (R438): The RECHARGE command clears the faults and starts a new charge cycle. -/
  | recharge (w : Sender)
  /-- STORE_BELOW_RESERVE (R446): The store has been below the hand-over reserve for 1 s in FULL or OFF. -/
  | storeBelowReserve
  /-- HANDOVER (R440): VIN_SNS has been below the undervoltage threshold for 20 µs, so the path switches to the store and
  the device stops. -/
  | handover (mv : Nat)
  /-- HANDOVER_LINE_DEADLINE (R440): 2 ms after the hand-over, a line not yet converted is reported failed. -/
  | handoverLineDeadline
  /-- LOSS_RECORD_PROGRAMMED (R443): The loss record is programmed and read back, and the domains shed into HOLDUP. -/
  | lossRecordProgrammed (ok : Bool)
  /-- STORE_CUTOFF (R440): VSTORE_SNS falls below the cutoff, so ST_GATE turns off and power is lost. -/
  | storeCutoff
  /-- GOOD_TIMER_EXPIRY (R441): The input has been good for the good time in HOLDUP, so the device returns to the input and
  restarts with warm scope. -/
  | goodTimerExpiry
  /-- STANDBY (R444): The STANDBY command sheds all but PD0 and PD13 and stops the clocks. -/
  | standby (w : Sender)
  /-- COLD_RESET (R467): Power-on reset on VAON18 clears everything and starts start-up from step 1. -/
  | coldReset (straps : Nat)
  /-- WARM_RESET (R467): RESETn held low at least 1 µs causes a warm reset from step 3. -/
  | warmReset
  /-- WARM_RESET_COMMAND (R467): A write of 0x1020.04 causes a warm reset after its response. -/
  | warmResetCommand (w : Sender)
  /-- SUP1_HEARTBEAT (R468): SUP1 firmware gives its heartbeat and restarts the watchdog. -/
  | sup1Heartbeat
  /-- WATCHDOG_EXPIRY (R468): No heartbeat for 1,000 ms causes a watchdog reset. -/
  | watchdogExpiry
  /-- OTP_INTEGRITY_CHECK_DONE (R457): The 1.2 ms region check ends, releasing FAULTn or holding the device in reset. -/
  | otpIntegrityCheckDone (reads : List (Nat × Nat × Nat)) (answered : Bool) (vaonOk : Bool)
  /-- IMAGE_VERIFICATION_DONE (R460): Firmware verification ends and SUP1 runs the image, or restricted mode is entered. -/
  | imageVerificationDone (bootsel : Nat) (flashOk : Bool)
  /-- CALSET_LOAD_DONE (R386): The calibration set loads at start-up, and the lock register, startup profile and READY
  follow. -/
  | calsetLoadDone (profileIntact : Bool)
  /-- OTP_READ (R451): A write of 0x6808.03 reads one fuse word at the chosen margin. -/
  | otpRead (w : Sender)
  /-- OTP_READ_DONE (R451): The 8 µs fuse read completes and its data is available. -/
  | otpReadDone
  /-- REGION7_PROGRAM (R455): The PROGRAM command blows the 1 bits into a region 7 word. -/
  | region7Program (w : Sender)
  /-- REGION7_WRITE_CHECK (R455): The WRITE_CHECK command programs region 7's check word. -/
  | region7WriteCheck (w : Sender)
  /-- REGION7_SEAL (R455): The SEAL command verifies the check word, blows the seal and sets lock bit 7. -/
  | region7Seal (w : Sender)
  /-- FUSE_PULSE_DONE (R454): A 20 µs programming pulse ends and the fuse is verified at strict-high. -/
  | fusePulseDone (ok : Bool)
  /-- REBURN (R456): Re-burning of the weak-bit list begins when permitted or every 24 operating hours. -/
  | reburn
  /-- LOCK_REGISTER_WRITE (R455): A write of 1 bits to the RWS lock register locks regions. -/
  | lockRegisterWrite (w : Sender) (v : Nat)
  /-- ADVANCE_SECURITY_VERSION (R461): A write of 0x6810.03 burns counter bits up to the running image's SECVER. -/
  | advanceSecurityVersion (w : Sender)
  /-- FIRMWARE_ERASE (R462): The ERASE command erases the target firmware slot. -/
  | firmwareErase (w : Sender)
  /-- FIRMWARE_ERASE_DONE (R462): The target slot's erase completes. -/
  | firmwareEraseDone
  /-- FIRMWARE_DATA_WRITE (R462): A write of 0x6840.02 programs image data at the offset. -/
  | firmwareDataWrite (w : Sender) (data : List Nat)
  /-- FIRMWARE_VERIFY (R462): The VERIFY command applies the image tests to the target slot. -/
  | firmwareVerify (w : Sender)
  /-- FIRMWARE_VERIFY_DONE (R462): The verification ends and its cause is shown. -/
  | firmwareVerifyDone (flashOk : Bool)
  /-- EXTEST (R469): The EXTEST instruction drives the boundary chain while RESETn is low. -/
  | extest (resetLow : Bool)
  /-- SAMPLE_PRELOAD (R469): The SAMPLE/PRELOAD instruction samples or preloads the boundary chain. -/
  | samplePreload (pads : List (Nat × Nat))
  /-- IDCODE (R469): The IDCODE instruction selects the 32-bit identity register. -/
  | idcode
  /-- HIGHZ (R469): The HIGHZ instruction floats the outputs while RESETn is low. -/
  | highz (resetLow : Bool)
  /-- CLAMP (R469): The CLAMP instruction holds the boundary values while RESETn is low. -/
  | clamp (resetLow : Bool)
  /-- OTP_CAUSE (R457): The OTP_CAUSE instruction returns the integrity cause. -/
  | otpCause
  /-- BYPASS (R469): The BYPASS instruction, or any unlisted code, selects the 1-bit bypass. -/
  | bypass
  /-- DBG_CHALLENGE (R470): Selecting DBG_CHALLENGE makes a fresh challenge with a new nonce. -/
  | dbgChallenge (nonce : List Nat)
  /-- DBG_RESPONSE (R470): At Update-DR the response is checked, an unlock bit burned and a session opened, or refused. -/
  | dbgResponse (scope : Nat) (key : List Nat) (sig : List Nat)
  /-- UNLOCK_RETRY_DELAY_EXPIRY (R470): The retry delay after a failed unlock expires and a challenge may be issued again.
  -/
  | unlockRetryDelayExpiry
  /-- DBG_SET_ADDR (R471): The SET_ADDR debug operation sets the memory address. -/
  | dbgSetAddr (a : Nat)
  /-- DBG_READ (R471): The READ debug operation reads a word and steps the address. -/
  | dbgRead
  /-- DBG_WRITE (R471): The WRITE debug operation writes a word and steps the address. -/
  | dbgWrite (v : Nat)
  /-- DBG_HALT (R471): The HALT debug operation halts an engine or SUP1. -/
  | dbgHalt (target : Nat)
  /-- DBG_RESUME (R471): The RESUME debug operation resumes a halted target. -/
  | dbgResume (target : Nat)
  /-- DBG_STEP (R471): The STEP debug operation executes one instruction of a target. -/
  | dbgStep (target : Nat)
  /-- DBG_SET_BP (R471): The SET_BP debug operation sets a hardware breakpoint. -/
  | dbgSetBp (target : Nat) (i : Fin 8) (a : Nat)
  /-- DBG_CLR_BP (R471): The CLR_BP debug operation clears a hardware breakpoint. -/
  | dbgClrBp (target : Nat) (i : Fin 8)
  /-- DICT_PUT (R471): The DICT_PUT debug operation passes 8 bytes of a port 0 request. -/
  | dictPut (v : Nat)
  /-- DICT_GET (R471): The DICT_GET debug operation returns 8 bytes of the port 0 response. -/
  | dictGet
  /-- TAP_RESET (R472): TRSTn low or Test-Logic-Reset ends the debug session. -/
  | tapReset
  /-- END_SESSION (R472): A write of 0x6820.04 ends the debug session. -/
  | endSession (w : Sender)
  /-- ILLEGAL_INSTRUCTION (R214): An engine fetches a word with an unlisted opcode or function, a non-zero reserved field or
  a scalar field with bit 4 set, and takes the ILLEGAL exception. -/
  | illegalInstruction (e : Fin 192) (x : BitVec 32)
  /-- PLCA_BEACON (R329): A PLCA BEACON is received, or sent by the coordinator, ending SYNCING and restarting the beacon
  timeout. -/
  | plcaBeacon
  /-- FRAME_IGNORED (R331): A received frame that is not for this device, has a wrong EtherType, version or source, or a bad
  FCS is counted and ignored, while any valid FCS restarts the silence time and restores a lost link. -/
  | frameIgnored (fcsOk : Bool)
  /-- CSI_RECEIVER_STOPPED (R249): A stopping CSI-2 receiver finishes its stop and reads OFF, or starts a latched pending
  enable. -/
  | csiReceiverStopped
  /-- FIRMWARE_PROGRAM_DONE (R462): Programming of a firmware data write into the target slot completes and the slot state
  returns from PROGRAMMING to IDLE. -/
  | firmwareProgramDone
  /-- GOOD_THRESHOLD_CROSSING (R441): VIN_SNS rises to the good threshold, starting the good timer, or falls below it,
  restarting the timer. -/
  | goodThresholdCrossing (up : Bool)
  /-- RAIL_GOOD (R432): A monitored rail returns within its limit and its bit in 0x1480.01 reads good again, allowing its
  domains to be requested once the latch is cleared. -/
  | railGood (rail : Nat)
  /-- AER_ERROR (R297): The PCIe function detects a correctable or uncorrectable error, counts it, and raises 0x0705 for the
  first uncorrectable error in a section. -/
  | aerError (uncorrectable : Bool)
  /-- SDA_LOW_WHILE_IDLE (R379): The controller port finds TWC_SDA held low while the bus should be idle and begins a bus
  clear. -/
  | sdaLowWhileIdle
  deriving DecidableEq, Repr

end Sys2Proof
end

