-- ==== Sys2Proof/Decode.lean ====
section
/-!
DEFINITION. The decoder over the rows of the command table that give bits: no row of the table gives any, so no word spells a
command. The words of a Grixis engine, which the device itself fetches, are decoded by `decodeWord` in Machine/Grixis.lean.
-/
namespace Sys2Proof

/-- The command that a word of the table's bits spells: none, since no row gives bits. -/
def decodeTableWord (_nbits _w : Nat) : Option Instr := none

end Sys2Proof
end

