-- ==== Sys2Proof/Config.lean ====
section
/-!
DEFINITION. What an implementation fixes and the spec leaves open, as constants without a body: nothing can be
proved of their values, so a claim that holds, holds whatever they are.
-/
namespace Sys2Proof.Config

/-- Byte `j` of a converter's 16-byte neutral record (R383, R493 name design values without giving them). Log entry 5. -/
opaque neutralFactor : Nat → Nat

/-- A value the spec leaves open, by a counter that each use advances. Log entry 24. -/
opaque freeValue : Nat → Nat

/-- The temperature in 1/64 °C that a corrected code of a temperature channel stands for (R418 gives no scale): channel,
code. Log entry 48. -/
opaque adcTemp : Nat → Int → Int

/-- The boot ROM's nominal constant of sensor trim 0 A, 1 B, 2 C, 3 k_V, 4 f_ref (R449). Log entry 50. -/
opaque trimNominal : Nat → Int

/-- What one step of a sensor trim is worth (R449). Log entry 50. -/
opaque trimStep : Nat → Int

/-- SHA-256 of a byte string (R459, R470). Log entry 51. -/
opaque sha256 : List Nat → List Nat

/-- ECDSA P-256 verification: key, digest, signature (R459, R470). Log entry 51. -/
opaque ecdsaVerify : List Nat → List Nat → List Nat → Bool

/-- The reset value of a 32-bit word of PCIe configuration space that the spec does not give: its offset. Log entry 23. -/
opaque cfgReset : Nat → Nat

/-- The store temperature in 1/64 °C that an NTC voltage in µV stands for with R25, beta and pull-up; the conversion formula
is not stated (R436). Log entry 61. -/
opaque ntcTemp : Int → Nat → Nat → Nat → Int

/-- The position that an entry of the event table reads for a line that no grid places: the line (R37). Log entry 71. -/
opaque entryPos : Nat → Int

end Sys2Proof.Config
end

