-- ==== Sys2Proof/Machine/ObjTypes.lean ====
section
/-!
DEFINITION. The columns of the dictionary's object tables (R300 to R304): a row gives the indices and
sub-indices it covers, the type, the access right, the apply class, the default and the range.
-/
namespace Sys2Proof.Machine

/-- The value types of R301. -/
inductive OTy where
  | bool | u8 | u16 | u32 | u64 | i8 | i16 | i32 | i64 | q16 | uq32 | pos | bits32 | bits64 | text | blob
  deriving DecidableEq, Repr

/-- The access rights of R303. -/
inductive OAcc where
  | ro | rw | wo | rwi | rwt | rws
  deriving DecidableEq, Repr

/-- The apply classes of R304; `none` for an object that is never written by a host. -/
inductive OApp where
  | none | now | atSection | idle | reset
  deriving DecidableEq, Repr

/-- The Range column. `full` is every value of the type. `spanV lo hi hi16` is `lo` to `hi`, or to `hi16`
on LNV-16T4. `alt lo hi x` is `lo` to `hi`, or the one value `x`. `bits m` allows the bits of `m`.
`multOf` and `pow2` add divisibility to a span. `lenMax` and `lenEq` bound the bytes of a BLOB or TEXT. -/
inductive ORange where
  | full
  | span (lo hi : Int)
  | spanV (lo hi hi16 : Int)
  | alt (lo hi x : Int)
  | oneOf (xs : List Int)
  | bits (m : Nat)
  | multOf (lo hi m : Int)
  | pow2 (lo hi : Int)
  | lenMax (n : Nat)
  | lenEq (n : Nat)
  deriving DecidableEq, Repr

/-- One row: it covers the indices `idx` to `idx + n - 1` and the sub-indices `sub` to `sub + m - 1`. -/
structure ObjRow where
  /-- First index. -/
  idx : Nat
  /-- How many indices carry the row. -/
  n : Nat
  /-- First sub-index; 0 for a plain object or an entry count. -/
  sub : Nat
  /-- How many sub-indices carry the row. -/
  m : Nat
  ty : OTy
  acc : OAcc
  app : OApp
  /-- The default of LNV-24T4. -/
  dflt : Int
  rng : ORange
  deriving DecidableEq, Repr

end Sys2Proof.Machine
end

