-- ==== Sys2Proof/Machine/ObjTable.lean ====
section
/-!
DEFINITION. The object tables of the dictionary, row by row as the chapters give them
(R8, R59, R91, R118, R140, R178, R208, R257, R297, R326, R352, R381, R404, R425, R446, R474).
-/
namespace Sys2Proof.Machine

/-- Objects of the capability chapter (R8). -/
def objRows00 : List ObjRow := [
  ⟨0x1010, 1, 0x00, 1, .u8, .ro, .none, 17, .oneOf [17]⟩,
  ⟨0x1010, 1, 0x01, 1, .u8, .ro, .none, 1, .span 1 4⟩,
  ⟨0x1010, 1, 0x02, 1, .u8, .ro, .none, 6, .oneOf [4, 6]⟩,
  ⟨0x1010, 1, 0x03, 1, .u8, .ro, .none, 24, .oneOf [16, 24]⟩,
  ⟨0x1010, 1, 0x04, 1, .u32, .ro, .none, 24576, .oneOf [16384, 24576]⟩,
  ⟨0x1010, 1, 0x05, 1, .u8, .ro, .none, 1, .span 0 1⟩,
  ⟨0x1010, 1, 0x06, 1, .u8, .ro, .none, 1, .span 0 1⟩,
  ⟨0x1010, 1, 0x07, 1, .u8, .ro, .none, 1, .span 0 1⟩,
  ⟨0x1010, 1, 0x08, 1, .u8, .ro, .none, 1, .span 0 1⟩,
  ⟨0x1010, 1, 0x09, 1, .u8, .ro, .none, 1, .span 0 1⟩,
  ⟨0x1010, 1, 0x0A, 1, .u8, .ro, .none, 1, .span 0 1⟩,
  ⟨0x1010, 1, 0x0B, 1, .u8, .ro, .none, 1, .span 0 1⟩,
  ⟨0x1010, 1, 0x0C, 1, .u16, .ro, .none, 192, .span 0 192⟩,
  ⟨0x1010, 1, 0x0D, 1, .bits32, .ro, .none, 255, .bits 0xff⟩,
  ⟨0x1010, 1, 0x0E, 1, .bits32, .ro, .none, 16777215, .bits 0xffffff⟩,
  ⟨0x1010, 1, 0x0F, 1, .u8, .ro, .none, 1, .span 0 1⟩,
  ⟨0x1010, 1, 0x10, 1, .u8, .ro, .none, 1, .span 0 1⟩,
  ⟨0x1010, 1, 0x11, 1, .u8, .ro, .none, 1, .span 0 1⟩]

/-- Objects of the position chapter (R59), part 1. -/
def objRows01a : List ObjRow := [
  ⟨0x2000, 2, 0x00, 1, .u8, .ro, .none, 7, .oneOf [7]⟩,
  ⟨0x2000, 2, 0x01, 1, .bool, .rwi, .idle, 0, .span 0 1⟩,
  ⟨0x2000, 2, 0x02, 1, .u8, .rwi, .idle, 0, .span 0 1⟩,
  ⟨0x2000, 2, 0x03, 1, .u8, .rwi, .idle, 4, .oneOf [1, 2, 4]⟩,
  ⟨0x2000, 2, 0x04, 1, .u16, .rw, .now, 8, .span 0 1023⟩,
  ⟨0x2000, 2, 0x05, 1, .bool, .rwi, .idle, 0, .span 0 1⟩,
  ⟨0x2000, 2, 0x06, 1, .u8, .rwi, .idle, 0, .span 0 1⟩,
  ⟨0x2000, 2, 0x07, 1, .bool, .rw, .now, 1, .span 0 1⟩,
  ⟨0x2008, 2, 0x00, 1, .u8, .ro, .none, 5, .oneOf [5]⟩,
  ⟨0x2008, 2, 0x01, 1, .i64, .ro, .none, 0, .full⟩,
  ⟨0x2008, 2, 0x02, 1, .u32, .ro, .none, 0, .full⟩,
  ⟨0x2008, 2, 0x03, 1, .u8, .ro, .none, 0, .span 0 2⟩,
  ⟨0x2008, 2, 0x04, 1, .u32, .ro, .none, 0, .full⟩,
  ⟨0x2008, 2, 0x05, 1, .u32, .ro, .none, 0, .full⟩,
  ⟨0x2010, 1, 0x01, 1, .pos, .ro, .none, 0, .full⟩,
  ⟨0x2010, 1, 0x02, 1, .q16, .ro, .none, 0, .span (-3276800) 3276800⟩,
  ⟨0x2010, 1, 0x03, 1, .u32, .rw, .now, 2000, .span 10 100000⟩,
  ⟨0x2010, 1, 0x04, 1, .u32, .rw, .now, 20000, .span 0 1000000⟩,
  ⟨0x2010, 1, 0x05, 1, .u8, .ro, .none, 2, .span 0 2⟩,
  ⟨0x2010, 1, 0x06, 1, .u8, .ro, .none, 0, .span 0 1⟩,
  ⟨0x2010, 1, 0x07, 1, .u8, .rw, .atSection, 2, .span 1 16⟩,
  ⟨0x2010, 1, 0x08, 1, .u32, .ro, .none, 0, .full⟩,
  ⟨0x2010, 1, 0x09, 1, .u32, .ro, .none, 0, .full⟩,
  ⟨0x2010, 1, 0x0A, 1, .u8, .rw, .now, 2, .span 0 4⟩,
  ⟨0x2018, 1, 0x01, 1, .u8, .rwi, .idle, 0, .span 0 2⟩,
  ⟨0x2018, 1, 0x02, 1, .u8, .wo, .now, 0, .oneOf [1]⟩,
  ⟨0x2018, 1, 0x03, 1, .pos, .rwi, .idle, 0, .full⟩,
  ⟨0x2018, 1, 0x04, 1, .u8, .ro, .none, 0, .span 0 2⟩,
  ⟨0x2018, 1, 0x05, 1, .u32, .ro, .none, 0, .full⟩,
  ⟨0x2018, 1, 0x06, 1, .u16, .rw, .now, 40, .span 0 1023⟩,
  ⟨0x2020, 1, 0x01, 1, .uq32, .rw, .atSection, 4294967296, .span 16777216 4503599627370496⟩,
  ⟨0x2020, 1, 0x02, 1, .u32, .rwi, .idle, 1024, .span 64 65536⟩,
  ⟨0x2020, 1, 0x03, 1, .u64, .ro, .none, 0, .full⟩,
  ⟨0x2020, 1, 0x04, 1, .u32, .ro, .none, 0, .full⟩,
  ⟨0x2020, 1, 0x05, 1, .uq32, .ro, .none, 4294967296, .full⟩,
  ⟨0x2020, 1, 0x06, 1, .pos, .ro, .none, 0, .full⟩,
  ⟨0x2028, 1, 0x01, 1, .u8, .rwi, .idle, 0, .span 0 4⟩,
  ⟨0x2028, 1, 0x02, 1, .u8, .rwi, .idle, 0, .span 0 1⟩,
  ⟨0x2028, 1, 0x03, 1, .u16, .rw, .now, 40, .span 0 1023⟩,
  ⟨0x2028, 1, 0x04, 1, .i32, .rw, .now, 0, .span (-50000000) 50000000⟩,
  ⟨0x2028, 1, 0x05, 1, .u32, .rw, .now, 4096, .span 1 16777216⟩,
  ⟨0x2028, 1, 0x06, 1, .u8, .rw, .now, 0, .span 0 2⟩,
  ⟨0x2028, 1, 0x07, 1, .i32, .rw, .now, 0, .full⟩,
  ⟨0x2028, 1, 0x08, 1, .bool, .rwi, .idle, 0, .span 0 1⟩,
  ⟨0x2028, 1, 0x09, 1, .u8, .wo, .now, 0, .oneOf [1]⟩,
  ⟨0x2028, 1, 0x0A, 1, .u32, .ro, .none, 0, .full⟩,
  ⟨0x2028, 1, 0x0B, 1, .u32, .ro, .none, 0, .full⟩,
  ⟨0x2030, 1, 0x01, 1, .u64, .ro, .none, 0, .full⟩,
  ⟨0x2030, 1, 0x02, 1, .u64, .ro, .none, 0, .full⟩,
  ⟨0x2030, 1, 0x03, 1, .u32, .ro, .none, 0, .full⟩,
  ⟨0x2030, 1, 0x04, 1, .u64, .ro, .none, 0, .full⟩,
  ⟨0x2030, 1, 0x05, 1, .u32, .ro, .none, 0, .full⟩,
  ⟨0x2038, 1, 0x01, 1, .u8, .rwi, .idle, 0, .span 0 2⟩,
  ⟨0x2038, 1, 0x02, 1, .uq32, .rw, .atSection, 4294967296, .span 1 18446744073709551615⟩,
  ⟨0x2038, 1, 0x03, 1, .pos, .ro, .none, 0, .full⟩,
  ⟨0x2038, 1, 0x04, 1, .u32, .rw, .atSection, 64, .span 1 1000000⟩,
  ⟨0x2038, 1, 0x05, 1, .i32, .ro, .none, 0, .full⟩,
  ⟨0x2038, 1, 0x06, 1, .bool, .ro, .none, 0, .span 0 1⟩,
  ⟨0x2038, 1, 0x07, 1, .u8, .wo, .now, 0, .oneOf [1]⟩,
  ⟨0x2040, 1, 0x01, 1, .u8, .wo, .now, 0, .span 1 3⟩]

/-- Objects of the position chapter (R59), part 2. -/
def objRows01b : List ObjRow := [
  ⟨0x2040, 1, 0x02, 1, .u8, .ro, .none, 0, .span 0 6⟩,
  ⟨0x2040, 1, 0x03, 1, .u8, .ro, .none, 0, .span 0 4⟩,
  ⟨0x2048, 1, 0x01, 1, .u8, .rw, .now, 0, .span 0 3⟩,
  ⟨0x2048, 1, 0x02, 1, .u16, .rw, .now, 40, .span 4 65535⟩,
  ⟨0x2100, 192, 0x01, 1, .pos, .ro, .none, 0, .full⟩,
  ⟨0x2100, 192, 0x02, 1, .u8, .ro, .none, 0, .full⟩,
  ⟨0x2100, 192, 0x03, 1, .u8, .ro, .none, 0, .span 0 2⟩,
  ⟨0x2100, 192, 0x04, 1, .u16, .ro, .none, 0, .full⟩,
  ⟨0x2100, 192, 0x05, 1, .u32, .ro, .none, 0, .full⟩,
  ⟨0x21C0, 64, 0x01, 1, .pos, .rw, .now, 0, .full⟩,
  ⟨0x21C0, 64, 0x02, 1, .u8, .rw, .now, 0, .oneOf [0, 16, 17]⟩,
  ⟨0x21C0, 64, 0x03, 1, .u8, .rw, .now, 0, .span 0 2⟩,
  ⟨0x21C0, 64, 0x04, 1, .u16, .rw, .now, 0, .full⟩,
  ⟨0x21C0, 64, 0x05, 1, .u32, .rw, .now, 0, .full⟩,
  ⟨0x2200, 1, 0x01, 1, .u8, .ro, .none, 0, .span 0 192⟩,
  ⟨0x2200, 1, 0x02, 1, .u8, .ro, .none, 0, .span 0 64⟩,
  ⟨0x2200, 1, 0x03, 1, .u32, .ro, .none, 0, .full⟩]

/-- Objects of the position chapter (R59). -/
def objRows01 : List ObjRow := objRows01a ++ objRows01b

/-- Objects of the arrays chapter (R91). -/
def objRows02 : List ObjRow := [
  ⟨0x2400, 1, 0x01, 1, .u16, .ro, .none, 586, .oneOf [586]⟩,
  ⟨0x2400, 1, 0x02, 1, .u16, .ro, .none, 4500, .oneOf [4500]⟩,
  ⟨0x2400, 1, 0x03, 1, .u16, .ro, .none, 0, .oneOf [0]⟩,
  ⟨0x2400, 1, 0x04, 1, .u16, .ro, .none, 80, .oneOf [80]⟩,
  ⟨0x2400, 1, 0x05, 1, .u16, .ro, .none, 160, .oneOf [160]⟩,
  ⟨0x2400, 1, 0x06, 1, .u16, .ro, .none, 240, .oneOf [240]⟩,
  ⟨0x2400, 1, 0x07, 1, .u16, .ro, .none, 320, .oneOf [320]⟩,
  ⟨0x2400, 1, 0x08, 1, .u16, .ro, .none, 330, .oneOf [330]⟩,
  ⟨0x2408, 1, 0x01, 1, .i16, .ro, .none, 80, .oneOf [80]⟩,
  ⟨0x2408, 1, 0x02, 1, .i16, .ro, .none, 160, .oneOf [160]⟩,
  ⟨0x2408, 1, 0x03, 1, .i16, .ro, .none, 240, .oneOf [240]⟩,
  ⟨0x2408, 1, 0x04, 1, .i16, .ro, .none, 258, .oneOf [258]⟩,
  ⟨0x2408, 1, 0x05, 1, .i16, .ro, .none, (-80), .oneOf [-80]⟩,
  ⟨0x2408, 1, 0x06, 1, .i16, .ro, .none, (-160), .oneOf [-160]⟩,
  ⟨0x2408, 1, 0x07, 1, .i16, .ro, .none, (-240), .oneOf [-240]⟩,
  ⟨0x2408, 1, 0x08, 1, .i16, .ro, .none, (-320), .oneOf [-320]⟩,
  ⟨0x2410, 4, 0x01, 1, .u8, .rw, .atSection, 64, .oneOf [16, 32, 48, 64]⟩,
  ⟨0x2410, 4, 0x02, 1, .u32, .rw, .atSection, 288000, .oneOf [36000, 72000, 144000, 288000]⟩,
  ⟨0x2410, 4, 0x03, 1, .u8, .rw, .atSection, 1, .oneOf [1, 2, 4]⟩,
  ⟨0x2410, 4, 0x04, 1, .u8, .rw, .atSection, 1, .span 1 8⟩,
  ⟨0x2410, 4, 0x05, 1, .u8, .rw, .atSection, 0, .span 0 1⟩,
  ⟨0x2410, 4, 0x06, 1, .u8, .rwi, .idle, 0, .spanV 0 23 15⟩,
  ⟨0x2410, 4, 0x07, 1, .u8, .rwi, .idle, 23, .spanV 0 23 15⟩,
  ⟨0x2410, 4, 0x08, 1, .bits32, .ro, .none, 15, .bits 0xf⟩,
  ⟨0x2414, 1, 0x01, 1, .u32, .rw, .atSection, 288000, .oneOf [36000, 72000, 144000, 288000]⟩,
  ⟨0x2414, 1, 0x02, 1, .u8, .rw, .atSection, 1, .oneOf [1, 2, 4]⟩,
  ⟨0x2414, 1, 0x03, 1, .u8, .rw, .atSection, 1, .span 1 8⟩,
  ⟨0x2414, 1, 0x04, 1, .u8, .rw, .atSection, 0, .span 0 1⟩,
  ⟨0x2414, 1, 0x05, 1, .u8, .rwi, .idle, 0, .spanV 0 23 15⟩,
  ⟨0x2414, 1, 0x06, 1, .u8, .rwi, .idle, 23, .spanV 0 23 15⟩,
  ⟨0x2418, 1, 0x01, 1, .u16, .rw, .now, 0, .multOf 0 252 4⟩,
  ⟨0x2418, 1, 0x02, 1, .u16, .rw, .now, 256, .multOf 4 256 4⟩,
  ⟨0x2418, 1, 0x03, 1, .u8, .rw, .now, 0, .spanV 0 23 15⟩,
  ⟨0x2418, 1, 0x04, 1, .u8, .rw, .now, 23, .spanV 0 23 15⟩,
  ⟨0x2418, 1, 0x05, 1, .bool, .rw, .now, 0, .span 0 1⟩,
  ⟨0x2418, 1, 0x06, 1, .u32, .rw, .now, 4000, .span 250 400000000⟩,
  ⟨0x2418, 1, 0x07, 1, .u32, .rw, .now, 66700, .span 0 400000000⟩,
  ⟨0x2418, 1, 0x08, 1, .u8, .rw, .now, 0, .span 0 2⟩,
  ⟨0x2418, 1, 0x09, 1, .u8, .wo, .now, 0, .oneOf [1]⟩,
  ⟨0x2418, 1, 0x0A, 1, .u32, .ro, .none, 0, .full⟩,
  ⟨0x2418, 1, 0x0B, 1, .u32, .rw, .now, 288000, .oneOf [36000, 72000, 144000, 288000]⟩,
  ⟨0x2420, 1, 0x01, 1, .u8, .rw, .atSection, 1, .span 1 4⟩,
  ⟨0x2420, 1, 0x02, 1, .u32, .ro, .none, 960, .full⟩,
  ⟨0x2421, 4, 0x01, 1, .u8, .rw, .atSection, 255, .oneOf [10, 11, 12, 13, 16, 255]⟩,
  ⟨0x2421, 4, 0x02, 1, .u32, .rw, .atSection, 960, .span 40 16777215⟩,
  ⟨0x2421, 4, 0x03, 1, .bits32, .rw, .atSection, 0, .bits 0x3f⟩,
  ⟨0x2421, 4, 0x04, 6, .u32, .rw, .atSection, 0, .span 0 16777211⟩,
  ⟨0x2421, 4, 0x0A, 6, .u32, .rw, .atSection, 4, .span 4 16777215⟩,
  ⟨0x2430, 1, 0x01, 1, .bool, .rw, .now, 0, .span 0 1⟩,
  ⟨0x2430, 1, 0x02, 1, .bits32, .rwi, .idle, 0, .bits 0x3f⟩,
  ⟨0x2430, 1, 0x03, 1, .bits32, .rw, .now, 0, .bits 0x3f⟩,
  ⟨0x2430, 1, 0x04, 1, .bits32, .ro, .none, 0, .bits 0x3f⟩,
  ⟨0x2430, 1, 0x05, 1, .bits32, .wo, .now, 0, .bits 0x3f⟩,
  ⟨0x2438, 1, 0x01, 1, .bits32, .ro, .none, 0, .bits 0x3fffffff⟩,
  ⟨0x2438, 1, 0x02, 1, .bits32, .wo, .now, 0, .bits 0x3fffffff⟩,
  ⟨0x2438, 1, 0x03, 1, .u32, .ro, .none, 0, .full⟩,
  ⟨0x2440, 1, 0x01, 1, .u8, .ro, .none, 0, .span 0 1⟩,
  ⟨0x2440, 1, 0x02, 1, .u32, .ro, .none, 0, .full⟩,
  ⟨0x2440, 1, 0x03, 1, .bits32, .ro, .none, 0, .bits 0xffffff⟩]

/-- Objects of the converters chapter (R118). -/
def objRows03 : List ObjRow := [
  ⟨0x2800, 1, 0x01, 1, .u16, .ro, .none, 1024, .oneOf [1024]⟩,
  ⟨0x2800, 1, 0x02, 1, .u8, .ro, .none, 16, .oneOf [16]⟩,
  ⟨0x2800, 1, 0x03, 1, .u16, .ro, .none, 256, .oneOf [256]⟩,
  ⟨0x2800, 1, 0x04, 1, .u8, .ro, .none, 12, .oneOf [12]⟩,
  ⟨0x2800, 1, 0x05, 1, .u16, .ro, .none, 600, .oneOf [600]⟩,
  ⟨0x2800, 1, 0x06, 1, .u16, .ro, .none, 100, .oneOf [100]⟩,
  ⟨0x2800, 1, 0x07, 1, .u16, .ro, .none, 2500, .oneOf [2500]⟩,
  ⟨0x2804, 1, 0x01, 1, .u8, .rw, .atSection, 0, .span 0 2⟩,
  ⟨0x2804, 1, 0x02, 1, .u8, .ro, .none, 0, .span 0 2⟩,
  ⟨0x2808, 4, 0x01, 1, .u8, .rw, .atSection, 0, .span 0 2⟩,
  ⟨0x2808, 4, 0x02, 1, .u32, .rw, .atSection, 7200, .span 1000 8800⟩,
  ⟨0x2808, 4, 0x03, 1, .u8, .ro, .none, 0, .span 0 4⟩,
  ⟨0x2808, 4, 0x04, 1, .u8, .ro, .none, 0, .span 0 3⟩,
  ⟨0x2808, 4, 0x05, 1, .u64, .ro, .none, 0, .full⟩,
  ⟨0x2808, 4, 0x06, 1, .u16, .ro, .none, 0, .span 0 384⟩,
  ⟨0x2808, 4, 0x07, 1, .u16, .ro, .none, 0, .span 0 24576⟩,
  ⟨0x2808, 4, 0x08, 1, .u32, .ro, .none, 0, .full⟩,
  ⟨0x2810, 1, 0x01, 1, .u8, .wo, .now, 0, .span 1 3⟩,
  ⟨0x2810, 1, 0x02, 1, .bits32, .rw, .now, 15, .bits 0xf⟩,
  ⟨0x2810, 1, 0x03, 1, .u8, .ro, .none, 0, .span 0 4⟩,
  ⟨0x2810, 1, 0x04, 1, .u8, .ro, .none, 0, .oneOf [0, 10, 11, 12, 13]⟩,
  ⟨0x2810, 1, 0x05, 1, .u8, .ro, .none, 0, .span 0 4⟩,
  ⟨0x2810, 1, 0x06, 1, .u16, .rwi, .idle, 2000, .span 500 10000⟩,
  ⟨0x2810, 1, 0x07, 1, .u16, .rwi, .idle, 64, .span 8 256⟩,
  ⟨0x2810, 1, 0x08, 1, .q16, .ro, .none, 0, .span (-2621440) 10485760⟩,
  ⟨0x2810, 1, 0x09, 1, .bits32, .ro, .none, 0, .bits 0xffffff⟩,
  ⟨0x2810, 1, 0x0A, 1, .u32, .ro, .none, 0, .full⟩,
  ⟨0x2810, 1, 0x0B, 1, .u32, .ro, .none, 500, .span 1 10000⟩,
  ⟨0x2810, 1, 0x0C, 1, .u32, .ro, .none, 0, .full⟩,
  ⟨0x2810, 1, 0x0D, 1, .u8, .rw, .now, 15, .span 5 60⟩,
  ⟨0x2810, 1, 0x0E, 1, .bool, .ro, .none, 0, .span 0 1⟩,
  ⟨0x2810, 1, 0x0F, 1, .u8, .ro, .none, 0, .span 0 2⟩,
  ⟨0x2818, 1, 0x01, 1, .bool, .rw, .now, 1, .span 0 1⟩,
  ⟨0x2818, 1, 0x02, 1, .u16, .rw, .now, 8, .span 2 255⟩,
  ⟨0x2818, 1, 0x03, 1, .u8, .rw, .now, 3, .span 1 15⟩,
  ⟨0x2818, 1, 0x04, 1, .u8, .rw, .now, 0, .span 0 1⟩,
  ⟨0x2818, 1, 0x05, 1, .u64, .ro, .none, 0, .full⟩,
  ⟨0x2818, 1, 0x06, 1, .u64, .ro, .none, 0, .full⟩,
  ⟨0x2818, 1, 0x07, 1, .bits32, .ro, .none, 0, .bits 0xffffff⟩,
  ⟨0x2820, 24, 0x01, 4, .u8, .ro, .none, 16, .span 0 16⟩,
  ⟨0x2820, 24, 0x05, 4, .u8, .ro, .none, 0, .span 0 16⟩,
  ⟨0x2820, 24, 0x09, 4, .u16, .ro, .none, 0, .span 0 1024⟩,
  ⟨0x2840, 24, 0x00, 1, .blob, .rwi, .idle, 0, .lenEq 128⟩,
  ⟨0x2860, 1, 0x01, 1, .u16, .ro, .none, 0, .span 0 4096⟩,
  ⟨0x2860, 1, 0x02, 1, .blob, .ro, .none, 0, .lenMax 16384⟩,
  ⟨0x2868, 1, 0x01, 4, .bits32, .ro, .none, 0, .bits 0xffffffff⟩,
  ⟨0x2868, 1, 0x05, 4, .bits32, .ro, .none, 0, .bits 0xffffffff⟩,
  ⟨0x2870, 1, 0x01, 1, .u8, .rw, .now, 0, .spanV 0 23 15⟩,
  ⟨0x2870, 1, 0x02, 1, .u8, .rw, .now, 10, .span 10 13⟩,
  ⟨0x2870, 1, 0x03, 1, .u8, .wo, .now, 0, .oneOf [1]⟩,
  ⟨0x2870, 1, 0x04, 1, .u8, .ro, .none, 0, .span 0 2⟩,
  ⟨0x2870, 1, 0x05, 1, .blob, .ro, .none, 0, .lenMax 8192⟩]

/-- Objects of the recombination chapter (R140). -/
def objRows04 : List ObjRow := [
  ⟨0x2C00, 1, 0x01, 1, .u8, .ro, .none, 120, .oneOf [120]⟩,
  ⟨0x2C00, 1, 0x02, 1, .u8, .ro, .none, 56, .oneOf [56]⟩,
  ⟨0x2C00, 1, 0x03, 1, .u8, .ro, .none, 40, .oneOf [40]⟩,
  ⟨0x2C00, 1, 0x04, 1, .u8, .ro, .none, 24, .oneOf [24]⟩,
  ⟨0x2C00, 1, 0x05, 1, .u32, .ro, .none, 23592960, .full⟩,
  ⟨0x2C00, 1, 0x06, 1, .u8, .ro, .none, 64, .oneOf [64]⟩,
  ⟨0x2C00, 1, 0x07, 1, .u8, .ro, .none, 4, .oneOf [4]⟩,
  ⟨0x2C00, 1, 0x08, 1, .u64, .ro, .none, 0, .full⟩,
  ⟨0x2C00, 1, 0x09, 1, .u32, .ro, .none, 0, .full⟩,
  ⟨0x2C08, 4, 0x01, 1, .u16, .ro, .none, 3072, .span 2816 3328⟩,
  ⟨0x2C08, 4, 0x02, 1, .u16, .ro, .none, 2048, .span 1877 2219⟩,
  ⟨0x2C08, 4, 0x03, 1, .u16, .ro, .none, 1024, .span 939 1109⟩,
  ⟨0x2C08, 4, 0x04, 1, .bool, .ro, .none, 1, .span 0 1⟩,
  ⟨0x2C08, 4, 0x05, 1, .u64, .ro, .none, 0, .full⟩,
  ⟨0x2C08, 4, 0x06, 1, .u64, .ro, .none, 0, .full⟩,
  ⟨0x2C08, 4, 0x07, 1, .u16, .ro, .none, 0, .span 0 24576⟩,
  ⟨0x2C08, 4, 0x08, 1, .u16, .ro, .none, 0, .span 0 24576⟩,
  ⟨0x2C10, 1, 0x01, 1, .u8, .rw, .atSection, 0, .span 0 2⟩,
  ⟨0x2C10, 1, 0x02, 1, .bits32, .rw, .atSection, 15, .bits 0xf⟩,
  ⟨0x2C10, 1, 0x03, 1, .i16, .rw, .atSection, 0, .span (-256) 256⟩,
  ⟨0x2C10, 1, 0x04, 1, .u16, .rw, .atSection, 300, .span 0 1000⟩,
  ⟨0x2C10, 1, 0x05, 1, .u32, .rw, .atSection, 256, .span 64 65536⟩,
  ⟨0x2C10, 1, 0x06, 1, .u8, .ro, .none, 0, .span 0 3⟩,
  ⟨0x2C10, 1, 0x07, 1, .i16, .ro, .none, 0, .span (-256) 256⟩,
  ⟨0x2C10, 1, 0x08, 1, .u32, .ro, .none, 49152, .span 45056 53248⟩,
  ⟨0x2C10, 1, 0x09, 1, .u16, .ro, .none, 0, .span 0 1000⟩,
  ⟨0x2C10, 1, 0x0A, 1, .u32, .ro, .none, 0, .full⟩,
  ⟨0x2C10, 1, 0x0B, 1, .u8, .ro, .none, 0, .span 0 5⟩,
  ⟨0x2C10, 1, 0x0C, 1, .u32, .ro, .none, 0, .full⟩,
  ⟨0x2C10, 1, 0x0D, 1, .i32, .ro, .none, 0, .span (-76924) 90910⟩,
  ⟨0x2C10, 1, 0x0E, 1, .u32, .ro, .none, 0, .full⟩,
  ⟨0x2C14, 1, 0x01, 4, .u16, .ro, .none, 0, .span 0 1000⟩,
  ⟨0x2C14, 1, 0x05, 4, .u32, .ro, .none, 49152, .span 45056 53248⟩,
  ⟨0x2C14, 1, 0x09, 4, .u8, .ro, .none, 0, .span 0 5⟩,
  ⟨0x2C18, 1, 0x01, 1, .bool, .rw, .atSection, 0, .span 0 1⟩,
  ⟨0x2C18, 1, 0x02, 1, .i32, .ro, .none, 0, .span (-20000) 20000⟩,
  ⟨0x2C18, 1, 0x03, 1, .u32, .rw, .atSection, 1000, .span 10 10000⟩,
  ⟨0x2C18, 1, 0x04, 1, .u32, .rw, .atSection, 20000, .span 0 20000⟩,
  ⟨0x2C18, 1, 0x05, 1, .u32, .ro, .none, 0, .full⟩,
  ⟨0x2C20, 1, 0x01, 24, .u32, .ro, .none, 0, .full⟩,
  ⟨0x2C40, 24, 0x00, 1, .blob, .rw, .atSection, 0, .lenEq 2048⟩]

/-- Objects of the pipeline chapter (R178). -/
def objRows05 : List ObjRow := [
  ⟨0x3000, 6, 0x01, 1, .u8, .rw, .atSection, 1, .span 0 1⟩,
  ⟨0x3000, 6, 0x02, 1, .u16, .rw, .atSection, 0, .span 0 4095⟩,
  ⟨0x3000, 6, 0x03, 1, .u32, .rw, .atSection, 64, .span 16 65536⟩,
  ⟨0x3000, 6, 0x04, 1, .u32, .ro, .none, 0, .full⟩,
  ⟨0x3000, 6, 0x05, 1, .u32, .ro, .none, 0, .full⟩,
  ⟨0x3000, 6, 0x06, 1, .u8, .ro, .none, 0, .span 0 4⟩,
  ⟨0x3000, 6, 0x07, 1, .bool, .rw, .atSection, 1, .span 0 1⟩,
  ⟨0x3000, 6, 0x08, 1, .u32, .ro, .none, 0, .full⟩,
  ⟨0x3010, 6, 0x01, 1, .bool, .rw, .atSection, 1, .span 0 1⟩,
  ⟨0x3010, 6, 0x02, 1, .u16, .ro, .none, 0, .span 0 4096⟩,
  ⟨0x3010, 6, 0x03, 1, .u16, .ro, .none, 0, .span 0 24576⟩,
  ⟨0x3010, 6, 0x04, 1, .u16, .ro, .none, 0, .span 0 24576⟩,
  ⟨0x3010, 6, 0x05, 1, .u16, .ro, .none, 0, .span 0 24576⟩,
  ⟨0x3010, 6, 0x06, 1, .u16, .ro, .none, 0, .span 0 24576⟩,
  ⟨0x3010, 6, 0x07, 1, .u32, .ro, .none, 0, .full⟩,
  ⟨0x3020, 6, 0x01, 1, .bool, .rw, .atSection, 1, .span 0 1⟩,
  ⟨0x3020, 6, 0x02, 1, .bool, .rw, .atSection, 1, .span 0 1⟩,
  ⟨0x3020, 6, 0x03, 1, .u64, .ro, .none, 0, .full⟩,
  ⟨0x3030, 1, 0x01, 1, .u8, .rw, .atSection, 0, .span 0 1⟩,
  ⟨0x3030, 1, 0x02, 1, .q16, .rw, .atSection, 65536, .span 16384 262144⟩,
  ⟨0x3030, 1, 0x03, 1, .q16, .rw, .atSection, 65536, .span 16384 262144⟩,
  ⟨0x3030, 1, 0x04, 1, .q16, .rw, .atSection, 65536, .span 16384 262144⟩,
  ⟨0x3040, 1, 0x01, 1, .u32, .ro, .none, 0, .full⟩,
  ⟨0x3040, 1, 0x02, 1, .u32, .ro, .none, 0, .full⟩,
  ⟨0x3040, 1, 0x03, 1, .bits32, .ro, .none, 0, .bits 0x7fffff⟩,
  ⟨0x3050, 1, 0x01, 1, .u16, .rwi, .idle, 0, .span 0 65535⟩,
  ⟨0x3400, 1, 0x01, 1, .bits32, .rw, .atSection, 0, .bits 0xF3F⟩,
  ⟨0x3400, 1, 0x02, 1, .u64, .ro, .none, 0, .full⟩,
  ⟨0x3400, 1, 0x03, 1, .u32, .ro, .none, 0, .full⟩,
  ⟨0x3410, 6, 0x00, 1, .blob, .ro, .none, 0, .lenMax 4936⟩,
  ⟨0x3418, 4, 0x00, 1, .blob, .ro, .none, 0, .lenMax 4424⟩,
  ⟨0x341F, 1, 0x00, 1, .blob, .ro, .none, 0, .lenEq 832⟩,
  ⟨0x3480, 5, 0x01, 1, .u8, .rw, .atSection, 2, .span 0 2⟩,
  ⟨0x3480, 5, 0x02, 1, .u16, .rw, .atSection, 16384, .span 1024 60000⟩,
  ⟨0x3480, 5, 0x03, 1, .u16, .rw, .atSection, 50, .span 5 500⟩,
  ⟨0x3480, 5, 0x04, 1, .u32, .rw, .atSection, 40, .span 4 16777215⟩,
  ⟨0x3480, 5, 0x05, 1, .u32, .rw, .atSection, 4000, .span 4 16777215⟩,
  ⟨0x3480, 5, 0x06, 1, .u8, .rw, .atSection, 16, .oneOf [16, 32, 48, 64]⟩,
  ⟨0x3480, 5, 0x07, 1, .u8, .rw, .atSection, 64, .oneOf [16, 32, 48, 64]⟩,
  ⟨0x3480, 5, 0x08, 1, .u32, .rw, .atSection, 72000, .oneOf [36000, 72000, 144000, 288000]⟩,
  ⟨0x3480, 5, 0x09, 1, .u32, .rw, .atSection, 288000, .oneOf [36000, 72000, 144000, 288000]⟩,
  ⟨0x3480, 5, 0x0A, 1, .u32, .rw, .atSection, 256, .span 64 65536⟩,
  ⟨0x3480, 5, 0x0B, 1, .q16, .rw, .atSection, 131072, .span 69632 262144⟩,
  ⟨0x3480, 5, 0x0C, 1, .u16, .rw, .atSection, 10, .span 1 1000⟩,
  ⟨0x3480, 5, 0x0D, 1, .u16, .ro, .none, 0, .full⟩,
  ⟨0x3480, 5, 0x0E, 1, .u8, .ro, .none, 0, .span 0 5⟩,
  ⟨0x3480, 5, 0x0F, 1, .u32, .ro, .none, 0, .full⟩,
  ⟨0x3480, 5, 0x10, 1, .u32, .ro, .none, 0, .full⟩,
  ⟨0x3480, 5, 0x11, 1, .u8, .ro, .none, 0, .full⟩,
  ⟨0x3480, 5, 0x12, 1, .u32, .ro, .none, 0, .full⟩,
  ⟨0x3488, 1, 0x01, 1, .u8, .rw, .atSection, 2, .span 0 2⟩,
  ⟨0x3488, 1, 0x02, 1, .u16, .rw, .atSection, 10, .span 1 500⟩,
  ⟨0x3488, 1, 0x03, 1, .q16, .rw, .atSection, 81920, .span 69632 262144⟩,
  ⟨0x3488, 1, 0x04, 1, .u16, .rw, .atSection, 58982, .span 1024 65535⟩,
  ⟨0x3488, 1, 0x05, 1, .u8, .ro, .none, 0, .span 0 5⟩,
  ⟨0x3488, 1, 0x06, 1, .q16, .ro, .none, 0, .full⟩,
  ⟨0x3488, 1, 0x07, 1, .q16, .ro, .none, 0, .full⟩]

/-- Objects of the engines chapter (R208). -/
def objRows06 : List ObjRow := [
  ⟨0x4000, 1, 0x01, 1, .bool, .rw, .atSection, 0, .span 0 1⟩,
  ⟨0x4000, 1, 0x02, 1, .u8, .ro, .none, 0, .span 0 5⟩,
  ⟨0x4000, 1, 0x03, 1, .u8, .rw, .atSection, 0, .span 0 7⟩,
  ⟨0x4000, 1, 0x04, 1, .u8, .rw, .atSection, 1, .span 1 9⟩,
  ⟨0x4000, 1, 0x05, 1, .u8, .rw, .atSection, 10, .oneOf [10, 11, 12, 13, 16, 17]⟩,
  ⟨0x4000, 1, 0x06, 1, .u8, .rw, .atSection, 1, .span 0 2⟩,
  ⟨0x4000, 1, 0x07, 1, .u8, .rw, .atSection, 255, .oneOf [10, 11, 12, 13, 16, 255]⟩,
  ⟨0x4000, 1, 0x08, 1, .u8, .rw, .atSection, 1, .span 0 2⟩,
  ⟨0x4000, 1, 0x09, 1, .u8, .rw, .atSection, 0, .oneOf [0, 1, 2, 64, 65, 66, 67, 68, 69, 70, 71]⟩,
  ⟨0x4000, 1, 0x0A, 1, .u8, .rw, .atSection, 0, .oneOf [0, 1, 2, 64, 65, 66, 67, 68, 69, 70, 71]⟩,
  ⟨0x4000, 1, 0x0B, 1, .u32, .ro, .none, 0, .full⟩,
  ⟨0x4000, 1, 0x0C, 1, .u32, .ro, .none, 0, .full⟩,
  ⟨0x4000, 1, 0x0D, 1, .bool, .ro, .none, 0, .span 0 1⟩,
  ⟨0x4000, 1, 0x0E, 1, .u32, .ro, .none, 0, .full⟩,
  ⟨0x4004, 1, 0x01, 24, .bits32, .wo, .atSection, 0, .bits 0xff⟩,
  ⟨0x4008, 1, 0x00, 1, .blob, .rwt, .atSection, 0, .lenEq 128⟩,
  ⟨0x4009, 1, 0x00, 1, .blob, .rwt, .atSection, 0, .lenMax 32768⟩,
  ⟨0x400A, 1, 0x00, 1, .blob, .rwt, .atSection, 0, .lenMax 65536⟩,
  ⟨0x400B, 1, 0x00, 1, .blob, .rwt, .atSection, 0, .lenMax 65280⟩,
  ⟨0x4010, 1, 0x00, 1, .blob, .rw, .atSection, 0, .lenEq 64⟩,
  ⟨0x4018, 1, 0x01, 1, .u16, .ro, .none, 800, .oneOf [800]⟩,
  ⟨0x4018, 1, 0x02, 1, .u8, .ro, .none, 64, .oneOf [64]⟩,
  ⟨0x4018, 1, 0x03, 1, .u32, .ro, .none, 2500, .full⟩,
  ⟨0x4019, 1, 0x01, 24, .u16, .ro, .none, 0, .full⟩,
  ⟨0x401A, 1, 0x01, 24, .u32, .ro, .none, 0, .full⟩,
  ⟨0x4020, 8, 0x01, 1, .u8, .rw, .atSection, 1, .oneOf [1, 2, 4, 8, 16]⟩,
  ⟨0x4020, 8, 0x02, 1, .u64, .ro, .none, 0, .full⟩,
  ⟨0x4100, 192, 0x00, 1, .blob, .rw, .atSection, 0, .lenEq 64⟩,
  ⟨0x4200, 192, 0x01, 1, .u8, .ro, .none, 0, .span 0 5⟩,
  ⟨0x4200, 192, 0x02, 1, .u64, .ro, .none, 0, .full⟩,
  ⟨0x4200, 192, 0x03, 1, .u16, .ro, .none, 0, .full⟩,
  ⟨0x4200, 192, 0x04, 1, .u32, .ro, .none, 0, .full⟩,
  ⟨0x4200, 192, 0x05, 1, .u32, .ro, .none, 0, .full⟩,
  ⟨0x4200, 192, 0x06, 1, .u16, .ro, .none, 0, .span 0 8191⟩,
  ⟨0x4200, 192, 0x07, 1, .u8, .ro, .none, 0, .full⟩,
  ⟨0x4200, 192, 0x08, 1, .u64, .ro, .none, 0, .full⟩,
  ⟨0x4200, 192, 0x09, 1, .u64, .ro, .none, 0, .full⟩,
  ⟨0x4200, 192, 0x0A, 1, .u16, .ro, .none, 0, .span 0 256⟩,
  ⟨0x4200, 192, 0x0B, 1, .u64, .ro, .none, 0, .full⟩,
  ⟨0x4800, 1, 0x01, 1, .bool, .rw, .atSection, 0, .span 0 1⟩,
  ⟨0x4800, 1, 0x02, 1, .bool, .rw, .atSection, 1, .span 0 1⟩,
  ⟨0x4800, 1, 0x03, 1, .u16, .ro, .none, 0, .span 0 1024⟩,
  ⟨0x4800, 1, 0x04, 1, .u64, .ro, .none, 0, .full⟩,
  ⟨0x4800, 1, 0x05, 1, .u64, .ro, .none, 0, .full⟩,
  ⟨0x4800, 1, 0x06, 1, .u64, .ro, .none, 0, .full⟩,
  ⟨0x4800, 1, 0x07, 1, .u64, .ro, .none, 0, .full⟩,
  ⟨0x4800, 1, 0x08, 1, .u64, .ro, .none, 0, .full⟩,
  ⟨0x4810, 1, 0x01, 8, .u8, .rw, .atSection, 1, .span 0 3⟩,
  ⟨0x4818, 1, 0x01, 8, .bits32, .rw, .atSection, 4294967295, .full⟩]

/-- Objects of the streams chapter (R257), part 1. -/
def objRows08a : List ObjRow := [
  ⟨0x3800, 1, 0x01, 1, .u16, .ro, .none, 32768, .oneOf [32768]⟩,
  ⟨0x3800, 1, 0x02, 1, .u16, .ro, .none, 512, .oneOf [512]⟩,
  ⟨0x3800, 1, 0x03, 1, .u16, .rw, .atSection, 8192, .span 0 24576⟩,
  ⟨0x3800, 1, 0x04, 1, .u16, .ro, .none, 32768, .span 0 32768⟩,
  ⟨0x3800, 1, 0x05, 1, .u16, .ro, .none, 32768, .span 0 32768⟩,
  ⟨0x3800, 1, 0x06, 1, .u8, .ro, .none, 255, .alt 0 7 255⟩,
  ⟨0x3800, 1, 0x07, 1, .u64, .ro, .none, 0, .full⟩,
  ⟨0x3800, 1, 0x08, 1, .u64, .ro, .none, 0, .full⟩,
  ⟨0x3800, 1, 0x09, 1, .u32, .ro, .none, 0, .full⟩,
  ⟨0x3810, 8, 0x01, 1, .bool, .rw, .atSection, 0, .span 0 1⟩,
  ⟨0x3810, 8, 0x02, 1, .u8, .rw, .atSection, 10,
    .oneOf [10, 11, 12, 13, 16, 17, 32, 33, 34, 35, 64, 65, 66, 67, 68, 69, 70, 71]⟩,
  ⟨0x3810, 8, 0x03, 1, .u8, .rw, .atSection, 4, .span 0 4⟩,
  ⟨0x3810, 8, 0x04, 1, .u16, .rw, .atSection, 0, .spanV 0 24575 16383⟩,
  ⟨0x3810, 8, 0x05, 1, .u16, .rw, .atSection, 24575, .spanV 0 24575 16383⟩,
  ⟨0x3810, 8, 0x06, 1, .u16, .rw, .atSection, 64, .span 64 1024⟩,
  ⟨0x3810, 8, 0x07, 1, .u8, .rw, .atSection, 1, .span 1 16⟩,
  ⟨0x3810, 8, 0x08, 1, .u8, .rw, .atSection, 0, .span 0 1⟩,
  ⟨0x3810, 8, 0x09, 1, .u8, .rw, .atSection, 16, .oneOf [8, 10, 12, 16, 48]⟩,
  ⟨0x3810, 8, 0x0A, 1, .u8, .rw, .atSection, 0, .span 0 1⟩,
  ⟨0x3810, 8, 0x0B, 1, .u8, .rw, .atSection, 0, .span 0 1⟩,
  ⟨0x3820, 8, 0x01, 1, .u8, .ro, .none, 0, .span 0 6⟩,
  ⟨0x3820, 8, 0x02, 1, .u16, .ro, .none, 0, .span 0 24576⟩,
  ⟨0x3820, 8, 0x03, 1, .u32, .ro, .none, 0, .full⟩,
  ⟨0x3820, 8, 0x04, 1, .u64, .ro, .none, 0, .full⟩,
  ⟨0x3820, 8, 0x05, 1, .u64, .ro, .none, 0, .full⟩,
  ⟨0x3820, 8, 0x06, 1, .u64, .ro, .none, 0, .full⟩,
  ⟨0x3820, 8, 0x07, 1, .u32, .ro, .none, 0, .full⟩,
  ⟨0x3820, 8, 0x08, 1, .u64, .ro, .none, 0, .full⟩,
  ⟨0x3900, 1, 0x01, 1, .bool, .rw, .now, 0, .span 0 1⟩,
  ⟨0x3900, 1, 0x02, 1, .u8, .rw, .now, 4, .oneOf [1, 2, 4]⟩,
  ⟨0x3900, 1, 0x03, 1, .u16, .rw, .now, 1500, .span 80 2500⟩,
  ⟨0x3900, 1, 0x04, 1, .u8, .rw, .now, 228, .full⟩,
  ⟨0x3900, 1, 0x05, 1, .u8, .ro, .none, 0, .span 0 5⟩,
  ⟨0x3900, 1, 0x06, 1, .u32, .ro, .none, 0, .full⟩,
  ⟨0x3900, 1, 0x07, 1, .u32, .ro, .none, 0, .full⟩,
  ⟨0x3900, 1, 0x08, 1, .u32, .ro, .none, 0, .full⟩,
  ⟨0x3900, 1, 0x09, 1, .u32, .ro, .none, 0, .full⟩,
  ⟨0x3900, 1, 0x0A, 1, .u32, .ro, .none, 0, .span 0 4194304⟩,
  ⟨0x3900, 1, 0x0B, 1, .u32, .ro, .none, 0, .span 0 4194304⟩,
  ⟨0x3910, 4, 0x01, 1, .bool, .rw, .now, 0, .span 0 1⟩,
  ⟨0x3910, 4, 0x02, 1, .u8, .rw, .now, 44, .span 42 46⟩,
  ⟨0x3910, 4, 0x03, 1, .u16, .rw, .now, 1024, .span 16 8192⟩,
  ⟨0x3910, 4, 0x04, 1, .u16, .rw, .now, 1024, .span 1 65535⟩,
  ⟨0x3910, 4, 0x05, 1, .u8, .rw, .now, 0, .span 0 4⟩,
  ⟨0x3910, 4, 0x06, 1, .u16, .rw, .now, 0, .span 0 65535⟩,
  ⟨0x3910, 4, 0x07, 1, .u32, .rw, .now, 0, .span 0 10000000⟩,
  ⟨0x3910, 4, 0x08, 1, .u32, .rw, .now, 1000, .span 0 1000000⟩,
  ⟨0x3910, 4, 0x09, 1, .blob, .rw, .now, 0, .lenMax 1024⟩,
  ⟨0x3910, 4, 0x0A, 1, .blob, .rw, .now, 0, .lenMax 16384⟩,
  ⟨0x3910, 4, 0x0B, 1, .bool, .rw, .now, 0, .span 0 1⟩,
  ⟨0x3910, 4, 0x0C, 1, .u8, .rw, .now, 0, .span 0 1⟩,
  ⟨0x3910, 4, 0x0D, 1, .u16, .rw, .now, 100, .span 1 10000⟩,
  ⟨0x3920, 4, 0x01, 1, .u8, .ro, .none, 0, .span 0 2⟩,
  ⟨0x3920, 4, 0x02, 1, .u32, .ro, .none, 0, .full⟩,
  ⟨0x3920, 4, 0x03, 1, .u32, .ro, .none, 0, .full⟩,
  ⟨0x3920, 4, 0x04, 1, .u32, .ro, .none, 0, .full⟩,
  ⟨0x3920, 4, 0x05, 1, .u32, .ro, .none, 0, .full⟩,
  ⟨0x3920, 4, 0x06, 1, .u32, .ro, .none, 0, .full⟩,
  ⟨0x3920, 4, 0x07, 1, .u16, .ro, .none, 0, .full⟩,
  ⟨0x3920, 4, 0x08, 1, .pos, .ro, .none, 0, .full⟩]

/-- Objects of the streams chapter (R257), part 2. -/
def objRows08b : List ObjRow := [
  ⟨0x3920, 4, 0x09, 1, .blob, .ro, .none, 0, .lenMax 256⟩,
  ⟨0x3920, 4, 0x0A, 1, .u32, .ro, .none, 0, .full⟩,
  ⟨0x3930, 1, 0x01, 1, .u16, .ro, .none, 1000, .oneOf [1000]⟩,
  ⟨0x3930, 1, 0x02, 1, .u16, .ro, .none, 256, .oneOf [256]⟩,
  ⟨0x3930, 1, 0x03, 1, .u8, .ro, .none, 16, .oneOf [16]⟩,
  ⟨0x3930, 1, 0x04, 1, .u8, .ro, .none, 64, .oneOf [64]⟩,
  ⟨0x3930, 1, 0x05, 1, .u64, .ro, .none, 0, .full⟩,
  ⟨0x3930, 1, 0x06, 1, .u64, .ro, .none, 0, .full⟩]

/-- Objects of the streams chapter (R257). -/
def objRows08 : List ObjRow := objRows08a ++ objRows08b

/-- Objects of the host interface chapter (R297), part 1. -/
def objRows09a : List ObjRow := [
  ⟨0x5000, 1, 0x01, 1, .u8, .ro, .none, 0, .span 0 5⟩,
  ⟨0x5000, 1, 0x02, 1, .u8, .ro, .none, 0, .oneOf [0, 1, 2, 4]⟩,
  ⟨0x5000, 1, 0x03, 1, .u8, .rwi, .idle, 5, .span 1 5⟩,
  ⟨0x5000, 1, 0x04, 1, .u8, .ro, .none, 5, .span 1 5⟩,
  ⟨0x5000, 1, 0x05, 1, .u32, .ro, .none, 0, .full⟩,
  ⟨0x5000, 1, 0x06, 1, .u32, .ro, .none, 0, .full⟩,
  ⟨0x5000, 1, 0x07, 1, .u32, .ro, .none, 0, .full⟩,
  ⟨0x5000, 1, 0x08, 1, .blob, .ro, .none, 0, .lenEq 16⟩,
  ⟨0x5000, 1, 0x09, 1, .u32, .ro, .none, 0, .full⟩,
  ⟨0x5000, 1, 0x0A, 1, .u32, .rw, .now, 100, .span 1 1000000⟩,
  ⟨0x5000, 1, 0x0B, 1, .u64, .ro, .none, 0, .full⟩,
  ⟨0x5008, 1, 0x01, 1, .u32, .ro, .none, 0, .full⟩,
  ⟨0x5008, 1, 0x02, 1, .u64, .ro, .none, 0, .full⟩,
  ⟨0x5020, 10, 0x01, 1, .u64, .rw, .now, 0, .multOf 0 18446744073709551615 4096⟩,
  ⟨0x5020, 10, 0x02, 1, .u32, .rw, .now, 1024, .pow2 64 65536⟩,
  ⟨0x5020, 10, 0x03, 1, .u32, .rw, .now, 1048576, .multOf 4096 67108864 32⟩,
  ⟨0x5020, 10, 0x04, 1, .u32, .rw, .now, 1000, .span 10 1000000⟩,
  ⟨0x5020, 10, 0x05, 1, .bool, .rw, .now, 0, .span 0 1⟩,
  ⟨0x5020, 10, 0x06, 1, .bool, .rw, .now, 1, .span 0 1⟩,
  ⟨0x5020, 10, 0x07, 1, .u32, .ro, .none, 0, .span 0 65535⟩,
  ⟨0x5020, 10, 0x08, 1, .u32, .ro, .none, 0, .span 0 65535⟩,
  ⟨0x5020, 10, 0x09, 1, .u8, .ro, .none, 0, .span 0 2⟩,
  ⟨0x5020, 10, 0x0A, 1, .u8, .rw, .now, 3, .span 0 63⟩,
  ⟨0x5020, 10, 0x0B, 1, .u32, .ro, .none, 0, .full⟩,
  ⟨0x5030, 1, 0x01, 1, .u64, .rw, .now, 0, .multOf 0 18446744073709551615 4096⟩,
  ⟨0x5030, 1, 0x02, 1, .u32, .rw, .now, 4096, .pow2 64 65536⟩,
  ⟨0x5030, 1, 0x03, 1, .bool, .rw, .now, 0, .span 0 1⟩,
  ⟨0x5030, 1, 0x04, 1, .u32, .ro, .none, 0, .span 0 65535⟩,
  ⟨0x5030, 1, 0x05, 1, .u32, .ro, .none, 0, .span 0 65535⟩,
  ⟨0x5030, 1, 0x06, 1, .u16, .ro, .none, 0, .span 0 1024⟩,
  ⟨0x5030, 1, 0x07, 1, .u32, .ro, .none, 0, .full⟩,
  ⟨0x5030, 1, 0x08, 1, .u8, .rw, .now, 1, .span 0 63⟩,
  ⟨0x5031, 1, 0x01, 1, .u64, .rw, .now, 0, .multOf 0 18446744073709551615 4096⟩,
  ⟨0x5031, 1, 0x02, 1, .u32, .rw, .now, 1024, .pow2 64 65536⟩,
  ⟨0x5031, 1, 0x03, 1, .bool, .rw, .now, 0, .span 0 1⟩,
  ⟨0x5031, 1, 0x04, 1, .u32, .ro, .none, 0, .span 0 65535⟩,
  ⟨0x5031, 1, 0x05, 1, .u32, .ro, .none, 0, .span 0 65535⟩,
  ⟨0x5031, 1, 0x06, 1, .u32, .ro, .none, 0, .full⟩,
  ⟨0x5031, 1, 0x07, 1, .u8, .rw, .now, 0, .span 0 63⟩,
  ⟨0x5032, 1, 0x01, 1, .u64, .rw, .now, 0, .multOf 0 18446744073709551615 256⟩,
  ⟨0x5032, 1, 0x02, 1, .u16, .rw, .now, 50, .span 0 10000⟩,
  ⟨0x5032, 1, 0x03, 1, .u16, .rw, .now, 16, .span 1 4096⟩,
  ⟨0x5040, 1, 0x01, 1, .u8, .rwi, .idle, 0, .span 0 1⟩,
  ⟨0x5040, 1, 0x02, 1, .u32, .ro, .none, 0, .span 0 131072⟩,
  ⟨0x5040, 1, 0x03, 1, .u32, .ro, .none, 0, .span 0 131072⟩,
  ⟨0x5040, 1, 0x04, 1, .u32, .ro, .none, 0, .span 0 1⟩,
  ⟨0x5040, 1, 0x05, 1, .u32, .ro, .none, 0, .span 0 131072⟩,
  ⟨0x5040, 1, 0x06, 1, .u32, .ro, .none, 0, .span 0 32768⟩,
  ⟨0x5040, 1, 0x07, 1, .u32, .ro, .none, 0, .span 0 131072⟩,
  ⟨0x5040, 1, 0x08, 1, .u32, .ro, .none, 4294967295, .alt 0 131071 4294967295⟩,
  ⟨0x5040, 1, 0x09, 1, .u32, .ro, .none, 0, .full⟩,
  ⟨0x5040, 1, 0x0A, 1, .u32, .ro, .none, 0, .full⟩,
  ⟨0x5040, 1, 0x0B, 1, .u64, .ro, .none, 0, .full⟩,
  ⟨0x5040, 1, 0x0C, 1, .u32, .ro, .none, 0, .span 0 32768⟩,
  ⟨0x5040, 1, 0x0D, 1, .u8, .ro, .none, 0, .span 0 3⟩,
  ⟨0x5041, 1, 0x01, 1, .u8, .wo, .now, 0, .span 1 6⟩,
  ⟨0x5041, 1, 0x02, 1, .u64, .rw, .now, 0, .multOf 0 18446744073709551615 8⟩,
  ⟨0x5041, 1, 0x03, 1, .u32, .rw, .now, 0, .span 0 131072⟩,
  ⟨0x5041, 1, 0x04, 1, .u32, .rw, .now, 0, .span 0 131071⟩,
  ⟨0x5041, 1, 0x05, 1, .u8, .ro, .none, 0, .span 0 1⟩]

/-- Objects of the host interface chapter (R297), part 2. -/
def objRows09b : List ObjRow := [
  ⟨0x5041, 1, 0x06, 1, .u8, .ro, .none, 0, .span 0 14⟩,
  ⟨0x5048, 1, 0x01, 1, .pos, .rw, .now, 0, .full⟩,
  ⟨0x5048, 1, 0x02, 1, .u32, .rw, .now, 4294967295, .alt 0 131071 4294967295⟩,
  ⟨0x5048, 1, 0x03, 1, .u8, .wo, .now, 0, .oneOf [1]⟩,
  ⟨0x5048, 1, 0x04, 1, .u8, .ro, .none, 0, .span 0 4⟩,
  ⟨0x5048, 1, 0x05, 1, .u32, .ro, .none, 0, .span 0 131071⟩,
  ⟨0x5048, 1, 0x06, 1, .u32, .ro, .none, 0, .span 0 2097056⟩,
  ⟨0x5048, 1, 0x07, 1, .u64, .ro, .none, 0, .full⟩,
  ⟨0x5048, 1, 0x08, 1, .pos, .ro, .none, 0, .full⟩,
  ⟨0x5050, 32, 0x01, 1, .pos, .rw, .now, 0, .full⟩,
  ⟨0x5070, 32, 0x01, 1, .pos, .ro, .none, 0, .full⟩,
  ⟨0x5050, 32, 0x02, 1, .pos, .rw, .now, 0, .full⟩,
  ⟨0x5070, 32, 0x02, 1, .pos, .ro, .none, 0, .full⟩,
  ⟨0x5050, 32, 0x03, 1, .u64, .rw, .now, 0, .full⟩,
  ⟨0x5070, 32, 0x03, 1, .u64, .ro, .none, 0, .full⟩,
  ⟨0x5050, 64, 0x04, 1, .u8, .wo, .now, 0, .span 1 2⟩,
  ⟨0x5050, 64, 0x05, 1, .u8, .ro, .none, 0, .span 0 2⟩,
  ⟨0x5050, 64, 0x06, 1, .u8, .ro, .none, 255, .alt 0 7 255⟩,
  ⟨0x5050, 64, 0x07, 1, .u32, .ro, .none, 0, .span 0 32768⟩,
  ⟨0x5090, 8, 0x01, 1, .u8, .rw, .now, 0, .span 0 254⟩,
  ⟨0x5090, 8, 0x02, 1, .u32, .rw, .now, 0, .span 0 16777215⟩,
  ⟨0x5090, 8, 0x03, 1, .u32, .rw, .now, 65536, .span 1 4294967295⟩,
  ⟨0x5090, 8, 0x04, 1, .u32, .ro, .none, 0, .full⟩,
  ⟨0x5090, 8, 0x05, 1, .u32, .ro, .none, 0, .full⟩,
  ⟨0x5098, 1, 0x01, 1, .bool, .ro, .none, 0, .span 0 1⟩,
  ⟨0x5098, 1, 0x02, 1, .u32, .ro, .none, 0, .full⟩,
  ⟨0x5098, 1, 0x03, 1, .u64, .ro, .none, 0, .full⟩,
  ⟨0x5098, 1, 0x04, 1, .pos, .ro, .none, 0, .full⟩,
  ⟨0x50C0, 1, 0x01, 1, .u64, .ro, .none, 0, .full⟩,
  ⟨0x50C0, 1, 0x02, 1, .u64, .ro, .none, 0, .full⟩,
  ⟨0x50C0, 1, 0x03, 1, .u64, .ro, .none, 0, .full⟩,
  ⟨0x50C0, 1, 0x04, 1, .bits32, .ro, .none, 0, .bits 0xffffff⟩,
  ⟨0x50C0, 1, 0x05, 1, .bits32, .wo, .atSection, 0, .bits 0xffffff⟩,
  ⟨0x50C0, 1, 0x06, 1, .u32, .ro, .none, 0, .full⟩,
  ⟨0x50C0, 1, 0x07, 1, .u32, .ro, .none, 0, .full⟩,
  ⟨0x50C8, 1, 0x01, 24, .u32, .ro, .none, 0, .full⟩,
  ⟨0x50E0, 1, 0x01, 1, .u32, .ro, .none, 0, .full⟩,
  ⟨0x50E0, 1, 0x02, 1, .u32, .ro, .none, 0, .full⟩,
  ⟨0x50E0, 1, 0x03, 1, .u32, .ro, .none, 0, .full⟩,
  ⟨0x50E0, 1, 0x04, 1, .u32, .ro, .none, 0, .full⟩,
  ⟨0x50E0, 1, 0x05, 1, .u32, .ro, .none, 0, .full⟩,
  ⟨0x50E0, 1, 0x06, 1, .i32, .ro, .none, 0, .full⟩,
  ⟨0x50E0, 1, 0x07, 1, .u8, .ro, .none, 0, .span 0 5⟩,
  ⟨0x50F0, 1, 0x01, 1, .u16, .ro, .none, 0, .span 0 256⟩,
  ⟨0x50F0, 1, 0x02, 1, .u32, .ro, .none, 0, .full⟩,
  ⟨0x50F0, 1, 0x03, 1, .u32, .ro, .none, 0, .full⟩]

/-- Objects of the host interface chapter (R297). -/
def objRows09 : List ObjRow := objRows09a ++ objRows09b

/-- Objects of the dictionary chapter (R326). -/
def objRows10 : List ObjRow := [
  ⟨0x1000, 1, 0x01, 1, .text, .ro, .none, 0, .lenMax 64⟩,
  ⟨0x1000, 1, 0x02, 1, .text, .ro, .none, 1, .lenMax 64⟩,
  ⟨0x1000, 1, 0x03, 1, .u64, .ro, .none, 0, .full⟩,
  ⟨0x1000, 1, 0x04, 1, .u64, .ro, .none, 0, .bits 0xffffffffffff⟩,
  ⟨0x1000, 1, 0x05, 1, .u8, .ro, .none, 0, .full⟩,
  ⟨0x1000, 1, 0x06, 1, .u32, .ro, .none, 0, .full⟩,
  ⟨0x1000, 1, 0x07, 1, .u16, .ro, .none, 0, .span 0 256⟩,
  ⟨0x1000, 1, 0x08, 1, .u32, .ro, .none, 0, .full⟩,
  ⟨0x1020, 1, 0x01, 1, .u8, .ro, .none, 0, .span 0 4⟩,
  ⟨0x1020, 1, 0x02, 1, .u64, .ro, .none, 0, .full⟩,
  ⟨0x1020, 1, 0x03, 1, .u8, .ro, .none, 0, .span 0 3⟩,
  ⟨0x1020, 1, 0x04, 1, .u8, .wo, .now, 0, .oneOf [1]⟩,
  ⟨0x1020, 1, 0x05, 1, .bool, .ro, .none, 0, .span 0 1⟩,
  ⟨0x1030, 1, 0x01, 4, .u8, .ro, .none, 0, .span 0 1⟩,
  ⟨0x1030, 1, 0x05, 4, .u64, .ro, .none, 0, .full⟩,
  ⟨0x1100, 1, 0x00, 1, .blob, .rw, .reset, 0, .lenMax 16384⟩,
  ⟨0x1101, 1, 0x01, 1, .u8, .ro, .none, 0, .span 0 3⟩,
  ⟨0x1101, 1, 0x02, 1, .u16, .ro, .none, 0, .span 0 1024⟩,
  ⟨0x1101, 1, 0x03, 1, .u16, .ro, .none, 65535, .alt 0 1023 65535⟩,
  ⟨0x1101, 1, 0x04, 1, .u8, .ro, .none, 0, .span 0 14⟩,
  ⟨0x1101, 1, 0x05, 1, .u32, .ro, .none, 0, .full⟩,
  ⟨0x1101, 1, 0x06, 1, .u8, .ro, .none, 0, .span 0 2⟩,
  ⟨0x7800, 1, 0x01, 1, .u16, .ro, .none, 1024, .oneOf [1024]⟩,
  ⟨0x7800, 1, 0x02, 1, .u64, .ro, .none, 0, .full⟩,
  ⟨0x7800, 1, 0x03, 1, .u64, .ro, .none, 0, .full⟩,
  ⟨0x7800, 1, 0x04, 1, .u64, .rw, .now, 0, .full⟩,
  ⟨0x7800, 1, 0x05, 1, .blob, .ro, .none, 0, .lenMax 2048⟩,
  ⟨0x7800, 1, 0x06, 1, .u64, .ro, .none, 0, .full⟩,
  ⟨0x7810, 1, 0x01, 15, .u32, .ro, .none, 0, .full⟩,
  ⟨0x7820, 1, 0x01, 15, .bool, .rw, .now, 1, .span 0 1⟩,
  ⟨0x7C00, 1, 0x01, 1, .u16, .rw, .now, 10, .span 1 600⟩,
  ⟨0x7C00, 1, 0x02, 1, .u8, .rw, .now, 2, .span 1 16⟩,
  ⟨0x7C00, 1, 0x03, 1, .u16, .ro, .none, 0, .span 0 1024⟩,
  ⟨0x7C00, 1, 0x04, 1, .u32, .ro, .none, 0, .span 0 4194304⟩,
  ⟨0x7C00, 1, 0x05, 1, .u8, .ro, .none, 0, .span 0 16⟩,
  ⟨0x7C00, 1, 0x06, 1, .u32, .ro, .none, 0, .full⟩,
  ⟨0x7C00, 1, 0x07, 1, .u32, .ro, .none, 0, .full⟩,
  ⟨0x7C00, 1, 0x08, 1, .u64, .ro, .none, 0, .full⟩,
  ⟨0x7C00, 1, 0x09, 1, .u32, .ro, .none, 0, .full⟩,
  ⟨0x7C00, 1, 0x0A, 1, .u32, .ro, .none, 0, .full⟩,
  ⟨0x7C10, 4, 0x01, 1, .u8, .ro, .none, 0, .span 0 2⟩,
  ⟨0x7C10, 4, 0x02, 1, .u32, .ro, .none, 0, .full⟩,
  ⟨0x7C10, 4, 0x03, 1, .u16, .ro, .none, 0, .span 0 512⟩,
  ⟨0x7C10, 4, 0x04, 1, .u32, .ro, .none, 0, .span 0 4194304⟩,
  ⟨0x7C10, 4, 0x05, 1, .u32, .ro, .none, 0, .full⟩,
  ⟨0x7C10, 4, 0x06, 1, .u8, .ro, .none, 0, .span 0 14⟩,
  ⟨0x7C20, 1, 0x00, 1, .blob, .ro, .none, 0, .lenMax 256⟩,
  ⟨0x8000, 64, 0x00, 1, .blob, .rw, .now, 0, .lenMax 256⟩,
  ⟨0x8080, 1, 0x01, 1, .u8, .rw, .now, 0, .span 0 15⟩,
  ⟨0x8080, 1, 0x02, 1, .u32, .rw, .now, 0, .full⟩,
  ⟨0x8080, 1, 0x03, 1, .text, .rw, .now, 0, .lenMax 64⟩,
  ⟨0x80F0, 1, 0x01, 1, .u8, .ro, .none, 0, .span 0 2⟩,
  ⟨0x80F0, 1, 0x02, 1, .u32, .ro, .none, 0, .full⟩,
  ⟨0x80F0, 1, 0x03, 1, .u32, .ro, .none, 0, .full⟩]

/-- Objects of the field network chapter (R352). -/
def objRows11 : List ObjRow := [
  ⟨0x5400, 1, 0x01, 1, .bool, .rw, .now, 0, .span 0 1⟩,
  ⟨0x5400, 1, 0x02, 1, .u8, .ro, .none, 1, .span 0 3⟩,
  ⟨0x5400, 1, 0x03, 1, .u16, .rw, .now, 34997, .span 1536 65535⟩,
  ⟨0x5400, 1, 0x04, 1, .u64, .rw, .now, 3643340226561, .bits 281474976710655⟩,
  ⟨0x5400, 1, 0x05, 1, .u64, .rw, .now, 0, .bits 0xffffffffffff⟩,
  ⟨0x5400, 1, 0x06, 1, .u16, .rw, .now, 1000, .alt 10 60000 0⟩,
  ⟨0x5400, 1, 0x07, 1, .bits32, .rw, .now, 0, .bits 0xfffe⟩,
  ⟨0x5400, 1, 0x08, 1, .u32, .ro, .none, 0, .full⟩,
  ⟨0x5400, 1, 0x09, 1, .u32, .ro, .none, 0, .full⟩,
  ⟨0x5400, 1, 0x0A, 1, .u32, .ro, .none, 0, .full⟩,
  ⟨0x5400, 1, 0x0B, 1, .u64, .ro, .none, 0, .full⟩,
  ⟨0x5400, 1, 0x0C, 1, .u64, .ro, .none, 0, .full⟩,
  ⟨0x5400, 1, 0x0D, 1, .u32, .ro, .none, 0, .full⟩,
  ⟨0x5400, 1, 0x0E, 1, .u32, .ro, .none, 0, .full⟩,
  ⟨0x5410, 1, 0x01, 1, .u8, .rw, .now, 0, .span 0 1⟩,
  ⟨0x5410, 1, 0x02, 1, .u8, .rw, .now, 1, .span 0 31⟩,
  ⟨0x5410, 1, 0x03, 1, .u8, .rw, .now, 8, .span 1 32⟩,
  ⟨0x5410, 1, 0x04, 1, .u8, .rw, .now, 32, .span 1 255⟩,
  ⟨0x5410, 1, 0x05, 1, .u8, .rw, .now, 0, .span 0 255⟩,
  ⟨0x5410, 1, 0x06, 1, .u8, .rw, .now, 128, .span 0 255⟩,
  ⟨0x5410, 1, 0x07, 1, .u8, .ro, .none, 0, .span 0 2⟩,
  ⟨0x5410, 1, 0x08, 1, .u16, .rw, .now, 20, .span 1 1000⟩,
  ⟨0x5440, 1, 0x01, 1, .bool, .rw, .now, 0, .span 0 1⟩,
  ⟨0x5440, 1, 0x02, 1, .u32, .rw, .now, 2000, .span 100 100000⟩,
  ⟨0x5440, 1, 0x03, 1, .u32, .rw, .now, 1, .span 1 1000000⟩,
  ⟨0x5440, 1, 0x04, 1, .u8, .rw, .now, 3, .span 1 255⟩,
  ⟨0x5440, 1, 0x05, 1, .u8, .rw, .now, 0, .span 0 1⟩,
  ⟨0x5440, 1, 0x06, 1, .bool, .ro, .none, 0, .span 0 1⟩,
  ⟨0x5440, 1, 0x07, 1, .u8, .ro, .none, 0, .span 0 4⟩,
  ⟨0x5440, 1, 0x08, 1, .u8, .wo, .now, 0, .oneOf [1]⟩,
  ⟨0x5440, 1, 0x09, 1, .u32, .ro, .none, 0, .full⟩,
  ⟨0x5440, 1, 0x0A, 1, .u8, .ro, .none, 0, .span 0 17⟩,
  ⟨0x5440, 1, 0x0B, 1, .u8, .ro, .none, 0, .span 0 17⟩,
  ⟨0x5440, 1, 0x0C, 1, .pos, .ro, .none, 0, .full⟩,
  ⟨0x5440, 1, 0x0D, 1, .u64, .ro, .none, 0, .full⟩,
  ⟨0x5440, 1, 0x0E, 1, .u32, .ro, .none, 0, .full⟩,
  ⟨0x5440, 1, 0x0F, 1, .u32, .ro, .none, 0, .full⟩,
  ⟨0x5460, 16, 0x01, 1, .u64, .ro, .none, 0, .full⟩,
  ⟨0x5460, 16, 0x02, 1, .u8, .ro, .none, 0, .span 0 15⟩,
  ⟨0x5460, 16, 0x03, 1, .u32, .ro, .none, 0, .full⟩,
  ⟨0x5460, 16, 0x04, 1, .u64, .ro, .none, 0, .full⟩,
  ⟨0x5460, 16, 0x05, 1, .pos, .ro, .none, 0, .full⟩,
  ⟨0x5460, 16, 0x06, 1, .u32, .ro, .none, 0, .full⟩,
  ⟨0x5460, 16, 0x07, 1, .u8, .ro, .none, 0, .span 0 255⟩,
  ⟨0x5450, 1, 0x01, 1, .bool, .rw, .now, 0, .span 0 1⟩,
  ⟨0x5450, 1, 0x02, 1, .u8, .ro, .none, 0, .span 0 3⟩,
  ⟨0x5450, 1, 0x03, 1, .u32, .rw, .now, 500, .span 10 60000⟩,
  ⟨0x5450, 1, 0x04, 1, .u16, .rw, .now, 10, .span 1 1000⟩,
  ⟨0x5450, 1, 0x05, 1, .bool, .ro, .none, 1, .span 0 1⟩,
  ⟨0x5450, 1, 0x06, 1, .u32, .ro, .none, 0, .full⟩,
  ⟨0x5450, 1, 0x07, 1, .u32, .ro, .none, 0, .full⟩,
  ⟨0x5450, 1, 0x08, 1, .u32, .ro, .none, 0, .full⟩,
  ⟨0x5450, 1, 0x09, 1, .u32, .ro, .none, 0, .full⟩,
  ⟨0x5450, 1, 0x0A, 1, .u32, .ro, .none, 0, .full⟩,
  ⟨0x5450, 1, 0x0B, 1, .u16, .ro, .none, 800, .oneOf [800]⟩,
  ⟨0x5450, 1, 0x0C, 1, .u8, .wo, .now, 0, .oneOf [1]⟩]

/-- Objects of the two-wire ports chapter (R381). -/
def objRows12 : List ObjRow := [
  ⟨0x5800, 1, 0x01, 1, .u8, .ro, .none, 54, .span 54 57⟩,
  ⟨0x5800, 1, 0x02, 1, .u8, .rw, .now, 0, .span 0 1⟩,
  ⟨0x5800, 1, 0x03, 1, .bool, .rw, .now, 0, .span 0 1⟩,
  ⟨0x5800, 1, 0x04, 1, .u8, .ro, .none, 1, .span 0 2⟩,
  ⟨0x5800, 1, 0x05, 1, .u32, .ro, .none, 0, .full⟩,
  ⟨0x5800, 1, 0x06, 1, .u32, .ro, .none, 0, .full⟩,
  ⟨0x5800, 1, 0x07, 1, .u32, .ro, .none, 0, .full⟩,
  ⟨0x5800, 1, 0x08, 1, .u32, .ro, .none, 0, .full⟩,
  ⟨0x5800, 1, 0x09, 1, .u8, .ro, .none, 0, .span 0 14⟩,
  ⟨0x5800, 1, 0x0A, 1, .u32, .ro, .none, 0, .full⟩,
  ⟨0x5800, 1, 0x0B, 1, .u32, .ro, .none, 0, .full⟩,
  ⟨0x5810, 1, 0x00, 1, .blob, .rw, .now, 0, .lenEq 1024⟩,
  ⟨0x5840, 1, 0x01, 1, .bool, .rw, .now, 0, .span 0 1⟩,
  ⟨0x5840, 1, 0x02, 1, .u8, .rw, .now, 0, .span 0 2⟩,
  ⟨0x5840, 1, 0x03, 1, .u16, .ro, .none, 25, .oneOf [25]⟩,
  ⟨0x5840, 1, 0x04, 1, .u8, .rw, .now, 8, .span 0 255⟩,
  ⟨0x5840, 1, 0x05, 1, .u8, .ro, .none, 0, .span 0 5⟩,
  ⟨0x5840, 1, 0x06, 1, .u8, .wo, .now, 0, .oneOf [1]⟩,
  ⟨0x5840, 1, 0x07, 1, .u32, .ro, .none, 0, .full⟩,
  ⟨0x5840, 1, 0x08, 1, .u32, .ro, .none, 0, .full⟩,
  ⟨0x5840, 1, 0x09, 1, .u32, .ro, .none, 0, .full⟩,
  ⟨0x5840, 1, 0x0A, 1, .u8, .rw, .now, 2, .span 0 15⟩,
  ⟨0x5880, 16, 0x01, 1, .u8, .wo, .now, 0, .span 1 2⟩,
  ⟨0x5880, 16, 0x02, 1, .u8, .ro, .none, 0, .span 0 3⟩,
  ⟨0x5880, 16, 0x03, 1, .u8, .rw, .now, 80, .span 8 119⟩,
  ⟨0x5880, 16, 0x04, 1, .u8, .rw, .now, 0, .span 0 2⟩,
  ⟨0x5880, 16, 0x05, 1, .u8, .rw, .now, 0, .span 0 2⟩,
  ⟨0x5880, 16, 0x06, 1, .u32, .rw, .now, 1000, .span 1 3600000⟩,
  ⟨0x5880, 16, 0x07, 1, .blob, .rw, .now, 0, .lenMax 32⟩,
  ⟨0x5880, 16, 0x08, 1, .u8, .rw, .now, 0, .span 0 32⟩,
  ⟨0x5880, 16, 0x09, 1, .blob, .ro, .none, 0, .lenMax 32⟩,
  ⟨0x5880, 16, 0x0A, 1, .u8, .ro, .none, 0, .span 0 9⟩,
  ⟨0x5880, 16, 0x0B, 1, .u32, .ro, .none, 0, .full⟩,
  ⟨0x5880, 16, 0x0C, 1, .u32, .ro, .none, 0, .full⟩,
  ⟨0x5880, 16, 0x0D, 1, .u32, .ro, .none, 0, .full⟩,
  ⟨0x5880, 16, 0x0E, 1, .u64, .ro, .none, 0, .full⟩]

/-- Objects of the calibration and ageing chapter (R404), part 1. -/
def objRows13a : List ObjRow := [
  ⟨0x3200, 1, 0x01, 1, .u8, .wo, .now, 0, .oneOf [1]⟩,
  ⟨0x3200, 1, 0x02, 1, .bits32, .rw, .now, 2047, .bits 0x7ff⟩,
  ⟨0x3200, 1, 0x03, 1, .u8, .ro, .none, 0, .span 0 2⟩,
  ⟨0x3200, 1, 0x04, 1, .u32, .ro, .none, 0, .full⟩,
  ⟨0x3200, 1, 0x05, 1, .u8, .ro, .none, 0, .span 0 3⟩,
  ⟨0x3200, 1, 0x06, 1, .u8, .ro, .none, 0, .span 0 1⟩,
  ⟨0x3200, 1, 0x07, 1, .u8, .ro, .none, 0, .span 0 2⟩,
  ⟨0x3200, 1, 0x08, 1, .u16, .ro, .none, 0, .span 0 1024⟩,
  ⟨0x3200, 1, 0x09, 1, .u8, .ro, .none, 0, .span 0 2⟩,
  ⟨0x3200, 1, 0x0A, 1, .u32, .ro, .none, 0, .full⟩,
  ⟨0x3200, 1, 0x0B, 1, .u8, .ro, .none, 0, .span 0 100⟩,
  ⟨0x3200, 1, 0x0C, 1, .u32, .ro, .none, 3187996, .oneOf [3187996]⟩,
  ⟨0x3210, 7, 0x00, 1, .blob, .rw, .atSection, 0, .lenEq 49152⟩,
  ⟨0x3218, 6, 0x00, 1, .blob, .rw, .atSection, 0, .lenEq 768⟩,
  ⟨0x3220, 7, 0x00, 1, .blob, .rw, .atSection, 0, .lenEq 49152⟩,
  ⟨0x3228, 7, 0x00, 1, .blob, .rw, .atSection, 0, .lenEq 49152⟩,
  ⟨0x3230, 7, 0x00, 1, .blob, .rw, .atSection, 0, .lenMax 8192⟩,
  ⟨0x3240, 4, 0x00, 1, .blob, .rwi, .idle, 0, .lenEq 49152⟩,
  ⟨0x3244, 4, 0x00, 1, .blob, .rwi, .idle, 0, .lenEq 49152⟩,
  ⟨0x3250, 1, 0x00, 1, .blob, .ro, .none, 0, .lenEq 512⟩,
  ⟨0x3258, 1, 0x00, 1, .blob, .ro, .none, 0, .lenEq 1024⟩,
  ⟨0x3280, 1, 0x01, 1, .u8, .wo, .now, 0, .span 1 5⟩,
  ⟨0x3280, 1, 0x02, 1, .bits32, .rw, .now, 1, .bits 0x1f⟩,
  ⟨0x3280, 1, 0x03, 1, .u16, .rw, .now, 0, .span 0 24575⟩,
  ⟨0x3280, 1, 0x04, 1, .u16, .rw, .now, 24575, .span 0 24575⟩,
  ⟨0x3280, 1, 0x05, 1, .u8, .rw, .now, 0, .span 0 1⟩,
  ⟨0x3280, 1, 0x06, 1, .u32, .rw, .now, 1000000, .span 1000000 4294967295⟩,
  ⟨0x3280, 1, 0x07, 1, .u32, .rw, .now, 65536, .span 16384 4294967295⟩,
  ⟨0x3280, 1, 0x08, 1, .q16, .rw, .now, 655, .span 7 3276800⟩,
  ⟨0x3280, 1, 0x09, 1, .u16, .rw, .now, 10, .span 1 10⟩,
  ⟨0x3280, 1, 0x0A, 1, .q16, .rw, .now, 52429, .span 52429 65536⟩,
  ⟨0x3280, 1, 0x0B, 1, .q16, .rw, .now, 81920, .span 65536 81920⟩,
  ⟨0x3280, 1, 0x0C, 1, .u16, .rw, .now, 30, .span 1 30⟩,
  ⟨0x3280, 1, 0x0D, 1, .u16, .rw, .now, 5, .span 1 30⟩,
  ⟨0x3280, 1, 0x0E, 1, .u32, .rw, .now, 400, .span 10 100000⟩,
  ⟨0x3280, 1, 0x0F, 1, .u32, .rw, .now, 20, .span 1 10000⟩,
  ⟨0x3280, 1, 0x10, 1, .u32, .rw, .now, 2000, .span 50 1000000⟩,
  ⟨0x3280, 1, 0x11, 1, .u16, .rw, .now, 100, .span 1 1000⟩,
  ⟨0x3280, 1, 0x12, 1, .u8, .ro, .none, 0, .span 0 4⟩,
  ⟨0x3280, 1, 0x13, 1, .u8, .ro, .none, 0, .span 0 13⟩,
  ⟨0x3280, 1, 0x14, 1, .u8, .ro, .none, 255, .oneOf [10, 11, 12, 13, 16, 255]⟩,
  ⟨0x3280, 1, 0x15, 1, .u16, .ro, .none, 0, .span 0 24575⟩,
  ⟨0x3280, 1, 0x16, 1, .i16, .ro, .none, 0, .full⟩,
  ⟨0x3280, 1, 0x17, 1, .u16, .ro, .none, 0, .span 0 1000⟩,
  ⟨0x3280, 1, 0x18, 1, .bool, .rw, .now, 0, .span 0 1⟩,
  ⟨0x3280, 1, 0x19, 1, .u64, .ro, .none, 0, .full⟩,
  ⟨0x3280, 1, 0x1A, 1, .u32, .ro, .none, 0, .full⟩,
  ⟨0x3290, 1, 0x00, 1, .blob, .ro, .none, 0, .lenMax 16384⟩,
  ⟨0x3300, 96, 0x00, 1, .blob, .ro, .none, 0, .lenEq 17152⟩,
  ⟨0x7000, 1, 0x01, 1, .u32, .ro, .none, 0, .full⟩,
  ⟨0x7000, 1, 0x02, 1, .u32, .ro, .none, 0, .full⟩,
  ⟨0x7000, 1, 0x03, 1, .u16, .ro, .none, 0, .span 0 256⟩,
  ⟨0x7000, 1, 0x04, 1, .u16, .ro, .none, 0, .span 0 256⟩,
  ⟨0x7000, 1, 0x05, 1, .u32, .ro, .none, 0, .full⟩,
  ⟨0x7000, 1, 0x06, 1, .u16, .ro, .none, 500, .oneOf [500]⟩,
  ⟨0x7000, 1, 0x07, 1, .u8, .wo, .now, 0, .oneOf [1]⟩,
  ⟨0x7000, 1, 0x08, 1, .u8, .ro, .none, 0, .span 0 2⟩,
  ⟨0x7000, 1, 0x09, 1, .u32, .ro, .none, 0, .full⟩,
  ⟨0x7000, 1, 0x0A, 1, .u8, .rw, .now, 0, .span 0 1⟩,
  ⟨0x7000, 1, 0x0B, 1, .u16, .rw, .now, 300, .span 200 1000⟩]

/-- Objects of the calibration and ageing chapter (R404), part 2. -/
def objRows13b : List ObjRow := [
  ⟨0x7010, 24, 0x01, 1, .u32, .ro, .none, 0, .full⟩,
  ⟨0x7010, 24, 0x02, 1, .u32, .ro, .none, 0, .full⟩,
  ⟨0x7010, 24, 0x03, 1, .i16, .ro, .none, 0, .full⟩,
  ⟨0x7010, 24, 0x04, 1, .i16, .ro, .none, 0, .full⟩,
  ⟨0x7010, 24, 0x05, 1, .u8, .ro, .none, 0, .span 0 10⟩,
  ⟨0x7010, 24, 0x06, 1, .u16, .ro, .none, 800, .span 400 900⟩,
  ⟨0x7010, 24, 0x07, 1, .u8, .ro, .none, 0, .span 0 10⟩,
  ⟨0x7010, 24, 0x08, 1, .u16, .ro, .none, 800, .span 400 900⟩,
  ⟨0x7030, 1, 0x01, 4, .q16, .ro, .none, 0, .full⟩,
  ⟨0x7030, 1, 0x05, 1, .u16, .ro, .none, 500, .span 24 10000⟩,
  ⟨0x7038, 1, 0x01, 1, .u32, .ro, .none, 0, .full⟩,
  ⟨0x7038, 1, 0x02, 1, .u16, .ro, .none, 0, .span 0 24576⟩,
  ⟨0x7038, 1, 0x03, 1, .u16, .ro, .none, 0, .span 0 28672⟩,
  ⟨0x7038, 1, 0x04, 1, .u32, .ro, .none, 0, .full⟩,
  ⟨0x7038, 1, 0x05, 1, .blob, .ro, .none, 0, .lenMax 16384⟩,
  ⟨0x7040, 1, 0x01, 1, .u16, .ro, .none, 0, .full⟩,
  ⟨0x7040, 1, 0x02, 1, .u16, .ro, .none, 0, .full⟩,
  ⟨0x7040, 1, 0x03, 1, .u8, .ro, .none, 0, .span 0 5⟩,
  ⟨0x7040, 1, 0x04, 1, .u8, .ro, .none, 5, .span 1 5⟩,
  ⟨0x7048, 1, 0x01, 32, .i16, .ro, .none, 0, .full⟩,
  ⟨0x7050, 1, 0x01, 1, .u8, .ro, .none, 0, .span 0 23⟩,
  ⟨0x7050, 1, 0x02, 1, .u32, .ro, .none, 4294967295, .full⟩,
  ⟨0x7050, 1, 0x03, 1, .u32, .ro, .none, 4294967295, .full⟩,
  ⟨0x7050, 1, 0x04, 1, .u32, .ro, .none, 4294967295, .full⟩,
  ⟨0x7050, 1, 0x05, 1, .u32, .ro, .none, 219000, .span 0 219000⟩,
  ⟨0x7050, 1, 0x06, 1, .u8, .ro, .none, 0, .span 0 2⟩,
  ⟨0x7050, 1, 0x07, 1, .bits32, .ro, .none, 0, .full⟩]

/-- Objects of the calibration and ageing chapter (R404). -/
def objRows13 : List ObjRow := objRows13a ++ objRows13b

/-- Objects of the thermal and monitor ADC chapter (R425). -/
def objRows14 : List ObjRow := [
  ⟨0x6000, 1, 0x01, 1, .u8, .rw, .now, 128, .span 90 140⟩,
  ⟨0x6000, 1, 0x02, 1, .u8, .rw, .now, 3, .span 1 20⟩,
  ⟨0x6000, 1, 0x03, 1, .u8, .rw, .now, 134, .span 100 145⟩,
  ⟨0x6000, 1, 0x04, 1, .u8, .rw, .now, 4, .span 1 20⟩,
  ⟨0x6000, 1, 0x05, 1, .u8, .rw, .now, 145, .span 120 150⟩,
  ⟨0x6000, 1, 0x06, 1, .u8, .rw, .now, 10, .span 1 20⟩,
  ⟨0x6000, 1, 0x07, 1, .u16, .ro, .none, 200, .oneOf [200]⟩,
  ⟨0x6000, 1, 0x08, 1, .u16, .ro, .none, 2200, .oneOf [2200]⟩,
  ⟨0x6008, 1, 0x01, 1, .i16, .ro, .none, 0, .span (-3520) 11200⟩,
  ⟨0x6008, 1, 0x02, 1, .u8, .ro, .none, 0, .span 0 31⟩,
  ⟨0x6008, 1, 0x03, 1, .bits32, .ro, .none, 0, .bits 0xf⟩,
  ⟨0x6008, 1, 0x04, 1, .u8, .ro, .none, 0, .span 0 3⟩,
  ⟨0x6008, 1, 0x05, 1, .u8, .ro, .none, 32, .span 0 32⟩,
  ⟨0x6008, 1, 0x06, 1, .bits32, .ro, .none, 0, .full⟩,
  ⟨0x6008, 1, 0x07, 1, .bits32, .ro, .none, 0, .full⟩,
  ⟨0x6008, 1, 0x08, 1, .u16, .ro, .none, 800, .span 400 900⟩,
  ⟨0x6008, 1, 0x09, 1, .u32, .ro, .none, 0, .full⟩,
  ⟨0x6008, 1, 0x0A, 1, .u32, .ro, .none, 0, .full⟩,
  ⟨0x6008, 1, 0x0B, 1, .u8, .wo, .now, 0, .oneOf [1]⟩,
  ⟨0x6008, 1, 0x0C, 1, .u32, .ro, .none, 0, .full⟩,
  ⟨0x6008, 1, 0x0D, 1, .u8, .ro, .none, 0, .span 0 2⟩,
  ⟨0x6008, 1, 0x0E, 1, .bits32, .wo, .now, 0, .full⟩,
  ⟨0x6020, 32, 0x01, 1, .i16, .ro, .none, 0, .span (-3520) 11200⟩,
  ⟨0x6020, 32, 0x02, 1, .u32, .ro, .none, 0, .full⟩,
  ⟨0x6020, 32, 0x03, 1, .u8, .ro, .none, 0, .span 0 1⟩,
  ⟨0x6020, 32, 0x04, 1, .u8, .ro, .none, 0, .span 0 3⟩,
  ⟨0x6020, 32, 0x05, 1, .i16, .ro, .none, 0, .full⟩,
  ⟨0x6020, 32, 0x06, 1, .i16, .ro, .none, 0, .full⟩,
  ⟨0x6020, 32, 0x07, 1, .i16, .ro, .none, 0, .full⟩,
  ⟨0x6400, 1, 0x01, 1, .u8, .ro, .none, 0, .span 0 5⟩,
  ⟨0x6400, 1, 0x02, 1, .u8, .wo, .now, 0, .span 1 3⟩,
  ⟨0x6400, 1, 0x03, 1, .u32, .ro, .none, 0, .full⟩,
  ⟨0x6400, 1, 0x04, 1, .u32, .ro, .none, 438, .span 6 8256⟩,
  ⟨0x6400, 1, 0x05, 1, .u8, .ro, .none, 0, .span 0 2⟩,
  ⟨0x6400, 1, 0x06, 1, .u64, .ro, .none, 0, .full⟩,
  ⟨0x6410, 26, 0x01, 1, .u8, .rw, .now, 255, .alt 0 23 255⟩,
  ⟨0x6410, 26, 0x02, 1, .u8, .rw, .now, 1, .span 0 2⟩,
  ⟨0x6410, 26, 0x03, 1, .u16, .rw, .now, 16, .span 1 256⟩,
  ⟨0x642A, 6, 0x01, 1, .u8, .ro, .none, 0, .alt 0 23 255⟩,
  ⟨0x642A, 6, 0x02, 1, .u8, .ro, .none, 1, .span 0 2⟩,
  ⟨0x642A, 6, 0x03, 1, .u16, .ro, .none, 4, .span 1 256⟩,
  ⟨0x6440, 32, 0x01, 1, .u16, .ro, .none, 0, .full⟩,
  ⟨0x6440, 32, 0x02, 1, .u16, .ro, .none, 0, .full⟩,
  ⟨0x6440, 32, 0x03, 1, .i32, .ro, .none, 0, .full⟩,
  ⟨0x6440, 32, 0x04, 1, .u32, .ro, .none, 0, .full⟩,
  ⟨0x6460, 1, 0x00, 1, .blob, .ro, .none, 0, .lenEq 384⟩,
  ⟨0x6480, 24, 0x01, 1, .i32, .rw, .now, (-2147483648), .full⟩,
  ⟨0x6480, 24, 0x02, 1, .i32, .rw, .now, 2147483647, .full⟩,
  ⟨0x6480, 24, 0x03, 1, .i32, .rw, .now, 0, .span 0 2147483647⟩,
  ⟨0x6480, 24, 0x04, 1, .bool, .rw, .now, 0, .span 0 1⟩,
  ⟨0x6480, 24, 0x05, 1, .u8, .ro, .none, 0, .span 0 2⟩,
  ⟨0x6480, 24, 0x06, 1, .bits32, .ro, .none, 0, .bits 0x3⟩,
  ⟨0x6480, 24, 0x07, 1, .bits32, .wo, .now, 0, .bits 0x3⟩]

/-- Objects of the power chapter (R446). -/
def objRows15 : List ObjRow := [
  ⟨0x1400, 1, 0x01, 1, .bits64, .ro, .none, 0, .full⟩,
  ⟨0x1400, 1, 0x02, 1, .bits32, .ro, .none, 4096, .bits 0xffff⟩,
  ⟨0x1400, 1, 0x03, 1, .bits64, .ro, .none, 0, .full⟩,
  ⟨0x1400, 1, 0x04, 1, .bits32, .ro, .none, 0, .bits 0xffff⟩,
  ⟨0x1400, 1, 0x05, 1, .u8, .wo, .now, 0, .oneOf [1]⟩,
  ⟨0x1400, 1, 0x06, 1, .u32, .ro, .none, 0, .full⟩,
  ⟨0x1410, 80, 0x01, 1, .u8, .rw, .now, 0, .span 0 1⟩,
  ⟨0x1410, 80, 0x02, 1, .u8, .ro, .none, 0, .span 0 6⟩,
  ⟨0x1410, 80, 0x03, 1, .bits32, .ro, .none, 0, .bits 0xf⟩,
  ⟨0x1410, 80, 0x04, 1, .u32, .ro, .none, 0, .full⟩,
  ⟨0x1410, 80, 0x05, 1, .u32, .ro, .none, 0, .full⟩,
  ⟨0x1480, 1, 0x01, 1, .bits32, .ro, .none, 511, .bits 0x1ff⟩,
  ⟨0x1480, 1, 0x02, 1, .bits32, .ro, .none, 0, .bits 0x1ff⟩,
  ⟨0x1480, 1, 0x03, 1, .bits32, .wo, .now, 0, .bits 0x1ff⟩,
  ⟨0x1500, 1, 0x01, 1, .u8, .rwi, .idle, 0, .span 0 2⟩,
  ⟨0x1500, 1, 0x02, 1, .bool, .rw, .now, 0, .span 0 1⟩,
  ⟨0x1500, 1, 0x03, 1, .u16, .rw, .now, 500, .span 100 2000⟩,
  ⟨0x1500, 1, 0x04, 1, .u16, .rw, .now, 4600, .span 2500 5500⟩,
  ⟨0x1500, 1, 0x05, 1, .u16, .rw, .now, 4200, .span 4100 4350⟩,
  ⟨0x1500, 1, 0x06, 1, .u16, .rw, .now, 150, .span 50 500⟩,
  ⟨0x1500, 1, 0x07, 1, .u8, .rw, .now, 8, .span 1 16⟩,
  ⟨0x1500, 1, 0x08, 1, .u16, .rw, .now, 3000, .span 1000 5500⟩,
  ⟨0x1500, 1, 0x09, 1, .u16, .rwi, .idle, 50, .span 10 1000⟩,
  ⟨0x1500, 1, 0x0A, 1, .u32, .rwi, .idle, 10000, .span 1000 1000000⟩,
  ⟨0x1500, 1, 0x0B, 1, .u16, .rwi, .idle, 3435, .span 2000 6000⟩,
  ⟨0x1500, 1, 0x0C, 1, .u32, .rwi, .idle, 10000, .span 1000 1000000⟩,
  ⟨0x1500, 1, 0x0D, 1, .u16, .rw, .now, 2100, .span 1000 4000⟩,
  ⟨0x1510, 1, 0x01, 1, .u8, .ro, .none, 0, .span 0 7⟩,
  ⟨0x1510, 1, 0x02, 1, .u16, .ro, .none, 0, .span 0 5500⟩,
  ⟨0x1510, 1, 0x03, 1, .i16, .ro, .none, 0, .full⟩,
  ⟨0x1510, 1, 0x04, 1, .i16, .ro, .none, 0, .full⟩,
  ⟨0x1510, 1, 0x05, 1, .u8, .ro, .none, 0, .span 0 4⟩,
  ⟨0x1510, 1, 0x06, 1, .bits32, .ro, .none, 0, .bits 0x7⟩,
  ⟨0x1510, 1, 0x07, 1, .u32, .ro, .none, 0, .full⟩,
  ⟨0x1510, 1, 0x08, 1, .bits32, .ro, .none, 0, .bits 0x1f⟩,
  ⟨0x1510, 1, 0x09, 1, .u8, .ro, .none, 0, .span 0 2⟩,
  ⟨0x1510, 1, 0x0A, 1, .u8, .wo, .now, 0, .oneOf [1]⟩,
  ⟨0x1520, 1, 0x01, 1, .u16, .rw, .now, 3000, .span 500 5000⟩,
  ⟨0x1520, 1, 0x02, 1, .u16, .rw, .now, 3300, .span 500 5000⟩,
  ⟨0x1520, 1, 0x03, 1, .u16, .rw, .now, 3500, .span 500 5000⟩,
  ⟨0x1520, 1, 0x04, 1, .u16, .rw, .now, 50, .span 50 10000⟩,
  ⟨0x1520, 1, 0x05, 1, .u8, .ro, .none, 0, .span 0 4⟩,
  ⟨0x1520, 1, 0x06, 1, .u32, .ro, .none, 0, .full⟩,
  ⟨0x1520, 1, 0x07, 1, .u64, .ro, .none, 0, .full⟩,
  ⟨0x1520, 1, 0x08, 1, .u32, .ro, .none, 0, .full⟩,
  ⟨0x1520, 1, 0x09, 1, .u8, .ro, .none, 0, .span 0 2⟩,
  ⟨0x1520, 1, 0x0A, 1, .u8, .ro, .none, 0, .span 0 2⟩,
  ⟨0x1520, 1, 0x0B, 1, .u8, .ro, .none, 0, .span 0 2⟩,
  ⟨0x1520, 1, 0x0C, 1, .bool, .rw, .now, 0, .span 0 1⟩,
  ⟨0x1520, 1, 0x0D, 1, .u32, .rw, .now, 0, .span 0 1000000⟩,
  ⟨0x1540, 1, 0x00, 1, .blob, .ro, .none, 0, .lenEq 2048⟩]

/-- Objects of the OTP, boot and debug chapter (R474). -/
def objRows16 : List ObjRow := [
  ⟨0x6800, 1, 0x01, 8, .u8, .ro, .none, 0, .span 0 3⟩,
  ⟨0x6800, 1, 0x09, 1, .u16, .ro, .none, 0, .span 0 64⟩,
  ⟨0x6800, 1, 0x0A, 1, .u32, .ro, .none, 0, .full⟩,
  ⟨0x6800, 1, 0x0B, 1, .u16, .ro, .none, 0, .span 0 16384⟩,
  ⟨0x6800, 1, 0x0C, 1, .bits32, .rws, .now, 0, .bits 0xff⟩,
  ⟨0x6800, 1, 0x0D, 1, .u8, .ro, .none, 0, .span 0 1⟩,
  ⟨0x6808, 1, 0x01, 1, .u16, .rw, .now, 0, .span 0 511⟩,
  ⟨0x6808, 1, 0x02, 1, .u8, .rw, .now, 0, .span 0 2⟩,
  ⟨0x6808, 1, 0x03, 1, .u8, .wo, .now, 0, .oneOf [1]⟩,
  ⟨0x6808, 1, 0x04, 1, .u32, .ro, .none, 0, .full⟩,
  ⟨0x6810, 1, 0x01, 1, .u16, .ro, .none, 0, .span 0 256⟩,
  ⟨0x6810, 1, 0x02, 1, .u16, .ro, .none, 0, .span 0 256⟩,
  ⟨0x6810, 1, 0x03, 1, .u8, .wo, .now, 0, .oneOf [1]⟩,
  ⟨0x6810, 1, 0x04, 1, .u8, .ro, .none, 0, .span 0 7⟩,
  ⟨0x6810, 1, 0x05, 1, .u8, .ro, .none, 0, .oneOf [0, 1, 255]⟩,
  ⟨0x6810, 1, 0x06, 1, .u32, .ro, .none, 0, .full⟩,
  ⟨0x6810, 1, 0x07, 1, .u8, .ro, .none, 0, .span 0 7⟩,
  ⟨0x6810, 1, 0x08, 1, .u8, .ro, .none, 0, .span 0 3⟩,
  ⟨0x6818, 1, 0x01, 1, .u16, .ro, .none, 1000, .oneOf [1000]⟩,
  ⟨0x6818, 1, 0x02, 1, .u32, .ro, .none, 0, .full⟩,
  ⟨0x6820, 1, 0x01, 1, .u8, .ro, .none, 0, .span 0 2⟩,
  ⟨0x6820, 1, 0x02, 1, .u16, .ro, .none, 0, .span 0 256⟩,
  ⟨0x6820, 1, 0x03, 1, .bits32, .ro, .none, 0, .bits 0xf⟩,
  ⟨0x6820, 1, 0x04, 1, .u8, .wo, .now, 0, .oneOf [1]⟩,
  ⟨0x6820, 1, 0x05, 1, .u32, .ro, .none, 0, .full⟩,
  ⟨0x6820, 1, 0x06, 1, .u8, .ro, .none, 0, .span 0 64⟩,
  ⟨0x6830, 1, 0x01, 1, .u8, .rw, .now, 0, .span 0 61⟩,
  ⟨0x6830, 1, 0x02, 1, .u32, .rw, .now, 0, .full⟩,
  ⟨0x6830, 1, 0x03, 1, .u8, .wo, .now, 0, .span 1 3⟩,
  ⟨0x6830, 1, 0x04, 1, .u8, .ro, .none, 0, .span 0 6⟩,
  ⟨0x6830, 1, 0x05, 1, .blob, .ro, .none, 0, .lenEq 248⟩,
  ⟨0x6840, 1, 0x01, 1, .u32, .rw, .now, 0, .multOf 0 4194048 256⟩,
  ⟨0x6840, 1, 0x02, 1, .blob, .wo, .now, 0, .lenMax 65536⟩,
  ⟨0x6840, 1, 0x03, 1, .u8, .wo, .now, 0, .span 1 2⟩,
  ⟨0x6840, 1, 0x04, 1, .u8, .ro, .none, 0, .span 0 3⟩,
  ⟨0x6840, 1, 0x05, 1, .u8, .ro, .none, 255, .alt 0 7 255⟩,
  ⟨0x6840, 1, 0x06, 1, .u8, .ro, .now, 0, .span 0 1⟩]

/-- The defaults that differ from those of LNV-24T4, by variant code (R8): index, how many indices, sub-index, value. -/
def variantDefaults : Nat → List (Nat × Nat × Nat × Int)
  | 2 => [(0x1010, 1, 1, 2), (0x1010, 1, 7, 0), (0x1010, 1, 8, 0), (0x1010, 1, 9, 0), (0x1010, 1, 10, 0), (0x1010, 1, 12, 96), (0x1010, 1, 13, 15), (0x2C00, 1, 5, 11796480)]
  | 3 => [(0x1010, 1, 1, 3), (0x1010, 1, 11, 0), (0x1010, 1, 12, 0), (0x1010, 1, 13, 0), (0x1010, 1, 15, 0)]
  | 4 => [(0x1010, 1, 1, 4), (0x1010, 1, 2, 4), (0x1010, 1, 3, 16), (0x1010, 1, 4, 16384), (0x1010, 1, 12, 128), (0x1010, 1, 14, 65535), (0x2410, 4, 7, 15), (0x2414, 1, 6, 15), (0x2418, 1, 4, 15), (0x2C00, 1, 5, 15728640), (0x3810, 8, 5, 16383), (0x3280, 1, 4, 16383), (0x6008, 1, 5, 22)]
  | _ => []

end Sys2Proof.Machine
end

