-- ==== Sys2Proof/Machine/State.lean ====
section
/-!
DEFINITION. The state of the block: every register, table, queue and mode the spec gives it, as plain data, and
the state right after a cold reset. A field's docstring gives in brackets the rule that names it, its width and
its value in State.reset. The dictionary's own objects (R300) are held in `objs` and `blobs`; their widths,
defaults and ranges are the rows of Machine/ObjTable.lean.
-/
namespace Sys2Proof.Machine

/-- A block in this model never stops with a fault: every command the spec describes goes on. Raised by nobody;
kept because the host asks for a type of faults. -/
inductive Fault where
  /-- Raised by no command. Safe: a stop where the hardware goes on would only make claims unprovable. -/
  | none
  deriving DecidableEq, Repr

/-- Why a command is refused by the model. -/
inductive Refusal where
  /-- Raised by Dispatch for a command whose meaning has not been written. Safe: the model stops. -/
  | notModelled (mnemonic : String)
  deriving DecidableEq, Repr

/-! ### Shared records -/

/-- One entry of the event log (R272, R325). -/
structure LogEntry where
  seq : Nat
  code : Nat
  seg : Nat
  elem : Nat
  line : Nat
  section_ : Nat
  data : Nat
  deriving DecidableEq, Repr

/-- A response of the dictionary to one request of a port (R265, R307). -/
structure Resp where
  port : Nat
  status : Nat
  txn : Nat
  arg : Nat
  data : List Nat
  deriving DecidableEq, Repr

/-- What the device sends to its surroundings: host memory, the links and buses, the TAP. The model's own
record of it, oldest first; no rule reads it back. -/
inductive Out where
  /-- A posted write to host memory: what it is (0 a ring's records, 2 completion entries, 3 event entries, 4 the write-back area, 5
  records of the Reach, 7 a footer), whether Relaxed Ordering is set, its ring, its address, its bytes (R263). -/
  | hostWrite (kind : Nat) (relaxed : Bool) (ring addr : Nat) (bytes : List Nat)
  /-- An MSI-X message (R266). -/
  | msix (vector : Nat)
  /-- A read of host memory is requested: descriptors, page list or page index. -/
  | hostRead (kind ring addr len : Nat)
  /-- A frame on the field network (R332). -/
  | frame (kind : Nat) (dest : Nat) (bytes : List Nat)
  /-- Bytes the two-wire target port answers with (R362). -/
  | twt (bytes : List Nat)
  /-- A transaction of the two-wire controller port (R374). -/
  | twc (addr : Nat) (wr : List Nat) (rd : Nat)
  /-- Bits shifted out of the TAP (R469). -/
  | tdo (value : Nat)
  /-- A completion of a configuration or memory read on PCIe. -/
  | completion (value : Nat)
  /-- Configuration Request Retry Status (R260). -/
  | configRetry
  /-- L1 entry is requested (R262). -/
  | l1Request
  /-- A latency tolerance in µs, 0 for no requirement (R262). -/
  | ltr (us : Nat)
  deriving DecidableEq, Repr

/-! ### Position keeping -/

/-- An open decoder step (R21): its opening stamp, the levels before it, the edges it holds. -/
structure EncStep where
  t : Nat
  a : Bool
  b : Bool
  nA : Nat
  nB : Nat
  deriving DecidableEq, Repr

/-- One encoder input behind its glitch filters. -/
structure Encoder where
  /-- [R19 | 1 bit | false] filtered level of channel A -/
  a : Bool
  /-- [R19 | 1 bit | false] filtered level of channel B -/
  b : Bool
  /-- [R19 | 1 bit | false] filtered level of channel Z -/
  z : Bool
  /-- [R21 | one step | none] the decoder step in progress -/
  step : Option EncStep
  /-- [R25 | 64-bit tick | none] stamp of the last counted edge -/
  lastT : Option Nat
  /-- [R57 | 64-bit count | 0] raw count at the last section boundary -/
  mark : Int
  /-- [R22 | 3 bits | 0] channels whose receiver has declared loss: bit 0 A, 1 B, 2 Z -/
  lost : Nat
  deriving DecidableEq, Repr

/-- One phase of a phase plan (R69). -/
structure Phase where
  field : Nat
  len : Nat
  /-- Strobe number, delay and width of each strobe in the mask. -/
  strobes : List (Nat × Nat × Nat)
  deriving DecidableEq, Repr

/-- One source's part of a line (R165). -/
structure SrcLine where
  src : Nat
  stages : Nat
  fs : Nat
  pos : Int
  flags : Nat
  segA : Nat
  segB : Nat
  /-- Conversion slots still to end. -/
  slots : Nat
  /-- Segments that have not passed the line through stage 8. -/
  segs : List Nat
  /-- Segments whose row driver of this array was latched when the line was accepted (R90). -/
  rowFail : List Nat
  deriving DecidableEq, Repr

/-- A triggered line with its sources (R32, R51). -/
structure LineRec where
  line : Nat
  sect : Nat
  epoch : Nat
  grid : Int
  start : Nat
  /-- Line period that ended at this line's start, limited to 1 ms (R149). -/
  tline : Nat
  rev : Bool
  skipped : Bool
  run : Nat
  /-- Slip offset in force in the line's section (R125). -/
  off : Int
  srcs : List SrcLine
  deriving DecidableEq, Repr

/-- A trigger waiting in the queue of R50. -/
structure QTrig where
  line : Nat
  grid : Int
  t : Nat
  /-- Queued behind a flush transfer (R52). -/
  flush : Bool
  /-- The line with the settings in force at its trigger. -/
  held : LineRec
  plan : List Phase
  /-- Length of its conversion sequence (R73, R97). -/
  len : Nat
  deriving DecidableEq, Repr

/-- Sheet mode (R47 to R49). -/
structure Sheet where
  /-- [R47 | 1 bit | false] a sheet runs -/
  running : Bool
  /-- [R47 | POS64 | 0] position of the sheet's first line -/
  first : Int
  /-- [R47 | 24-bit | 0] lines of the sheet still to be triggered -/
  left : Nat
  /-- [R47 | 1 bit | false] the first line has not been triggered yet -/
  fresh : Bool
  /-- [R49 | POS64 | none] start position of the queued sheet -/
  queued : Option Int
  /-- [R49 | 1 bit | false] a re-trigger has been reported in this sheet -/
  seen : Bool
  /-- [R49 | 2 bits | 0] re-trigger policy in force from the sheet's start -/
  policy : Nat
  deriving DecidableEq, Repr

/-- The scheduler's own entries of the event table (R37, R38). -/
structure SchedEntry where
  no : Nat
  pos : Int
  typ : Nat
  dir : Nat
  param : Nat
  tag : Nat
  deriving DecidableEq, Repr

/-- An armed user entry of the event table with the values it was armed with (R40). `ahead`: its position lay at or beyond
the present one, in rising positions, when it was armed. -/
structure Armed where
  no : Nat
  pos : Int
  typ : Nat
  dir : Nat
  param : Nat
  tag : Nat
  ahead : Bool
  deriving DecidableEq, Repr

/-- A piece of POS64 over time (R25, R26, R45): from tick `t` it moves from `base` by `num` 1/65,536 counts per
`den` ticks, at most `cap`, and stops moving `lim` ticks after `t`. -/
structure Snap where
  t : Nat
  base : Int
  num : Int
  den : Nat
  cap : Nat
  lim : Nat
  deriving DecidableEq, Repr

/-- Position keeper, line grid and run control. -/
structure PosState where
  /-- [R18 | see Encoder | disabled] ENC0 -/
  enc0 : Encoder
  /-- [R18 | see Encoder | disabled] ENC1 -/
  enc1 : Encoder
  /-- [R46 | 1 bit | false] filtered level of TRIG_IN -/
  trigIn : Bool
  /-- [R46 | 1 bit | false] filtered level of the EPOCH input -/
  epochIn : Bool
  /-- [R25 | POS64 | 0] value POS64 took at the last counted edge, preset or source change, in 1/65,536 count -/
  cnt : Int
  /-- [R25 | up to 16 intervals | none] edge intervals in the present direction, newest first -/
  ivals : List Nat
  /-- [R25 | 64-bit tick | none] stamp of the edge from which the next interval runs -/
  ivT : Option Nat
  /-- [R25 | 1 bit | false] the last counted edge was a reverse one -/
  edgeRev : Bool
  /-- [R25, R36 | pieces | one piece at 0] POS64 as a function of time: the present piece first, then those since the line start -/
  snaps : List Snap
  /-- [R31 | POS64 | 0] furthest position reached since the last direction change -/
  furthest : Int
  /-- [R30 | 96-bit | 0] grid anchor in 2^-32 count -/
  gridA : Int
  /-- [R30 | 64-bit | 0] index of the next grid point from the anchor -/
  gridJ : Int
  /-- [R34 | UQ32.32 | none] a pitch that takes over at the next grid point -/
  pendPitch : Option Nat
  /-- [R41 | 1 bit | false] a STOP_AT_SECTION awaits its boundary -/
  stopAt : Bool
  /-- [R50 | one trigger | none] the trigger queue -/
  trigQ : Option QTrig
  /-- [R50 | 64-bit tick | 0] end of the conversion sequence of the latest started line -/
  convEnd : Nat
  /-- [R53 | 64-bit tick | none] end of the flush transfer in progress -/
  flushEnd : Option Nat
  /-- [R53 | 64-bit tick | 0] tick of the next flush transfer of a stall -/
  nextFlush : Nat
  /-- [R53 | 1 bit | false] a stall is in force -/
  stalled : Bool
  /-- [R53 | 64-bit tick | 0] tick from which the stall time runs -/
  motionT : Nat
  /-- [R74 | 64-bit tick | none] actual start of the latest accepted line -/
  lastStart : Option Nat
  /-- [R55 | 64-bit | none] the last line triggered -/
  lastLine : Option Nat
  /-- [R41 | 1 bit | false] the next accepted line is the first of a run -/
  runFirst : Bool
  /-- [R54 | 1 bit | false] the next accepted line follows the flush transfers of a stall -/
  afterStall : Bool
  /-- [R55 | 1 bit | false] the next accepted line follows a reversal declaration -/
  afterRev : Bool
  /-- [R126 | 1 bit | false] the next accepted line is the first accepted one of a sheet -/
  afterSheet : Bool
  /-- [R32 | 1 bit | false] a line has been triggered since the epoch -/
  counted : Bool
  /-- [R47 | see Sheet | not running] the sheet in progress -/
  sheet : Sheet
  /-- [R58 | 1 bit | false] level of TRIG_OUT -/
  trigOut : Bool
  /-- [R58 | 64-bit tick | 0] end of the pulse on TRIG_OUT -/
  trigOutEnd : Nat
  /-- [R37 | 192 entries | empty] scheduler entries of the event table -/
  sched : List SchedEntry
  /-- [R40 | 64 entries | empty] the armed user entries -/
  armed : List Armed
  /-- [R19, R29 | stamps and directions | empty] counted edges of the position source whose stamps lie within the longest
  filter time: reverse or not, newest first -/
  recent : List (Nat × Bool)
  /-- [R29 | 64-bit tick | none] stamp of the edge or command that set the epoch -/
  epochT : Option Nat
  deriving DecidableEq, Repr

/-! ### Arrays and exposure -/

/-- The line whose plan is running (R68). -/
structure CurLine where
  line : Nat
  start : Nat
  plan : List Phase
  deriving DecidableEq, Repr

/-- A frame of array W with the settings it began with (R82 to R84). `start` is the tick at which its first row is read;
`next` counts the rows read. -/
structure WFrame where
  no : Nat
  start : Nat
  first : Nat
  rows : Nat
  next : Nat
  segA : Nat
  segB : Nat
  /-- Output full scale (R87). -/
  fs : Nat
  expo : Nat
  /-- W strobe mask (R84). -/
  mask : Nat
  isPartial : Bool
  deriving DecidableEq, Repr

/-- A run of lines that carry one flag: up to and including line `last` (R116, R117). -/
structure FlagRun where
  src : Nat
  bit : Nat
  last : Nat
  deriving DecidableEq, Repr

/-- Pixel arrays, strobes and array W. -/
structure ArrState where
  /-- [R68 | one line | none] the line whose phases are running -/
  cur : Option CurLine
  /-- [R70 | source code | none] the field whose integration gates are open -/
  gate : Option Nat
  /-- [R71 | 6 bits | 0] strobes that the phase plan drives active -/
  strobes : Nat
  /-- [R89 | 6 bits | 0] strobe outputs in high impedance -/
  hiZ : Nat
  /-- [R89 | 6 bits | 0] strobes re-enabled from the next accepted line -/
  reenable : Nat
  /-- [R82, R83 | two frames | empty] W frames exposed or being read, oldest first -/
  wFrames : List WFrame
  /-- [R83 | 64-bit tick | 0] start of the next W frame in FREE_RUN -/
  wNextT : Nat
  /-- [R83 | 32-bit | 0] number of the next W frame -/
  wNo : Nat
  /-- [R83 | 1 bit | false] a single frame waits for the end of the present one -/
  wPend : Bool
  /-- [R83 | 32-bit | 0] single-frame commands counted and not repeated -/
  wExtra : Nat
  /-- [R83 | 1 bit | false] the next W frame is the first since the switch to W -/
  wFirst : Bool
  /-- [R90 | 30 bits | 0] row drivers to be re-enabled at the next section boundary -/
  rowReen : Nat
  /-- [R116 | line number per run | none] PARTIAL, SETTLE, MIXED and HISTORY runs -/
  runs : List FlagRun
  deriving DecidableEq, Repr

/-! ### Column converters -/

/-- A column under shadow check (R110, R111). -/
structure Suspect where
  seg : Nat
  bank : Nat
  col : Nat
  count : Nat
  firstLine : Nat
  /-- The count has reached the limit: the column is suspect. -/
  marked : Bool
  deriving DecidableEq, Repr

/-- An unrepaired column (R112): active column, bank, cause, and the first line in which it counts as bad. -/
structure Unrep where
  col : Nat
  bank : Nat
  cause : Nat
  fromLine : Nat
  deriving DecidableEq, Repr

/-- Column converters. -/
structure ConvState where
  /-- [R101 | 4 bits | 0] masked banks still to be calibrated -/
  calLeft : List Nat
  /-- [R101 | 64-bit tick | 0] end of the bank calibration in progress -/
  calEnd : Nat
  /-- [R106 | 3 bits | 0] calibration state before a save -/
  calPrev : Int
  /-- [R105 | 1 bit | false] a repair was made in this calibration -/
  calRepaired : Bool
  /-- [R105 | 1 bit | false] a column became unrepaired in this calibration -/
  calUnrep : Bool
  /-- [R110 | per column | none] mismatch counts and suspect columns -/
  suspects : List Suspect
  /-- [R111 | per column | none] run-time repairs that start with the next accepted line: segment, bank, spare, column -/
  due : List (Nat × Nat × Nat × Nat)
  /-- [R110 | per segment and bank | none] pairs whose shadow check is suspended -/
  susp : List (Nat × Nat)
  /-- [R112 | U32 each | empty] the unrepaired list -/
  unrep : List Unrep
  /-- [R104, R111, R114 | per column and bank | empty] columns whose own converter has failed: column, bank -/
  failed : List (Nat × Nat)
  /-- [R100 | 64-bit per bank | 0] low-gain samples of the section in progress: bank, count -/
  lowGain : List (Nat × Nat)
  /-- [R95 | 1,024 words per slot | empty] raw capture buffer -/
  raw : List Nat
  /-- [R95 | 64-bit | none] the line being captured -/
  rawLine : Option Nat
  /-- [R107 | 1 bit | false] a save of the factors runs as a store of the calibration set -/
  saving : Bool
  deriving DecidableEq, Repr

/-! ### Group recombination and slip -/

/-- One group read of one field in one line (R120, R121): values by column as twice the value plus the
saturation mark; a column not listed reads zero. `tag`: 0 valid, 1 invalid, 2 substituted. -/
structure GroupRead where
  field : Nat
  line : Nat
  group : Nat
  tag : Nat
  vals : List (Nat × Nat)
  /-- Columns with an uncorrectable store error (R129). -/
  bad : List Nat
  deriving DecidableEq, Repr

/-- Correlation sums of one field, segment and lag (R130). -/
structure SlipSum where
  field : Nat
  seg : Nat
  lag : Nat
  c : Int
  x : Nat
  y : Nat
  deriving DecidableEq, Repr

/-- A closed section that awaits its slip estimate, with the settings that were in force in it (R131): its sums, the eligible
lines of each field, the tick by which the estimate is due, the fields it names with their stage counts, and what the results
are held against. -/
structure SlipClosed where
  sect : Nat
  sums : List SlipSum
  elig : List (Nat × Nat)
  due : Nat
  fields : List (Nat × Nat)
  minQ : Int
  minLines : Int
  deriving DecidableEq, Repr

/-- Recombination stores and slip estimator. -/
structure RecState where
  /-- [R120 | 120 entries of 16 bits per column and field | empty] the recombination stores -/
  reads : List GroupRead
  /-- [R126 | 64-bit per field | none] the latest refill point of each field: field, line -/
  refill : List (Nat × Nat)
  /-- [R126 | 64-bit per source | empty] refill points that begin with a line not yet started: source, line -/
  refillDue : List (Nat × Nat)
  /-- [R130 | 64-bit sums | empty] correlation sums of the section in progress -/
  sums : List SlipSum
  /-- [R130 | 32-bit per field | 0] eligible lines of the section in progress -/
  elig : List (Nat × Nat)
  /-- [R132 | see SlipClosed | none] the closed section awaiting its estimate -/
  closed : Option SlipClosed
  /-- [R134 | I16 by section | none] offsets scheduled for later sections -/
  pendOff : List (Nat × Int)
  /-- [R136 | I32 by section | none] trims scheduled for later sections -/
  pendTrim : List (Nat × Int)
  /-- [R136 | I32 by section | none] the trims of the latest sections -/
  trims : List (Nat × Int)
  /-- [R134 | 1 bit | false] the offset in force is the estimate of the section two before -/
  offFresh : Bool
  /-- [R132 | 1 bit | false] the latest section result was OUT_OF_RANGE -/
  wasOor : Bool
  /-- [R136 | 1 bit | false] the trim has been limited by its bound in this run -/
  atBound : Bool
  deriving DecidableEq, Repr

/-! ### Segment pipeline -/

/-- The codes of one source and line as they enter stage 2: twice the code plus the saturation mark; columns
not listed read zero (R143). Black columns are keyed 100,000 + i (west) and 200,000 + i (east). -/
structure LinePix where
  src : Nat
  line : Nat
  vals : List (Nat × Nat)
  /-- Columns bad for this line only (R129). -/
  bad : List Nat
  run : Nat
  flags : Nat
  fs : Nat
  stages : Nat
  rev : Bool
  tline : Nat
  /-- West and east level of dark tracking for this line, in 1/256 code (R150, R151). -/
  lev : Int × Int
  /-- Temperatures of the segments as the line entered stage 2, in 1/64 degC (R149). -/
  temps : List Int
  /-- The strip line whose settings govern: the line itself, or for a row of W the line triggered last. -/
  gov : Nat
  deriving DecidableEq, Repr

/-- Dark tracking of one source (R150 to R152). -/
structure DarkAcc where
  src : Nat
  /-- eligible lines of the section in progress -/
  lines : Nat
  sumW : Nat
  cntW : Nat
  sumE : Nat
  cntE : Nat
  /-- Per-line means are in use (R151). -/
  perLine : Bool
  /-- Full scale of the lines summed; 0 without one. -/
  fs : Nat
  /-- A section has begun at this line while a line before it was still converting: its level is yet to be formed. -/
  due : Option Nat
  deriving DecidableEq, Repr

/-- Statistics of one source in the section in progress (R168, R169). -/
structure StatAcc where
  src : Nat
  /-- The segment whose partial statistics these are; 0xFF for what is counted by line. -/
  seg : Nat
  incl : Nat
  excl : Nat
  throttled : Nat
  sat : Nat
  hist : List (Nat × Nat)
  /-- Zone number times 4 plus plane, sum, count. -/
  zones : List (Nat × Nat × Nat)
  flagsSeen : Nat
  samples : Nat
  /-- Columns replaced by defect correction. -/
  corrected : List Nat
  satShade : Nat
  /-- Lines carrying THROTTLED of which this is the kernel's primary source. -/
  thrAll : Nat
  deriving DecidableEq, Repr

/-- A section whose statistics wait for the section's last line to leave stage 7 (R172). -/
structure StatSection where
  sect : Nat
  epoch : Nat
  firstLine : Nat
  firstPos : Int
  lastLine : Nat
  truncated : Bool
  accepted : Nat
  skipped : Nat
  acc : List StatAcc
  /-- Dark tracking state and levels at the section: source, state, T_W, T_E. -/
  dark : List (Nat × Int × Int × Int)
  /-- Exposure of each controlled source over the section, none when it changed within it. -/
  expo : List (Nat × Option Nat)
  /-- The statistics source mask of the section (R172). -/
  mask : Nat
  /-- Segments that were failed at any time of the section (R172). -/
  failed : Nat
  /-- Segments that have sent their partial statistics over the Millrace (R286). -/
  sent : Nat
  /-- Segments whose partial statistics have reached the merger (R168). -/
  merged : Nat
  deriving DecidableEq, Repr

/-- Exposure or white-balance control of one source (R174 to R177). -/
structure CtlState where
  src : Nat
  /-- The exposure last applied by the control, in units of w x S x 288,000 / FS (floor). -/
  last : Option Nat
  pending : Bool
  satRun : Bool
  deriving DecidableEq, Repr

/-- One segment's part of a line as it leaves stage 7: samples by column, one plane, or three for M. `pad` marks a part
whose columns carry the pad value in records; `west` and `east` say that its neighbour's columns came over exchange 3 (R146). -/
structure SegOut where
  src : Nat
  line : Nat
  seg : Nat
  vals : List Nat
  pad : Bool
  west : Bool
  east : Bool
  deriving DecidableEq, Repr

/-- Settings that a section boundary replaced: they govern the lines below `upto`. A value `none` stands for the default. -/
structure Past where
  upto : Nat
  objs : List (Nat × Option Int)
  blobs : List (Nat × Option (List Nat))
  deriving DecidableEq, Repr

/-- Segment pipeline, statistics and exposure control. -/
structure PipeState where
  /-- [R304, R315 | settings by line | empty] settings replaced at the latest boundaries, newest first: lines triggered before
  a boundary are processed with what was in force for them -/
  past : List Past
  /-- [R142 | lines | empty] lines triggered and not yet out of every segment -/
  lines : List LineRec
  /-- [R142 | lines of 16-bit codes | empty] codes held for correction and look-ahead -/
  pix : List LinePix
  /-- [R188 | source, last line arrived | empty] stalls and ends of a run: later lines are unavailable to windows open then -/
  cuts : List (Nat × Nat)
  /-- [R145 | 32-bit | 0] number of the present run -/
  run : Nat
  /-- [R150 | per source | empty] dark-tracking sums -/
  dark : List DarkAcc
  /-- [R148 | 5-bit per link | 0] consecutive erroneous transfers of each side link -/
  linkErr : List (Nat × Nat)
  /-- [R148 | per segment, source and line | empty] exchange points at which a halo arrived in error -/
  haloErrs : List (Nat × Nat × Nat × List HaloErr)
  /-- [R169 | per source | empty] statistics of the section in progress -/
  stats : List StatAcc
  /-- [R170 | one section | none] identity of the section in progress -/
  cur : Option StatSection
  /-- [R172 | sections | empty] sections closed and awaiting their records -/
  closing : List StatSection
  /-- [R174 | per source | none] exposure and white-balance control -/
  ctl : List CtlState
  /-- [R160 | 1,024 columns per segment and line | empty] lines of a segment as they leave stage 7, until every stream has taken them -/
  outs : List SegOut
  deriving DecidableEq, Repr

/-! ### Dictionary and transactions -/

/-- The transaction of one port (R309, R317). -/
structure Txn where
  /-- staged values, by key, as the bytes written -/
  staged : List (Nat × List Nat)
  /-- tick of the latest request that named the transaction -/
  last : Nat
  /-- serial of the latest commit when the transaction began -/
  since : Nat
  /-- ids of transactions the device rolled back and has not reported (R318) -/
  rolled : List Nat
  deriving DecidableEq, Repr

/-- Who made an application: a host port, a device control, a calibration application, the startup profile. -/
inductive Origin where
  | port (p : Nat) | control | calib | profile
  deriving DecidableEq, Repr

/-- A commit pending application (R312). -/
structure Commit where
  epoch : Nat
  /-- apply section; none while its barrier is open -/
  at_ : Option Nat
  origin : Origin
  entries : List (Nat × List Nat)
  deriving DecidableEq, Repr

/-- A request of the dictionary (R265): operation code, key, LENGTH, TXN, ARG and data. The key is index x 256 +
sub-index. -/
structure DReq where
  op : Nat
  key : Nat
  len : Nat
  txn : Nat
  arg : Nat
  data : List Nat
  deriving DecidableEq, Repr

/-- A request that waits on a port, with the SEQ of its message on port 2. -/
structure Waiter where
  port : Nat
  seq : Nat
  req : DReq
  deriving DecidableEq, Repr

/-- Dictionary, transactions, event log. -/
structure DictState where
  /-- [R317 | per port | none] transactions of ports 0 to 3 -/
  txns : List Txn
  /-- [R309 | 32-bit | 1] next transaction id -/
  nextId : Nat
  /-- [R312 | up to 16 | empty] commits pending application, in order of acceptance -/
  commits : List Commit
  /-- [R313 | 64-bit | 0] serial of the latest accepted commit or plain write -/
  serial : Nat
  /-- [R313 | serial and keys | empty] commits and plain writes an open transaction could conflict with -/
  hist : List (Nat × List Nat)
  /-- [R306 | 65,536 bytes per port | empty] assembly buffers of WRITE_SEGMENT: key, bytes -/
  asm : List (Option (Nat × List Nat))
  /-- [R325 | 1,024 entries | empty] the event log, oldest first -/
  log : List LogEntry
  /-- [R60, R310, R373 | codes | empty] events already raised in this section, for the rules that raise only the first: code and discriminator -/
  seen : List (Nat × Nat)
  /-- [R322 | bytes | none] a startup profile being stored -/
  profStore : Option (List Nat)
  /-- [R322 | ≤ 16 KiB in flash | empty] the startup profile in flash -/
  profile : List Nat
  /-- [R324 | values by key | none] the integrator objects being stored to flash -/
  intStore : Option (List (Nat × List Nat))
  /-- [R324 | 1 bit | false] integrator objects were written during the store -/
  intAgain : Bool
  /-- [R324 | flash | empty] integrator objects in flash: scalars and BLOBs -/
  intFlash : List (Nat × List Nat)
  /-- [R471 | one request per port, two on port 2 | empty] requests of ports 1 to 3 that wait while SUP1 is halted, in the
  order of arrival -/
  waiting : List Waiter
  deriving DecidableEq, Repr

/-! ### Grixis engines -/

/-- An active zero-overhead loop (R218): its body and the iterations left, including the current one. -/
structure GLoop where
  first : Nat
  last : Nat
  left : Nat
  deriving DecidableEq, Repr

/-- A crumb record (R204). -/
structure Crumb where
  line : Nat
  pos : Int
  sect : Nat
  epoch : Nat
  engine : Nat
  first : Nat
  last : Nat
  cls : Nat
  join : Nat
  extent : Nat
  source : Nat
  frags : Nat
  seq : Nat
  features : List Nat
  flags : Nat
  deriving DecidableEq, Repr

/-- An engine's counts of one section (R191, R205, R208). -/
structure EngSec where
  sect : Nat
  overruns : Nat
  lost : Nat
  seq : Nat
  maxCyc : Nat
  deriving DecidableEq, Repr

/-- One engine (R180, R211). -/
structure Engine where
  /-- [R201 | U8 | 0 STOPPED] engine state, 0x4200.01 -/
  st : Nat
  /-- [R210 | 13 bits | 0] word address of the next instruction -/
  pc : Nat
  /-- [R191 | 13 bits | 0] word address after the WAITLINE that released the present line -/
  resume : Nat
  /-- [R180, R211 | 16 x 32 bits | 0] scalar registers that are not zero -/
  sregs : List (Nat × BitVec 32)
  /-- [R180, R211 | 32 x 16 x 16 bits | 0] vector registers -/
  vregs : List (Nat × List (BitVec 16))
  /-- [R180, R211 | 4 x 16 x 40 bits | 0] accumulators -/
  accs : List (Nat × List (BitVec 40))
  /-- [R180, R211 | 8 x 16 bits | 0; p0 reads 0xFFFF] predicate masks -/
  preds : List (Nat × BitVec 16)
  /-- [R212 | 1 bit | false] STAT.SAT -/
  sat : Bool
  /-- [R212 | 1 bit | false] STAT.AOV -/
  aov : Bool
  /-- [R211 | 2 levels | empty] the loop stack, innermost first -/
  loops : List GLoop
  /-- [R180 | 8,192 x 32 bits | DESIGN CHOICE 0 (log entry 20)] instruction memory: words that are not zero -/
  imem : List (Nat × BitVec 32)
  /-- [R180, R183 | 131,072 bytes | DESIGN CHOICE 0 (log entry 20)] data memory: bytes that are not zero -/
  dmem : List Host.Cell
  /-- [R186 | 2 x 9 x 160 x 16 bits | empty] rows of the line window: source 0 or 1, line offset + 4, samples -/
  win : List (Nat × Nat × List Nat)
  /-- [R192 | 128 x 16 bits | empty] output buffer 0 -/
  o0 : List Nat
  /-- [R192 | 128 x 16 bits | empty] output buffer 1 -/
  o1 : List Nat
  /-- [R190 | 64-bit, 2^64 above it for a row of W | none] the released line whose budget runs -/
  cur : Option Nat
  /-- [R189 | as the released line | none] the newest ready line awaiting a WAITLINE in setup or after a halt -/
  ready : Option Nat
  /-- [R198 | 1 bit | false] setup runs: the kernel has not executed its first WAITLINE -/
  setup : Bool
  /-- [R198 | as the released line | none] line at which a kernel change applies to this engine -/
  chg : Option Nat
  /-- [R187 | as the released line | 0] first line of the kernel -/
  first : Nat
  /-- [R184 | 1 bit | false] the next release is the kernel's first -/
  fresh : Bool
  /-- [R183 | 32-bit | none] section whose parameter blocks are in data memory -/
  psect : Option Nat
  /-- [R210 | U32 | 0] cycles of the current line -/
  cycles : Nat
  /-- [R184 | U32 | 0] cycles of the previous released line; 0xFFFFFFFF when cut off -/
  prev : Nat
  /-- [R184 | 64-bit tick | none] time of the previous release -/
  relT : Option Nat
  /-- [R180, R204 | 256 records | empty] the crumb buffer, oldest first -/
  crumbs : List Crumb
  /-- [R286, R288 | 9 bits | 0] leading crumbs of the buffer that are on the Millrace and not yet acknowledged -/
  inFlight : Nat
  /-- [R191, R205 | per section | empty] section counts not yet recorded -/
  secs : List EngSec
  /-- [R201 | U16 | 0] halt address, 0x4200.06 -/
  haltAt : Nat
  /-- [R201 | U8 | 0] exception cause, 0x4200.07 -/
  cause : Nat
  /-- [R231 | 8 x 13 bits | empty] hardware breakpoints: slot, word address -/
  bps : List (Nat × Nat)
  /-- [R231 | 1 bit | false] the next instruction does not match a breakpoint again -/
  skipBp : Bool
  /-- [R231 | 1 bit | false] the halt in `BREAK` is of a breakpoint: a resume executes its instruction without matching again -/
  matched : Bool
  /-- [R231 | 1 bit | false] a stepped WAITLINE awaits its release, after which the engine returns to `BREAK` -/
  stepping : Bool
  deriving DecidableEq, Repr

/-- What an engine delivered for a line (R193, R194): its output buffers, or none when it was cut off. A row of W is named 2^64
above its number. -/
structure EngOut where
  eng : Nat
  line : Nat
  bufs : Option (List Nat × List Nat)
  deriving DecidableEq, Repr

/-- The kernel configuration in force from a line on (R195, R198). -/
structure Kern where
  start : Nat
  /-- First row of W under it (R186). -/
  wStart : Nat
  /-- The engine enable has started the engines. -/
  on : Bool
  sel : Nat
  h : Nat
  psrc : Nat
  pplane : Nat
  ssrc : Nat
  splane : Nat
  t0 : Nat
  t1 : Nat
  red : List Nat
  deriving DecidableEq, Repr

/-- The parts of an image that a commit stages beside the header: instruction image, data parts 0 and 1 (R200, R208). -/
structure ImageParts where
  code : Option (List Nat)
  data0 : Option (List Nat)
  data1 : Option (List Nat)
  deriving DecidableEq, Repr

/-- The engine stage and the crumb merger. -/
structure EngState where
  /-- [R180 | per engine | each at its reset] engines that differ from their reset state -/
  engs : List (Nat × Engine)
  /-- [R200 | header, code, data | none] image store in PD2 -/
  store : Option (List Nat × List Nat × List Nat)
  /-- [R197 | 128 bytes | empty] header of the load in progress -/
  loading : List Nat
  /-- [R197 | code, two data parts | none] staged parts of the load in progress, each where the commit staged it -/
  parts : Option ImageParts
  /-- [R197 | 1 bit | false] a load waits for the stage to stop -/
  loadPend : Bool
  /-- [R198 | per line | empty] kernel configurations by first line, newest first -/
  kerns : List Kern
  /-- [R194 | per engine and line | empty] outputs of ended lines not yet taken by stage 7 -/
  outs : List EngOut
  /-- [R197 | engines | empty] engines that have executed their first WAITLINE since the enable -/
  started : List Nat
  /-- [R206 | per stop | 7] engine of each segment served last -/
  served : List (Nat × Nat)
  /-- [R207 | crumbs | empty] crumbs the merger holds until their line has ended everywhere -/
  held : List Crumb
  /-- [R207 | crumbs | empty] crumbs joined and filtered that wait for room in the merger's output queue -/
  merged : List Crumb
  /-- [R206 | 1,024 crumbs | empty] merger output queue -/
  queue : List Crumb
  /-- [R202 | 1 bit | false] a discarded instruction write has been reported since the stage left STOPPED -/
  discSeen : Bool
  deriving DecidableEq, Repr

/-! ### Confluence, streams and the auxiliary input -/

/-- A run of dropped records of a stream (R244). -/
structure DropRun where
  first : Nat
  last : Nat
  count : Nat
  cause : Nat
  /-- Section of its lines: a run of a stream does not pass a section boundary. -/
  sect : Nat
  deriving DecidableEq, Repr

/-- A complete record in the stripe buffer (R165, R243). -/
structure SRec where
  line : Nat
  /-- Last line the record accounts for. -/
  last : Nat
  pos : Int
  sect : Nat
  epoch : Nat
  flags : Nat
  src : Nat
  tokens : Nat
  /-- How many lines due it accounts for (R293). -/
  lines : Nat
  /-- Header, payload and padding. -/
  data : List Nat
  deriving DecidableEq, Repr

/-- A record being assembled (R234). -/
structure Asm where
  line : Nat
  last : Nat
  /-- How many lines due it accounts for (R293). -/
  lines : Nat
  /-- Segments whose contribution is expected and has not arrived. -/
  need : List Nat
  /-- Segments whose columns carry the pad value. -/
  fail : List Nat
  tokens : Nat
  /-- The first block has arrived, so that R243 has decided. -/
  decided : Bool
  /-- The record was admitted; the blocks of a dropped one are discarded. -/
  admitted : Bool
  /-- Columns contributed, by segment and plane. -/
  parts : List (Nat × List (List Nat))
  deriving DecidableEq, Repr

/-- Lines of a stream: records are produced of them, or where `on` is false the stream is suspended (R240, R246). -/
structure StreamSpan where
  first : Nat
  /-- The line from which it holds no more. -/
  stop : Option Nat
  on : Bool
  deriving DecidableEq, Repr

/-- Attributes of a stream and the lines they hold for (R241). -/
structure StreamAttrs where
  first : Nat
  stop : Option Nat
  vals : List Nat
  deriving DecidableEq, Repr

/-- One stream (R236, R240). Its state and counters are objects. Lines are named by their number; rows of W and lines of
auxiliary frames are named above 2^64, numbering by numbering. -/
structure StreamSt where
  no : Nat
  /-- [R240, R246 | spans of lines | empty] lines the stream produces records of or is suspended for, newest first: first line, and
  the line from which there are none -/
  spans : List StreamSpan
  /-- [R240 | 64-bit | none] boundary of a latched enable or disable -/
  latch : Option Nat
  /-- [R235 | 64-bit | 0] first line of the next vertical group -/
  next : Nat
  /-- [R241 | attributes by line | empty] attributes .01 to .0B with the source's binning, newest first -/
  attrs : List StreamAttrs
  /-- [R244 | one run | none] the run of dropped records in progress -/
  run : Option DropRun
  /-- [R234 | records | empty] records being assembled, by line -/
  asm : List Asm
  /-- [R243 | records | empty] complete records waiting for the DMA engine, by line -/
  waiting : List SRec
  deriving DecidableEq, Repr

/-- A Millrace block of up to 512 payload bytes (R286, R287). -/
structure MBlock where
  /-- 1 a stream's contribution, 2 crumbs, 3 partial statistics. -/
  kind : Nat
  stream : Nat
  line : Nat
  /-- Place within the contribution, in units of 32 bytes. -/
  offset : Nat
  data : List Nat
  /-- The last block of its contribution. -/
  final : Bool
  /-- Crumbs it carries. -/
  crumbs : List Crumb
  /-- Section whose partial statistics it carries. -/
  sect : Nat
  /-- It holds a retry credit and awaits its acknowledgement (R288). -/
  sent : Bool
  /-- Negative acknowledgements of it in succession (R289). -/
  fails : Nat
  deriving DecidableEq, Repr

/-- A Millrace stop (R288). -/
structure Stop where
  seg : Nat
  /-- [R291 | 256 KiB | empty] blocks sent or waiting, oldest first -/
  blocks : List MBlock
  /-- [R288 | 8 bits | 0] sequence number of the oldest block -/
  seq : Nat
  /-- [R288 | 6 bits | 32] free retry credits -/
  credits : Nat
  deriving DecidableEq, Repr

/-- A line of an auxiliary frame (R250, R252). -/
structure AuxLine where
  pos : Int
  /-- Samples scaled to 16 bits. -/
  vals : List Nat
  /-- How many samples are real. -/
  real : Nat
  flags : Nat
  /-- The line takes input-buffer space (R253). -/
  held : Bool
  deriving DecidableEq, Repr

/-- An auxiliary frame (R250 to R255) with the channel settings it began with. -/
structure AuxFrame where
  no : Nat
  sect : Nat
  epoch : Nat
  width : Nat
  height : Nat
  dtype : Nat
  colour : Nat
  black : Nat
  defects : List Nat
  gains : List Nat
  shade : Bool
  bilinear : Bool
  flags : Nat
  lines : List AuxLine
  closed : Bool
  /-- Cut by an input-buffer overflow. -/
  cut : Bool
  /-- Tick of its frame start (R251). -/
  startT : Nat
  /-- Frame timeout that it began with, in ms (R250). -/
  timeout : Nat
  /-- Band and first column of the next stripe. -/
  band : Nat
  col : Nat
  deriving DecidableEq, Repr

/-- An auxiliary channel. -/
structure AuxChan where
  ch : Nat
  /-- [R250 | frames | empty] open and unprocessed frames, oldest first -/
  frames : List AuxFrame
  /-- [R250 | 32-bit | 0] number of the next frame -/
  nextNo : Nat
  /-- [R252 | 64-bit tick | none] previous frame start since the enable -/
  lastStart : Option Nat
  /-- [R252 | 64-bit tick | 0] last packet of the channel -/
  lastPkt : Nat
  /-- [R248 | 256 bytes | empty] embedded data of the frame in progress -/
  embedded : List Nat
  deriving DecidableEq, Repr

/-- Confluence and the auxiliary input. -/
structure ConfState where
  /-- [R236 | 8 streams | each off] streams 0 to 7 -/
  streams : List StreamSt
  /-- [R286 | 24 stops | each empty] Millrace stops -/
  stops : List Stop
  /-- [R257 | 16 bits | 32,768] least free tokens in the section in progress -/
  least : Nat
  /-- [R292 | per stream and section | empty] line books: stream, section, lines due, lines accounted -/
  books : List (Nat × Nat × Nat × Nat)
  /-- [R247 | 4 channels | each off] auxiliary channels -/
  aux : List AuxChan
  /-- [R255 | 2 bits | 3] channel served last by the auxiliary pipeline -/
  auxServed : Nat
  deriving DecidableEq, Repr

/-! ### Host interface -/

/-- A completion entry (R270). -/
structure CqEntry where
  kind : Nat
  ring : Nat
  cause : Nat
  merged : Bool
  ref : Nat
  first : Nat
  last : Nat
  count : Nat
  bytes : Nat
  deriving DecidableEq, Repr

/-- Unsignalled entries of one interrupt vector (R266). -/
structure VecState where
  vec : Nat
  count : Nat
  since : Nat
  deriving DecidableEq, Repr

/-- A fetched descriptor and what its check found (R267). -/
structure Desc where
  idx : Nat
  addr : Nat
  len : Nat
  tag : Nat
  /-- Cause of a bad descriptor, 0 for a good one. -/
  bad : Nat
  deriving DecidableEq, Repr

/-- The buffer a ring is filling (R269). -/
structure OpenBuf where
  desc : Desc
  used : Nat
  count : Nat
  first : Nat
  last : Nat
  sect : Nat
  /-- Time of its first record. -/
  since : Nat
  deriving DecidableEq, Repr

/-- One data ring (R267). Its settings, indices and state are objects. -/
structure RingSt where
  no : Nat
  /-- [R267 | descriptors | empty] descriptors fetched and not yet used -/
  descs : List Desc
  /-- [R267 | 16 bits | 0] index of the next descriptor to fetch -/
  fetch : Nat
  /-- [R268 | 64-bit tick and 9 bits | none] start of the descriptor fetch in progress, and how many descriptors it asks for -/
  fetching : Option (Nat × Nat)
  /-- [R269 | one buffer | none] the buffer being filled -/
  buf : Option OpenBuf
  deriving DecidableEq, Repr

/-- A statistics record waiting for its ring (R273). -/
structure StatRec where
  src : Nat
  typ : Nat
  sect : Nat
  first : Nat
  last : Nat
  data : List Nat
  deriving DecidableEq, Repr

/-- A page of the Reach (R277, R280). State: 0 FREE, 1 OPEN, 2 CLOSED, 3 HELD, 4 RETURNING. -/
structure Page where
  slot : Nat
  addr : Nat
  st : Nat
  /-- Index entry: least and greatest POS in counts. -/
  span : Option (Int × Int)
  seq : Nat
  deriving DecidableEq, Repr

/-- What the footer of the open page will hold (R279). -/
structure OpenPage where
  slot : Nat
  first : Nat
  last : Nat
  firstPos : Int
  lastPos : Int
  firstSect : Nat
  lastSect : Nat
  firstEpoch : Nat
  lastEpoch : Nat
  used : Nat
  records : Nat
  source : Nat
  flagged : Bool
  reversed : Bool
  gapBefore : Bool
  crc : Nat
  deriving DecidableEq, Repr

/-- Host interface and delivery. -/
structure HostState where
  /-- [R266 | per vector | none] entries not yet signalled -/
  vecs : List VecState
  /-- [R270 | 1 bit | true] phase bit of the completion queue's present pass -/
  cqPhase : Bool
  /-- [R272 | 1 bit | true] phase bit of the event queue's present pass -/
  evPhase : Bool
  /-- [R272 | 32-bit | 0] events omitted since the queue was last written -/
  evOmitted : Nat
  /-- [R271 | 1,024 entries | empty] completion backlog in PD9 -/
  backlog : List CqEntry
  /-- [R296 | 256 entries | empty] detached log in PD9 -/
  detached : List CqEntry
  /-- [R267 | 10 rings | each empty] data rings -/
  rings : List RingSt
  /-- [R273 | 64 records | empty] statistics records waiting for their ring -/
  statq : List StatRec
  /-- [R265 | 2 bits | 0] mailbox STATE: 0 idle, 1 BUSY, 2 DONE -/
  mbState : Nat
  /-- [R265 | 64 KiB | empty] mailbox request buffer -/
  mbReq : List Nat
  /-- [R265 | 64 KiB | empty] mailbox response buffer -/
  mbResp : List Nat
  /-- [R265 | 6 bits | 2] mailbox vector, 0x200C in BAR0 -/
  mbVec : Nat
  /-- [R260 | 1 bit | true] PERSTn is asserted -/
  perst : Bool
  /-- [R260 | 64-bit tick | 0] time of PERSTn release -/
  perstT : Nat
  /-- [R262 | 1 bit | false] the function is in D3hot -/
  d3 : Bool
  /-- [R262 | 1 bit | false] L1 entry has been requested -/
  l1 : Bool
  /-- [R259 | 4 KiB | DESIGN CHOICE free values (log entry 23)] configuration-space words written by the host: offset, value -/
  cfg : List (Nat × Nat)
  /-- [R262 | 1 bit | false] PTM is enabled in configuration space -/
  ptm : Bool
  /-- [R264 | 64 x 16 bytes | DESIGN CHOICE 0 (log entry 40)] words of the MSI-X table, by index -/
  msixTab : List (Nat × Nat)
  /-- [R275 | 131,072 slots | empty] page table and position index, occupied slots in rising order -/
  pages : List Page
  /-- [R279 | one page | none] the open page -/
  open_ : Option OpenPage
  /-- [R284 | one gap | none] records discarded for want of a page: first, last, count, cause -/
  gap : Option DropRun
  /-- [R279 | 1 bit | false] a gap precedes the next page -/
  gapPend : Bool
  /-- [R276 | one command | none] the Reach command in progress -/
  reachCmd : Option Nat
  /-- [R277 | 17 bits | none] slot last written, from which the next is searched -/
  lastSlot : Option Nat
  /-- [R276 | 1 bit | false] WITHDRAW waits for its pages to return -/
  withdrawing : Bool
  /-- [R282 | per active hold | empty] the range with which a hold was placed: slot, first and last position -/
  holds : List (Nat × Int × Int)
  /-- [R281 | slot and SEQ | none] the lookup's page read in progress -/
  look : Option (Nat × Nat)
  deriving DecidableEq, Repr

/-! ### Field network -/

/-- A frame waiting for transmission (R338): rank of its kind (0 BARRIER_ABORT, 1 POSREPORT, 2 response, 3 NOTIFY),
destination and Pehel message. -/
structure TxFrame where
  kind : Nat
  dest : Nat
  body : List Nat
  deriving DecidableEq, Repr

/-- A peer's latest report (R349); its serial, head, section, line, position, epoch and missing count are objects. -/
structure Peer where
  serial : Nat
  head : Nat
  sect : Nat
  line : Nat
  pos : Int
  epoch : Nat
  pitch : Nat
  flags : Nat
  missing : Nat
  deriving DecidableEq, Repr

/-- A barrier commit that waits or has passed (R341, R342). -/
structure Barrier where
  port : Nat
  epoch : Nat
  deadline : Nat
  /-- Apply section, once passed. -/
  apply : Option Nat
  deriving DecidableEq, Repr

/-- Copies of a BARRIER_ABORT still to be sent (R343). -/
structure AbortCopies where
  left : Nat
  next : Nat
  body : List Nat
  deriving DecidableEq, Repr

/-- An evaluation of lock step that is due (R349): section, tick, own line, position and pitch. -/
structure LockEval where
  sect : Nat
  due : Nat
  line : Nat
  pos : Int
  pitch : Nat
  deriving DecidableEq, Repr

/-- Field-network port and Sluice. -/
structure NetState where
  /-- [R338 | frames | empty] frames waiting for transmission, by order of queueing -/
  txq : List TxFrame
  /-- [R336 | 16 responses | empty] reply cache: SEQ, TYPE, response message, newest first -/
  cache : List (Nat × Nat × List Nat)
  /-- [R344 | 16 entries | empty] sender serial and SEQ of aborts received, newest first -/
  aborts : List (Nat × Nat)
  /-- [R330 | 2 bits | 1] port state before a link loss -/
  before : Int
  /-- [R332 | 16 bits | 0] SEQ of the next message the head originates -/
  seq : Nat
  /-- [R348 | 16 bits | 0] SEQ of the next POSREPORT -/
  repSeq : Nat
  /-- [R330 | 64-bit tick | 0] last BEACON -/
  beaconT : Nat
  /-- [R330 | 64-bit tick | 0] last frame with a valid FCS -/
  frameT : Nat
  /-- [R346 | tick | none] tick of the last declared link loss -/
  lostT : Option Nat
  /-- [R337 | 1 bit | false] transmit ends when the queued responses have left -/
  txOff : Bool
  /-- [R341 | one commit | none] the barrier commit waiting or passed -/
  barrier : Option Barrier
  /-- [R340 | 1 bit | false] the head pulls SLUICE low -/
  low : Bool
  /-- [R342 | 64-bit tick | none] tick at which SLUICE is pulled low after a pass -/
  pullAt : Option Nat
  /-- [R343 | one abort | none] copies of an abort still to be sent -/
  copies : Option AbortCopies
  /-- [R349 | 16 entries | empty] the peer table, in order of first arrival -/
  peers : List Peer
  /-- [R349 | one evaluation | none] the evaluation that is due -/
  eval : Option LockEval
  deriving DecidableEq, Repr

/-! ### Two-wire ports -/

/-- Two-wire ports. Settings, counters and job states are objects. -/
structure TwoState where
  /-- [R364 | 2 bits | 0] STATE of the target port: 0 IDLE, 1 BUSY, 2 DONE, 3 CHECK_ERROR -/
  twState : Nat
  /-- [R364 | at most 256 bytes | empty] response block, count byte first -/
  twResp : List Nat
  /-- [R367 | 16 bits | DESIGN CHOICE 0 (log entry 40)] pointer of pointer mode -/
  pointer : Nat
  /-- [R358 | second number | none] second of the latest event 0x0A01 -/
  errSec : Option Nat
  /-- [R365 | second number | none] second of the latest event 0x0A02 -/
  chkSec : Option Nat
  /-- [R375 | job number | none] the job whose transaction runs -/
  running : Option Nat
  /-- [R375 | 1 bit | false] the running job returns to IDLE at its end -/
  cancel : Bool
  /-- [R376 | 4 bits | 0] address NACKs of the running transaction -/
  nacks : Nat
  /-- [R376 | 8 bits per job | empty] arbitration losses of each job since it became READY -/
  losses : List (Nat × Nat)
  /-- [R379 | 3 bits | 0] clear attempts that failed -/
  attempts : Nat
  /-- [R379 | 1 bit | false] the BUS_STUCK latch -/
  stuck : Bool
  /-- [R379 | 1 bit in PD0 | false] a reset or shed interrupted a byte on the controller bus -/
  interrupted : Bool
  /-- [R379 | 64-bit tick | 0] end of the wait between clear attempts -/
  waitT : Nat
  /-- [R375 | 64-bit tick per job | none] next trigger of each armed PERIODIC job -/
  nextT : List (Nat × Nat)
  deriving DecidableEq, Repr

/-! ### Calibration sets and ageing -/

/-- A slot of the calibration set in flash (R385, R386): 0 valid, 1 invalid, 2 erased; its header and its values. -/
structure CalSlot where
  st : Nat
  gen : Nat
  origin : Nat
  overs : Nat
  planGen : Nat
  hours : Nat
  /-- Values that differ from the neutral ones, by object key. -/
  vals : List (Nat × List Nat)
  deriving DecidableEq, Repr

/-- A store in progress (R387): 1 erasing, 2 programming, 3 header. -/
structure CalStore where
  origin : Nat
  /-- The store is a SAVE of the converter calibration (R390). -/
  save : Bool
  step : Nat
  vals : List (Nat × List Nat)
  deriving DecidableEq, Repr

/-- Sums of one column (R392, R394). -/
structure ColSum where
  n : Nat
  x : Int
  xx : Int
  y : Int
  xy : Int
  sat : Nat
  deriving DecidableEq, Repr

/-- The accumulator of one source, part and section. Part 0 and 1 are the rows, part 10 + g the physical group g. -/
structure ProcAcc where
  src : Nat
  part : Nat
  sect : Nat
  lines : Nat
  xMin : Int
  xMax : Int
  cols : List ColSum
  deriving DecidableEq, Repr

/-- Calibration procedures, the calibration set and ageing. Settings, states and reports are objects. -/
structure CalState where
  /-- [R385 | 2 slots of 4 MiB in flash | DESIGN CHOICE both erased (log entry 45)] calibration-set slots A and B -/
  slots : List CalSlot
  /-- [R387 | one store | none] the store in progress -/
  store : Option CalStore
  /-- [R389 | 1 bit | false] a margin-plan store waits for the host store -/
  planWait : Bool
  /-- [R392, R394 | 2 bits | 0] the procedure: 1 dark, 2 flat -/
  kind : Nat
  /-- [R392 | 32-bit | 0] first section that accumulates -/
  start : Nat
  /-- [R392 | 64-bit sums per column in PD72 | empty] the calibration accumulator -/
  accs : List ProcAcc
  /-- [R396 | sources | empty] a segment's sums did not arrive -/
  missing : List Nat
  /-- [R397 | values by key | empty] results held until ACCEPT -/
  results : List (Nat × List Nat)
  /-- [R398 | 2 x 32-bit in flash | 0, 0] the operating-hours record -/
  hoursRec : Nat × Nat
  /-- [R399 | per bank | empty] bank, operating hours at its latest self-calibration -/
  calHours : List (Nat × Nat)
  /-- [R403 | four plans | empty] operating hours and degradation by segment at the latest plans, newest first -/
  plans : List (Nat × List Int)
  /-- [R401 | 32-bit | 0] hot groups plus unrepaired columns at the last plan -/
  grown : Nat
  /-- [R401 | I16 per sensor | 0] sensor drifts at the last plan -/
  drifts : List (Nat × Int)
  /-- [R401 | two trainings per speed | empty] link speed, worst timing and worst voltage margin, newest first -/
  trains : List (Nat × Nat × Nat)
  /-- [R401 | 2 bits | 0] cause of the re-plan in progress -/
  cause : Nat
  /-- [R402 | 1 bit | false] a plan awaits IDLE with defect additions -/
  adds : Bool
  /-- [R401 | 1 bit | false] a segment stayed below the guard band at the last plan -/
  exhausted : Bool
  deriving DecidableEq, Repr

/-! ### Thermal management and the monitor ADC -/

/-- A ring-oscillator sensor (R406 to R415). Its value, state and cause are objects. -/
structure Sensor where
  no : Nat
  /-- The last converted readings, newest first, at most 8. -/
  convs : List Int
  /-- Consecutive readings without an edge. -/
  zero : Nat
  /-- Consecutive readings outside the range. -/
  oor : Nat
  /-- Consecutive values that disagree with the neighbours. -/
  dis : Nat
  /-- The value substituted takes part in the protection temperature. -/
  subst : Bool
  /-- The latch has been cleared and the sensor is being tested afresh. -/
  fresh : Bool
  /-- A value has been formed since reset. -/
  valued : Bool
  deriving DecidableEq, Repr

/-- A protection level (R409): consecutive values for asserting and for releasing. -/
structure Level where
  on : Nat
  off : Nat
  deriving DecidableEq, Repr

/-- One result of the monitor ADC (R421). -/
structure AdcResult where
  slot : Nat
  code : Nat
  flags : Nat
  value : Int
  pass : Nat
  deriving DecidableEq, Repr

/-- Thermal management and the monitor ADC. -/
structure ThermState where
  /-- [R407 | per sensor | empty] the sensors -/
  sensors : List Sensor
  /-- [R409 | 2 bits | 0, 0] warning counts -/
  warn : Level
  /-- [R409 | 2 bits | 0, 0] throttle counts -/
  thr : Level
  /-- [R409 | 2 bits | 0, 0] shutdown counts -/
  shut : Level
  /-- [R410 | 64-bit tick | none] assertion of the throttle level -/
  thrT : Option Nat
  /-- [R412 | 80 bits | empty] domains that were on before the shutdown -/
  before : List Nat
  /-- [R411 | 64-bit tick | none] start of a shutdown whose domains have not been shed yet -/
  shedT : Option Nat
  /-- [R419 | 32 slots | empty] the pass in progress: slot, channel, range, N -/
  plan : List (Nat × Nat × Nat × Nat)
  /-- [R420 | channel | none] channel of the previous non-empty slot -/
  lastCh : Option Nat
  /-- [R420 | 2 bits per AIN channel | none] range of the previous conversion: channel, range -/
  ranges : List (Nat × Nat)
  /-- [R420 | 2 bits per AIN channel | 0] conversions still settling: channel, count -/
  settle : List (Nat × Nat)
  /-- [R421 | 32 results | empty] the back buffer -/
  back : List AdcResult
  /-- [R421 | 32-bit | 0] number of the pass in progress -/
  pass : Nat
  /-- [R423 | 1 bit | false] a calibration begins at the end of the pass -/
  calPend : Bool
  /-- [R424 | 1 bit | false] the sequencer stays stopped after the calibration -/
  stopAfter : Bool
  /-- [R423 | I16 codes | 0] offset factor -/
  offset : Int
  /-- [R423 | I32 ppm | 0] gain factor -/
  gain : Int
  deriving DecidableEq, Repr

/-! ### Power domains and the hold-up store -/

/-- A loss record in the flash ring (R443). -/
structure LossRecord where
  seq : Nat
  bytes : List Nat
  /-- The resume mark has been programmed. -/
  resumed : Bool
  deriving DecidableEq, Repr

/-- Power path, hold-up and charger. Domain states, power state and settings are objects. -/
structure PowState where
  /-- [R441 | 64-bit tick | none] start of the good timer -/
  goodT : Option Nat
  /-- [R441 | 1 bit | false] the good timer completed during the hand-over -/
  returnDue : Bool
  /-- [R444 | 1 bit | false] only the domains of the minimum service set are on, until a start-up -/
  minimal : Bool
  /-- [R440 | 64-bit tick | 0] beginning of the latest hand-over -/
  t0 : Nat
  /-- [R444 | 1 bit | false] the device stands by on the store -/
  onStore : Bool
  /-- [R442 | 32-bit | 0] illegal transitions of ENC0 at the hand-over -/
  illegal0 : Nat
  /-- [R442 | 1 bit | false] ENC0 was in LOSS during the hold-up -/
  lossSeen : Bool
  /-- [R442 | 64-bit | 0] raw counts of ENC0 and ENC1 at the hand-over -/
  raw0 : Int × Int
  /-- [R442 | 1 bit | false] the device issues START at the first section boundary after return -/
  rearm : Bool
  /-- [R443 | line, POS64, section, epoch, run state | 0] what the loss record takes from the hand-over's beginning -/
  snap : Nat × Int × Nat × Nat × Nat
  /-- [R443 | 14 x 12 bytes | empty] transactions rolled back at the hand-over -/
  txns : List (List Nat)
  /-- [R443 | ring of 16 in flash | empty] loss records, newest first -/
  ring : List LossRecord
  /-- [R443 | 32-bit in flash | 0] records written since manufacture -/
  lossSeq : Nat
  /-- [R437 | 3 bits | 0] charger state left for SUSPENDED -/
  chgFrom : Int
  /-- [R435 | 5 bits | 16] priority limit of the charge current in sixteenths of the programmed current -/
  chgLimit : Nat
  /-- [R438 | steps of 100 µs | 0] steps since the timer last advanced -/
  chgSteps : Nat
  /-- [R438 | µs | 0] full-current-equivalent time on the safety timer -/
  chgTimer : Nat
  /-- [R438 | 5 bits | 0] fault conditions that persist -/
  chgConds : Nat
  /-- [R438 | 1 bit | false] the latched faults have been read -/
  chgRead : Bool
  /-- [R437 | 64-bit tick | 0] start of the present charge cycle -/
  chgT : Nat
  deriving DecidableEq, Repr

/-! ### OTP, start-up and debug -/

/-- A fuse word that is not blank (R449, R451): what it reads at strict-high and at strict-low. -/
structure Fuse where
  word : Nat
  hi : Nat
  lo : Nat
  deriving DecidableEq, Repr

/-- What a fuse is blown for (R454). -/
inductive BurnOrigin where
  /-- A calibration overwrite (R384), an age or hot bit (R398), the security version (R461), a debug unlock (R470). -/
  | overwrite | age | hot | security | unlock
  /-- A re-burn (R456), the host's PROGRAM, WRITE_CHECK and SEAL of region 7 (R455). -/
  | reburn | program | check | seal
  deriving DecidableEq, Repr

/-- One fuse to be blown (R454). -/
structure Burn where
  word : Nat
  bit : Nat
  pulses : Nat
  origin : BurnOrigin
  deriving DecidableEq, Repr

/-- The OTP controller. Region states and results are objects. -/
structure OtpState where
  /-- [R449 | 16,384 fuses | DESIGN CHOICE blank (log entry 46)] the fuse array -/
  fuses : List Fuse
  /-- [R454 | fuses | empty] fuses to be blown, the one being pulsed first -/
  queue : List Burn
  /-- [R473 | 1 bit | false] the fuse in progress at a hand-over or a reset completes -/
  finishing : Bool
  /-- [R456 | 64 entries | empty] the re-burn list: word, bit -/
  reburn : List (Nat × Nat)
  /-- [R456 | 32-bit hours | none] operating hours at the last re-burn -/
  reburnH : Option Nat
  /-- [R451 | one word | none] the read in progress: word, margin -/
  reading : Option (Nat × Nat)
  /-- [R451 | regions 0, 1, 2, 6 in PD0 | empty] shadow registers: word, value -/
  shadow : List (Nat × Nat)
  /-- [R457 | 8 bits | 0] integrity cause -/
  cause : Nat
  deriving DecidableEq, Repr

/-- Start-up, firmware and watchdog. -/
structure BootState where
  /-- [R463 | 3 bits | 1] start-up: 0 no power, 1 integrity check, 2 image verification, 3 calibration-set load, 4 done,
  5 integrity hold, 6 restricted mode -/
  step : Nat
  /-- [R460 | 2 bits | 0] levels of BOOTSEL1:BOOTSEL0 -/
  bootsel : Nat
  /-- [R355 | 2 bits | 0] levels of ADDR[1:0] at the cold reset -/
  straps : Nat
  /-- [R458 | 2 x 4 MiB in flash | DESIGN CHOICE erased (log entry 45)] firmware slots: slot times 16,384 plus page of 256 bytes -/
  fw : List (Nat × List Nat)
  /-- [R468 | 64-bit tick | 0] the latest heartbeat -/
  beat : Nat
  /-- [R463 | 16 events in PD0 | empty] events raised before PD2 is on -/
  held : List LogEntry
  /-- [R326 | 64-bit tick | 0] the latest reset -/
  resetT : Nat
  deriving DecidableEq, Repr

/-- The debug port. -/
structure DebugState where
  /-- [R469 | 8 bits | 0x02] instruction register, IDCODE after Test-Logic-Reset -/
  ir : Nat
  /-- [R469 | boundary chain | empty] boundary register: pad number, level -/
  chain : List (Nat × Nat)
  /-- [R470 | 32 bytes | none] the current challenge -/
  challenge : Option (List Nat)
  /-- [R470 | 64-bit tick | 0] end of the retry delay -/
  delayEnd : Nat
  /-- [R470 | 7 bits | 0] seconds of the next retry delay -/
  delay : Nat
  /-- [R470 | 8 bits | 0x04] status that the next DBG_RESPONSE capture returns -/
  status : Nat
  /-- [R470 | BITS32 | none] scope of a session that waits for its counter burn -/
  opening : Option Nat
  /-- [R471 | 64 bits | DESIGN CHOICE 0 (log entry 40)] debug address -/
  addr : Nat
  /-- [R471 | 8 bits | DESIGN CHOICE 0 (log entry 40)] status of the last debug operation -/
  last : Nat
  /-- [R471 | 64 bits | DESIGN CHOICE 0 (log entry 40)] result of the last debug operation -/
  result : Nat
  /-- [R471 | 1 bit | false] SUP1 is halted -/
  sup1 : Bool
  /-- [R471 | 8 word addresses | none] breakpoints of SUP1: index, address -/
  bps : List (Nat × Nat)
  /-- [R471 | 4 MiB | DESIGN CHOICE free values (log entry 47)] words of SUP1 memory written over the debug port -/
  mem : List (Nat × Nat)
  /-- [R471 | 64 KiB | empty] bytes of a port 0 request -/
  put : List Nat
  /-- [R471 | 64 KiB | empty] bytes of a port 0 response not yet taken -/
  get : List Nat
  deriving DecidableEq, Repr

/-- The state of the block. -/
structure State where
  /-- [the model's own | queue | empty] commands waiting, first in, first out -/
  pending : List Instr
  /-- [R24 | 64-bit | 0] the timing clock since power-on, in ticks of 2.5 ns -/
  now : Nat
  /-- [the model's own | counter | DESIGN CHOICE 0 (log entry 24)] index of the next free value -/
  fresh : Nat
  /-- [R300 | per object table | tables] the dictionary's scalar objects that differ from their default: key, value. The key is index x 256 + sub-index -/
  objs : List (Nat × Int)
  /-- [R300 | per object table | tables] the dictionary's BLOB and TEXT objects that differ from their default: key, bytes -/
  blobs : List (Nat × List Nat)
  /-- [the model's own | list | empty] what the device has sent to its surroundings, oldest first -/
  out : List Out
  /-- [R302 | one response | none] the latest dictionary response -/
  resp : Option Resp
  /-- position keeper, line grid, run control -/
  pos : PosState
  /-- arrays, strobes, array W -/
  arr : ArrState
  /-- column converters -/
  conv : ConvState
  /-- recombination stores, slip estimator -/
  rcb : RecState
  /-- segment pipeline, statistics, exposure control -/
  pipe : PipeState
  /-- Grixis engines and crumb merger -/
  eng : EngState
  /-- Confluence, streams, auxiliary input -/
  conf : ConfState
  /-- dictionary, transactions, event log -/
  dict : DictState
  /-- host interface and delivery -/
  host : HostState
  /-- two-wire ports -/
  two : TwoState
  /-- calibration sets and ageing -/
  cal : CalState
  /-- thermal management and the monitor ADC -/
  therm : ThermState
  /-- power path, hold-up and charger -/
  pow : PowState
  /-- the OTP controller -/
  otp : OtpState
  /-- start-up and firmware -/
  boot : BootState
  /-- the debug port -/
  dbg : DebugState
  /-- field-network port -/
  net : NetState
  deriving DecidableEq, Repr

/-- An encoder right after a cold reset. -/
def Encoder.reset : Encoder :=
  { a := false, b := false, z := false, step := none, lastT := none, mark := 0, lost := 0 }

/-- The position keeper right after a cold reset (R28). -/
def PosState.reset : PosState :=
  { enc0 := Encoder.reset, enc1 := Encoder.reset, trigIn := false, epochIn := false, cnt := 0, ivals := [], ivT := none,
    edgeRev := false, snaps := [⟨0, 0, 0, 1, 0, 0⟩], furthest := 0, gridA := 0, gridJ := 0, pendPitch := none,
    stopAt := false, trigQ := none, convEnd := 0, flushEnd := none, nextFlush := 0, stalled := false,
    motionT := 0, lastStart := none, lastLine := none, runFirst := false, afterStall := false,
    afterRev := false, afterSheet := false, counted := false,
    sheet := { running := false, first := 0, left := 0, fresh := false, queued := none, seen := false, policy := 0 },
    trigOut := false, trigOutEnd := 0, sched := [], armed := [], recent := [], epochT := none }

/-- The arrays right after a cold reset. -/
def ArrState.reset : ArrState :=
  { cur := none, gate := none, strobes := 0, hiZ := 0, reenable := 0, wFrames := [], wNextT := 0, wNo := 0,
    wPend := false, wExtra := 0, wFirst := false, rowReen := 0, runs := [] }

/-- The converters right after a cold reset. -/
def ConvState.reset : ConvState :=
  { calLeft := [], calEnd := 0, calPrev := 0, calRepaired := false, calUnrep := false, suspects := [], due := [],
    susp := [], unrep := [], failed := [], lowGain := [], raw := [], rawLine := none, saving := false }

/-- Recombination right after a cold reset. -/
def RecState.reset : RecState :=
  { reads := [], refill := [], refillDue := [], sums := [], elig := [], closed := none, pendOff := [], pendTrim := [], trims := [],
    offFresh := false, wasOor := false, atBound := false }

/-- The segment pipeline right after a cold reset. -/
def PipeState.reset : PipeState :=
  { past := [], lines := [], pix := [], run := 0, dark := [], linkErr := [], haloErrs := [], cuts := [], stats := [], cur := none, closing := [],
    ctl := [], outs := [] }

/-- A Grixis engine right after a cold reset. -/
def Engine.reset : Engine :=
  { st := 0, pc := 0, resume := 0, sregs := [], vregs := [], accs := [], preds := [], sat := false, aov := false,
    loops := [], imem := [], dmem := [], win := [], o0 := [], o1 := [], cur := none, ready := none, setup := false,
    chg := none, first := 0, fresh := false, psect := none, cycles := 0, prev := 0, relT := none, crumbs := [], inFlight := 0, secs := [],
    haltAt := 0, cause := 0, bps := [], skipBp := false, matched := false, stepping := false }

/-- The engine stage right after a cold reset: no image installed (R200). -/
def EngState.reset : EngState :=
  { engs := [], store := none, loading := [], parts := none, loadPend := false, kerns := [], outs := [], started := [],
    served := [], held := [], merged := [], queue := [], discSeen := false }

/-- The dictionary right after a cold reset: no transaction, ids from 1 (R309), an empty log (R325). -/
def DictState.reset : DictState :=
  { txns := List.replicate 4 { staged := [], last := 0, since := 0, rolled := [] }, nextId := 1, commits := [],
    serial := 0, hist := [], asm := List.replicate 5 none, log := [], seen := [], profStore := none, profile := [],
    intStore := none, intAgain := false, intFlash := [],
    waiting := [] }

/-- A stream right after a cold reset. -/
def StreamSt.reset (k : Nat) : StreamSt :=
  { no := k, spans := [], latch := none, next := 0, attrs := [], run := none, asm := [], waiting := [] }

/-- Confluence right after a cold reset. -/
def ConfState.reset : ConfState :=
  { streams := (List.range 8).map StreamSt.reset
    stops := (List.range 24).map fun g => { seg := g, blocks := [], seq := 0, credits := 32 }
    least := 32768, books := []
    aux := (List.range 4).map fun v =>
      { ch := v, frames := [], nextNo := 0, lastStart := none, lastPkt := 0, embedded := [] }
    auxServed := 3 }

/-- The host interface right after a cold reset: PERSTn asserted, nothing configured. -/
def HostState.reset : HostState :=
  { vecs := [], cqPhase := true, evPhase := true, evOmitted := 0, backlog := [], detached := []
    rings := (List.range 10).map fun r => { no := r, descs := [], fetch := 0, fetching := none, buf := none }
    statq := [], mbState := 0, mbReq := [], mbResp := [], mbVec := 2, perst := true, perstT := 0, d3 := false, l1 := false,
    cfg := [], ptm := false, msixTab := [], pages := [], open_ := none, gap := none, gapPend := false, reachCmd := none, lastSlot := none,
    withdrawing := false, holds := [], look := none }

/-- The field-network port right after a cold reset. -/
def NetState.reset : NetState :=
  { txq := [], cache := [], aborts := [], before := 1, seq := 0, repSeq := 0, beaconT := 0, frameT := 0, lostT := none, txOff := false,
    barrier := none, low := false, pullAt := none, copies := none, peers := [], eval := none }

/-- The two-wire ports right after a cold reset. -/
def TwoState.reset : TwoState :=
  { twState := 0, twResp := [], pointer := 0, errSec := none, chkSec := none, running := none, cancel := false,
    nacks := 0, losses := [], attempts := 0, stuck := false, interrupted := false, waitT := 0, nextT := [] }

/-- An erased slot of the calibration set. -/
def CalSlot.erased : CalSlot := { st := 2, gen := 0, origin := 0, overs := 0, planGen := 0, hours := 0, vals := [] }

/-- Calibration and ageing right after a cold reset. -/
def CalState.reset : CalState :=
  { slots := [CalSlot.erased, CalSlot.erased], store := none, planWait := false, kind := 0, start := 0, accs := [],
    missing := [], results := [], hoursRec := (0, 0), calHours := [], plans := [], grown := 0, drifts := [],
    trains := [], cause := 0, adds := false, exhausted := false }

/-- Thermal management and the monitor ADC right after a cold reset. -/
def ThermState.reset : ThermState :=
  { sensors := [], warn := ⟨0, 0⟩, thr := ⟨0, 0⟩, shut := ⟨0, 0⟩, thrT := none, before := [], shedT := none, plan := [], lastCh := none,
    ranges := [], settle := [], back := [], pass := 0, calPend := false, stopAfter := false, offset := 0, gain := 0 }

/-- Power path and charger right after a cold reset. -/
def PowState.reset : PowState :=
  { goodT := none, returnDue := false, minimal := false, t0 := 0, onStore := false, illegal0 := 0, lossSeen := false,
    raw0 := (0, 0), rearm := false, snap := (0, 0, 0, 0, 0), txns := [], ring := [], lossSeq := 0, chgFrom := 0,
    chgLimit := 16, chgSteps := 0, chgTimer := 0, chgConds := 0, chgRead := false, chgT := 0 }

/-- The OTP controller right after a cold reset: nothing judged yet. -/
def OtpState.reset : OtpState :=
  { fuses := [], queue := [], finishing := false, reburn := [], reburnH := none, reading := none, shadow := [], cause := 0 }

/-- Start-up right after a cold reset: step 1 of R463 is done. -/
def BootState.reset : BootState := { step := 1, bootsel := 0, straps := 0, fw := [], beat := 0, held := [], resetT := 0 }

/-- The debug port right after a cold reset. -/
def DebugState.reset : DebugState :=
  { ir := 0x02, chain := [], challenge := none, delayEnd := 0, delay := 0, status := 0x04,
    opening := none, addr := 0, last := 0, result := 0, sup1 := false, bps := [], mem := [], put := [], get := [] }

/-- The block right after a cold reset. -/
def State.reset : State :=
  { pending := [], now := 0, fresh := 0,
    objs := [(0x140001, 1), (0x140002, 0), (0x141002, 2), (0x141D01, 1), (0x141D02, 1), (0x141D03, 1), (0x141D05, 1)], blobs := [], out := [], resp := none,
    pos := PosState.reset, arr := ArrState.reset, conv := ConvState.reset, rcb := RecState.reset,
    pipe := PipeState.reset, eng := EngState.reset, conf := ConfState.reset, dict := DictState.reset, host := HostState.reset,
    net := NetState.reset, two := TwoState.reset,
    cal := CalState.reset, therm := ThermState.reset, pow := PowState.reset, otp := OtpState.reset,
    boot := BootState.reset, dbg := DebugState.reset }

end Sys2Proof.Machine
end

