-- ==== Sys2Proof/Machine/Store.lean ====
section
/-!
DEFINITION. The dictionary's store: the sorted lists that hold values by key, the object table's lookup, reading and
writing the value in force, counters, and the byte strings of the ports (R16, R300, R301).
-/
namespace Sys2Proof.Machine

/-! ### Lists sorted by key -/

/-- The entry of a key. -/
def mapGet {β : Type} : List (Nat × β) → Nat → Option β
  | [], _ => none
  | (a, x) :: t, k => if a = k then some x else mapGet t k

/-- Set the entry of a key, keeping the order. -/
def mapPut {β : Type} : List (Nat × β) → Nat → β → List (Nat × β)
  | [], k, v => [(k, v)]
  | (a, x) :: t, k, v =>
    if k < a then (k, v) :: (a, x) :: t
    else if a = k then (k, v) :: t
    else (a, x) :: mapPut t k v

/-- Remove the entry of a key. -/
def mapDel {β : Type} (m : List (Nat × β)) (k : Nat) : List (Nat × β) := m.filter fun p => p.1 ≠ k

/-- Every key of the list is above `k`, and the keys rise strictly. -/
def mapAbove {β : Type} : Nat → List (Nat × β) → Bool
  | _, [] => true
  | k, (a, _) :: t => decide (k < a) && mapAbove a t

/-- The keys of the list rise strictly. -/
def mapSorted {β : Type} : List (Nat × β) → Bool
  | [] => true
  | (a, _) :: t => mapAbove a t

/-! ### The object table -/

/-- The rows of the chapter that owns an index (the index map of 00_scope.md). -/
def chapterRows (idx : Nat) : List ObjRow :=
  if idx < 0x1400 then objRows00 ++ objRows10
  else if idx < 0x1800 then objRows15
  else if idx < 0x2400 then objRows01
  else if idx < 0x2800 then objRows02
  else if idx < 0x2C00 then objRows03
  else if idx < 0x3000 then objRows04
  else if idx < 0x3200 then objRows05
  else if idx < 0x3400 then objRows13
  else if idx < 0x3800 then objRows05
  else if idx < 0x4000 then objRows08
  else if idx < 0x5000 then objRows06
  else if idx < 0x5400 then objRows09
  else if idx < 0x5800 then objRows11
  else if idx < 0x6000 then objRows12
  else if idx < 0x6800 then objRows14
  else if idx < 0x7000 then objRows16
  else if idx < 0x7800 then objRows13
  else objRows10

/-- The row covers the key. -/
def ObjRow.covers (r : ObjRow) (k : Nat) : Bool :=
  r.idx ≤ k / 256 && k / 256 < r.idx + r.n && r.sub ≤ k % 256 && k % 256 < r.sub + r.m

/-- The row that lists a key, index x 256 + sub-index. -/
def findRow (k : Nat) : Option ObjRow := (chapterRows (k / 256)).find? (·.covers k)

/-- The greatest sub-index any row gives an index: the count of its sub-indices. -/
def subCount (idx : Nat) : Nat :=
  ((chapterRows idx).filter fun r => r.idx ≤ idx && idx < r.idx + r.n).foldl
    (fun n r => max n (r.sub + r.m - 1)) 0

/-- Defaults that depend on the index within a repeated composite: the ring vectors 3 + r (R266) and the channels
of the sequencer slots (R419). -/
def indexedDefault (k : Nat) (d : Int) : Int :=
  if k % 256 = 0x0A && 0x5020 ≤ k / 256 && k / 256 ≤ 0x5029 then 3 + (k / 256 - 0x5020 : Nat)
  else if k % 256 = 1 && 0x6410 ≤ k / 256 && k / 256 ≤ 0x6427 then (k / 256 - 0x6410 : Nat)
  else if k % 256 = 1 && 0x642A ≤ k / 256 && k / 256 ≤ 0x642F then
    ([0, 9, 20, 21, 22, 23].getD (k / 256 - 0x642A) 0 : Nat)
  else d

/-- What a scalar object holds that no entry of the store overrides: the Default column (LNV-24T4). -/
def objDefault (k : Nat) : Int :=
  match findRow k with
  | some r => indexedDefault k r.dflt
  | none => 0

/-- Bytes of a fixed-size type (R301). -/
def OTy.bytes : OTy → Nat
  | .bool | .u8 | .i8 => 1
  | .u16 | .i16 => 2
  | .u32 | .i32 | .q16 | .bits32 => 4
  | .u64 | .i64 | .uq32 | .pos | .bits64 => 8
  | .text | .blob => 0

/-- The type is two's complement (R301). -/
def OTy.signed : OTy → Bool
  | .i8 | .i16 | .i32 | .i64 | .q16 | .pos => true
  | _ => false

/-- The type is a string of bytes of varying length. -/
def OTy.isBlob : OTy → Bool
  | .text | .blob => true
  | _ => false

/-! ### Values in force -/

/-- The scalar value in force of a key. -/
def State.o (s : State) (k : Nat) : Int := (mapGet s.objs k).getD (objDefault k)

/-- The scalar value in force of a key, as a natural number. -/
def State.n (s : State) (k : Nat) : Nat := (s.o k).toNat

/-- The truth of a BOOL in force. -/
def State.b (s : State) (k : Nat) : Bool := s.o k ≠ 0

/-- The scalar value in force of a key is `v`. -/
def State.is (s : State) (k : Nat) (v : Int) : Bool := s.o k == v

/-- Set the scalar value in force of a key; a value equal to the default is not listed. -/
def State.put (s : State) (k : Nat) (v : Int) : State :=
  if v = objDefault k then { s with objs := mapDel s.objs k } else { s with objs := mapPut s.objs k v }

/-- Set several scalar values. -/
def State.puts (s : State) (kvs : List (Nat × Int)) : State := kvs.foldl (fun s p => s.put p.1 p.2) s

/-- A BOOL as a value. -/
def boolI (b : Bool) : Int := if b then 1 else 0

/-- Set a BOOL. -/
def State.putB (s : State) (k : Nat) (b : Bool) : State := s.put k (boolI b)

/-- The greatest value of the key's type. -/
def maxOf (k : Nat) : Int :=
  match findRow k with
  | some r => if r.ty.signed then 2 ^ (8 * r.ty.bytes - 1) - 1 else 2 ^ (8 * r.ty.bytes) - 1
  | none => 0

/-- Add to a counter that wraps at the width of its type. -/
def State.bump (s : State) (k : Nat) (d : Nat := 1) : State := s.put k ((s.o k + d) % (maxOf k + 1))

/-- Add to a counter that saturates at the greatest value of its type. -/
def State.sat (s : State) (k : Nat) (d : Nat := 1) : State := s.put k (min (s.o k + d) (maxOf k))

/-- Set bits of a bit map. -/
def State.setBits (s : State) (k m : Nat) : State := s.put k ((s.n k ||| m : Nat) : Int)

/-- Clear bits of a bit map. -/
def State.clrBits (s : State) (k m : Nat) : State := s.put k ((s.n k ^^^ (s.n k &&& m) : Nat) : Int)

/-- Bit of a bit map. -/
def State.bit (s : State) (k i : Nat) : Bool := (s.n k).testBit i

/-! ### Byte strings (R16, R301) -/

/-- Little-endian bytes of a natural number. -/
def leBytes : Nat → Nat → List Nat
  | 0, _ => []
  | n + 1, x => (x % 256) :: leBytes n (x / 256)

/-- The natural number of little-endian bytes. -/
def leNat : List Nat → Nat
  | [] => 0
  | b :: t => b % 256 + 256 * leNat t

/-- The bytes of a value of a type. -/
def encodeVal (ty : OTy) (v : Int) : List Nat := leBytes ty.bytes (wrapU (8 * ty.bytes) v)

/-- The value of the bytes of a type. -/
def decodeVal (ty : OTy) (bs : List Nat) : Int :=
  if ty.signed then wrapS (8 * ty.bytes) (leNat bs) else leNat bs

/-- A little-endian unsigned field of a byte string: offset and length. -/
def fieldAt (bs : List Nat) (off len : Nat) : Nat := leNat ((bs.drop off).take len)

/-- A little-endian signed field of a byte string. -/
def sfieldAt (bs : List Nat) (off len : Nat) : Int := wrapS (8 * len) (fieldAt bs off len)

/-- Overwrite bytes at an offset; bytes beyond the end are not added. -/
def setBytes (bs : List Nat) (off : Nat) (v : List Nat) : List Nat :=
  bs.take off ++ v.take (bs.length - off) ++ bs.drop (off + v.length)

/-- CRC-32C (Castagnoli) of one byte, reflected form. -/
def crcByte (crc b : Nat) : Nat :=
  (List.range 8).foldl (fun c _ => if c % 2 = 1 then (c / 2) ^^^ 0x82F63B78 else c / 2) (crc ^^^ b)

/-- CRC-32C of a byte string. PRESUMED: the spec names CRC-32C; polynomial 0x1EDC6F41 reflected, initial and final
value all ones, are the common definition (log entry 12). -/
def crc32c (bs : List Nat) : Nat := (bs.foldl crcByte 0xFFFFFFFF) ^^^ 0xFFFFFFFF

/-- Bytes with a pattern of bit errors put on them. -/
def xorBytes (bs errs : List Nat) : List Nat := bs.mapIdx fun i b => b ^^^ errs.getD i 0

end Sys2Proof.Machine
end

