-- ==== Sys2Proof/Machine/Ops.lean ====
section
/-!
DEFINITION. The named operations every family uses: BLOB values in force, time, the event log and its delivery,
completion entries and interrupt vectors, the state codes of the tables, and the units a variant has.
-/
namespace Sys2Proof.Machine

/-! ### BLOB and TEXT values in force -/

/-- Neutral margin plan (R400, R493). -/
def neutralPlan : List Nat :=
  let body := List.replicate 8 0 ++ leBytes 2 300 ++ leBytes 2 500 ++ [5, 0, 0, 0]
    ++ (List.range 24).flatMap (fun _ => [0, 0, 0, 0, 0, 0] ++ leBytes 2 800) ++ List.replicate 812 0
  body ++ leBytes 4 (crc32c body)

/-- Default view map of the two-wire target (R367). -/
def defaultViewMap : List Nat :=
  (List.range 256).flatMap fun w => if w ≤ 0x11 then leBytes 2 0x1010 ++ [w, 0] else [0xFF, 0xFF, 0, 0]

/-- What a BLOB or TEXT object holds that no entry of the store overrides: the Default column, with the neutral
values of R493 for the objects of the calibration set. -/
def blobDefault (k : Nat) : List Nat :=
  let i := k / 256
  if k = 0x100001 then [77, 101, 104, 114, 97, 114, 100]
  else if k = 0x100002 then [76, 78, 86, 45, 50, 52, 84, 52]
  else if i = 0x4010 || (0x4100 ≤ i && i ≤ 0x41BF) then List.replicate 64 0
  else if k = 0x500008 then List.replicate 16 0
  else if i = 0x5810 then defaultViewMap
  else if i = 0x6460 then List.replicate 384 0
  else if 0x2840 ≤ i && i ≤ 0x2857 then List.replicate 128 0xFF
  else if 0x2C40 ≤ i && i ≤ 0x2C57 then List.replicate 2048 0
  else if 0x3210 ≤ i && i ≤ 0x3216 then (List.range 24576).flatMap fun _ => [0, 0x40]
  else if 0x3218 ≤ i && i ≤ 0x321D then (List.range 384).flatMap fun _ => [0, 0x40]
  else if 0x3220 ≤ i && i ≤ 0x322E then List.replicate 49152 0
  else if 0x3240 ≤ i && i ≤ 0x3243 then (List.range 24576).flatMap fun _ => [0, 0x80]
  else if 0x3244 ≤ i && i ≤ 0x3247 then (List.range 24576).flatMap fun _ => [0x28, 0x23]
  else if i = 0x3250 then List.replicate 512 0
  else if i = 0x3258 then neutralPlan
  else if 0x3300 ≤ i && i ≤ 0x335F then (List.range 17152).map fun j => Config.neutralFactor (j % 16) % 256
  else []

/-- The bytes in force of a BLOB or TEXT object. -/
def State.blob (s : State) (k : Nat) : List Nat := (mapGet s.blobs k).getD (blobDefault k)

/-- Set the bytes of a BLOB or TEXT object; bytes equal to the default are not listed. -/
def State.putBlob (s : State) (k : Nat) (v : List Nat) : State :=
  if v = blobDefault k then { s with blobs := mapDel s.blobs k } else { s with blobs := mapPut s.blobs k v }

/-! ### Time -/

/-- Ticks of 2.5 ns in a microsecond, a millisecond and a second. -/
def tickUs : Nat := 400
/-- Ticks in a millisecond. -/
def tickMs : Nat := 400000
/-- Ticks in a second. -/
def tickS : Nat := 400000000

/-- The clock reaches tick `t`; it never runs back. -/
def State.atTick (s : State) (t : Nat) : State := { s with now := max s.now t }

/-- The device sends something out. -/
def State.emit (s : State) (x : Out) : State := { s with out := s.out ++ [x] }

/-- A value moved up by `n` bits, to lay out an event's DATA. -/
def shl (x n : Nat) : Nat := x * 2 ^ n

/-- A value the spec leaves open, at least `lo` and below `hi`, and the state with the counter advanced (log entry 24). -/
def State.free (s : State) (lo hi : Nat) : Nat × State :=
  (lo + Config.freeValue s.fresh % (max 1 (hi - lo)), { s with fresh := s.fresh + 1 })

/-! ### Codes of the state objects -/

/-- Run states (`0x2040.02`). -/
def rsIdle : Int := 0
/-- `WAIT_EPOCH`. -/
def rsWaitEpoch : Int := 1
/-- `STARTING`. -/
def rsStarting : Int := 2
/-- `RUNNING`. -/
def rsRunning : Int := 3
/-- `STALLED`. -/
def rsStalled : Int := 4
/-- `STOPPING`. -/
def rsStopping : Int := 5
/-- `PENDING_START`. -/
def rsPendingStart : Int := 6

/-- The run state in force (R41). -/
def State.run (s : State) : Int := s.o 0x204002

/-- Device states (`0x1020.01`). -/
def dsBooting : Int := 0
/-- `READY`. -/
def dsReady : Int := 1
/-- `RESTRICTED`. -/
def dsRestricted : Int := 2
/-- `HOLDUP`. -/
def dsHoldup : Int := 3
/-- `SHUTDOWN`. -/
def dsShutdown : Int := 4

/-- Status codes of R307. -/
def stOk : Nat := 0x00
/-- `NO_OBJECT`. -/
def stNoObject : Nat := 0x01
/-- `ABSENT`. -/
def stAbsent : Nat := 0x02
/-- `ACCESS`. -/
def stAccess : Nat := 0x03
/-- `TYPE`. -/
def stType : Nat := 0x04
/-- `RANGE`. -/
def stRange : Nat := 0x05
/-- `BUSY`. -/
def stBusy : Nat := 0x06
/-- `NOT_IN_TXN`. -/
def stNotInTxn : Nat := 0x07
/-- `TXN_LIMIT`. -/
def stTxnLimit : Nat := 0x08
/-- `CONFLICT`. -/
def stConflict : Nat := 0x09
/-- `CONSTRAINT`. -/
def stConstraint : Nat := 0x0A
/-- `LOCKED`. -/
def stLocked : Nat := 0x0B
/-- `STATE`. -/
def stState : Nat := 0x0C
/-- `TIMEOUT`. -/
def stTimeout : Nat := 0x0D
/-- `ROLLED_BACK`. -/
def stRolledBack : Nat := 0x0E

/-- Sources of R165. -/
def srcM : Nat := 0x10
/-- Array W. -/
def srcW : Nat := 0x11

/-! ### Units of the variant (R1 to R12) -/

/-- Variant code `0x1010.01`. -/
def State.variant (s : State) : Int := s.o 0x101001

/-- Segment `sg` is present (R8). -/
def State.segPresent (s : State) (sg : Nat) : Bool := s.bit 0x10100E sg

/-- Present segments, ascending. -/
def State.segs (s : State) : List Nat := (List.range 24).filter s.segPresent

/-- Active columns (R3). -/
def State.columns (s : State) : Nat := s.n 0x101004

/-- Global engine `e` is present (R5, R8). -/
def State.engPresent (s : State) (e : Nat) : Bool :=
  e < 192 && s.segPresent (e / 8) && s.bit 0x10100D (e % 8)

/-- Bank or field 0x0A to 0x0D is present. -/
def State.fieldPresent (s : State) (f : Nat) : Bool := 0x0A ≤ f && f ≤ 0x0D && s.b (0x101005 + (f - 0x0A))

/-- Source code names a present source (R12). -/
def State.srcPresent (s : State) (f : Nat) : Bool :=
  s.fieldPresent f || (f = srcM && s.b 0x101009) || (f = srcW && s.b 0x10100A) || (0x20 ≤ f && f ≤ 0x23)
    || (0x40 ≤ f && f ≤ 0x47 && s.b 0x10100B)

/-! ### Power domains (R427) -/

/-- State key of domain `n`. -/
def pdKey (n : Nat) : Nat := (0x1410 + n) * 256 + 2

/-- Domain `n` is `ON`. -/
def State.pdOn (s : State) (n : Nat) : Bool := s.o (pdKey n) = 2

/-! ### Interrupt vectors (R266) -/

/-- A dword of configuration space as the host wrote it. Registers that the model reads start as the base specification that R259
names resets them (PRESUMED); others at a free value (log entry 23). -/
def State.cfgWord (s : State) (off : Nat) : Nat :=
  (mapGet s.host.cfg off).getD (
    if off = 0x78 then 0x2810
    else if off = 0x04 || off = 0x80 || off = 0x218 || (0x10 ≤ off && off ≤ 0x24) then 0 else Config.cfgReset off % 2 ^ 32)

/-- Max_Payload_Size, at most 512 (R263). -/
def State.maxPayload (s : State) : Nat := min 512 (128 * 2 ^ (s.cfgWord 0x78 / 32 % 8))

/-- Max_Read_Request_Size, at most 4,096 (R263). -/
def State.maxRead (s : State) : Nat := min 4096 (128 * 2 ^ (s.cfgWord 0x78 / 4096 % 8))

/-- Relaxed Ordering is set on the records of rings and of the Reach, where the host enables it (R263). -/
def State.relaxed (s : State) (kind : Nat) : Bool := (kind = 0 || kind = 5) && (s.cfgWord 0x78).testBit 4

/-- The DMA engine writes into host memory (R263), by posted writes of up to Max_Payload_Size; every byte counts in `0x5000.0B`. -/
def State.dma (s : State) (kind ring addr : Nat) (bytes : List Nat) : State :=
  let n := s.maxPayload
  (List.range (ceilDiv bytes.length n)).foldl (fun (s : State) i =>
    s.emit (.hostWrite kind (s.relaxed kind) ring (addr + n * i) ((bytes.drop (n * i)).take n))) (s.bump 0x50000B bytes.length)

/-- The DMA engine reads host memory, by requests of up to Max_Read_Request_Size (R263). -/
def State.readHost (s : State) (kind ring addr len : Nat) : State :=
  let n := s.maxRead
  (List.range (ceilDiv len n)).foldl (fun (s : State) i =>
    s.emit (.hostRead kind ring (addr + n * i) (min n (len - n * i)))) s

/-- The write-back area (R268), written before a message that announces it. -/
def State.writeBack (s : State) : State :=
  let a := s.n 0x503201
  if a = 0 then s
  else
    let rings := (List.range 10).flatMap fun r => leBytes 8 (s.n ((0x5020 + r) * 256 + 8))
    let body := rings ++ List.replicate 48 0 ++ leBytes 8 (s.n 0x503004) ++ leBytes 8 (s.n 0x503104)
      ++ leBytes 8 (s.n 0x504008) ++ leBytes 8 (s.n 0x340003)
    s.dma 4 0 a (body ++ List.replicate 96 0)

/-- A vector fires: the write-back area, then the message (R266). -/
def State.fire (s : State) (v : Nat) : State :=
  ({ s with host := { s.host with vecs := s.host.vecs.filter (·.vec ≠ v) } }.writeBack).emit (.msix v)

/-- An entry has been written for a vector: count it, and fire when the moderation count is reached. -/
def State.signal (s : State) (v : Nat) : State :=
  let old := (s.host.vecs.find? (·.vec = v)).getD ⟨v, 0, s.now⟩
  let rest := s.host.vecs.filter (·.vec ≠ v)
  if s.n 0x503203 ≤ old.count + 1 then s.fire v
  else { s with host := { s.host with vecs := rest ++ [{ old with count := old.count + 1 }] } }

/-! ### The event log and the event queue (R272, R325) -/

/-- The 32 bytes of an event-queue entry. -/
def LogEntry.bytes (e : LogEntry) (phase : Nat) (tail : Nat) : List Nat :=
  leBytes 2 e.code ++ [e.seg, e.elem, phase, 0, 0, 0] ++ leBytes 8 e.line ++ leBytes 8 e.data
    ++ leBytes 4 e.section_ ++ leBytes 4 tail

/-- Enter an event into the on-die log. -/
def State.logEvent (s : State) (e : LogEntry) : State :=
  let s := s.bump 0x780002
  let s := if 0x0100 ≤ e.code && e.code ≤ 0x0FFF then s.sat (0x781000 + e.code / 256) else s
  if s.dict.log.length < 1024 then { s with dict := { s.dict with log := s.dict.log ++ [e] } }
  else
    let s := { s with dict := { s.dict with log := s.dict.log.drop 1 ++ [e] } }
    (s.bump 0x780003).bump 0x780006

/-- A queue index one further, wrapping at the size. -/
def nextIx (size i : Nat) : Nat := if i + 1 < size then i + 1 else 0

/-- Write one entry into the event queue, which has room. -/
def State.evWrite (s : State) (e : LogEntry) : State :=
  let p := s.n 0x503104
  let ph := if s.host.evPhase then 1 else 0
  let s := s.dma 3 0 (s.n 0x503101 + 32 * p) (e.bytes ph 0)
  let s := s.put 0x503104 (nextIx (s.n 0x503102) p)
  let s := if nextIx (s.n 0x503102) p = 0 then { s with host := { s.host with evPhase := !s.host.evPhase } } else s
  s.signal (s.n 0x503107)

/-- The event queue is full. -/
def State.evFull (s : State) : Bool := nextIx (s.n 0x503102) (s.n 0x503104) = s.n 0x503105

/-- Deliver an event to the event queue; one that finds it full is omitted and counted (R272). -/
def State.evDeliver (s : State) (e : LogEntry) : State :=
  if !s.b 0x503103 || s.host.d3 || !s.b (0x782000 + e.code / 256) then s
  else if s.evFull then
    { s.bump 0x503106 with host := { s.host with evOmitted := s.host.evOmitted + 1 } }
  else s.evWrite e

/-- The header of a Pehel message (R332). -/
def pehel (typ seq txn serial : Nat) : List Nat :=
  [1, typ] ++ leBytes 2 seq ++ leBytes 4 txn ++ leBytes 8 serial

/-- Queue a frame; the port sends none while transmit is disabled (R337). -/
def State.queueFrame (s : State) (f : TxFrame) : State :=
  if s.b 0x540001 then { s with net := { s.net with txq := s.net.txq ++ [f] } } else s

/-- A message the head originates takes the next SEQ. -/
def State.nextSeq (s : State) : State := { s with net := { s.net with seq := (s.net.seq + 1) % 65536 } }

/-- Queue a NOTIFY for an event whose class is set in the mask (R339). -/
def State.notify (s : State) (e : LogEntry) : State :=
  if s.b 0x540001 && s.bit 0x540007 (e.code / 256) then
    (s.queueFrame ⟨3, s.n 0x540005, pehel 0x08 s.net.seq 0 (s.n 0x100003) ++ e.bytes 0 (e.seq % 2 ^ 32)⟩).nextSeq
  else s

/-- An event enters the log with its sequence number, the event queue and the notifications. -/
def State.enterEvent (s : State) (e : LogEntry) : State :=
  let e := { e with seq := s.n 0x780002 }
  ((s.logEvent e).evDeliver e).notify e

/-- Raise an event of a unit: segment and element 0xFF at device level (R17). Before PD2 is on, PD0 holds up to 16
events (R463). -/
def State.raiseAt (s : State) (code seg elem : Nat) (data : Int) : State :=
  let e : LogEntry := { seq := 0, code, seg, elem, line := s.n 0x202003, section_ := s.n 0x202004, data := wrapU 64 data }
  if s.pdOn 2 || (s.boot.step = 3 && s.is (pdKey 2) 1) then s.enterEvent e
  else if s.boot.held.length < 16 then { s with boot := { s.boot with held := s.boot.held ++ [e] } }
  else s

/-- PD2 is on: the events held in PD0 enter the log (R463). -/
def State.releaseHeld (s : State) : State :=
  s.boot.held.foldl State.enterEvent { s with boot := { s.boot with held := [] } }

/-- Raise a device-level event. -/
def State.raise (s : State) (code : Nat) (data : Int := 0) : State := s.raiseAt code 0xFF 0xFF data

/-- Raise an event unless one of this code and discriminator was raised in the present section. -/
def State.raiseFirst (s : State) (code : Nat) (disc : Nat := 0) (data : Int := 0) : State :=
  if s.dict.seen.contains (code, disc) then s
  else { s with dict := { s.dict with seen := (code, disc) :: s.dict.seen } }.raise code data

/-- Raise an event of a segment unless one of this code was raised in the present section. -/
def State.raiseFirstAt (s : State) (code seg : Nat) (data : Int) : State :=
  if s.dict.seen.contains (code, 0) then s
  else { s with dict := { s.dict with seen := (code, 0) :: s.dict.seen } }.raiseAt code seg 0xFF data

/-! ### Completion entries (R270, R271, R296) -/

/-- The 32 bytes of a completion entry. -/
def CqEntry.bytes_ (e : CqEntry) (phase : Bool) : List Nat :=
  [e.kind, e.ring, e.cause, (if phase then 128 else 0) + (if e.merged then 1 else 0)] ++ leBytes 4 e.ref
    ++ leBytes 8 e.first ++ leBytes 8 e.last ++ leBytes 4 e.count ++ leBytes 4 e.bytes

/-- The completion queue is full. -/
def State.cqFull (s : State) : Bool := nextIx (s.n 0x503002) (s.n 0x503004) = s.n 0x503005

/-- The vector that announces a ring's entries (R266). -/
def State.cqVector (s : State) (ring : Nat) : Nat :=
  if ring ≤ 9 then s.n ((0x5020 + ring) * 256 + 0x0A) else s.n 0x503008

/-- Write one entry into the completion queue, which has room. -/
def State.cqWrite (s : State) (e : CqEntry) : State :=
  let p := s.n 0x503004
  let s := s.dma 2 e.ring (s.n 0x503001 + 32 * p) (e.bytes_ s.host.cqPhase)
  let s := s.put 0x503004 (nextIx (s.n 0x503002) p)
  let s := if nextIx (s.n 0x503002) p = 0 then { s with host := { s.host with cqPhase := !s.host.cqPhase } } else s
  s.signal (s.cqVector e.ring)

/-- Join an entry to the newest one of the same ring and kind. -/
def mergeEntry (old e : CqEntry) : CqEntry :=
  { old with merged := true, first := min old.first e.first, last := max old.last e.last, count := old.count + e.count }

/-- Merge an entry into the newest entry of the same ring and kind, if there is one. -/
def mergeInto (l : List CqEntry) (e : CqEntry) : List CqEntry :=
  match l.reverse.findIdx? (fun x => x.ring = e.ring && x.kind = e.kind) with
  | some i => (l.reverse.modify i (mergeEntry · e)).reverse
  | none => l

/-- Enter an entry into the detached log (R296). -/
def State.detach (s : State) (e : CqEntry) : State :=
  if s.host.detached.length < 256 then
    { s with host := { s.host with detached := s.host.detached ++ [e] } }.put 0x50F001 (s.host.detached.length + 1)
  else
    let s := { s with host := { s.host with detached := mergeInto s.host.detached e } }
    let s := if s.n 0x50F002 = 0 then s.raise 0x0711 else s
    s.bump 0x50F002

/-- Report a completion entry: to the queue, to the backlog when the queue is full, to the detached log while the
queue is disabled. A failure entry that finds the backlog full merges (R271). -/
def State.complete (s : State) (e : CqEntry) : State :=
  if !s.b 0x503003 || s.host.d3 then s.detach e
  else if s.host.backlog.isEmpty && !s.cqFull then s.cqWrite e
  else if s.host.backlog.length < 1024 then
    let s := s.raiseFirst 0x0707
    { s with host := { s.host with backlog := s.host.backlog ++ [e] } }.put 0x503006 (s.host.backlog.length + 1)
  else
    let s := if s.n 0x503007 = 0 then s.raise 0x0708 else s
    { s with host := { s.host with backlog := mergeInto s.host.backlog e } }.bump 0x503007

/-- The backlog drains in order while the queue has room: at most `n` entries. -/
def State.drainBacklog : Nat → State → State
  | 0, s => s
  | n + 1, s =>
    match s.host.backlog with
    | [] => s
    | e :: t =>
      if s.cqFull || !s.b 0x503003 then s
      else State.drainBacklog n (({ s with host := { s.host with backlog := t } }.put 0x503006 t.length).cqWrite e)

/-- Key of sub-index `j` of data ring `r`. -/
def ringKey (r j : Nat) : Nat := (0x5020 + r) * 256 + j

/-- A data ring. -/
def State.ring (s : State) (r : Nat) : RingSt :=
  (s.host.rings.find? (·.no = r)).getD { no := r, descs := [], fetch := 0, fetching := none, buf := none }

/-- Replace a data ring. -/
def State.setRing (s : State) (x : RingSt) : State :=
  { s with host := { s.host with rings := s.host.rings.map fun y => if y.no = x.no then x else y } }

/-- The ring is `ACTIVE`. -/
def State.ringActive (s : State) (r : Nat) : Bool := s.is (ringKey r 9) 1

/-- A buffer may complete: the backlog is not full. -/
def State.mayComplete (s : State) : Bool := s.host.backlog.length < 1024

/-- The open buffer of a ring completes. -/
def State.bufDone (s : State) (r : Nat) : State :=
  match (s.ring r).buf with
  | none => s
  | some b =>
    let s := s.setRing { s.ring r with buf := none }
    let s := s.put (ringKey r 8) (nextIx (s.n (ringKey r 2)) b.desc.idx)
    s.complete { kind := 1, ring := r, cause := 0, merged := false, ref := b.desc.idx + 65536 * b.desc.tag,
                 first := b.first, last := b.last, count := b.count, bytes := b.used }

/-- The source of a ring stops or is disabled, or its next record does not fit: its open buffer completes (R269), unless the backlog
is full (R271). -/
def State.bufClose (s : State) (r : Nat) : State := if s.ringActive r && s.mayComplete then s.bufDone r else s

/-! ### Epochs and staging (R310, R315, R321) -/

/-- What the entries of a list were where another list differs: none for a key that was not listed. -/
def mapOld {β : Type} [DecidableEq β] (old new : List (Nat × β)) : List (Nat × Option β) :=
  ((old.filter fun p => mapGet new p.1 ≠ some p.2).map fun p => (p.1, some p.2))
    ++ (new.filter fun p => (mapGet old p.1).isNone).map fun p => (p.1, none)

/-- Entries set back to what they were. -/
def mapBack {β : Type} (m : List (Nat × β)) (l : List (Nat × Option β)) : List (Nat × β) :=
  l.foldl (fun m p => match p.2 with | some x => mapPut m p.1 x | none => mapDel m p.1) m

/-- The settings that the boundary at line `b` replaced stay known for the lines before it. -/
def State.keepPast (s0 s : State) (b : Nat) : State :=
  let p : Past := { upto := b, objs := mapOld s0.objs s.objs, blobs := mapOld s0.blobs s.blobs }
  if p.objs.isEmpty && p.blobs.isEmpty then s else { s with pipe := { s.pipe with past := p :: s.pipe.past } }

/-- The state with the settings that were in force for line `n`; read only, to process that line (R304, R315). -/
def State.asOf (s : State) (n : Nat) : State :=
  (s.pipe.past.filter fun p => n < p.upto).foldl (fun (s : State) p =>
    { s with objs := mapBack s.objs p.objs, blobs := mapBack s.blobs p.blobs }) s

/-- The next configuration epoch: 1 after the greatest. -/
def State.nextEpoch (s : State) : Nat := if s.n 0x7C0006 = 2 ^ 32 - 1 then 1 else s.n 0x7C0006 + 1

/-- A commit came from a host port, so that its entries count in the staging memory. -/
def Commit.isHost (c : Commit) : Bool :=
  match c.origin with
  | .port _ => true
  | .profile => true
  | .control => false
  | .calib => false

/-- The parameter of a commit's entry in the event table, and the port of event 0x0804 (R316, R176, R397). -/
def Commit.param (c : Commit) : Nat :=
  match c.origin with
  | .port p => p
  | .profile => 0xFD
  | .calib => 0xFE
  | .control => 0xFF

/-- BLOB bytes of staged values. -/
def blobBytes (l : List (Nat × List Nat)) : Nat :=
  (l.map fun p => match findRow p.1 with | some r => if r.ty.isBlob then p.2.length else 0 | none => 0).sum

/-- Entries of the staging memory in use: open and pending. -/
def State.entriesUsed (s : State) : Nat :=
  (s.dict.txns.map (·.staged.length)).sum + ((s.dict.commits.filter Commit.isHost).map (·.entries.length)).sum

/-- BLOB bytes of the staging memory in use. -/
def State.bytesUsed (s : State) : Nat :=
  (s.dict.txns.map fun t => blobBytes t.staged).sum
    + ((s.dict.commits.filter Commit.isHost).map fun c => blobBytes c.entries).sum

/-- The staging books follow what is staged and pending (`0x7C00.03` to `.05`). -/
def State.showStaging (s : State) : State :=
  s.puts [(0x7C0003, s.entriesUsed), (0x7C0004, s.bytesUsed), (0x7C0005, (s.dict.commits.filter Commit.isHost).length)]

/-- The unit plans. -/
def State.planning (s : State) : Bool := s.is 0x700008 1

/-- A re-plan starts with a cause of R400. -/
def State.replanStart (s : State) (cause : Nat) : State :=
  if s.planning || !s.pdOn 2 then s
  else { s with cal := { s.cal with cause := cause } }.put 0x700008 1

/-- A threshold condition (R401). -/
def State.marginThreshold (s : State) : State :=
  if s.planning || !s.pdOn 2 then s else (s.raise 0x0B0C).replanStart 2

/-- Hot groups plus unrepaired columns (R401). -/
def State.growth (s : State) : Nat := s.n 0x703801 + s.n 0x703802

/-- Defect growth meets its threshold. -/
def State.growthCheck (s : State) : State := if s.cal.grown + 16 ≤ s.growth then s.marginThreshold else s

end Sys2Proof.Machine
end

