-- ==== Sys2Proof/Machine/Position.lean ====
section
/-!
DEFINITION. Position keeping (01_position_keeping.md, R18 to R31, R40, R58): POS64 as a function of time, the
decoder's steps, counted edges, the epoch, the line grid, user entries and TRIG_OUT. What a line trigger or a run
command does is in Run.lean.
-/
namespace Sys2Proof.Machine

/-! ### POS64 -/

/-- POS64 of one piece at tick `t` (R25, R45). -/
def posOf (sn : Snap) (t : Nat) : Int :=
  let dt := min (t - sn.t) sn.lim
  let m := min (sn.num.natAbs * dt / sn.den) sn.cap
  if sn.num < 0 then sn.base - m else sn.base + m

/-- POS64 at tick `t`: the newest piece that had begun by then. -/
def State.posAt (s : State) (t : Nat) : Int :=
  match s.pos.snaps.find? (·.t ≤ t) with
  | some sn => posOf sn t
  | none => s.pos.cnt

/-- POS64 now. -/
def State.livePos (s : State) : Int := s.posAt s.now

/-- Trigger mode (R44). -/
def State.tmode (s : State) : Int := s.o 0x202801

/-- The trigger mode takes its lines from the grid of R31 or from a sheet. -/
def State.gridMode (s : State) : Bool := s.tmode = 0 || s.tmode = 1 || s.tmode = 4

/-- Direction of travel is reverse (`0x2010.06`). -/
def State.rev (s : State) : Bool := s.o 0x201006 = 1

/-- Epoch state `SET`. -/
def State.epochSet (s : State) : Bool := s.o 0x201804 = 2

/-- Keep the pieces needed for positions from tick `t` on: those that begin after it and the one in force at it. -/
def pruneSnaps (t : Nat) (l : List Snap) : List Snap :=
  l.takeWhile (fun x => t < x.t) ++ (l.dropWhile (fun x => t < x.t)).take 1

/-- A new piece of POS64 begins. The pieces of the latest filter time, and those since the start of the line in progress and of
the rows of W being exposed, stay readable (R19, R36, R83). -/
def State.pushSnap (s : State) (sn : Snap) : State :=
  let starts := (match s.arr.cur with | some c => [c.start] | none => [])
    ++ s.arr.wFrames.map fun w => w.start + 250 * w.next - w.expo
  { s with pos := { s.pos with snaps := sn :: pruneSnaps (starts.foldl min (s.now - 1024)) s.pos.snaps } }

/-- Ticks of the estimator horizon (R26). -/
def State.horizon (s : State) : Nat := s.n 0x201003 * tickUs

/-- Whole counts, rounded down, in 1/65,536 count. -/
def floorCount (x : Int) : Int := x / 65536 * 65536

/-- Whole counts, rounded up, in 1/65,536 count. -/
def ceilCount (x : Int) : Int := -(-x / 65536 * 65536)

/-- The value POS64 takes at a counted edge: the next whole count in its direction (R25, R29). -/
def nextCount (cnt : Int) (rev : Bool) : Int :=
  wrapS 64 (if rev then ceilCount cnt - 65536 else floorCount cnt + 65536)

/-- The virtual source continues from a position at tick `t` at the velocity in force (R45). -/
def State.virtualSnap (s : State) (base : Int) (t : Nat) : State :=
  let sn : Snap := { t, base, num := s.o 0x202804 * 65536, den := tickS, cap := 2 ^ 63, lim := 2 ^ 63 }
  { s.pushSnap sn with pos := { (s.pushSnap sn).pos with cnt := base } }

/-- POS64 stands at a position from tick `t` on. -/
def State.standSnap (s : State) (base : Int) (t : Nat) : State :=
  s.pushSnap { t, base, num := 0, den := 1, cap := 0, lim := 0 }

/-- Velocity estimate in Q16_16 counts per microsecond (R25). -/
def velQ (n span : Nat) (rev : Bool) : Int :=
  let v : Int := (n * 400 * 65536 / max span 1 : Nat)
  if rev then -v else v

/-! ### The line grid (R30, R31) -/

/-- Effective pitch in force, in 2^-32 count (R34, R135). -/
def State.pitch (s : State) : Nat := s.n 0x202005

/-- Grid point `j`, rounded to 1/65,536 count: half up (DESIGN CHOICE, log entry 86: R30 names no rounding). -/
def State.gridPos (s : State) (j : Int) : Int := (s.pos.gridA + j * s.pitch + 32768) / 65536

/-- One position lies before another along the direction of travel. -/
def before (rev : Bool) (p q : Int) : Bool := if rev then decide (q < p) else decide (p < q)

/-- The next grid point. -/
def State.nextGrid (s : State) : Int := s.gridPos s.pos.gridJ

/-- The first grid index at or beyond a position in a direction (R55). -/
def State.gridIndexAt (s : State) (p : Int) (rev : Bool) : Int :=
  let q : Int := max 1 (s.pitch : Int)
  if rev then ((p + 1) * 65536 - 32769 - s.pos.gridA) / q
  else -((-(p * 65536 - 32768 - s.pos.gridA)) / q)

/-- POS64 has reached or passed a position in the direction of travel. -/
def reached (rev : Bool) (pos target : Int) : Bool := if rev then decide (pos ≤ target) else decide (target ≤ pos)

/-! ### Encoders -/

/-- One of the two encoders. -/
def State.enc (s : State) (i : Nat) : Encoder := if i = 0 then s.pos.enc0 else s.pos.enc1

/-- Replace one of the two encoders. -/
def State.setEnc (s : State) (i : Nat) (e : Encoder) : State :=
  if i = 0 then { s with pos := { s.pos with enc0 := e } } else { s with pos := { s.pos with enc1 := e } }

/-- Configuration composite of an encoder, as the key of its sub-index 0. -/
def encCfg (i : Nat) : Nat := 0x200000 + 256 * i

/-- Status composite of an encoder. -/
def encSt (i : Nat) : Nat := 0x200800 + 256 * i

/-- The encoder is enabled, and decoded: not in standby (R18, R444). -/
def State.encOn (s : State) (i : Nat) : Bool := s.b (encCfg i + 1) && !s.is 0x152005 4

/-- Length of a decoder step, max(F, 8) ticks (R21). -/
def State.stepLen (s : State) (i : Nat) : Nat := max (s.n (encCfg i + 4)) 8

/-- The encoder is the position source (R24, R44). -/
def State.isSource (s : State) (i : Nat) : Bool := i = 0 && s.tmode ≠ 1

/-- Direction of a single legal edge before inversion: forward when A leads B (R20). -/
def edgeForward (onA a b : Bool) : Bool := if onA then a ≠ b else a = b

/-- The multiplier counts a legal edge: on A or B, the level of A after it, in a direction (R20). -/
def edgeCounted (mult : Int) (onA aHigh rev : Bool) : Bool :=
  if mult = 4 then true
  else if mult = 2 then onA
  else onA && (if rev then !aHigh else aHigh)

/-- Judge a closed step: none for an illegal transition, else the channel of its one edge. -/
def judgeStep (st : EncStep) : Option Bool :=
  if st.nA = 1 && st.nB = 0 then some true else if st.nA = 0 && st.nB = 1 then some false else none

/-- Illegal transition: counted, and reported for the first of a section (R21). -/
def State.illegalStep (s : State) (i : Nat) : State :=
  let s := s.sat (encSt i + 2)
  let s := if s.isSource i then s.bump 0x201008 else s
  s.raiseFirst (0x0102 + i)

/-- A counted edge of an encoder at stamp `t`: raw count, edge interval, ENC1 position (R20, R57). -/
def State.countRaw (s : State) (i t : Nat) (rev : Bool) : State :=
  let e := s.enc i
  let k := encSt i
  let s := s.put (k + 1) (wrapS 64 (if rev then s.o (k + 1) - 1 else s.o (k + 1) + 1))
  let s := match e.lastT with
    | some t0 => s.put (k + 4) (min (t - t0) (2 ^ 32 - 1) : Nat)
    | none => s
  s.setEnc i { e with lastT := some t }

/-- The position keeper takes a counted edge of its source at stamp `t` (R25, R26). The horizon in force at the edge limits the
extrapolation that begins with it (DESIGN CHOICE, log entry 87). -/
def State.countPos (s : State) (t : Nat) (rev : Bool) : State :=
  let c := nextCount s.pos.cnt rev
  let ivals := match s.pos.ivT with
    | some t0 => if rev = s.pos.edgeRev then ((t - t0) :: s.pos.ivals).take 16 else []
    | none => []
  let used := ivals.take (2 ^ s.n 0x20100A)
  let span := used.foldl (· + ·) 0
  let num : Int := if rev then -(65536 * used.length : Nat) else (65536 * used.length : Nat)
  let s := s.pushSnap { t, base := c, num, den := max span 1, cap := 65535, lim := s.horizon }
  let s := { s with pos := { s.pos with cnt := c, ivals, ivT := some t, edgeRev := rev } }
  let s := s.put 0x201002 (velQ used.length span rev)
  s.put 0x201005 0

/-- The furthest position in the direction of travel follows the count; true when the count has moved D counts
back from it (R55). -/
def State.hysteresis (s : State) : State × Bool :=
  let c := s.pos.cnt
  let f := if s.rev then min s.pos.furthest c else max s.pos.furthest c
  let back := if s.rev then c - f else f - c
  ({ s with pos := { s.pos with furthest := f } }, decide (s.o 0x201007 * 65536 ≤ back))

/-- The estimator stops at the horizon (R26). -/
def State.coast (s : State) : State :=
  ((s.standSnap s.livePos s.now).put 0x201005 1).put 0x201002 0

/-! ### The epoch (R29) -/

/-- The epoch is set by an edge or a command of stamp `t`, at the preset: POS64, line 0, section 0, the state, event 0x0101. The
section that begins has raised no event yet (R60). The trigger of line 0 is in Run.lean. -/
def State.setEpoch (s : State) (t : Nat) : State :=
  let p := s.o 0x201803
  let s := if s.tmode = 1 then s.virtualSnap p t else s.standSnap p t
  let s := { s with
    pos := { s.pos with
      cnt := p, furthest := p, ivals := [], ivT := none, gridA := p * 65536, gridJ := 0, counted := false,
      pendPitch := none, epochT := some t }
    dict := { s.dict with seen := [] } }
  let s := s.puts [(0x202003, 0), (0x202004, 0), (0x201008, 0), (0x201804, 2)]
  s.raise 0x0101

/-- Z gating lets a rising Z edge qualify (R29). -/
def State.zQualifies (s : State) (i : Nat) : Bool :=
  s.o (encCfg i + 6) = 0 || ((s.enc i).a && (s.enc i).b)

/-! ### User entries and TRIG_OUT (R40, R58) -/

/-- Key of sub-index `j` of user entry `n` (192 to 255). -/
def userKey (n j : Nat) : Nat := (0x2100 + n) * 256 + j

/-- User entries in use. -/
def State.userUsed (s : State) : Nat :=
  ((List.range 64).filter fun i => s.o (userKey (192 + i) 2) ≠ 0).length

/-- The type of a user entry is set; it is no longer armed, and the count of entries in use follows. -/
def State.setUserType (s : State) (n : Nat) (typ : Int) : State :=
  let s := s.put (userKey n 2) typ
  let s := { s with pos := { s.pos with armed := s.pos.armed.filter (·.no ≠ n) } }
  s.put 0x220002 s.userUsed

/-- A position lies behind the present one for a direction qualifier: 1 forward, 2 reverse. -/
def behind (q : Int) (pos target : Int) : Bool :=
  if q = 1 then decide (target < pos) else if q = 2 then decide (pos < target) else false

/-- Arm or disarm a user entry: status and state. An armed entry keeps the values its other sub-indices held (R40). -/
def State.armUser (s : State) (n : Nat) (typ : Int) : Nat × State :=
  let par := s.o (userKey n 4)
  if typ = 0 then (stOk, s.setUserType n 0)
  else if typ ≠ 0x10 && typ ≠ 0x11 then (stRange, s)
  else if typ = 0x10 && par < 4 then (stRange, s)
  else if typ = 0x11 && par ≠ 0 then (stRange, s)
  else
    let p := s.o (userKey n 1)
    if behind (s.o (userKey n 3)) s.livePos p then
      (stOk, ((s.setUserType n 0).bump 0x220003).raise 0x010F n)
    else
      let e : Armed := { no := n, pos := p, typ := typ.toNat, dir := s.n (userKey n 3), param := par.toNat, tag := s.n (userKey n 5),
                         ahead := decide (s.livePos ≤ p) }
      let s' := s.setUserType n typ
      (stOk, { s' with pos := { s'.pos with armed := e :: s'.pos.armed } })

/-- POS64 has reached an armed entry in its direction (R40). -/
def State.entryReached (s : State) (e : Armed) : Bool :=
  let p := s.livePos
  if e.dir = 1 then !s.rev && decide (e.pos ≤ p)
  else if e.dir = 2 then s.rev && decide (p ≤ e.pos)
  else if e.ahead then decide (e.pos ≤ p) else decide (p ≤ e.pos)

/-- One user entry comes before another at the same tick: position along travel, rank (pulses before marks), number (R39). -/
def Armed.first (rev : Bool) (a b : Armed) : Bool :=
  before rev a.pos b.pos || (a.pos = b.pos && (a.typ < b.typ || (a.typ = b.typ && a.no < b.no)))

/-- The user entry that fires next: it has been reached, and no reached entry comes before it. -/
def State.entryNext (s : State) : Option Armed :=
  let l := s.pos.armed.filter s.entryReached
  l.find? fun e => !l.any fun x => x.first s.rev e

/-- A pulse on TRIG_OUT, extending one in progress (R58). -/
def State.pulse (s : State) (width : Nat) : State :=
  let e := s.now + width
  { s with pos := { s.pos with trigOut := true, trigOutEnd := if s.pos.trigOut then max s.pos.trigOutEnd e else e } }

/-! ### The scheduler's own entries (R37) -/

/-- The lowest free scheduler entry. -/
def State.freeEntry (s : State) : Nat :=
  ((List.range 192).find? fun i => !s.pos.sched.any (·.no = i)).getD 0

/-- Enter an action of the scheduler in the event table. -/
def State.addSched (s : State) (pos : Int) (typ dir param tag : Nat) : State :=
  let e : SchedEntry := { no := s.freeEntry, pos, typ, dir, param, tag }
  let s := { s with pos := { s.pos with sched := s.pos.sched ++ [e] } }
  s.put 0x220001 s.pos.sched.length

/-- Retire the scheduler's entries that satisfy a test. -/
def State.dropSched (s : State) (f : SchedEntry → Bool) : State :=
  let s := { s with pos := { s.pos with sched := s.pos.sched.filter fun e => !f e } }
  s.put 0x220001 s.pos.sched.length

end Sys2Proof.Machine
end

