-- ==== Sys2Proof/Machine/Arrays.lean ====
section
/-!
DEFINITION. Pixel arrays, fields and exposure (02_arrays_and_exposure.md, R61 to R92): the phase plan in force, the
sources it names, windows, flag runs, phases and strobes in time, strobe and row-driver faults.
-/
namespace Sys2Proof.Machine

/-! ### Settings in force -/

/-- Key base of a field's settings, `0x2410` for A to `0x2413` for D. -/
def fieldBase (f : Nat) : Nat := (0x2410 + (f - 0x0A)) * 256

/-- The source is one of the fields A to D. -/
def isField (f : Nat) : Bool := 0x0A ≤ f && f ≤ 0x0D

/-- Stage count in use of a source; 1 for M and W (R64, R67). -/
def State.stages (s : State) (f : Nat) : Nat := if isField f then s.n (fieldBase f + 1) else 1

/-- Output full scale of a source in electrons (R87). -/
def State.fullScale (s : State) (f : Nat) : Nat :=
  if isField f then s.n (fieldBase f + 2) else if f = srcM then s.n 0x241401 else s.n 0x24180B

/-- First and last segment of a source's window (R79). -/
def State.window (s : State) (f : Nat) : Nat × Nat :=
  if isField f then (s.n (fieldBase f + 6), s.n (fieldBase f + 7))
  else if f = srcM then (s.n 0x241405, s.n 0x241406) else (s.n 0x241803, s.n 0x241804)

/-- Horizontal binning, vertical binning and arithmetic of a source (R80): 0 MEAN, 1 SUM. W bins by R82. -/
def State.binning (s : State) (f : Nat) : Nat × Nat × Nat :=
  if isField f then (s.n (fieldBase f + 3), s.n (fieldBase f + 4), s.n (fieldBase f + 5))
  else if f = srcM then (s.n 0x241402, s.n 0x241403, s.n 0x241404) else (1, 1, 0)

/-- Bank D input in force: 0 D, 1 M, 2 W (R94). -/
def State.bankD (s : State) : Nat := s.n 0x280402

/-- Phase `p` of the settings in force (R69). -/
def State.phase (s : State) (p : Nat) : Phase :=
  let k := (0x2421 + p) * 256
  { field := s.n (k + 1), len := s.n (k + 2),
    strobes := ((List.range 6).filter fun i => s.bit (k + 3) i).map fun i => (i, s.n (k + 4 + i), s.n (k + 0x0A + i)) }

/-- The phase plan in force. -/
def State.plan (s : State) : List Phase := (List.range (s.n 0x242001)).map s.phase

/-- Sum of the phase lengths in ticks (`0x2420.02`). -/
def planLen (plan : List Phase) : Nat := (plan.map (·.len)).foldl (· + ·) 0

/-- The plan end: 100 ns plus the phase lengths, in ticks (R73). -/
def planEnd (plan : List Phase) : Nat := 40 + planLen plan

/-- Start of phase `p` from the line start, in ticks (R68). -/
def phaseStart (plan : List Phase) (p : Nat) : Nat := 40 + planLen (plan.take p)

/-- A plan names a source in one of its phases. -/
def planNames (plan : List Phase) (f : Nat) : Bool := plan.any (·.field = f)

/-- Sources of an accepted line: the fields and M that the plan names, in ascending code. -/
def planSources (plan : List Phase) : List Nat := [0x0A, 0x0B, 0x0C, 0x0D, 0x10].filter (planNames plan)

/-- W delivers frames: the input is W and the frame mode is not STOPPED (R82, R83). -/
def State.wActive (s : State) : Bool := s.bankD = 2 && s.o 0x241808 ≠ 0

/-- The enabled sources of R42. -/
def State.enabledSources (s : State) : List Nat := planSources s.plan ++ if s.wActive then [srcW] else []

/-- Conversion slots of a source in one line (R96). -/
def State.slots (s : State) (f : Nat) : Nat := if f = srcM then 2 else s.stages f / 16

/-- The bank that serves a source. -/
def bankOf (f : Nat) : Nat := if isField f then f else 0x0D

/-- Slots of a bank's list in the plan in force (R96). -/
def State.bankSlots (s : State) (bank : Nat) : Nat :=
  if bank = 0x0D then
    (if s.bankD = 0 && planNames s.plan 0x0D then s.slots 0x0D
     else if s.bankD = 1 && planNames s.plan srcM then 2 else 0)
  else if planNames s.plan bank then s.slots bank else 0

/-- Length of a line's conversion sequence in ticks: the latest slot end or the 2,500 ns floor (R97), and the plan
end (R73). -/
def State.sequenceLen (s : State) : Nat :=
  let m := [0x0A, 0x0B, 0x0C, 0x0D].foldl (fun m b => max m (40 + 240 * s.bankSlots b)) 1000
  max m (planEnd s.plan)

/-- Length of a flush transfer (R53). -/
def State.flushLen (s : State) : Nat := max 1000 (planEnd s.plan)

/-- Physical groups in use of a field, as a bit map (R64): the last S/16 groups met in the present direction. -/
def groupMap (stages : Nat) (rev : Bool) : Nat :=
  let n := stages / 16
  if rev then 2 ^ n - 1 else (2 ^ n - 1) * 2 ^ (4 - n)

/-- Transfer direction in force is reverse (`0x2440.01`). -/
def State.xferRev (s : State) : Bool := s.o 0x244001 = 1

/-- The read-only objects that follow from the settings in force (R64, R91, R96, R122). -/
def State.refreshPlan (s : State) : State :=
  let s := s.put 0x242002 (planLen s.plan)
  [0x0A, 0x0B, 0x0C, 0x0D].foldl (fun s f =>
    let s := s.put (fieldBase f + 8) (groupMap (s.stages f) s.xferRev)
    let s := s.put ((0x2808 + (f - 0x0A)) * 256 + 3) (s.bankSlots f)
    s.putB ((0x2C08 + (f - 0x0A)) * 256 + 4) (32 ≤ s.stages f)) s

/-- Segments of a window. -/
def segRange (w : Nat × Nat) : List Nat := (List.range 24).filter fun i => w.1 ≤ i && i ≤ w.2

/-- Domains an enabled source uses: both of every segment in its window, the Millrace halves, the tiles of a field, PD70 for M and W
(R42). PD3 and PD4 are the Millrace halves (R427). -/
def State.sourceDomains (s : State) (f : Nat) : List Nat :=
  let segs := (segRange (s.window f)).filter s.segPresent
  let west := if s.variant = 4 then 8 else 12
  segs.flatMap (fun g => [16 + 2 * g, 17 + 2 * g])
    ++ (if segs.any (· < west) then [3] else []) ++ (if segs.any (west ≤ ·) then [4] else [])
    ++ (if isField f then ((List.range 6).filter fun t => segs.any (· / 4 = t)).map (64 + ·) else [])
    ++ (if f = srcM || f = srcW then [70] else [])

/-- Domains acquisition needs and holds (R42). -/
def State.imagingDomains (s : State) : List Nat :=
  [2, 5, 75, 76] ++ (s.enabledSources.flatMap s.sourceDomains).eraseDups

/-! ### Flag runs (R116, R117) -/

/-- Lines up to `last` of a source carry a flag; an overlapping run of the kind ends at the later end. -/
def State.addRun (s : State) (src bit last : Nat) : State :=
  let old := (s.arr.runs.filter fun r => r.src = src && r.bit = bit).map (·.last)
  let rest := s.arr.runs.filter fun r => !(r.src = src && r.bit = bit)
  { s with arr := { s.arr with runs := rest ++ [⟨src, bit, old.foldl max last⟩] } }

/-- A line of a source lies in a run of a flag. -/
def State.inRun (s : State) (src bit line : Nat) : Bool :=
  s.arr.runs.any fun r => r.src = src && r.bit = bit && line ≤ r.last

/-- Runs that ended before a line are forgotten. -/
def State.trimRuns (s : State) (line : Nat) : State :=
  { s with arr := { s.arr with runs := s.arr.runs.filter fun r => r.src = srcW || line ≤ r.last } }

/-- Flags of R166 by bit. -/
def fPartial : Nat := 0
/-- `SETTLE`. -/
def fSettle : Nat := 1
/-- `SKIPPED`. -/
def fSkipped : Nat := 2
/-- `OVERSPEED`. -/
def fOverspeed : Nat := 3
/-- `THROTTLED`. -/
def fThrottled : Nat := 4
/-- `SLIP_UNLOCKED`. -/
def fSlip : Nat := 5
/-- `REPAIRED`. -/
def fRepaired : Nat := 6
/-- `MIXED`. -/
def fMixed : Nat := 7
/-- `HOLDUP`. -/
def fHoldup : Nat := 8
/-- `DIR_CHANGE`. -/
def fDirChange : Nat := 9
/-- `LATE_AUX`. -/
def fLateAux : Nat := 10
/-- `PADDED`. -/
def fPadded : Nat := 11
/-- `CUT`. -/
def fCut : Nat := 12
/-- `HISTORY`. -/
def fHistory : Nat := 13
/-- `SEGMENT_FAIL`. -/
def fSegFail : Nat := 14

/-- A flag word with one bit set when a condition holds. -/
def flagIf (b : Bool) (bit : Nat) : Nat := if b then 2 ^ bit else 0

/-! ### Row drivers (R90) -/

/-- Latch bit of an array's row driver in tile `t`: 5t + (e - 12). -/
def rowBit (tile : Nat) (f : Nat) : Nat := 5 * tile + (if isField f then f - 0x0A else 4)

/-- Segments of a source whose tile has a latched row driver. -/
def State.rowFailedSegs (s : State) (f : Nat) : List Nat :=
  (List.range 24).filter fun g => s.bit 0x243801 (rowBit (g / 4) f)

/-- Arrays served by element 12 + `e`. -/
def arraysOf (e : Nat) : List Nat := if e < 4 then [0x0A + e] else [srcM, srcW]

/-- The variant has the row driver of a latch bit: its tile, and an array it serves (R90, R91). -/
def State.rowPresent (s : State) (bit : Nat) : Bool :=
  bit < 30 && s.segPresent (4 * (bit / 5)) && (arraysOf (bit % 5)).any s.srcPresent

/-- A row driver's clock current has left its window in three consecutive lines: the fault latches. -/
def State.rowFault (s : State) (bit : Nat) : State :=
  if !s.rowPresent bit || s.bit 0x243801 bit then s
  else
    let s := (s.setBits 0x243801 (2 ^ bit)).sat 0x243803
    let s := { s with arr := { s.arr with rowReen := s.arr.rowReen &&& (2 ^ 30 - 1 - 2 ^ bit) } }
    s.raiseAt 0x0203 (4 * (bit / 5)) (12 + bit % 5) bit

/-- Cleared row drivers are re-enabled at a boundary, line `b`, where W goes on with row `w`; the next S lines (for M, 2; W has
one stage) are PARTIAL (log entry 88). The arrays whose fields refill are returned. -/
def State.rowReenable (s : State) (b w : Nat) : State × List Nat :=
  let bits := (List.range 30).filter fun i => s.arr.rowReen.testBit i
  let s := { s with arr := { s.arr with rowReen := 0 } }
  let s := bits.foldl (fun s i => (s.clrBits 0x243801 (2 ^ i)).raiseAt 0x0204 (4 * (i / 5)) (12 + i % 5) i) s
  let arrays := (bits.flatMap fun i => arraysOf (i % 5)).eraseDups
  let s := if arrays.contains srcM then (s.addRun srcM fPartial (b + 1)).addRun srcW fPartial w else s
  (s, arrays.filter isField)

/-- A flush transfer is in progress (R53). -/
def State.flushing (s : State) : Bool := match s.pos.flushEnd with | some e => decide (s.now < e) | none => false

/-- Phases of an accepted line and strobes of the plan run: not in IDLE, WAIT_EPOCH, STARTING or STALLED, nor in a flush transfer
(R72). -/
def State.planRuns (s : State) : Bool :=
  !s.pos.stalled && !s.flushing && (s.run = rsRunning || s.run = rsStopping || s.run = rsPendingStart)

/-! ### Phases and strobes (R70, R71) -/

/-- Start tick of phase `p` of the line in progress. -/
def CurLine.phaseT (c : CurLine) (p : Nat) : Nat := c.start + phaseStart c.plan p

/-- A phase of the line in progress starts: its field integrates. -/
def State.phaseBegin (s : State) (p : Nat) : State :=
  match s.arr.cur with
  | some c =>
    match c.plan[p]? with
    | some ph =>
      if !s.planRuns then s
      else
        let s := s.atTick (c.phaseT p)
        { s with arr := { s.arr with gate := if ph.field = 0xFF then none else some ph.field } }
    | none => s
  | none => s

/-- POS of the record of a source in a line, latched at the centre of its phase (R36). -/
def State.latchPos (s : State) (line src centre : Nat) : State :=
  let p := s.posAt centre
  { s with pipe := { s.pipe with lines := s.pipe.lines.map fun l =>
      if l.line = line && !l.skipped then
        { l with srcs := l.srcs.map fun x =>
          if x.src = src || (0x40 ≤ x.src && src = s.n 0x400005) then { x with pos := p } else x }
      else l } }

/-- A phase of the line in progress ends: its field drains, and its POS, taken at the phase centre, is fixed. -/
def State.phaseFinish (s : State) (p : Nat) : State :=
  match s.arr.cur with
  | some c =>
    match c.plan[p]? with
    | some ph =>
      let s := s.atTick (c.phaseT p + ph.len)
      let s := s.latchPos c.line ph.field (c.phaseT p + ph.len / 2)
      { s with arr := { s.arr with gate := none } }
    | none => s
  | none => s

/-- Strobe `k` can be driven: the master enable is set and the output is not in high impedance (R71, R89). -/
def State.strobeOk (s : State) (k : Nat) : Bool := s.b 0x243001 && !s.arr.hiZ.testBit k && !s.arr.reenable.testBit k

/-- Strobe `k` of phase `p` of the line in progress goes active (R71). -/
def State.strobeRise (s : State) (k p : Nat) : State :=
  match s.arr.cur with
  | some c =>
    match ((c.plan[p]?).map (·.strobes)).getD [] |>.find? (·.1 = k) with
    | some (_, d, _) =>
      if !s.planRuns then s
      else
        let s := s.atTick (c.phaseT p + d)
        let s := s.dropSched fun e => e.typ = 7 && e.param / 256 = p && e.tag = c.line % 2 ^ 32
          && (((c.plan[p]?).map (·.strobes)).getD []).all fun x => c.phaseT p + x.2.1 ≤ s.now
        if s.strobeOk k then { s with arr := { s.arr with strobes := s.arr.strobes ||| 2 ^ k } } else s
    | none => s
  | none => s

/-- Strobe `k` of phase `p` returns inactive as far as the plan drives it (R71). -/
def State.strobeFall (s : State) (k p : Nat) : State :=
  match s.arr.cur with
  | some c =>
    match ((c.plan[p]?).map (·.strobes)).getD [] |>.find? (·.1 = k) with
    | some (_, d, w) =>
      let s := s.atTick (c.phaseT p + d + w)
      { s with arr := { s.arr with strobes := s.arr.strobes ^^^ (s.arr.strobes &&& 2 ^ k) } }
    | none => s
  | none => s

/-- Enter the strobe actions of a line in the event table: one entry for each phase with strobes (R38, R72). The entry's position
is the line's grid position. -/
def State.schedStrobes (s : State) (line : Nat) (plan : List Phase) (grid : Int) : State :=
  (List.range plan.length).foldl (fun s p =>
    match plan[p]? with
    | some ph =>
      if ph.strobes.isEmpty then s
      else s.addSched grid 7 0 (256 * p + (ph.strobes.foldl (fun m x => m ||| 2 ^ x.1) 0)) (line % 2 ^ 32)
    | none => s) s

/-- End of the last row's read of a frame; a row takes 250 ticks (R82). -/
def WFrame.endT (f : WFrame) : Nat := f.start + 250 * f.rows

/-- A frame holds strobe `k` active at tick `t`: from the start of the first row's exposure to the end of the last row's read
(R84). -/
def WFrame.holds (f : WFrame) (k t : Nat) : Bool :=
  f.mask.testBit k && decide (f.start - f.expo ≤ t) && decide (t < f.endT)

/-- Strobe `k` is driven active now: held by a frame of W, outside frames as the phase plan has it (R71, R84). While the master
enable is 0 it rests. -/
def State.strobeActive (s : State) (k : Nat) : Bool :=
  s.b 0x243001 && (s.arr.wFrames.any (·.holds k s.now) || s.arr.strobes.testBit k)

/-- Level of strobe pad `k`, none in high impedance: active is high unless the polarity bit is set (R71, R89). -/
def State.strobePad (s : State) (k : Nat) : Option Bool :=
  if s.arr.hiZ.testBit k then none else some (s.strobeActive k != s.bit 0x243002 k)

/-- The line that is being exposed, or else the next one that will be (R89). -/
def State.exposedLine (s : State) : Nat :=
  match s.arr.cur with
  | some c =>
    if s.now < c.start + planEnd c.plan then c.line
    else match s.pos.trigQ with | some q => q.line | none => if s.pos.counted then s.n 0x202003 + 1 else s.n 0x202003
  | none => match s.pos.trigQ with | some q => q.line | none => if s.pos.counted then s.n 0x202003 + 1 else s.n 0x202003

/-- The strobe pad differs from its driven level, active or at rest: high impedance, latch, one event (R89). DATA: strobe number
in [7:0], first line exposed without the strobe above it. -/
def State.strobeFault (s : State) (k : Nat) : State :=
  if 6 ≤ k || s.bit 0x243004 k || (s.strobePad k).isNone then s
  else
    let line := s.exposedLine
    let s := { s with arr := { s.arr with hiZ := s.arr.hiZ ||| 2 ^ k, strobes := s.arr.strobes ^^^ (s.arr.strobes &&& 2 ^ k) } }
    (s.setBits 0x243004 (2 ^ k)).raise 0x0202 (k + 256 * line : Nat)

/-- Clear strobe fault latches; the outputs are re-enabled from the next accepted line (R89). -/
def State.clearStrobe (s : State) (m : Nat) : State :=
  let s' := s.clrBits 0x243004 m
  { s' with arr := { s'.arr with reenable := s.arr.reenable ||| (m &&& s.arr.hiZ) } }

/-- The next accepted line re-enables cleared strobe outputs. -/
def State.strobeLineStart (s : State) : State :=
  let r := s.arr.reenable
  { s with arr := { s.arr with hiZ := s.arr.hiZ ^^^ (s.arr.hiZ &&& r), reenable := 0 } }

/-! ### Array W (R82 to R84) -/

/-- Key of row `n` of W among the lines of a kernel, which are lines of the strip or rows of W (R186). -/
def rowKey (n : Nat) : Nat := 2 ^ 64 + n

/-- A line of a kernel is a row of W. -/
def isRow (key : Nat) : Bool := decide (2 ^ 64 ≤ key)

/-- Number of a line of a kernel, or of its row of W. -/
def keyLine (key : Nat) : Nat := key % 2 ^ 64

/-- Key of line `n` of a source. -/
def lineKey (src n : Nat) : Nat := if src = srcW then rowKey n else n

/-- A frame of W starts at tick `t`: the first row's exposure begins then (DESIGN CHOICE, log entry 89). It is read one exposure
time later, after the frame before it has been read. -/
def State.wBegin (s : State) (t : Nat) : State :=
  let live := s.arr.wFrames.filter fun f => f.next < f.rows || t < f.endT
  let free := (live.map WFrame.endT).foldl max 0
  let f : WFrame := {
    no := s.arr.wNo, start := max (t + s.n 0x241806) free, first := s.n 0x241801, rows := s.n 0x241802, next := 0,
    segA := s.n 0x241803, segB := s.n 0x241804, fs := s.n 0x24180B, expo := s.n 0x241806,
    mask := s.n 0x243003, isPartial := s.arr.wFirst }
  { s with arr := { s.arr with
    wFrames := live ++ [f], wNo := s.arr.wNo + 1, wFirst := false, wNextT := t + s.n 0x241807, wPend := false } }

/-- The frame that is being read, or will be read next. -/
def State.wReading (s : State) : Option WFrame := s.arr.wFrames.find? fun f => f.next < f.rows

/-- The next lines of W are numbered from here. -/
def State.wLine (s : State) : Nat :=
  match s.wReading with
  | some f => f.no * 256 + f.first + f.next
  | none => s.arr.wNo * 256 + s.n 0x241801

/-- The frame being read is abandoned at an input switch: event 0x030A names frame and rows delivered (R94). -/
def State.wAbandon (s : State) : State :=
  let t := { s with arr := { s.arr with wFrames := [] } }
  match s.wReading with
  | some f => t.raise 0x030A (f.no + shl f.next 32 : Nat)
  | none => t

/-- A single-frame command: starts a frame, defers it to the end of the frame in progress, or is counted (R83). -/
def State.wSingle (s : State) : State :=
  if s.bankD ≠ 2 || s.o 0x241808 ≠ 2 then s
  else if !s.arr.wFrames.any fun f => f.next < f.rows || s.now < f.endT then s.wBegin s.now
  else if s.wReading.isNone then s.wBegin ((s.arr.wFrames.map WFrame.endT).foldl max s.now)
  else if s.arr.wPend then { s with arr := { s.arr with wExtra := s.arr.wExtra + 1 } }
  else { s with arr := { s.arr with wPend := true } }

end Sys2Proof.Machine
end

