-- ==== Sys2Proof/Machine/Converters.lean ====
section
/-!
DEFINITION. Column converters (03_column_converters.md, R93 to R119, R492): dual gain, repair maps, shadow checks,
self-calibration, raw capture.
-/
namespace Sys2Proof.Machine

/-- Index of a bank code 0x0A to 0x0D. -/
def bankIx (b : Nat) : Nat := b - 0x0A

/-- Key base of a bank's objects, `0x2808` to `0x280B`. -/
def bankBase (b : Nat) : Nat := (0x2808 + bankIx b) * 256

/-- Banks of the variant. -/
def State.banks (s : State) : List Nat := [0x0A, 0x0B, 0x0C, 0x0D].filter s.fieldPresent

/-- A bank is in progress of a self-calibration (R101, R492). -/
def State.calibrating (s : State) (b : Nat) : Bool := s.is 0x281003 1 && s.n 0x281004 = b

/-- State of a bank (R492): 0 OFF, 1 IDLE, 2 ACQUIRING, 3 CALIBRATING. -/
def State.bankState (s : State) (b : Nat) : Int :=
  if s.calibrating b then 3
  else if s.segs.all fun g => !s.pdOn (16 + 2 * g) then 0
  else if (s.run ≠ rsIdle && s.bankSlots b ≠ 0) || (b = 0x0D && s.wActive) then 2
  else 1

/-! ### Conversion (R99, R100) -/

/-- Code of a level in electrons at full scale `fs` electrons per 4,096 codes. DEDUCED: rounded half up, as in the
worked examples of the chapter (log entry 14). -/
def codeOf (fs level : Nat) : Nat := min 4095 ((2 * level * 4096 + fs) / (2 * fs))

/-- One sample of a bank: low gain, and the code. -/
def State.convert (s : State) (bank level : Nat) : Bool × Nat :=
  let m := s.o (bankBase bank + 1)
  let low := m = 2 || (m = 0 && s.o (bankBase bank + 2) ≤ level)
  (low, if low then codeOf 72000 level else codeOf 9000 level)

/-! ### Repair maps (R109) -/

/-- Key of the repair map of a segment. -/
def mapKey (seg : Nat) : Nat := (0x2840 + seg) * 256

/-- Value of spare `i` of a bank in a map. -/
def mapSpare (m : List Nat) (bank i : Nat) : Nat := fieldAt m (32 * bankIx bank + 2 * i) 2

/-- The map entry of a segment's spare. -/
def State.spare (s : State) (seg bank i : Nat) : Nat := mapSpare (s.blob (mapKey seg)) bank i

/-- Set the map entry of a segment's spare. -/
def State.setSpare (s : State) (seg bank i v : Nat) : State :=
  s.putBlob (mapKey seg) (setBytes (s.blob (mapKey seg)) (32 * bankIx bank + 2 * i) (leBytes 2 v))

/-- Free spares of a segment's bank, ascending. -/
def State.freeSpares (s : State) (seg bank : Nat) : List Nat :=
  (List.range 16).filter fun i => s.spare seg bank i = 0xFFFF

/-- A map entry repairs local column `c`. -/
def repairs (v c : Nat) : Bool := v ≠ 0xFFFF && v ≠ 0xFFFE && v % 1024 = c

/-- A map entry is a run-time repair. -/
def isRuntime (v : Nat) : Bool := v ≠ 0xFFFF && v ≠ 0xFFFE && 0x8000 ≤ v

/-- The spare that repairs local column `c` of a segment's bank. -/
def State.spareOf (s : State) (seg bank c : Nat) : Option Nat :=
  (List.range 16).find? fun i => repairs (s.spare seg bank i) c

/-- Run-time repairs of a segment's bank. -/
def State.runtimeRepairs (s : State) (seg bank : Nat) : Nat :=
  ((List.range 16).filter fun i => isRuntime (s.spare seg bank i)).length

/-- The counts of repairs, free spares and unrepaired columns follow the maps and the list
(`0x2808.06`, `.07`, `0x2820`, `0x2860`, `0x3010.03`, `0x7038.02`); their growth may start a re-plan (R401). -/
def State.refreshRepairs (s : State) : State :=
  let s := s.segs.foldl (fun s g => s.banks.foldl (fun s b =>
    let k := (0x2820 + g) * 256 + bankIx b
    let s := s.put (k + 1) (s.freeSpares g b).length
    let s := s.put (k + 5) (s.runtimeRepairs g b)
    s.put (k + 9) (s.conv.unrep.filter fun u => u.col / 1024 = g && u.bank = b).length) s) s
  let s := s.banks.foldl (fun s b =>
    let s := s.put (bankBase b + 6) ((s.segs.map fun g => s.runtimeRepairs g b).foldl (· + ·) 0)
    s.put (bankBase b + 7) (s.conv.unrep.filter (·.bank = b)).length) s
  let s := (List.range 6).foldl (fun s i =>
    s.put ((0x3010 + i) * 256 + 3) (s.conv.unrep.filter (·.bank = 0x0A + min i 3)).length) s
  let s := s.put 0x286001 (min s.conv.unrep.length 4096)
  (s.put 0x703802 (min s.conv.unrep.length 24576 : Nat)).growthCheck

/-- The line that starts next: the queued one, or the next to be triggered. -/
def State.upcomingLine (s : State) : Nat :=
  match s.pos.trigQ with
  | some q => q.line
  | none => if s.pos.counted then s.n 0x202003 + 1 else s.n 0x202003

/-- A run-time repair of the source's bank lies in a segment of a window (R113). -/
def State.repairedOver (s : State) (src : Nat) (w : Nat × Nat) : Bool :=
  (segRange w).any fun g => s.segPresent g && s.runtimeRepairs g (bankOf src) ≠ 0

/-- A run-time repair of the bank lies in a segment of the source's window (R113). -/
def State.repairedIn (s : State) (src : Nat) : Bool := s.repairedOver src (s.window src)

/-- A column becomes unrepaired: cause 1 calibration, 2 shadow check, 3 host map write (R112). It is bad from line `from_` on. -/
def State.unrepair (s : State) (col bank cause from_ : Nat) : State :=
  if s.conv.unrep.any fun u => u.col = col && u.bank = bank then s
  else { s with conv := { s.conv with unrep := s.conv.unrep ++ [⟨col, bank, cause, from_⟩] } }

/-- A column is unrepaired in a line of a source; rows of W, which have no line numbers of the strip, at once (R112). -/
def State.unrepaired (s : State) (src c line : Nat) : Bool :=
  s.conv.unrep.any fun u => u.col = c && u.bank = bankOf src && (src = srcW || u.fromLine ≤ line)

/-- The converter of a column is known to have failed (R104, R111). -/
def State.noteFailed (s : State) (col bank : Nat) : State :=
  if s.conv.failed.contains (col, bank) then s
  else { s with conv := { s.conv with failed := (col, bank) :: s.conv.failed } }

/-- A spare takes a column: `0x8000` marks a run-time repair. Event 0x0306 when it was the last free one (R112). -/
def State.assignSpare (s : State) (seg bank i local_ : Nat) (runtime : Bool) : State :=
  let s := s.setSpare seg bank i (local_ + if runtime then 0x8000 else 0)
  let s := { s with conv := { s.conv with
    unrep := s.conv.unrep.filter fun u => !(u.col = seg * 1024 + local_ && u.bank = bank) } }
  if (s.freeSpares seg bank).isEmpty then s.raiseAt 0x0306 seg (8 + bankIx bank) 0 else s

/-- A spare is retired (R104, R111). -/
def State.retireSpare (s : State) (seg bank i : Nat) : State :=
  (s.setSpare seg bank i 0xFFFE).raiseAt 0x0307 seg (8 + bankIx bank) i

/-- A failed column: repaired from the following accepted line under policy AUTO, else unrepaired (R111). -/
def State.failColumn (s : State) (seg bank local_ firstLine : Nat) : State :=
  let col := seg * 1024 + local_
  let s := s.raiseAt 0x0304 seg (8 + bankIx bank) (col + shl bank 16 + shl firstLine 24 : Nat)
  let s := { s.noteFailed col bank with conv := { (s.noteFailed col bank).conv with
    suspects := s.conv.suspects.filter fun x => !(x.seg = seg && x.bank = bank && x.col = local_) } }
  if s.is 0x281804 0 then
    { s with conv := { s.conv with due := s.conv.due ++ [(seg, bank, 0, local_)] } }
  else (s.unrepair col bank 2 s.upcomingLine).refreshRepairs

/-- Run-time repairs take effect with the line that now starts; a column that finds no free spare becomes
unrepaired (R111, R112). -/
def State.applyRepairs (s : State) (line : Nat) : State :=
  let due := s.conv.due
  if due.isEmpty then s
  else
    let s := { s with conv := { s.conv with due := [] } }
    let s := due.foldl (fun s d =>
      let (seg, bank, _, c) := d
      match s.freeSpares seg bank with
      | i :: _ => (s.assignSpare seg bank i c true).raiseAt 0x0305 seg (8 + bankIx bank) line
      | [] => s.unrepair (seg * 1024 + c) bank 2 line) s
    s.refreshRepairs

/-! ### Shadow check (R110, R111) -/

/-- The shadow check of a segment's bank has no free spare: suspended, reported once. The bit and the report stand although a
spare becomes free again (DESIGN CHOICE, log entry 95). -/
def State.suspendShadow (s : State) (seg bank : Nat) : State :=
  if s.conv.susp.contains (seg, bank) then s
  else
    let s := { s with conv := { s.conv with susp := (seg, bank) :: s.conv.susp } }
    (s.setBits 0x281807 (2 ^ seg)).raiseAt 0x030E seg (8 + bankIx bank) 0

/-- One check of a segment's bank in one slot: `diff` is the difference of the two corrected codes. The first suspect line of a
column is the line of the first mismatch of its run (DESIGN CHOICE, log entry 96). -/
def State.shadowOne (s : State) (line bank seg diff : Nat) : State :=
  if (s.freeSpares seg bank).isEmpty then s.suspendShadow seg bank
  else
    let s := s.bump 0x281805
    let c := line % 1024
    let mine (x : Suspect) : Bool := x.seg = seg && x.bank = bank && x.col = c
    let old := s.conv.suspects.find? mine
    let rest := s.conv.suspects.filter fun x => !mine x
    if s.n 0x281802 < diff then
      let x : Suspect := match old with
        | some x => { x with count := x.count + 1 }
        | none => { seg, bank, col := c, count := 1, firstLine := line, marked := false }
      { (s.bump 0x281806) with conv := { (s.bump 0x281806).conv with suspects := rest ++ [x] } }
    else match old with
      | some x => if x.marked then s else { s with conv := { s.conv with suspects := rest } }
      | none => s

/-- The shadow checks of a bank in one slot of a line; segments not listed differ by zero. -/
def State.shadowCheck (s : State) (line bank : Nat) (diffs : List (Nat × Nat)) : State :=
  if !s.b 0x281801 then s
  else s.segs.foldl (fun s g =>
    if s.pdOn (16 + 2 * g) then s.shadowOne line bank g (((diffs.find? (·.1 = g)).map (·.2)).getD 0) else s) s

/-- A column's count has reached the limit: it becomes suspect, or failed at once with a single free spare. -/
def State.markSuspect (s : State) (seg bank local_ : Nat) : State :=
  match s.conv.suspects.find? fun x => x.seg = seg && x.bank = bank && x.col = local_ with
  | some x =>
    if x.marked || (x.count : Int) < s.o 0x281803 then s
    else if (s.freeSpares seg bank).length ≤ 1 then s.failColumn seg bank local_ x.firstLine
    else { s with conv := { s.conv with suspects := s.conv.suspects.map fun y =>
            if y.seg = seg && y.bank = bank && y.col = local_ then { y with marked := true } else y } }
  | none => s

/-- The second check, in slot 0 of the next accepted line (R111): `second` lists for active columns the difference of the
second spare's code from the first spare's, 0 where a column is not listed. Within the limit the two agree and the column's converter
has failed; else the first spare is retired and the column cleared, also where the second spare agrees with the column no better
(DESIGN CHOICE, log entry 97). Suspects are taken in ascending column order. -/
def State.secondCheck (s : State) (line bank : Nat) (second : List (Nat × Nat)) : State :=
  let due := s.conv.suspects.filter fun x => x.bank = bank && x.marked && x.firstLine < line
  let order := (List.range 24).flatMap fun g => (List.range 1024).filterMap fun c =>
    due.find? fun x => x.seg = g && x.col = c
  if due.isEmpty then s
  else order.foldl (fun s x =>
    let diff := ((second.find? (·.1 = x.seg * 1024 + x.col)).map (·.2)).getD 0
    if diff ≤ s.n 0x281802 then s.failColumn x.seg bank x.col x.firstLine
    else
      let s := match (s.freeSpares x.seg bank).getLast? with
        | some i => (s.retireSpare x.seg bank i).refreshRepairs
        | none => s
      { s with conv := { s.conv with
        suspects := s.conv.suspects.filter fun y => !(y.seg = x.seg && y.bank = bank && y.col = x.col) } }) s

/-! ### Self-calibration (R101 to R108) -/

/-- Masked banks, in the order A to D. -/
def maskBanks (m : Nat) : List Nat := [0x0A, 0x0B, 0x0C, 0x0D].filter fun b => m.testBit (bankIx b)

/-- The refusal of a START calibration, in the order of R102 and R302. -/
def State.calRefusal (s : State) : Nat :=
  let banks := maskBanks (s.n 0x281002)
  if banks.any fun b => !s.fieldPresent b then stAbsent
  else if banks.isEmpty then stConstraint
  else if (s.run ≠ rsIdle && banks.any fun b => s.bankSlots b ≠ 0) || (banks.contains 0x0D && s.wActive)
      || !s.pdOn 75 || !s.pdOn 76 then stState
  else if s.o 0x281003 = 1 || s.o 0x281003 = 4 then stBusy
  else stOk

/-- Begin with the first bank of a list: 12 ms each. -/
def State.calBank (s : State) : List Nat → State
  | [] => { s with conv := { s.conv with calLeft := [] } }
  | b :: t =>
    { s.put 0x281004 b with conv := { (s.put 0x281004 b).conv with calLeft := b :: t, calEnd := s.now + 12 * tickMs } }

/-- START accepted. -/
def State.calStart (s : State) : State :=
  let skipped := (s.segs.filter fun g => !s.pdOn (16 + 2 * g)).foldl (fun m g => m + 2 ^ g) 0
  let s := s.puts [(0x281003, 1), (0x281009, skipped)]
  let s := { s with conv := { s.conv with calRepaired := false, calUnrep := false } }
  s.calBank (maskBanks (s.n 0x281002))

/-- A running calibration ends at once: the bank in progress keeps its factors (R106). -/
def State.calAbort (s : State) : State :=
  if s.o 0x281003 = 1 then
    let s := s.puts [(0x281003, 3), (0x281004, 0), (0x281005, 4)]
    { s with conv := { s.conv with calLeft := [] } }.raise 0x0303
  else s

/-- ABORT as a command: status and state. -/
def State.calAbortCmd (s : State) : Nat × State :=
  if s.o 0x281003 = 1 then (stOk, s.calAbort)
  else if s.o 0x281003 = 4 then (stBusy, s)
  else (stState, s)

/-- A column needs a spare after calibration: the lowest free one, as a calibrated repair, else unrepaired. -/
def State.calRepair (s : State) (bank col : Nat) : State :=
  let g := col / 1024
  match s.freeSpares g bank with
  | i :: _ =>
    let s := s.assignSpare g bank i (col % 1024) false
    { s with conv := { s.conv with calRepaired := true } }
  | [] =>
    let s := s.unrepair col bank 1 s.upcomingLine
    { s with conv := { s.conv with calUnrep := true } }

/-- Segment that holds the black columns of an end (R93). -/
def State.blackSeg (s : State) (east : Bool) : Nat := if east then (s.segs.getLast?).getD 0 else 0

/-- A black-column converter fails: masked, event 0x0308 of the bank element that holds it (R93, R115). East when `east`. -/
def State.maskBlack (s : State) (bank : Nat) (east : Bool) (i : Nat) : State :=
  let k := 0x286801 + bankIx bank + if east then 4 else 0
  if s.bit k i then s
  else (s.setBits k (2 ^ i)).raiseAt 0x0308 (s.blackSeg east) (8 + bankIx bank) (i + 32 * boolI east + 64 * bank)

/-- A converter fails its calibration (R104): a capacitor-weight error in ppm, or its offset in codes, beyond the limit. -/
def State.calFails (s : State) (ppm : Nat) (offset : Int) : Bool :=
  decide (s.n 0x281006 < ppm) || decide (s.n 0x281007 < offset.natAbs)

/-- One end of a bank is usable for dark tracking: at most 16 of its 32 converters are masked (R115). -/
def State.blackUsable (s : State) (bank : Nat) (east : Bool) : Bool :=
  let m := s.n (0x286801 + bankIx bank + if east then 4 else 0)
  ((List.range 32).filter m.testBit).length ≤ 16

/-- Failing spares of the bank are judged first: free ones are retired, those in use are retired and release
their column (R104). The released columns are returned. -/
def State.judgeSpares (s : State) (bank : Nat) (bad : List (Nat × Nat)) : State × List Nat :=
  bad.foldl (fun (s, cols) p =>
    let v := s.spare p.1 bank p.2
    if v = 0xFFFE then (s, cols)
    else
      let s := s.retireSpare p.1 bank p.2
      (s, if v = 0xFFFF then cols else cols ++ [p.1 * 1024 + v % 1024])) (s, [])

/-- Every run-time repair of the bank whose spare passed becomes a calibrated repair (R105). -/
def State.promoteRepairs (s : State) (bank : Nat) (segs : List Nat) : State :=
  segs.foldl (fun s g => (List.range 16).foldl (fun s i =>
    let v := s.spare g bank i
    if isRuntime v then s.setSpare g bank i (v % 1024) else s) s) s

/-- A bank's calibration completes. What was measured, worst weight error in ppm and offset in codes: of active columns, of
spares (segment, number) and of black columns (east, index); converters not listed pass. -/
def State.calComplete (s : State) (cols : List (Nat × Nat × Int)) (spares : List (Nat × Nat × Nat × Int))
    (blacks : List (Bool × Nat × Nat × Int)) : State :=
  match s.conv.calLeft with
  | [] => s
  | bank :: rest =>
    if s.o 0x281003 ≠ 1 then s
    else
      let s := s.atTick s.conv.calEnd
      let segs := s.segs.filter fun g => !s.bit 0x281009 g
      let bad := (spares.filter fun p => segs.contains p.1 && p.2.1 < 16 && s.calFails p.2.2.1 p.2.2.2).map fun p => (p.1, p.2.1)
      let cols := (cols.filter fun p => s.calFails p.2.1 p.2.2).map (·.1)
      let blacks := (blacks.filter fun p => p.2.1 < 32 && segs.contains (s.blackSeg p.1) && s.calFails p.2.2.1 p.2.2.2).map
        fun p => (p.1, p.2.1)
      let (s, freed) := s.judgeSpares bank bad
      let failed := cols.filter fun c => segs.contains (c / 1024) && (s.spareOf (c / 1024) bank (c % 1024)).isNone
      let s := (failed.filter (!freed.contains ·)).foldl (fun s c => s.noteFailed c bank) s
      let need := (List.range 24576).filter fun c => freed.contains c || failed.contains c
      let s := need.foldl (fun s c => s.calRepair bank c) s
      let s := blacks.foldl (fun s p => s.maskBlack bank p.1 p.2) s
      let s := (s.promoteRepairs bank segs).refreshRepairs
      let s := s.bump 0x28100A
      let s := s.put (bankBase bank + 8) (s.o 0x28100A)
      let s := s.puts [(0x281008, s.o 0x600801 * 1024), (0x28100C, 0)]
      if rest.isEmpty then
        let res : Int := if s.conv.calUnrep then 3 else if s.conv.calRepaired then 2 else 1
        let s := s.puts [(0x281003, 2), (0x281004, 0), (0x281005, res), (0x28100E, 0)]
        let s := { s with conv := { s.conv with calLeft := [] } }.raise 0x0301
        if s.conv.calUnrep then s.raise 0x0302 else s
      else s.calBank rest

/-- Recalibration becomes due, once until a calibration completes (R108). -/
def State.recalDue (s : State) : State :=
  if s.b 0x28100E then s else (s.put 0x28100E 1).raise 0x030D

/-- The hours since the last calibration have reached the interval (R108). -/
def State.recalByHours (s : State) : State := if s.o 0x28100B ≤ s.o 0x28100C then s.recalDue else s

/-- The hottest valid junction temperature differs from that of the last calibration by more than the limit. -/
def State.recalByTemp (s : State) : State :=
  if s.o 0x28100D * 65536 < (s.o 0x600801 * 1024 - s.o 0x281008).natAbs then s.recalDue else s

/-- The columns that a bank's entries in a map repair, by local column. -/
def mapCols (m : List Nat) (bank : Nat) : List Nat :=
  (List.range 16).filterMap fun i =>
    let v := mapSpare m bank i
    if v = 0xFFFF || v = 0xFFFE then none else some (v % 1024)

/-- One bank of a map the host wrote takes effect (R112, R114, R119): an assignment that did not stand before is a run-time
repair; a spare taken out is retired; a column no longer repaired whose converter has failed becomes unrepaired with cause 3; the
last free spare taken is reported. -/
def State.mapBank (s : State) (seg bank : Nat) (new : List Nat) : State :=
  let old := s.blob (mapKey seg)
  let had := !(s.freeSpares seg bank).isEmpty
  let s := (List.range 16).foldl (fun (s : State) i =>
    let was := mapSpare old bank i
    let v := mapSpare new bank i
    if v = 0xFFFF then s.setSpare seg bank i v
    else if v = 0xFFFE then (if was = 0xFFFE then s else s.retireSpare seg bank i)
    else if repairs was (v % 1024) then s
    else
      let s := s.setSpare seg bank i (v % 1024 + 0x8000)
      { s with conv := { s.conv with
        unrep := s.conv.unrep.filter fun u => !(u.col = seg * 1024 + v % 1024 && u.bank = bank) } }.raiseAt
          0x0305 seg (8 + bankIx bank) s.upcomingLine) s
  let lost := ((mapCols old bank).filter fun c => !(mapCols new bank).contains c && s.conv.failed.contains (seg * 1024 + c, bank))
  let s := lost.foldl (fun (s : State) c => s.unrepair (seg * 1024 + c) bank 3 s.upcomingLine) s
  if had && (s.freeSpares seg bank).isEmpty then s.raiseAt 0x0306 seg (8 + bankIx bank) 0 else s

/-! ### Host writes of a repair map (R114) -/

/-- A map the host writes keeps the rules of R114. -/
def State.mapAllowed (s : State) (seg : Nat) (new : List Nat) : Bool :=
  s.banks.all fun b =>
    let used := (List.range 16).filterMap fun i =>
      let v := mapSpare new b i
      if v = 0xFFFF || v = 0xFFFE then none else some (v % 1024)
    let layout := (List.range 16).all fun i =>
      let v := mapSpare new b i
      v = 0xFFFF || v = 0xFFFE || v / 1024 % 32 = 0
    let retired := (List.range 16).all fun i => s.spare seg b i ≠ 0xFFFE || mapSpare new b i = 0xFFFE
    let shadow := !s.b 0x281801 || match (s.freeSpares seg b).getLast? with
      | some i => mapSpare new b i = 0xFFFF
      | none => true
    layout && decide used.Nodup && retired && shadow

/-- A host map takes effect, bank by bank. -/
def State.mapWritten (s : State) (seg : Nat) (new : List Nat) : State :=
  (s.banks.foldl (fun (s : State) b => s.mapBank seg b new) s).refreshRepairs

/-- Columns whose repairs the maps in force hold count as failed converters: a map loaded from the calibration set does not say
which were (DESIGN CHOICE, log entry 98). -/
def State.mapsLoaded (s : State) : State :=
  let failed := s.segs.flatMap fun g => s.banks.flatMap fun b => (mapCols (s.blob (mapKey g)) b).map fun c => (g * 1024 + c, b)
  { s with conv := { s.conv with failed } }.refreshRepairs

/-- Columns a source's converters convert: those of its window and the black columns of the end segments in it (R79, R93). -/
def State.converts (s : State) (w : Nat × Nat) (c : Nat) : Bool :=
  let g := if c < 100000 then c / 1024 else s.blackSeg (decide (200000 ≤ c))
  w.1 ≤ g && g ≤ w.2 && s.segPresent g

/-- How many columns a source's converters convert in one slot. -/
def State.convertedCount (s : State) (w : Nat × Nat) : Nat :=
  let gs := (segRange w).filter s.segPresent
  1024 * gs.length + (if gs.contains 0 then 32 else 0) + (if gs.contains (s.blackSeg true) then 32 else 0)

/-! ### Raw capture (R95) -/

/-- Arm the capture of the next accepted line. -/
def State.rawArm (s : State) : State :=
  { (s.put 0x287004 1).putBlob 0x287005 [] with
    conv := { s.conv with raw := [], rawLine := none } }

/-- The sample word of R95. -/
def sampleWord (spare checked low : Bool) (code : Nat) : Nat :=
  (if spare then 0x8000 else 0) + (if checked then 0x4000 else 0) + (if low then 0x1000 else 0) + code % 4096

/-- The words of one slot of the armed segment and bank are captured; after the last slot the buffer is full. -/
def State.rawSlot (s : State) (line bank slot : Nat) (sample : Nat → Bool × Nat) : State :=
  let seg := s.n 0x287001
  if s.o 0x287004 ≠ 1 || s.conv.rawLine ≠ some line || s.n 0x287002 ≠ bank then s
  else
    let chk := s.b 0x281801 && !(s.freeSpares seg bank).isEmpty
    let words := (List.range 1024).flatMap fun c =>
      let (low, code) := sample (seg * 1024 + c)
      leBytes 2 (sampleWord (s.spareOf seg bank c).isSome (chk && c = line % 1024) low code)
    let raw := s.conv.raw ++ words
    let s := { s with conv := { s.conv with raw } }
    if s.bankSlots bank ≤ slot + 1 then (s.put 0x287004 2).putBlob 0x287005 raw else s

end Sys2Proof.Machine
end

