-- ==== Sys2Proof/Machine/Recomb.lean ====
section
/-!
DEFINITION. Group recombination and optical slip (04_retimed_tdi.md, R120 to R141): the stores, the delays and the
interpolation, refill and substitution, the slip estimator, its states and the pitch trim.
-/
namespace Sys2Proof.Machine

/-! ### Calibration values per column -/

/-- Entry `c` of a per-column U16 object of the calibration set, with its neutral value (R493). -/
def State.calU16 (s : State) (k c neutral : Nat) : Nat :=
  match mapGet s.blobs k with
  | some b => fieldAt b (2 * c) 2
  | none => neutral

/-- Keys of black columns: BL0 to BL31 and BR0 to BR31. -/
def blackW : Nat := 100000
/-- East black columns. -/
def blackE : Nat := 200000

/-- The active column whose gain ratio and electrons per code a column uses (R121). -/
def State.nearActive (s : State) (c : Nat) : Nat :=
  if c < blackW then c else if c < blackE then 0 else s.columns - 1

/-- Gain ratio `r` of a column in a bank, Q4.12 (R121). -/
def State.gainRatio (s : State) (bank c : Nat) : Nat := s.calU16 ((0x3240 + bankIx bank) * 256) (s.nearActive c) 0x8000

/-- Electrons per high-gain code of a column in a bank, Q4.12 (R124). -/
def State.ePerCode (s : State) (bank c : Nat) : Nat := s.calU16 ((0x3244 + bankIx bank) * 256) (s.nearActive c) 0x2328

/-- A sample in store form (R121): units of one high-gain code, doubled, plus the saturation mark. -/
def State.storeForm (s : State) (bank c : Nat) (low : Bool) (code : Nat) : Nat :=
  let v := if low then (code * s.gainRatio bank c + 2048) / 4096 else code
  2 * v + if code = 4095 then 1 else 0

/-! ### Stores -/

/-- Entries of a group's store (R120); one line more for group 3, its previous-line register. -/
def storeDepth (g : Nat) : Nat := if g = 0 then 56 else if g = 1 then 40 else if g = 2 then 24 else 2

/-- The read of a field's group in a line. -/
def State.read? (s : State) (f g line : Nat) : Option GroupRead :=
  s.rcb.reads.find? fun r => r.field = f && r.group = g && r.line = line

/-- Tag of a read: 0 valid, 1 invalid, 2 substituted; a read not held is invalid. -/
def State.readTag (s : State) (f g : Nat) (line : Int) : Nat :=
  if line < 0 then 1 else match s.read? f g line.toNat with
    | some r => r.tag
    | none => 1

/-- Value of a column in a read, in store form; invalid entries enter as zero (R126). -/
def State.readVal (s : State) (f g : Nat) (line : Int) (c : Nat) : Nat :=
  if line < 0 then 0 else match s.read? f g line.toNat with
    | some r => if r.tag = 1 then 0 else (mapGet r.vals c).getD 0
    | none => 0

/-- A refill point of a field: every entry becomes invalid (R126). -/
def State.refill (s : State) (f b : Nat) : State :=
  { s with rcb := { s.rcb with
    reads := s.rcb.reads.filter fun r => r.field ≠ f
    refill := (f, b) :: s.rcb.refill.filter fun p => p.1 ≠ f } }

/-- The latest refill point of a field. -/
def State.refillLine (s : State) (f : Nat) : Nat := ((s.rcb.refill.find? (·.1 = f)).map (·.2)).getD 0

/-- Store a read; entries beyond the group's depth are overwritten. -/
def State.storeRead (s : State) (r : GroupRead) : State :=
  let keep := s.rcb.reads.filter fun x =>
    !(x.field = r.field && x.group = r.group && (x.line = r.line || x.line + storeDepth r.group ≤ r.line))
  { s with rcb := { s.rcb with reads := keep ++ [r] } }

/-- A SKIPPED line: copies of the previous line's entries, tagged substituted (R127); where none is held, of an empty one. -/
def State.substitute (s : State) (f line : Nat) : State :=
  (List.range 4).foldl (fun s g =>
    let r := (s.read? f g (line - 1)).getD { field := f, line, group := g, tag := 2, vals := [], bad := [] }
    s.storeRead { r with line, tag := 2 }) s

/-- The stores and previous-line registers of a segment's columns lose what they hold with the segment's digital domain, black
columns of its end included (R120); what they lost enters as zero (DEDUCED, log entry 99). -/
def State.storesLost (s : State) (seg : Nat) : State :=
  let lost (c : Nat) : Bool := if c < blackW then c / 1024 = seg else if c < blackE then seg = 0 else seg + 1 = s.columns / 1024
  { s with rcb := { s.rcb with reads := s.rcb.reads.map fun r => { r with
      vals := r.vals.filter fun p => !lost p.1
      bad := r.bad.filter fun c => !lost c } } }

/-! ### Delays and interpolation (R122, R123) -/

/-- Delay of group `g` in 1/64 line at slip offset `d`. -/
def delay64 (d : Int) (g : Nat) : Nat := ((2 * (3072 + d) * (3 - g : Nat) + 3) / 6).toNat

/-- The four integer weights at fraction `k`/64, before the residue. -/
def rawWeights (k : Int) : List Int :=
  [(-k ^ 3 + 128 * k ^ 2 - 4096 * k + 64) / 128, (3 * k ^ 3 - 320 * k ^ 2 + 524288 + 64) / 128,
   (-3 * k ^ 3 + 256 * k ^ 2 + 4096 * k + 64) / 128, (k ^ 3 - 64 * k ^ 2 + 64) / 128]

/-- Add a rounding residue to the first of the largest entries. -/
def addResidue (ws : List Int) (total : Int) : List Int :=
  let sum := ws.foldl (· + ·) 0
  let m := ws.foldl max (ws.headD 0)
  match ws.findIdx? (· = m) with
  | some i => ws.modify i (· + (total - sum))
  | none => ws

/-- Weights of the taps j = -1, 0, 1, 2 (R123). -/
def tapWeights (k : Nat) : List Int := addResidue (rawWeights k) 4096

/-- Lines and weights of the used taps of group `g` for line `n` at offset `d`; group 3 is the line's own read. -/
def taps (d : Int) (g n : Nat) : List (Int × Int) :=
  if g = 3 then [((n : Int), 4096)]
  else
    let x := delay64 d g
    let i : Int := (x / 64 : Nat)
    let ws := tapWeights (x % 64)
    ((List.range 4).map fun (j : Nat) => ((n : Int) - i - ((j : Int) - 1), ws.getD j 0)).filter fun p => p.2 ≠ 0

/-- Used groups of a stage count (R64). -/
def usedGroups (stages : Nat) : List Nat := (List.range 4).filter fun g => 4 - stages / 16 ≤ g

/-- A used tap of a line carries a tag. -/
def State.tapTag (s : State) (f stages n : Nat) (d : Int) (tag : Nat) : Bool :=
  (usedGroups stages).any fun g => (taps d g n).any fun p => s.readTag f g p.1 = tag

/-! ### Exclusion (R138, R139) -/

/-- Physical group of group `g` in a direction (R63). -/
def physGroup (rev : Bool) (g : Nat) : Nat := if rev then 3 - g else g

/-- The exclusion nibble of a field at an active column. -/
def State.exclNibble (s : State) (f c : Nat) : Nat :=
  match mapGet s.blobs ((0x2C40 + c / 1024) * 256) with
  | some b => fieldAt b (2 * (c % 1024)) 2 / 16 ^ (f - 0x0A) % 16
  | none => 0

/-- Included groups of a column; black columns are never excluded (R120). -/
def State.includedGroups (s : State) (f stages : Nat) (rev : Bool) (c : Nat) : List Nat :=
  if blackW ≤ c then usedGroups stages
  else (usedGroups stages).filter fun g => !(s.exclNibble f c).testBit (physGroup rev g)

/-- Every used group of the column is excluded for a field of a stage count, in a direction (R139). -/
def State.fullyExcluded (s : State) (f stages : Nat) (rev : Bool) (c : Nat) : Bool :=
  isField f && s.exclNibble f c ≠ 0 && (s.includedGroups f stages rev c).isEmpty

/-- Counts of columns with exclusions and fully excluded columns (`0x2C08.07`, `.08`, `0x3010.04`). -/
def State.refreshExclusions (s : State) : State :=
  [0x0A, 0x0B, 0x0C, 0x0D].foldl (fun s f =>
    let cols := (List.range s.columns).filter fun c => s.exclNibble f c ≠ 0
    let full := (cols.filter fun c => s.fullyExcluded f (s.stages f) s.xferRev c).length
    let s := s.put ((0x2C08 + bankIx f) * 256 + 7) cols.length
    let s := s.put ((0x2C08 + bankIx f) * 256 + 8) full
    s.put ((0x3010 + bankIx f) * 256 + 4) full) s

/-! ### The recombined value (R124, R128) -/

/-- Column sum of a group at an offset, in 1/4,096 code. -/
def State.groupSum (s : State) (f : Nat) (d : Int) (g n c : Nat) : Int :=
  ((taps d g n).map fun p => p.2 * ((s.readVal f g p.1 c / 2 : Nat) : Int)).foldl (· + ·) 0

/-- A used tap of an included group reads a saturated entry. -/
def State.tapSat (s : State) (f : Nat) (d : Int) (gs : List Nat) (n c : Nat) : Bool :=
  gs.any fun g => (taps d g n).any fun p => s.readVal f g p.1 c % 2 = 1

/-- The output code of a column (R124) at offset `d`. -/
def State.recombCode (s : State) (f stages fs : Nat) (rev : Bool) (d : Int) (n c : Nat) : Nat :=
  let gs := s.includedGroups f stages rev c
  if gs.isEmpty then 0
  else if s.tapSat f d gs n c then 65535
  else
    let v := (gs.map fun g => s.groupSum f d g n c).foldl (· + ·) 0
    let u : Int := (stages / 16 : Nat)
    let num := u * v * (s.ePerCode f c : Nat)
    (clampI 0 65535 (roundDiv num (max 1 (gs.length * 256 * fs)))).toNat

/-- The offset used for a line: `d`, the one in force in its section, or the nominal delays when a used tap would reach an invalid read
(R125, R128). Fields with S = 16 are not retimed. -/
def State.lineOffset (s : State) (f stages n : Nat) (d : Int) : Int × Bool :=
  if stages < 32 then (0, false)
  else if s.refillLine f + stages ≤ n && s.tapTag f stages n d 1 then (0, true)
  else (d, false)

/-- Columns listed in the reads a line can use. -/
def State.listedCols (s : State) (f : Nat) : List Nat :=
  ((s.rcb.reads.filter (·.field = f)).flatMap fun r => r.vals.map (·.1)).eraseDups

/-- Columns whose used taps touch a store word with an uncorrectable error; groups that a column excludes are not used there
(R129). -/
def State.storeBad (s : State) (f stages : Nat) (rev : Bool) (n : Nat) (d : Int) : List Nat :=
  let bad (g : Nat) (p : Int × Int) : List Nat := match s.read? f g p.1.toNat with
    | some r => if p.1 < 0 then [] else r.bad.filter fun c => (s.includedGroups f stages rev c).contains g
    | none => []
  ((usedGroups stages).flatMap fun g => (taps d g n).flatMap (bad g)).eraseDups

/-- Recombine a line of a field. The codes that are not zero, the flags it adds, and the columns bad for this line. -/
def State.recombine (s : State) (f stages fs : Nat) (rev : Bool) (n : Nat) (off : Int) : LinePix × Nat :=
  let (d, fb) := s.lineOffset f stages n off
  let sub := s.tapTag f stages n d 2
  let vals := ((s.listedCols f).map fun c =>
      let dc := if blackW ≤ c then 0 else d
      let code := s.recombCode f stages fs rev dc n c
      (c, 2 * code + if code = 65535 then 1 else 0)).filter fun p => p.2 ≠ 0
  ({ src := f, line := n, vals, bad := s.storeBad f stages rev n d, run := s.pipe.run, flags := 0, fs, stages, rev,
     tline := 0, lev := (0, 0), temps := [], gov := n },
    flagIf fb fSlip ||| flagIf sub fOverspeed)

/-! ### Slip estimator (R130 to R132) -/

/-- Lowest used group, baseline and lags of a stage count. -/
def slipLags (stages : Nat) : Option (Nat × Nat × List Nat) :=
  if stages = 64 then some (0, 48, (List.range 11).map (· + 43))
  else if stages = 48 then some (1, 32, (List.range 7).map (· + 29))
  else if stages = 32 then some (2, 16, (List.range 5).map (· + 14))
  else none

/-- A column takes part in the correlation of a line. -/
def State.slipColumn (s : State) (f stages : Nat) (rev : Bool) (n c : Nat) : Bool :=
  c < blackW && !s.fullyExcluded f stages rev c && !s.unrepaired f c n
    && (s.window f).1 ≤ c / 1024 && c / 1024 ≤ (s.window f).2

/-- The store value of a column without its saturation mark. -/
def State.readCode (s : State) (f g : Nat) (line : Int) (c : Nat) : Int := (s.readVal f g line c / 2 : Nat)

/-- Add one column's pair at one lag to the sums. -/
def addSum (l : List SlipSum) (field seg lag : Nat) (x y : Int) : List SlipSum :=
  match l.findIdx? fun z => z.field = field && z.seg = seg && z.lag = lag with
  | some i => l.modify i fun z => { z with c := z.c + x * y, x := z.x + (x * x).toNat, y := z.y + (y * y).toNat }
  | none => l ++ [{ field, seg, lag, c := x * y, x := (x * x).toNat, y := (y * y).toNat }]

/-- The correlation sums of one eligible line of a field, added to `l`. -/
def State.slipLine (s : State) (f stages : Nat) (rev : Bool) (n : Nat) (l : List SlipSum) : List SlipSum :=
  match slipLags stages with
  | none => l
  | some (g0, _, lags) =>
    let cols := (s.listedCols f).filter (s.slipColumn f stages rev n)
    lags.foldl (fun (l : List SlipSum) (lag : Nat) =>
      let m : Int := (n : Int) - (lag : Int)
      cols.foldl (fun l c =>
        addSum l f (c / 1024) lag (s.readCode f 3 n c - s.readCode f 3 (n - 1) c)
          (s.readCode f g0 m c - s.readCode f g0 (m - 1) c)) l) l

/-- Every read that a line pairs, at every lag, is valid (R130; DEDUCED, log entry 100: a line is eligible as a whole). -/
def State.slipReads (s : State) (f stages n : Nat) : Bool :=
  match slipLags stages with
  | none => false
  | some (g0, _, lags) =>
    s.readTag f 3 n = 0 && s.readTag f 3 ((n : Int) - 1) = 0
      && lags.all fun lag => s.readTag f g0 ((n : Int) - lag) = 0 && s.readTag f g0 ((n : Int) - lag - 1) = 0

/-- Flags that make a line ineligible for the slip estimate (R130). -/
def slipExcluding : Nat := 2 ^ fPartial + 2 ^ fSettle + 2 ^ fSkipped + 2 ^ fMixed + 2 ^ fOverspeed + 2 ^ fDirChange

/-- A line of a field has been read whole: it joins the sums of its section when eligible, under the settings in force for it
(R130). -/
def State.slipAccumulate (s : State) (f stages : Nat) (rev : Bool) (n sect flags : Nat) : State :=
  let v := s.asOf n
  let slot (l : List (Nat × Nat)) : List (Nat × Nat) := mapPut l f (((mapGet l f).getD 0) + 1)
  if v.is 0x2C1001 0 || !v.bit 0x2C1002 (bankIx f) || stages < 32 || flags &&& slipExcluding ≠ 0 || !s.pdOn 73
      || !s.slipReads f stages n then s
  else match s.rcb.closed with
    | some x =>
      if x.sect = sect then
        { s with rcb := { s.rcb with closed := some { x with sums := v.slipLine f stages rev n x.sums, elig := slot x.elig } } }
      else { s with rcb := { s.rcb with sums := v.slipLine f stages rev n s.rcb.sums, elig := slot s.rcb.elig } }
    | none =>
      if s.n 0x202004 = sect then
        { s with rcb := { s.rcb with sums := v.slipLine f stages rev n s.rcb.sums, elig := slot s.rcb.elig } }
      else s

/-- The section ends: its sums await the estimate, due within 40 us, with the settings of the section (R131). -/
def State.slipClose (s : State) (sect : Nat) : State :=
  let fields := ([0x0A, 0x0B, 0x0C, 0x0D].filter fun f => planNames s.plan f && s.bit 0x2C1002 (bankIx f)).map fun f =>
    (f, s.stages f)
  let x : SlipClosed := {
    sect, sums := s.rcb.sums, elig := s.rcb.elig, due := s.now + 40 * tickUs, fields, minQ := s.o 0x2C1004
    minLines := s.o 0x2C1005 }
  { s with rcb := { s.rcb with closed := if s.is 0x2C1001 0 || !s.pdOn 73 then none else some x, sums := [], elig := [] } }

/-- Sums of a field at a lag, over all segments or one. -/
def lagSum (l : List SlipSum) (f lag : Nat) (seg : Option Nat) : Int × Nat × Nat :=
  (l.filter fun z => z.field = f && z.lag = lag && (match seg with | some g => z.seg = g | none => true)).foldl
    (fun a z => (a.1 + z.c, a.2.1 + z.x, a.2.2 + z.y)) (0, 0, 0)

/-- Result of one field: code, estimate in 1/1,024 line, quality (R131). -/
structure SlipResult where
  code : Nat
  delta : Nat
  q : Nat
  deriving DecidableEq, Repr

/-- Quality of a correlation peak. -/
def slipQuality (c : Int) (x y : Nat) : Nat :=
  if c ≤ 0 || x * y = 0 then 0 else (Nat.sqrt ((2000 * c.toNat) ^ 2 / (x * y)) + 1) / 2

/-- The result of a field from the sums of a closed section (R131). `seg` restricts to one segment. -/
def SlipClosed.field (z : SlipClosed) (f : Nat) (seg : Option Nat) : SlipResult :=
  match slipLags ((mapGet z.fields f).getD 0) with
  | none => ⟨5, 49152, 0⟩
  | some (_, base, lags) =>
    let l := z.sums
    let cs := lags.map fun t => (t, (lagSum l f t seg).1)
    let m := cs.foldl (fun a p => max a p.2) ((cs.headD (0, 0)).2)
    let t := ((cs.find? fun p => p.2 = m).map (·.1)).getD 0
    let c (k : Nat) : Int := (lagSum l f k seg).1
    let den := 2 * (c (t - 1) - 2 * c t + c (t + 1))
    let num := c (t - 1) - c (t + 1)
    let (n', d') := if den = 0 then ((t : Int), (1 : Int))
      else if den < 0 then ((t : Int) * (-den) - num, -den) else ((t : Int) * den + num, den)
    let delta := (roundDiv (n' * 49152) (d' * base).toNat).toNat
    let (_, x, y) := lagSum l f t seg
    let q := slipQuality (c t) x y
    let edge := some t = lags.head? || some t = lags.getLast?
    let inside := 44 * base * d' ≤ 48 * n' && 48 * n' ≤ 52 * base * d'
    if (((mapGet z.elig f).getD 0 : Nat) : Int) < z.minLines then ⟨3, delta, q⟩
    else if edge || !inside then ⟨4, delta, q⟩
    else if (q : Int) < z.minQ then ⟨2, delta, q⟩
    else ⟨1, delta, q⟩

/-- The estimate over several field results (R132): code, estimate, quality. Where every OK field has quality 0 the mean is not
defined, and `open_` takes its place (log entry 101). -/
def combineSlip (open_ : Nat) (rs : List SlipResult) : SlipResult :=
  let ok := rs.filter (·.code = 1)
  let qs := (ok.map (·.q)).foldl (· + ·) 0
  if ok.isEmpty then
    match rs.find? (·.code ≠ 5) with
    | some r => ⟨r.code, 49152, 0⟩
    | none => ⟨5, 49152, 0⟩
  else if qs = 0 then ⟨1, open_, 0⟩
  else ⟨1, (2 * (ok.map fun r => r.q * r.delta).foldl (· + ·) 0 + qs) / (2 * qs), (ok.map (·.q)).foldl max 0⟩

/-- The results of the four fields, of a whole closed section or of one segment in it. -/
def SlipClosed.fieldResults (z : SlipClosed) (seg : Option Nat) : List SlipResult :=
  [0x0A, 0x0B, 0x0C, 0x0D].map fun f => z.field f seg

/-! ### Slip states and trim (R134 to R136) -/

/-- The slip state leaves LOCKED: the offset is held (R134). -/
def State.slipHold (s : State) : State :=
  if s.is 0x2C1006 2 then
    { (s.put 0x2C1006 3) with rcb := { s.rcb with pendOff := [] } }.raise 0x0402
  else s

/-- The delays in force follow the offset (R122). -/
def State.refreshDelays (s : State) : State :=
  [0x0A, 0x0B, 0x0C, 0x0D].foldl (fun s f => [0, 1, 2].foldl (fun s g =>
    s.put ((0x2C08 + bankIx f) * 256 + 1 + g) (delay64 (s.o 0x2C1007) g)) s) s

/-- The offset returns to the preset. -/
def State.slipPreset (s : State) (st : Int) : State :=
  let s := s.puts [(0x2C1007, s.o 0x2C1003), (0x2C1006, st)]
  { s with rcb := { s.rcb with pendOff := [], offFresh := false } }.refreshDelays

/-- A run leaves IDLE on START (R134, R136). -/
def State.slipRunStart (s : State) : State :=
  let s := { s with rcb := { s.rcb with atBound := false } }
  if s.is 0x2C1001 2 then s.slipPreset 1 else s

/-- The estimator mode that has been applied sets the state (R134): TRACK starts to seek from FIXED only. -/
def State.slipModeApplied (s : State) : State :=
  if !s.is 0x2C1001 2 then s.slipPreset 0 else if s.is 0x2C1006 0 then s.slipPreset 1 else s

/-- Trimming that has been disabled leaves no trim (R136). -/
def State.trimDisabled (s : State) : State :=
  { s.put 0x2C1802 0 with rcb := { s.rcb with pendTrim := [], trims := ((s.n 0x202004, 0) :: s.rcb.trims).take 4 } }

/-- Programmed pitch with a trim in ppm, rounded to 2^-32 count (R135). -/
def trimmedPitch (p : Nat) (t : Int) : Int := roundDiv ((p : Int) * (1000000 + t)) 1000000

/-- Trim in force in a section. -/
def State.trimOf (s : State) (sect : Nat) : Int := ((s.rcb.trims.find? (·.1 = sect)).map (·.2)).getD (s.o 0x2C1802)

/-- The trim that an OK estimate of section `k` sets for section `k + 2` (R136). -/
def State.trimUpdate (s : State) (k delta : Nat) : State :=
  if !s.b 0x2C1801 then s
  else
    let target := roundDiv ((1000000 + s.trimOf k) * delta) 49152 - 1000000
    let next := match s.rcb.pendTrim.find? (·.1 = k + 1) with
      | some p => p.2
      | none => s.trimOf (k + 1)
    let rate := s.o 0x2C1803
    let bound := s.o 0x2C1804
    let r := clampI (next - rate) (next + rate) target
    let t := clampI (-bound) bound r
    let s := { s with rcb := { s.rcb with pendTrim := s.rcb.pendTrim ++ [(k + 2, t)] } }
    if t = r then s
    else
      let s := s.bump 0x2C1805
      let s := if s.rcb.atBound then s else s.raise 0x0404 t
      { s with rcb := { s.rcb with atBound := true } }

/-- What an estimate publishes: the results of the fields and segments, and the section's result (R131, R132). -/
def State.slipPublish (s : State) (z : SlipClosed) (r : SlipResult) (open_ : Nat) : State :=
  let s := ([0x0A, 0x0B, 0x0C, 0x0D].zip (z.fieldResults none)).foldl (fun (s : State) p => s.puts
    [(0x2C1401 + bankIx p.1, p.2.q), (0x2C1405 + bankIx p.1, clampI 45056 53248 p.2.delta),
     (0x2C1409 + bankIx p.1, p.2.code)]) s
  let s := s.segs.foldl (fun (s : State) g =>
    let x := combineSlip open_ (z.fieldResults (some g))
    s.put (0x2C2001 + g) (if x.code = 1 then x.delta else 0)) s
  let s := s.puts [(0x2C100A, (z.elig.map (·.2)).foldl max 0), (0x2C100B, r.code), (0x2C1009, r.q)]
  if r.code = 1 then
    (s.puts [(0x2C1008, r.delta), (0x2C100C, z.sect), (0x2C100E, 0),
      (0x2C100D, roundDiv (49152 * 1000000) r.delta - 1000000)])
  else s.sat 0x2C100E

/-- The estimate of section `k` moves the slip state (R134). -/
def State.slipTrack (s : State) (k : Nat) (r : SlipResult) : State :=
  if !s.is 0x2C1001 2 then s
  else if r.code = 1 then
    let d := roundDiv ((r.delta : Int) - 49152) 16
    let s := if s.is 0x2C1006 2 then s else (s.put 0x2C1006 2).raise 0x0401
    let s := { s with rcb := { s.rcb with
      pendOff := (s.rcb.pendOff.filter fun (p : Nat × Int) => p.1 ≠ k + 2) ++ [(k + 2, clampI (-256) 256 d)] } }
    s.trimUpdate k r.delta
  else s.slipHold

/-- The slip estimate of the closed section completes (R131, R132, R134, R136). -/
def State.slipEstimate (s : State) : State :=
  match s.rcb.closed with
  | none => s
  | some z =>
    let s := { (s.atTick z.due) with rcb := { s.rcb with closed := none } }
    let f := s.free 45056 53249
    let r := combineSlip f.1 (z.fieldResults none)
    let s := f.2.slipPublish z r f.1
    let s := if r.code = 4 && !s.rcb.wasOor then s.raise 0x0403 else s
    let s := { s with rcb := { s.rcb with wasOor := r.code = 4 } }
    s.slipTrack z.sect r

/-- At the boundary of section `j` the scheduled offset and trim take effect; the trim in force is returned. -/
def State.slipBoundary (s : State) (j : Nat) : State :=
  let off := s.rcb.pendOff.find? (·.1 = j)
  let trim := s.rcb.pendTrim.find? (·.1 = j)
  let s := match off with
    | some p => { (s.put 0x2C1007 p.2) with rcb := { s.rcb with
        pendOff := s.rcb.pendOff.filter (·.1 ≠ j), offFresh := true } }.refreshDelays
    | none => { s with rcb := { s.rcb with offFresh := false } }
  let s := match trim with
    | some p => s.put 0x2C1802 p.2
    | none => s
  { s with rcb := { s.rcb with
    pendTrim := s.rcb.pendTrim.filter fun (p : Nat × Int) => j < p.1
    trims := ((j, s.o 0x2C1802) :: s.rcb.trims).take 4 } }

/-- Fields with S of 32 or more carry SLIP_UNLOCKED in this section: its offset is not the estimate of the section two before
(R134). -/
def State.slipUnlocked (s : State) (stages : Nat) : Bool := s.is 0x2C1001 2 && 32 ≤ stages && !s.rcb.offFresh

end Sys2Proof.Machine
end

