-- ==== Sys2Proof/Machine/Corrections.lean ====
section
/-!
DEFINITION. Stages 2 to 5 of the segment pipeline (05_segment_pipeline.md, R143 to R159): black level and dark
tracking, defect correction, shading, demosaic and white balance, each as a function of the codes held.
-/
namespace Sys2Proof.Machine

/-! ### Indices of a source -/

/-- Source index of the per-column calibration arrays (R383): A to D, M row 320, M row 321, W. -/
def calIndex (src row : Nat) : Nat := if isField src then src - 0x0A else if src = srcM then 4 + row else 6

/-- Index of a source among A, B, C, D, M, W. -/
def srcIx (src : Nat) : Nat := if isField src then src - 0x0A else if src = srcM then 4 else 5

/-- Key base of a source's black-level objects `0x3000` to `0x3005`. -/
def blackBase (src : Nat) : Nat := (0x3000 + srcIx src) * 256
/-- Key base of a source's defect objects. -/
def defectBase (src : Nat) : Nat := (0x3010 + srcIx src) * 256
/-- Key base of a source's shading objects. -/
def shadeBase (src : Nat) : Nat := (0x3020 + srcIx src) * 256

/-- Key of an active column's sample in a line's codes; row 1 is row 321 of M. -/
def pixKey (row c : Nat) : Nat := c + 50000 * row

/-! ### Lines at hand (R145) -/

/-- The codes held of a line of a source. -/
def State.pix? (s : State) (src n : Nat) : Option LinePix := s.pipe.pix.find? fun p => p.src = src && p.line = n

/-- The line is available to a neighbour in run `run`. -/
def State.available (s : State) (src run : Nat) (n : Int) : Bool :=
  decide (0 ≤ n) && match s.pix? src n.toNat with
    | some p => p.run = run
    | none => false

/-- The line used for line `n + j`: itself, else `n - j`, else `n`. -/
def State.lineFor (s : State) (p : LinePix) (j : Int) : LinePix :=
  let a : Int := p.line + j
  let b : Int := p.line - j
  if s.available p.src p.run a then (s.pix? p.src a.toNat).getD p
  else if s.available p.src p.run b then (s.pix? p.src b.toNat).getD p
  else p

/-! ### Halo columns (R146 to R148) -/

/-- A neighbouring segment supplies its columns in a window: inside it, present, powered, its link not failed (R147, R148). -/
def State.haloFrom (s : State) (w : Nat × Nat) (seg nb : Nat) : Bool :=
  w.1 ≤ nb && nb ≤ w.2 && s.segPresent nb && s.pdOn (17 + 2 * nb) && !s.bit 0x304003 (min seg nb)

/-- The halo of a segment's east or west edge is real at an exchange point. -/
def State.haloReal (s : State) (w : Nat × Nat) (seg exch : Nat) (errs : List HaloErr) (east : Bool) : Bool :=
  (if east then s.haloFrom w seg (seg + 1) else seg ≠ 0 && s.haloFrom w seg (seg - 1)) && !errs.contains ⟨exch, east⟩

/-- The column read for column `x` by segment `seg` at an exchange point: real, or mirrored about the edge column
without repeating it. -/
def State.haloCol (s : State) (w : Nat × Nat) (seg exch : Nat) (errs : List HaloErr) (x : Int) : Nat :=
  let lo : Int := seg * 1024
  let hi : Int := seg * 1024 + 1023
  if x < lo && !s.haloReal w seg exch errs false then (2 * lo - x).toNat
  else if hi < x && !s.haloReal w seg exch errs true then (2 * hi - x).toNat
  else x.toNat

/-- Exchange points at which a halo of a segment arrived in error in a line of a source. An error is known from the command that
reports it on (DESIGN CHOICE, log entry 102). -/
def State.haloErrsOf (s : State) (seg src n : Nat) : List HaloErr :=
  ((s.pipe.haloErrs.find? fun x => x.1 = seg && x.2.1 = src && x.2.2.1 = n).map (·.2.2.2)).getD []

/-- Counts and events of the halo transfers of one segment in one line (R148): those that arrive in error, and where `whole`, the
good ones, which end a run of errors. An error known before is counted once. DATA: segment west of the edge, exchange point and
line. -/
def State.haloErrors (s : State) (seg src n : Nat) (errs : List HaloErr) (whole : Bool) : State :=
  let known := s.haloErrsOf seg src n
  let points := [1, 2, 3].flatMap fun x => [HaloErr.mk x false, HaloErr.mk x true]
  let s := points.foldl (fun s h =>
    if (if h.east then !s.segPresent (seg + 1) else seg = 0) then s
    else
      let link := if h.east then seg else seg - 1
      let streak := (mapGet s.pipe.linkErr link).getD 0
      if s.bit 0x304003 link || known.contains h then s
      else if errs.contains h then
        let s := (s.sat 0x304001).bump 0x304002
        let s := { s with pipe := { s.pipe with linkErr := mapPut s.pipe.linkErr link (min (streak + 1) 31) } }
        s.raiseFirst 0x0409 0 (link + shl h.exch 8 + shl n 16 : Nat)
      else if streak = 0 || !whole then s
      else { s with pipe := { s.pipe with linkErr := mapDel s.pipe.linkErr link } }) s
  let all := (known ++ errs).eraseDups
  let keep := s.pipe.haloErrs.filter fun x => !(x.1 = seg && x.2.1 = src && (x.2.2.1 = n || x.2.2.1 + 160 < n))
  { s with pipe := { s.pipe with haloErrs := if all.isEmpty then keep else (seg, src, n, all) :: keep } }

/-- The settings that govern the codes of a line (R304, R315); read only. -/
def State.asRead (s : State) (p : LinePix) : State := s.asOf p.gov

/-! ### Black level (R149 to R152) -/

/-- Largest `y` below 2^33 with y^2176 at most `x`, by bisection. -/
def root2176 (x : Nat) : Nat :=
  (List.range 33).foldl (fun y i => if (y + 2 ^ (32 - i)) ^ 2176 ≤ x then y + 2 ^ (32 - i) else y) 0

/-- 2^32 times 2^((T - 25)/6.8) for T in 1/64 degC, rounded down: numerator and a power of two of the denominator
(R149). DEDUCED: 32 fraction bits (log entry 16). -/
def darkFactor (t : Int) : Nat × Nat :=
  let n := 5 * (t - 1600)
  let a := n / 2176
  let r := (n % 2176).toNat
  let f := root2176 (2 ^ (r + 32 * 2176))
  if 0 ≤ a then (f * 2 ^ a.toNat, 0) else (f, (-a).toNat)

/-- Round(O_c x 65,536 / FS) for a column: `a` in 1/8 e-, `b` in 0.5 e- per second, the stage count and line period in force
for the line, the segment temperature (R149). -/
def darkOffset (a b : Int) (stages tline : Nat) (fac : Nat × Nat) (fs : Nat) : Int :=
  let p : Nat := 2 ^ 32 * 800000000 * 2 ^ fac.2
  roundDiv ((a * (p : Int) + 8 * b * (stages * tline * fac.1 : Nat)) * 65536) (max 1 (8 * p * fs))

/-- Mean of the unmasked black columns of one end in a line, in 1/256 code, with how many there are. -/
def State.blackSum (s : State) (p : LinePix) (east : Bool) : Nat × Nat :=
  let bank := bankOf p.src
  let m := s.n (0x286801 + bankIx bank + if east then 4 else 0)
  let idx := (List.range 32).filter fun i => !m.testBit i
  let rows := if p.src = srcM then [0, 1] else [0]
  let base := if east then blackE else blackW
  let vals := rows.flatMap fun r => idx.map fun i => (mapGet p.vals (base + 50000 * r + i)).getD 0 / 2
  (vals.foldl (· + ·) 0, vals.length)

/-- Mean in 1/256 code. -/
def mean256 (sum count : Nat) : Nat := if count = 0 then 0 else (512 * sum + count) / (2 * count)

/-- Tracked level at a column from both ends, in 1/256 code (R150). -/
def levelAt (tw te : Int) (c n : Nat) : Int := roundDiv (tw * (2 * n) + (te - tw) * (2 * c + 1)) (max 1 (2 * n))

/-- Dark offset or excess of a column, I16. -/
def State.calI16 (s : State) (k c : Nat) : Int := wrapS 16 (s.calU16 k c 0)

/-- Segment temperature for compensation, 1/64 degC (R149). -/
def State.segTemp (s : State) (seg : Nat) : Int := s.o ((0x6020 + seg) * 256 + 6)

/-- Output of stage 2 at an active column (R149), without the saturation mark. -/
def State.stage2 (s : State) (p : LinePix) (row c : Nat) : Int :=
  let v := s.asRead p
  let v1 : Int := ((mapGet p.vals (pixKey row c)).getD 0 / 2 : Nat)
  let i := calIndex p.src row
  let b := if v.b (blackBase p.src + 7) then v.calI16 ((0x3228 + i) * 256) c else 0
  let a := v.calI16 ((0x3220 + i) * 256) c
  let o := if a = 0 && b = 0 then 0 else darkOffset a b p.stages p.tline (darkFactor (p.temps.getD (c / 1024) 1600)) p.fs
  clampI (-131072) 131071 (v1 - o - roundDiv (levelAt p.lev.1 p.lev.2 c s.columns) 256)

/-- The sample left recombination at 65,535 (R143). -/
def satMark (p : LinePix) (row c : Nat) : Bool := (mapGet p.vals (pixKey row c)).getD 0 % 2 = 1

/-! ### Defect correction (R153 to R156) -/

/-- The columns of a source's defect map; row 1 is row 321 of M. -/
def State.defectMap (s : State) (src row : Nat) : List Nat :=
  match mapGet s.blobs ((0x3230 + calIndex src row) * 256) with
  | some b => (List.range (b.length / 2)).map fun i => fieldAt b (2 * i) 2
  | none => []

/-- A column is bad in a line (R153). -/
def State.isBad (s : State) (p : LinePix) (row c : Nat) : Bool :=
  let v := s.asRead p
  (v.defectMap p.src row).contains c || v.fullyExcluded p.src p.stages p.rev c
    || s.unrepaired p.src c p.line || p.bad.contains c

/-- What a pass over one line of one row needs: the line, the source's window, the segment, its halo errors, the row. -/
structure PixCtx where
  p : LinePix
  w : Nat × Nat
  seg : Nat
  errs : List HaloErr
  row : Nat
  deriving DecidableEq, Repr

/-- The pass of a segment over a line. -/
def State.ctx (s : State) (p : LinePix) (seg row : Nat) : PixCtx :=
  { p, w := (s.asRead p).window p.src, seg, errs := s.haloErrsOf seg p.src p.line, row }

/-- Stage-2 value at a column as the segment sees it. -/
def State.at2 (s : State) (x : PixCtx) (c : Int) : Int := s.stage2 x.p x.row (s.haloCol x.w x.seg 1 x.errs c)

/-- A column, as the segment sees it, is bad. -/
def State.bad2 (s : State) (x : PixCtx) (c : Int) : Bool := s.isBad x.p x.row (s.haloCol x.w x.seg 1 x.errs c)

/-- The same pass on line `n + j`. -/
def State.shiftCtx (s : State) (x : PixCtx) (j : Int) : PixCtx := s.ctx (s.lineFor x.p j) x.seg x.row

/-- The nearest good column from `c` in steps of `d`, within 16 columns. -/
def State.nearGood (s : State) (x : PixCtx) (c d : Int) : Option Int :=
  ((List.range (16 / d.natAbs)).map fun i => c + d * (i + 1)).find? fun k => !s.bad2 x k

/-- Edge-directed replacement (R154): neighbours at distance `d`. -/
def State.edgeFill (s : State) (x : PixCtx) (c d : Int) : Int :=
  let up := s.shiftCtx x (-1)
  let dn := s.shiftCtx x 1
  let h := (s.at2 x (c - d), s.at2 x (c + d))
  let dd := (s.at2 up (c - d), s.at2 dn (c + d))
  let a := (s.at2 up (c + d), s.at2 dn (c - d))
  let diff (q : Int × Int) : Nat := (q.1 - q.2).natAbs
  let useD := !s.bad2 up (c - d) && !s.bad2 dn (c + d)
  let useA := !s.bad2 up (c + d) && !s.bad2 dn (c - d)
  let b1 := if useD && diff dd < diff h then dd else h
  let b2 := if useA && diff a < diff b1 then a else b1
  (b2.1 + b2.2 + 1) / 2

/-- Output of stage 3 at a column, and whether it received the pad value (R153 to R156). -/
def State.stage3 (s : State) (x : PixCtx) (c : Nat) : Int × Bool :=
  let d : Int := if x.p.src = srcM then 2 else 1
  let ci : Int := c
  if !(s.asRead x.p).b (defectBase x.p.src + 1) || !s.isBad x.p x.row c then (s.stage2 x.p x.row c, false)
  else if !s.bad2 x (ci - d) && !s.bad2 x (ci + d) then (s.edgeFill x ci d, false)
  else match s.nearGood x ci (-d), s.nearGood x ci d with
    | some w, some e =>
      let vw := s.at2 x w
      (vw + roundDiv ((s.at2 x e - vw) * (ci - w)) (e - w).toNat, false)
    | some w, none => (s.at2 x w, false)
    | none, some e => (s.at2 x e, false)
    | none, none => (s.o 0x305001, true)

/-- Length of the run of adjacent bad columns of a row that holds column `c`, within the source's window (R155). -/
def State.badRun (s : State) (x : PixCtx) (c : Nat) : Nat :=
  let d := if x.p.src = srcM then 2 else 1
  let west := (List.range ((c - 1024 * x.w.1) / d)).map fun i => c - d * (i + 1)
  let east := (List.range ((1024 * x.w.2 + 1023 - c) / d)).map fun i => c + d * (i + 1)
  (west.takeWhile (s.isBad x.p x.row)).length + 1 + (east.takeWhile (s.isBad x.p x.row)).length

/-! ### Shading (R157) -/

/-- Coarse gain at a column, in 1/(128 x 2^14). -/
def State.coarseGain (s : State) (src c : Nat) : Nat :=
  let k := (0x3218 + srcIx src) * 256
  let x : Int := 2 * (c : Int) - 63
  let i := clampI 0 383 (x / 128)
  let f := if x < 0 || 383 ≤ x / 128 then 0 else x % 128
  let a := s.calU16 k i.toNat 0x4000
  let b := s.calU16 k (min 383 (i.toNat + 1)) 0x4000
  a * (128 - f.toNat) + b * f.toNat

/-- Stage 4 and the limit of R143: pedestal added, 0 to 65,535. -/
def State.stage4Of (s : State) (src row c : Nat) (v3 : Int) : Nat :=
  let gf := if s.b (shadeBase src + 1) then s.calU16 ((0x3210 + calIndex src row) * 256) c 0x4000 else 0x4000
  let gk := if s.b (shadeBase src + 2) then s.coarseGain src c else 0x4000 * 128
  let v := roundDiv (v3 * gf * gk) (2 ^ 14 * 2 ^ 14 * 128)
  (clampI 0 65535 (v + s.o (blackBase src + 2))).toNat

/-- Output of stage 4 at a column of a row. -/
def State.stage4 (s : State) (x : PixCtx) (c : Nat) : Nat :=
  if satMark x.p x.row c then 65535 else (s.asRead x.p).stage4Of x.p.src x.row c (s.stage3 x c).1

/-! ### Demosaic and white balance of M (R158, R159) -/

/-- Stage-4 value of the row that carries green at a column: row 321 at even columns, row 320 at odd ones. -/
def State.green (s : State) (x : PixCtx) (c : Int) : Int :=
  let k := s.haloCol x.w x.seg 2 x.errs c
  (s.stage4 { x with row := if k % 2 = 0 then 1 else 0 } k : Nat)

/-- Stage-4 value of the other colour at a column: red at even columns, blue at odd ones. -/
def State.other (s : State) (x : PixCtx) (c : Int) : Int :=
  let k := s.haloCol x.w x.seg 2 x.errs c
  (s.stage4 { x with row := if k % 2 = 0 then 0 else 1 } k : Nat)

/-- Any of the samples is saturated. -/
def anySat (vs : List Int) : Bool := vs.any (· = 65535)

/-- The missing colour at a column (R158). -/
def State.missing (s : State) (x : PixCtx) (c : Int) : Nat :=
  let m1 := s.shiftCtx x (-1)
  let p1 := s.shiftCtx x 1
  let m2 := s.shiftCtx x (-2)
  let p2 := s.shiftCtx x 2
  let g := s.green x c
  let cost (gp gq gp2 gq2 : Int) : Nat := (gp - gq).natAbs + (2 * g - gp2 - gq2).natAbs
  let h := cost (s.green x (c - 1)) (s.green x (c + 1)) (s.green x (c - 2)) (s.green x (c + 2))
  let d := cost (s.green m1 (c - 1)) (s.green p1 (c + 1)) (s.green m2 (c - 2)) (s.green p2 (c + 2))
  let a := cost (s.green m1 (c + 1)) (s.green p1 (c - 1)) (s.green m2 (c + 2)) (s.green p2 (c - 2))
  let bil := (s.asRead x.p).is 0x303001 1
  let (xp, xq, gp, gq) :=
    if bil || (h ≤ d && h ≤ a) then (s.other x (c - 1), s.other x (c + 1), s.green x (c - 1), s.green x (c + 1))
    else if d ≤ a then (s.other m1 (c - 1), s.other p1 (c + 1), s.green m1 (c - 1), s.green p1 (c + 1))
    else (s.other m1 (c + 1), s.other p1 (c - 1), s.green m1 (c + 1), s.green p1 (c - 1))
  if anySat [g, xp, xq, gp, gq] then 65535
  else (clampI 0 65535 (g + ((xp - gp) + (xq - gq) + 1) / 2)).toNat

/-- A sample times a Q16_16 gain, rounded half up, at most 65,535. -/
def gainMul (v : Nat) (g : Int) : Nat := (clampI 0 65535 (roundDiv (v * g) 65536)).toNat

/-- Output of stage 5: one value for a field or W, R, G and B for M. -/
def State.stage5 (s : State) (x : PixCtx) (c : Nat) : List Nat :=
  if x.p.src = srcM then
    let v := s.asRead x.p
    let g := (s.green x c).toNat
    let own := (s.other x c).toNat
    let mis := s.missing x c
    let (r, b) := if c % 2 = 0 then (own, mis) else (mis, own)
    [gainMul r (v.o 0x303002), gainMul g (v.o 0x303003), gainMul b (v.o 0x303004)]
  else [s.stage4 { x with row := 0 } c]

/-- Dark sums of a source with nothing in them. -/
def DarkAcc.empty (src : Nat) (perLine : Bool) : DarkAcc :=
  { src, lines := 0, sumW := 0, cntW := 0, sumE := 0, cntE := 0, perLine, fs := 0, due := none }

/-! ### Dark tracking over sections (R150 to R152) -/

/-- Dark sums of a source. -/
def State.darkOf (s : State) (src : Nat) : DarkAcc := (s.pipe.dark.find? (·.src = src)).getD (DarkAcc.empty src false)

/-- Replace the dark sums of a source. -/
def State.setDark (s : State) (d : DarkAcc) : State :=
  { s with pipe := { s.pipe with dark := (s.pipe.dark.filter (·.src ≠ d.src)) ++ [d] } }

/-- Flags that make a line ineligible for dark tracking and for statistics (R150, R168). -/
def excludeFlags : Nat := 2 ^ fPartial + 2 ^ fSettle + 2 ^ fSkipped + 2 ^ fMixed

/-- Set the tracking state of a source, with the events of R152. -/
def State.darkState (s : State) (src : Nat) (st : Int) : State :=
  let old := s.o (blackBase src + 6)
  let s := s.put (blackBase src + 6) st
  if st = 4 && old ≠ 4 then s.raise 0x0407 src
  else if (st = 2 || st = 3) && old ≠ st then s.raise 0x0408 src
  else s

/-- The state by the ends usable: tracking, west only, east only. -/
def State.endState (s : State) (src : Nat) : Option Int :=
  match s.blackUsable (bankOf src) false, s.blackUsable (bankOf src) true with
  | true, true => some 1
  | true, false => some 2
  | false, true => some 3
  | false, false => none

/-- West and east level by the ends usable: both, or one for the whole width (R152). -/
def endLevels (st tw te : Int) : Int × Int := if st = 2 then (tw, tw) else if st = 3 then (te, te) else (tw, te)

/-- West and east levels of a line as it enters stage 2, in 1/256 code: none in mode FIXED, its own black-column means where
per-line means are in use and for a row of W, else those of its section (R149 to R151). With no end usable the section's level
stays (DEDUCED, log entry 103). -/
def State.levelFor (s : State) (p : LinePix) : Int × Int :=
  let v := s.asRead p
  let k := blackBase p.src
  if v.is (k + 1) 0 then (0, 0)
  else match v.endState p.src with
    | some st =>
      if p.src = srcW || (s.darkOf p.src).perLine then
        let w := v.blackSum p false
        let e := v.blackSum p true
        endLevels st (mean256 w.1 w.2 : Nat) (mean256 e.1 e.2 : Nat)
      else (v.o (k + 4), v.o (k + 5))
    | none => (v.o (k + 4), v.o (k + 5))

/-- A line has entered stage 2: levels that follow the line are published, and an eligible line joins the dark sums of its source
(R150, R151). -/
def State.darkLine (s : State) (p : LinePix) : State :=
  let v := s.asRead p
  let k := blackBase p.src
  let d := s.darkOf p.src
  let s := if !v.is (k + 1) 0 && (p.src = srcW || d.perLine) then s.puts [(k + 4, p.lev.1), (k + 5, p.lev.2)] else s
  if p.src = srcW then s.darkState srcW (if v.is (k + 1) 0 then 0 else (v.endState srcW).getD 4)
  else if p.flags &&& excludeFlags ≠ 0 then s
  else
    let w := v.blackSum p false
    let e := v.blackSum p true
    s.setDark { d with lines := d.lines + 1, sumW := d.sumW + w.1, cntW := d.cntW + w.2,
                       sumE := d.sumE + e.1, cntE := d.cntE + e.2, fs := p.fs }

/-- A refill point: per-line means from here on, and the sums count from this line (R151). -/
def State.darkRefill (s : State) (src : Nat) : State :=
  if s.is (blackBase src + 1) 0 then (s.setDark (DarkAcc.empty src false)).darkState src 0
  else match s.endState src with
    | some st => (s.setDark (DarkAcc.empty src true)).darkState src st
    | none => (s.setDark (DarkAcc.empty src false)).darkState src 4

/-- The level of the section that begins at line `b` is formed from the section before, under that section's limits, in codes of
the full scale now in force (R150 to R152). -/
def State.darkForm (s : State) (src b : Nat) : State :=
  let k := blackBase src
  let v := s.asOf (b - 1)
  let d := s.darkOf src
  let now := s.fullScale src
  let scale (x : Int) : Int := if d.fs = 0 || d.fs = now then x else roundDiv (x * d.fs) (max 1 now)
  if s.is (k + 1) 0 then (s.setDark (DarkAcc.empty src false)).darkState src 0
  else match v.endState src with
    | some st =>
      if v.o (k + 3) ≤ d.lines then
        let lev := endLevels st (scale (mean256 d.sumW d.cntW : Nat)) (scale (mean256 d.sumE d.cntE : Nat))
        ((s.setDark (DarkAcc.empty src false)).puts [(k + 4, lev.1), (k + 5, lev.2)]).darkState src st
      else if d.perLine then (s.setDark (DarkAcc.empty src true)).darkState src st
      else ((s.setDark (DarkAcc.empty src false)).darkState src 4).sat (k + 8)
    | none => ((s.setDark (DarkAcc.empty src false)).darkState src 4).sat (k + 8)

/-- A line of a source before line `b` is yet to be converted. -/
def State.converting (s : State) (src b : Nat) : Bool :=
  (s.pipe.lines.any fun l => l.line < b && !l.skipped && l.srcs.any fun x => x.src = src && 0 < x.slots)
    || (match s.pos.trigQ with | some q => q.line < b && q.held.srcs.any (·.src = src) | none => false)

/-- At the boundary of line `b` the level of the new section is formed, as soon as the lines before it are converted (R150 to
R152); where line `b` is a refill point, per-line means begin instead (R151). -/
def State.darkBoundary (s : State) (src b : Nat) (refill : Bool) : State :=
  if refill then
    let s := s.darkRefill src
    if s.is (blackBase src + 6) 4 then s.sat (blackBase src + 8) else s
  else if s.converting src b then s.setDark { s.darkOf src with due := some b }
  else s.darkForm src b

/-- The level that a boundary left open is formed when the last line before it is converted. -/
def State.darkSettle (s : State) (src : Nat) : State :=
  match (s.darkOf src).due with
  | some b => if s.converting src b then s else s.darkForm src b
  | none => s

/-- A change of full scale rescales the carried level (R151). -/
def State.darkRescale (s : State) (src fsOld fsNew : Nat) : State :=
  if fsOld = fsNew then s
  else
    let k := blackBase src
    s.puts [(k + 4, roundDiv (s.o (k + 4) * fsOld) (max 1 fsNew)), (k + 5, roundDiv (s.o (k + 5) * fsOld) (max 1 fsNew))]

end Sys2Proof.Machine
end

