-- ==== Sys2Proof/Machine/Operands.lean ====
section
/-!
DEFINITION. Operand forms of the Grixis instructions (07_grixis_instruction_set.md, R210 to R214, R219, R224): the
registers of an engine, lanes under a predicate, immediates, data memory, and the line window.
-/
namespace Sys2Proof.Machine

/-! ### Immediates and lanes -/

/-- Sign-extend an 11-bit immediate to a scalar word. -/
def sext11 (x : BitVec 11) : Word := x.signExtend 32

/-- Zero-extend an 11-bit immediate to a scalar word. -/
def zext11 (x : BitVec 11) : Word := x.zeroExtend 32

/-- Lane `i` of a vector; a lane not listed is zero. -/
def lane (v : List Half) (i : Nat) : Half := v.getD i 0

/-- Lane `i` of an accumulator. -/
def laneA (v : List (BitVec 40)) (i : Nat) : BitVec 40 := v.getD i 0

/-- A vector from its lanes. -/
def lanes {w : Nat} (f : Nat → BitVec w) : List (BitVec w) := (List.range 16).map f

/-! ### Registers (R211) -/

/-- A scalar register; s0 reads 0. -/
def Engine.sget (e : Engine) (r : Fin 16) : Word := if r = 0 then 0 else (mapGet e.sregs r.val).getD 0

/-- Write a scalar register; a write to s0 is discarded. -/
def Engine.sset (e : Engine) (r : Fin 16) (x : Word) : Engine :=
  if r = 0 then e else { e with sregs := mapPut e.sregs r.val x }

/-- A vector register. -/
def Engine.vget (e : Engine) (r : Fin 32) : List Half := (mapGet e.vregs r.val).getD (List.replicate 16 0)

/-- Write every lane of a vector register. -/
def Engine.vset (e : Engine) (r : Fin 32) (v : List Half) : Engine := { e with vregs := mapPut e.vregs r.val v }

/-- An accumulator. -/
def Engine.aget (e : Engine) (r : Fin 4) : List (BitVec 40) := (mapGet e.accs r.val).getD (List.replicate 16 0)

/-- Write an accumulator. -/
def Engine.aset (e : Engine) (r : Fin 4) (v : List (BitVec 40)) : Engine := { e with accs := mapPut e.accs r.val v }

/-- A predicate mask; p0 reads 0xFFFF. -/
def Engine.pget (e : Engine) (r : Fin 8) : Half := if r = 0 then 0xFFFF else (mapGet e.preds r.val).getD 0

/-- Write a predicate mask; a write to p0 is discarded. -/
def Engine.pset (e : Engine) (r : Fin 8) (x : Half) : Engine :=
  if r = 0 then e else { e with preds := mapPut e.preds r.val x }

/-- Lane `i` is active under a predicate (R213). -/
def Engine.active (e : Engine) (p : Fin 8) (i : Nat) : Bool := (e.pget p).getLsbD i

/-- Write the active lanes of a vector register; the others keep their values (R213). -/
def Engine.vsetP (e : Engine) (p : Fin 8) (r : Fin 32) (f : Nat → Half) : Engine :=
  e.vset r (lanes fun i => if e.active p i then f i else lane (e.vget r) i)

/-- Write the active lanes of an accumulator. -/
def Engine.asetP (e : Engine) (p : Fin 8) (r : Fin 4) (f : Nat → BitVec 40) : Engine :=
  e.aset r (lanes fun i => if e.active p i then f i else laneA (e.aget r) i)

/-- Lane `i` of the second source of a vector instruction (R220). -/
def Engine.src (e : Engine) (b : VSrc) (i : Nat) : Half :=
  match b with
  | .vec r => lane (e.vget r) i
  | .scalar r => (e.sget r).setWidth 16

/-! ### Data memory (R183, R219) -/

/-- Data memory is in canonical form: addresses strictly rising, no entry equal to what an unlisted address reads. -/
def Memory.wf (m : List Host.Cell) : Bool := mapSorted m && m.all fun c => c.2 ≠ 0

/-- One byte of data memory. DESIGN CHOICE: a byte nothing has written reads 0 (log entry 20). -/
def memRead (m : List Host.Cell) (a : Nat) : Byte := (mapGet m a).getD 0

/-- Write one byte of data memory. -/
def memWrite (m : List Host.Cell) (a : Nat) (b : Byte) : List Host.Cell := if b = 0 then mapDel m a else mapPut m a b

/-- Write bytes at rising addresses. -/
def memWriteN (m : List Host.Cell) (a : Nat) : List Byte → List Host.Cell
  | [] => m
  | b :: t => memWriteN (memWrite m a b) (a + 1) t

/-- Little-endian number of `n` bytes. -/
def memNat (m : List Host.Cell) (a : Nat) : Nat → Nat
  | 0 => 0
  | n + 1 => (memRead m a).toNat + 256 * memNat m (a + 1) n

/-- Little-endian bytes of a number. -/
def natBytes : Nat → Nat → List Byte
  | 0, _ => []
  | n + 1, x => BitVec.ofNat 8 x :: natBytes n (x / 256)

/-- Bytes as data-memory bytes. -/
def toBytes (l : List Nat) : List Byte := l.map (BitVec.ofNat 8)

/-- End of data memory. -/
def dmemEnd : Nat := 0x20000

/-- First address of the block a kernel may not store to (R183). -/
def dmemUser : Nat := 0x1FF00

/-- Exception causes (R230). -/
def excIllegal : Nat := 1
/-- `MISALIGNED`. -/
def excMisaligned : Nat := 2
/-- `BUS_RANGE`. -/
def excBus : Nat := 3
/-- `PROTECTED_STORE`. -/
def excProtected : Nat := 4
/-- `FETCH_RANGE`. -/
def excFetch : Nat := 5
/-- `LOOP_DEPTH`. -/
def excLoopDepth : Nat := 6
/-- `LOOP_FORM`. -/
def excLoopForm : Nat := 7

/-- The checks of a data access, in the order of R219: the cause, or none. -/
def accessCheck (addr bytes align : Nat) (store : Bool) : Option Nat :=
  if addr % align ≠ 0 then some excMisaligned
  else if dmemEnd ≤ addr then some excBus
  else if store && dmemUser < addr + bytes then some excProtected
  else none

/-! ### Line window (R186, R224) -/

/-- The sample of a source's row nearest to a line offset at the nearest held column to local column `c`. -/
def Engine.winAt (e : Engine) (src : Nat) (off c : Int) : Half :=
  let rows := e.win.filter (·.1 = src)
  let offs := rows.map fun (r : Nat × Nat × List Nat) => (r.2.1 : Int)
  let want := clampI (offs.foldl min 8) (offs.foldl max 0) (off + 4)
  match rows.find? fun r => (r.2.1 : Int) = want with
  | some r => BitVec.ofNat 16 (r.2.2.getD (clampI 0 159 (c + 16)).toNat 0)
  | none => 0

end Sys2Proof.Machine
end

