-- ==== Sys2Proof/Machine/Flags.lean ====
section
/-!
DEFINITION. Saturation and the sticky flags of the Grixis instructions (07_grixis_instruction_set.md, R212, R213): SAT
and AOV are set by an active lane that was clamped.
-/
namespace Sys2Proof.Machine

/-- sat_u16: the limited value. -/
def satU16 (x : Int) : Half := BitVec.ofInt 16 (clampI 0 65535 x)

/-- sat_u16 clamps the value. -/
def clampsU16 (x : Int) : Bool := x < 0 || 65535 < x

/-- sat_s16: the limited value. -/
def satS16 (x : Int) : Half := BitVec.ofInt 16 (clampI (-32768) 32767 x)

/-- sat_s16 clamps the value. -/
def clampsS16 (x : Int) : Bool := x < -32768 || 32767 < x

/-- sat_40: the limited value. -/
def sat40 (x : Int) : BitVec 40 := BitVec.ofInt 40 (clampI (-549755813888) 549755813887 x)

/-- sat_40 clamps the value. -/
def clamps40 (x : Int) : Bool := x < -549755813888 || 549755813887 < x

/-- Some active lane satisfies a test. -/
def Engine.anyLane (e : Engine) (p : Fin 8) (f : Nat → Bool) : Bool := (List.range 16).any fun i => e.active p i && f i

/-- Set STAT.SAT when a saturating operation clamped. -/
def Engine.orSat (e : Engine) (b : Bool) : Engine := { e with sat := e.sat || b }

/-- Set STAT.AOV when an accumulator saturated. -/
def Engine.orAov (e : Engine) (b : Bool) : Engine := { e with aov := e.aov || b }

/-- STAT as MFS reads it (R212). -/
def Engine.stat (e : Engine) : Word := (if e.sat then 1 else 0) ||| (if e.aov then 2 else 0)

/-- Write the active lanes with sat_u16 of exact values, setting SAT. -/
def Engine.vsatU (e : Engine) (p : Fin 8) (r : Fin 32) (f : Nat → Int) : Engine :=
  (e.vsetP p r fun i => satU16 (f i)).orSat (e.anyLane p fun i => clampsU16 (f i))

/-- Write the active lanes with sat_s16 of exact values, setting SAT. -/
def Engine.vsatS (e : Engine) (p : Fin 8) (r : Fin 32) (f : Nat → Int) : Engine :=
  (e.vsetP p r fun i => satS16 (f i)).orSat (e.anyLane p fun i => clampsS16 (f i))

/-- Write the active lanes of an accumulator with sat_40 of exact values, setting AOV. -/
def Engine.asat (e : Engine) (p : Fin 8) (r : Fin 4) (f : Nat → Int) : Engine :=
  (e.asetP p r fun i => sat40 (f i)).orAov (e.anyLane p fun i => clamps40 (f i))

end Sys2Proof.Machine
end

