-- ==== Sys2Proof/Machine/Grixis.lean ====
section
/-!
DEFINITION. The Grixis instructions (07_grixis_instruction_set.md, R210 to R232): their operations on one engine, their cycles,
the words of R214 and their decoding. What the device does around them (WAITLINE, HALT, crumbs) is in Engines.lean.
-/
namespace Sys2Proof.Machine

/-- Scalar operations of R215 and R216. -/
inductive AluOp where
  | add | sub | and | or | xor | sll | srl | sra | slt | sltu | min | max | minu | maxu | mul | mulh | mulhu
  deriving DecidableEq, Repr

/-- Branch conditions of R217. -/
inductive BrCond where
  | eq | ne | lt | ge | ltu | geu
  deriving DecidableEq, Repr

/-- Loads and stores of R219 on scalars. -/
inductive MemOp where
  | w | h | hu | b | bu
  deriving DecidableEq, Repr

/-- Vector operations of R220. -/
inductive VOp where
  | add | sub | adds | subs | addss | subss | absd | avg | minu | maxu | min | max | and | or | xor | andn
  | shl | shr | sra | mul | mulhu | mulhs | sel | mov
  deriving DecidableEq, Repr

/-- Compare conditions of R221. -/
inductive VCond where
  | eq | ne | ltu | leu | gtu | geu | lt | le | gt | ge
  deriving DecidableEq, Repr

/-- Predicate operations of R222 on predicates. -/
inductive POp where
  | and | or | xor | andn
  deriving DecidableEq, Repr

/-- Multiply-accumulate operations of R223. -/
inductive MacOp where
  | macu | macs | macsu | msuu | msus | mulu | mulsu
  deriving DecidableEq, Repr

/-- Reductions of R225 on vectors. -/
inductive RedOp where
  | sum | sums | maxu | minu | maxix | minix
  deriving DecidableEq, Repr

/-- An instruction with its operands (R214). -/
inductive GOp where
  | alu (f : AluOp) (rd ra rb : Fin 16)
  | imm (f : AluOp) (rd ra : Fin 16) (i : BitVec 11)
  | shift (f : AluOp) (rd ra : Fin 16) (sh : BitVec 5)
  | lui (rd : Fin 16) (i : BitVec 21)
  | branch (c : BrCond) (ra rb : Fin 16) (i : BitVec 11)
  | jal (rd : Fin 16) (i : BitVec 21)
  | jalr (rd ra : Fin 16) (i : BitVec 11)
  | loop (ra : Fin 16) (n : BitVec 11)
  | loopi (count : BitVec 10) (n : BitVec 11)
  | load (k : MemOp) (rd ra : Fin 16) (i : BitVec 11)
  | store (k : MemOp) (rs ra : Fin 16) (i : BitVec 11)
  | vld (vd : Fin 32) (ra : Fin 16) (i : BitVec 11)
  | vst (vs : Fin 32) (ra : Fin 16) (i : BitVec 11)
  | valu (f : VOp) (vd va : Fin 32) (b : VSrc) (p : Fin 8)
  | vcmp (c : VCond) (pd : Fin 8) (va : Fin 32) (b : VSrc) (g : Fin 8)
  | pred (f : POp) (pd pa pb : Fin 8)
  | pnot (pd pa : Fin 8)
  | mtp (pd : Fin 8) (sa : Fin 16)
  | mfp (sd : Fin 16) (pa : Fin 8)
  | pcnt (sd : Fin 16) (pa : Fin 8)
  | pfirst (sd : Fin 16) (pa : Fin 8)
  | plast (sd : Fin 16) (pa : Fin 8)
  | mac (f : MacOp) (ad : Fin 4) (va : Fin 32) (b : VSrc) (p : Fin 8)
  | aclr (ad : Fin 4) (p : Fin 8)
  | vrnd (signed : Bool) (vd : Fin 32) (ad : Fin 4) (sh : BitVec 5) (p : Fin 8)
  | vtoa (signed : Bool) (ad : Fin 4) (va : Fin 32) (p : Fin 8)
  | wld (vd : Fin 32) (sa : Fin 16) (sec : Bool) (off : BitVec 4) (sh : BitVec 5)
  | red (f : RedOp) (sd : Fin 16) (va : Fin 32) (p : Fin 8)
  | vrsuma (sd : Fin 16) (ad : Fin 4) (p : Fin 8)
  | vperm (vd va vb : Fin 32) (p : Fin 8)
  | vslide (vd va vb : Fin 32) (k : Fin 16) (p : Fin 8)
  | vext (sd : Fin 16) (va : Fin 32) (k : Fin 16)
  | vins (vd : Fin 32) (sa : Fin 16) (k : Fin 16)
  | vsplat (vd : Fin 32) (sa : Fin 16) (p : Fin 8)
  | vrev (vd va : Fin 32) (p : Fin 8)
  | vsplati (vd : Fin 32) (i : Half) (p : Fin 8)
  | vput (vs : Fin 32) (sq : Fin 16) (o : Bool) (p : Fin 8)
  | cemit (vf : Fin 32) (sa sb : Fin 16)
  | nop | waitline | halt | brk | fence
  | mfs (sd : Fin 16) (n : BitVec 5)
  | mts (n : BitVec 5) (sa : Fin 16)
  deriving DecidableEq, Repr

/-! ### Scalar operations -/

/-- One as a word when a test holds. -/
def flagWord (b : Bool) : Word := if b then 1 else 0

/-- The result of a scalar operation (R215). -/
def AluOp.eval (f : AluOp) (a b : Word) : Word :=
  match f with
  | .add => a + b
  | .sub => a - b
  | .and => a &&& b
  | .or => a ||| b
  | .xor => a ^^^ b
  | .sll => a <<< (b.toNat % 32)
  | .srl => a >>> (b.toNat % 32)
  | .sra => a.sshiftRight (b.toNat % 32)
  | .slt => flagWord (a.slt b)
  | .sltu => flagWord (a.ult b)
  | .min => if a.slt b then a else b
  | .max => if a.slt b then b else a
  | .minu => if a.ult b then a else b
  | .maxu => if a.ult b then b else a
  | .mul => a * b
  | .mulh => BitVec.ofInt 32 (a.toInt * b.toInt / 4294967296)
  | .mulhu => BitVec.ofNat 32 (a.toNat * b.toNat / 4294967296)

/-- The second source of an immediate instruction: ANDI, ORI and XORI zero-extend (R216). -/
def AluOp.immArg (f : AluOp) (i : BitVec 11) : Word :=
  match f with
  | .and | .or | .xor => zext11 i
  | _ => sext11 i

/-- A branch is taken (R217). -/
def BrCond.taken (c : BrCond) (a b : Word) : Bool :=
  match c with
  | .eq => a == b
  | .ne => a != b
  | .lt => a.slt b
  | .ge => !a.slt b
  | .ltu => a.ult b
  | .geu => !a.ult b

/-- Bytes of a scalar access. -/
def MemOp.bytes : MemOp → Nat
  | .w => 4
  | .h | .hu => 2
  | .b | .bu => 1

/-- The word a load brings from the bytes at an address (R219). -/
def MemOp.value (k : MemOp) (x : Nat) : Word :=
  match k with
  | .w => BitVec.ofNat 32 x
  | .h => (BitVec.ofNat 16 x).signExtend 32
  | .hu => (BitVec.ofNat 16 x).zeroExtend 32
  | .b => (BitVec.ofNat 8 x).signExtend 32
  | .bu => (BitVec.ofNat 8 x).zeroExtend 32

/-! ### Vector operations -/

/-- A lane of an operation of R220 that does not saturate. -/
def VOp.lane (f : VOp) (a b : Half) : Half :=
  match f with
  | .add => a + b
  | .sub => a - b
  | .absd => if a.ult b then b - a else a - b
  | .avg => BitVec.ofNat 16 ((a.toNat + b.toNat + 1) / 2)
  | .minu => if a.ult b then a else b
  | .maxu => if a.ult b then b else a
  | .min => if a.slt b then a else b
  | .max => if a.slt b then b else a
  | .and => a &&& b
  | .or => a ||| b
  | .xor => a ^^^ b
  | .andn => a &&& ~~~b
  | .shl => a <<< (b.toNat % 16)
  | .shr => a >>> (b.toNat % 16)
  | .sra => a.sshiftRight (b.toNat % 16)
  | .mul => a * b
  | .mulhu => BitVec.ofNat 16 (a.toNat * b.toNat / 65536)
  | .mulhs => BitVec.ofInt 16 (a.toInt * b.toInt / 65536)
  | .adds => satU16 (a.toNat + b.toNat : Nat)
  | .subs => satU16 ((a.toNat : Int) - b.toNat)
  | .addss => satS16 (a.toInt + b.toInt)
  | .subss => satS16 (a.toInt - b.toInt)
  | .sel | .mov => a

/-- The exact value of a lane of a saturating operation, and whether it is limited as signed. -/
def VOp.exact (f : VOp) (a b : Half) : Option (Int × Bool) :=
  match f with
  | .adds => some ((a.toNat + b.toNat : Nat), false)
  | .subs => some ((a.toNat : Int) - b.toNat, false)
  | .addss => some (a.toInt + b.toInt, true)
  | .subss => some (a.toInt - b.toInt, true)
  | _ => none

/-- A lane's exact value was clamped. -/
def VOp.clamps (f : VOp) (a b : Half) : Bool :=
  match f.exact a b with
  | some (x, true) => clampsS16 x
  | some (x, false) => clampsU16 x
  | none => false

/-- A vector operation (R220). VSEL selects by the predicate and writes every lane. -/
def Engine.valu (e : Engine) (f : VOp) (vd va : Fin 32) (b : VSrc) (p : Fin 8) : Engine :=
  let a := e.vget va
  match f with
  | .sel => e.vset vd (lanes fun i => if e.active p i then lane a i else e.src b i)
  | _ =>
    (e.vsetP p vd fun i => f.lane (lane a i) (e.src b i)).orSat
      (e.anyLane p fun i => f.clamps (lane a i) (e.src b i))

/-- A compare condition (R221). -/
def VCond.test (c : VCond) (a b : Half) : Bool :=
  match c with
  | .eq => a == b
  | .ne => a != b
  | .ltu => a.ult b
  | .leu => a.ule b
  | .gtu => b.ult a
  | .geu => b.ule a
  | .lt => a.slt b
  | .le => a.sle b
  | .gt => b.slt a
  | .ge => b.sle a

/-- A mask from its bits. -/
def maskOf (f : Nat → Bool) : Half := BitVec.ofNat 16 (((List.range 16).map fun i => if f i then 2 ^ i else 0).foldl (· + ·) 0)

/-- A compare: bit i of pd is the guard and the condition. -/
def Engine.vcmp (e : Engine) (c : VCond) (pd : Fin 8) (va : Fin 32) (b : VSrc) (g : Fin 8) : Engine :=
  e.pset pd (maskOf fun i => e.active g i && c.test (lane (e.vget va) i) (e.src b i))

/-- A predicate operation (R222). -/
def POp.eval (f : POp) (a b : Half) : Half :=
  match f with
  | .and => a &&& b
  | .or => a ||| b
  | .xor => a ^^^ b
  | .andn => a &&& ~~~b

/-- Set bits of a mask, by index. -/
def bitsOf (m : Half) : List Nat := (List.range 16).filter fun i => m.getLsbD i

/-- The product of a lane and how it meets the accumulator: product, sign (0 replace, 1 add, -1 subtract) (R223). -/
def MacOp.term (f : MacOp) (a b : Half) : Int × Int :=
  match f with
  | .macu => ((a.toNat * b.toNat : Nat), 1)
  | .macs => (a.toInt * b.toInt, 1)
  | .macsu => (a.toInt * b.toNat, 1)
  | .msuu => ((a.toNat * b.toNat : Nat), -1)
  | .msus => (a.toInt * b.toInt, -1)
  | .mulu => ((a.toNat * b.toNat : Nat), 0)
  | .mulsu => (a.toInt * b.toNat, 0)

/-- The exact new accumulator lane. -/
def MacOp.exact (f : MacOp) (acc : BitVec 40) (a b : Half) : Int :=
  let (x, k) := f.term a b
  if k = 0 then x else acc.toInt + k * x

/-- A multiply-accumulate (R223). -/
def Engine.mac (e : Engine) (f : MacOp) (ad : Fin 4) (va : Fin 32) (b : VSrc) (p : Fin 8) : Engine :=
  e.asat p ad fun i => f.exact (laneA (e.aget ad) i) (lane (e.vget va) i) (e.src b i)

/-- A rounded accumulator lane, before it is limited (R223). -/
def roundAcc (acc : BitVec 40) (sh : BitVec 5) : Int :=
  let r : Int := if sh = 0 then 0 else 2 ^ (sh.toNat - 1)
  (acc.toInt + r) / 2 ^ sh.toNat

/-- The values of the active lanes, with their index. -/
def Engine.activeLanes (e : Engine) (p : Fin 8) (va : Fin 32) : List (Nat × Half) :=
  ((List.range 16).filter (e.active p)).map fun i => (i, lane (e.vget va) i)

/-- A reduction of the active lanes (R225). -/
def RedOp.eval (f : RedOp) (l : List (Nat × Half)) : Word :=
  let us := l.map fun x => x.2.toNat
  let mx := us.foldl max 0
  let mn := us.foldl min 65535
  let ix (m : Nat) : Word := BitVec.ofNat 32 (((l.find? fun x => x.2.toNat = m).map (·.1)).getD 16)
  match f with
  | .sum => BitVec.ofNat 32 (us.foldl (· + ·) 0)
  | .sums => BitVec.ofInt 32 ((l.map fun x => x.2.toInt).foldl (· + ·) 0)
  | .maxu => BitVec.ofNat 32 mx
  | .minu => BitVec.ofNat 32 mn
  | .maxix => ix mx
  | .minix => ix mn

/-- Sum of the active accumulator lanes. -/
def Engine.accSum (e : Engine) (p : Fin 8) (ad : Fin 4) : Int :=
  (((List.range 16).filter (e.active p)).map fun i => (laneA (e.aget ad) i).toInt).foldl (· + ·) 0

/-- The limit of VRSUMA. -/
def clamps32 (x : Int) : Bool := x < -2147483648 || 2147483647 < x

/-! ### Control flow (R217, R218) -/

/-- Pop the loops whose body a taken branch leaves. -/
def popLoops (target : Nat) : List GLoop → List GLoop
  | [] => []
  | l :: t => if l.first ≤ target && target ≤ l.last then l :: t else popLoops target t

/-- The next word in sequence: after a body's last word the loop counts down and returns, or is popped. -/
def loopNext (pc : Nat) : List GLoop → Nat × List GLoop
  | [] => (pc + 1, [])
  | l :: t =>
    if pc = l.last then (if 1 < l.left then (l.first, { l with left := l.left - 1 } :: t) else loopNext pc t)
    else (pc + 1, l :: t)

/-- The word may not end a loop body: a branch, jump, loop or system instruction. -/
def badLast (w : Word) : Bool :=
  let op := w.toNat / 67108864
  (0x10 ≤ op && op ≤ 0x19) || op = 0x3F

/-- The check of a loop's body: the cause of the fault, or none. -/
def Engine.loopCheck (e : Engine) (codeWords n : Nat) (push : Bool) : Option Nat :=
  let last := e.pc + n
  if n = 0 then some excLoopForm
  else if badLast ((mapGet e.imem last).getD 0) then some excLoopForm
  else if (match e.loops with | l :: _ => decide (l.last < last) | [] => false) then some excLoopForm
  else if codeWords ≤ last then some excLoopForm
  else if push && 2 ≤ e.loops.length then some excLoopDepth
  else none

/-- How control leaves an instruction. -/
inductive GNext where
  /-- In sequence. -/
  | seq
  /-- A taken branch or jump to a word. -/
  | jump (target : Nat)
  /-- Past the body of a loop whose count is 0. -/
  | skip (target : Nat)
  /-- In sequence into the body of a loop just pushed. -/
  | enter
  /-- In sequence, ending the line. -/
  | wait
  /-- Halted at this word. -/
  | halt
  /-- Stopped at this word; in sequence on resume. -/
  | brk
  /-- In sequence, emitting a crumb: sa, sb and the feature lanes. -/
  | emit (sa sb : Word) (features : List Half)
  deriving DecidableEq, Repr

/-- What an instruction does to its engine: an exception, or the new engine, the cycles and where control goes. -/
inductive GRes where
  | exc (cause : Nat)
  | ok (e : Engine) (cycles : Nat) (next : GNext)
  deriving DecidableEq, Repr

/-- What an instruction needs from around its engine: the length of the installed image, the positions of the two
output buffers that accept a value, the engine's number. -/
structure GCfg where
  codeWords : Nat
  lim0 : Nat
  lim1 : Nat
  no : Nat
  deriving DecidableEq, Repr

/-- The target of a relative transfer, as an unsigned word address. -/
def relTarget (pc : Nat) (off : Int) : Nat := wrapU 32 ((pc : Int) + 1 + off)

/-- A LOOP of `count` iterations over `n` words (R218). -/
def Engine.loop (e : Engine) (c : GCfg) (count n : Nat) : GRes :=
  match e.loopCheck c.codeWords n (count ≠ 0) with
  | some x => .exc x
  | none =>
    if count = 0 then .ok e 2 (.skip (e.pc + n + 1))
    else .ok { e with loops := { first := e.pc + 1, last := e.pc + n, left := count } :: e.loops } 2 .enter

/-- A legal line offset of WLD (R224). -/
def legalOff (o : BitVec 4) : Bool := -4 ≤ o.toInt && o.toInt ≤ 4

/-- A line window load (R224). -/
def Engine.wld (e : Engine) (vd : Fin 32) (sa : Fin 16) (sec : Bool) (off : BitVec 4) (sh : BitVec 5) : Engine :=
  e.vset vd (lanes fun i => e.winAt (if sec then 1 else 0) off.toInt ((e.sget sa).toInt + sh.toInt + i))

/-- Write the active lanes of a vector into an output buffer at base column `q`; positions outside the buffer are
discarded (R227). -/
def Engine.putLanes (e : Engine) (p : Fin 8) (v : List Half) (q : Int) (lim : Nat) (buf : List Nat) : List Nat :=
  (List.range buf.length).map fun (k : Nat) =>
    let i := (k : Int) - q
    if 0 ≤ i && i < 16 && decide (k < lim) && e.active p i.toNat then (lane v i.toNat).toNat else buf.getD k 0

/-- A special register as MFS reads it (R212). -/
def Engine.special (e : Engine) (no : Nat) (n : BitVec 5) : Option Word :=
  match n.toNat with
  | 0 => some e.stat
  | 1 => some (BitVec.ofNat 32 e.cycles)
  | 2 => some (BitVec.ofNat 32 (256 - e.crumbs.length))
  | 3 => some (BitVec.ofNat 32 e.loops.length)
  | 4 => some (BitVec.ofNat 32 (match e.loops with | l :: _ => l.left | [] => 0))
  | 5 => some (BitVec.ofNat 32 no)
  | _ => none

/-- One instruction on its engine. `ILLEGAL` is decided before any other cause (R230). -/
def Engine.exec1 (e : Engine) (c : GCfg) (op : GOp) : GRes :=
  match op with
  | .alu f rd ra rb =>
    .ok (e.sset rd (f.eval (e.sget ra) (e.sget rb)))
      (match f with | .mul | .mulh | .mulhu => 2 | _ => 1) .seq
  | .imm f rd ra i => .ok (e.sset rd (f.eval (e.sget ra) (f.immArg i))) 1 .seq
  | .shift f rd ra sh => .ok (e.sset rd (f.eval (e.sget ra) (sh.setWidth 32))) 1 .seq
  | .lui rd i => .ok (e.sset rd ((i.setWidth 32) <<< 11)) 1 .seq
  | .branch k ra rb i =>
    if k.taken (e.sget ra) (e.sget rb) then .ok e 2 (.jump (relTarget e.pc i.toInt)) else .ok e 1 .seq
  | .jal rd i => .ok (e.sset rd (BitVec.ofNat 32 (e.pc + 1))) 2 (.jump (relTarget e.pc i.toInt))
  | .jalr rd ra i => .ok (e.sset rd (BitVec.ofNat 32 (e.pc + 1))) 2 (.jump (e.sget ra + sext11 i).toNat)
  | .loop ra n => e.loop c (e.sget ra).toNat n.toNat
  | .loopi count n => e.loop c count.toNat n.toNat
  | .load k rd ra i =>
    let a := (e.sget ra + sext11 i).toNat
    match accessCheck a k.bytes k.bytes false with
    | some x => .exc x
    | none => .ok (e.sset rd (k.value (memNat e.dmem a k.bytes))) 2 .seq
  | .store k rs ra i =>
    let a := (e.sget ra + sext11 i).toNat
    match accessCheck a k.bytes k.bytes true with
    | some x => .exc x
    | none => .ok { e with dmem := memWriteN e.dmem a (natBytes k.bytes (e.sget rs).toNat) } 1 .seq
  | .vld vd ra i =>
    let a := (e.sget ra + (sext11 i) <<< 5).toNat
    match accessCheck a 32 32 false with
    | some x => .exc x
    | none => .ok (e.vset vd (lanes fun k => BitVec.ofNat 16 (memNat e.dmem (a + 2 * k) 2))) 2 .seq
  | .vst vs ra i =>
    let a := (e.sget ra + (sext11 i) <<< 5).toNat
    match accessCheck a 32 32 true with
    | some x => .exc x
    | none =>
      let bs := (List.range 16).flatMap fun k => natBytes 2 (lane (e.vget vs) k).toNat
      .ok { e with dmem := memWriteN e.dmem a bs } 1 .seq
  | .valu f vd va b p => .ok (e.valu f vd va b p) 1 .seq
  | .vcmp k pd va b g => .ok (e.vcmp k pd va b g) 1 .seq
  | .pred f pd pa pb => .ok (e.pset pd (f.eval (e.pget pa) (e.pget pb))) 1 .seq
  | .pnot pd pa => .ok (e.pset pd (~~~(e.pget pa))) 1 .seq
  | .mtp pd sa => .ok (e.pset pd ((e.sget sa).setWidth 16)) 1 .seq
  | .mfp sd pa => .ok (e.sset sd ((e.pget pa).setWidth 32)) 1 .seq
  | .pcnt sd pa => .ok (e.sset sd (BitVec.ofNat 32 (bitsOf (e.pget pa)).length)) 1 .seq
  | .pfirst sd pa => .ok (e.sset sd (BitVec.ofNat 32 ((bitsOf (e.pget pa)).headD 16))) 1 .seq
  | .plast sd pa => .ok (e.sset sd (BitVec.ofNat 32 ((bitsOf (e.pget pa)).getLastD 16))) 1 .seq
  | .mac f ad va b p => .ok (e.mac f ad va b p) 1 .seq
  | .aclr ad p => .ok (e.asetP p ad fun _ => 0) 1 .seq
  | .vrnd signed vd ad sh p =>
    let f (i : Nat) : Int := roundAcc (laneA (e.aget ad) i) sh
    .ok (if signed then e.vsatS p vd f else e.vsatU p vd f) 2 .seq
  | .vtoa signed ad va p =>
    .ok (e.asetP p ad fun i =>
      if signed then (lane (e.vget va) i).signExtend 40 else (lane (e.vget va) i).setWidth 40) 1 .seq
  | .wld vd sa sec off sh => if legalOff off then .ok (e.wld vd sa sec off sh) 1 .seq else .exc excIllegal
  | .red f sd va p => .ok (e.sset sd (f.eval (e.activeLanes p va))) 3 .seq
  | .vrsuma sd ad p =>
    let x := e.accSum p ad
    .ok ((e.sset sd (BitVec.ofInt 32 (clampI (-2147483648) 2147483647 x))).orSat (clamps32 x)) 3 .seq
  | .vperm vd va vb p =>
    .ok (e.vsetP p vd fun i => lane (e.vget va) ((lane (e.vget vb) i).toNat % 16)) 2 .seq
  | .vslide vd va vb k p =>
    .ok (e.vsetP p vd fun i =>
      if i + k < 16 then lane (e.vget va) (i + k) else lane (e.vget vb) (i + k - 16)) 1 .seq
  | .vext sd va k => .ok (e.sset sd ((lane (e.vget va) k).setWidth 32)) 1 .seq
  | .vins vd sa k =>
    let x : Half := BitVec.ofNat 16 (min (e.sget sa).toNat 65535)
    .ok (e.vset vd (lanes fun i => if i = k then x else lane (e.vget vd) i)) 1 .seq
  | .vsplat vd sa p => .ok (e.vsetP p vd fun _ => (e.sget sa).setWidth 16) 1 .seq
  | .vrev vd va p => .ok (e.vsetP p vd fun i => lane (e.vget va) (15 - i)) 1 .seq
  | .vsplati vd i p => .ok (e.vsetP p vd fun _ => i) 1 .seq
  | .vput vs sq o p =>
    let q := (e.sget sq).toInt
    .ok (if o then { e with o1 := e.putLanes p (e.vget vs) q c.lim1 e.o1 }
         else { e with o0 := e.putLanes p (e.vget vs) q c.lim0 e.o0 }) 1 .seq
  | .cemit vf sa sb => .ok e 2 (.emit (e.sget sa) (e.sget sb) ((e.vget vf).take 8))
  | .nop => .ok e 1 .seq
  | .waitline => .ok e 1 .wait
  | .halt => .ok e 1 .halt
  | .brk => .ok e 1 .brk
  | .fence => .ok e 4 .seq
  | .mfs sd n =>
    match e.special c.no n with
    | some x => .ok (e.sset sd x) 1 .seq
    | none => .exc excIllegal
  | .mts n sa =>
    if n = 0 then .ok { e with sat := (e.sget sa).getLsbD 0, aov := (e.sget sa).getLsbD 1 } 1 .seq
    else .exc excIllegal

/-- The word and the loop stack control goes to. -/
def Engine.target (e : Engine) (n : GNext) : Nat × List GLoop :=
  match n with
  | .jump t => (t, popLoops t e.loops)
  | .skip t => (t, e.loops)
  | .enter => (e.pc + 1, e.loops)
  | .halt => (e.pc, e.loops)
  | .seq | .wait | .brk | .emit _ _ _ => loopNext e.pc e.loops

/-! ### Words (R214) -/

/-- A field of a word: its lowest bit and its width. -/
def fld (w : Word) (lo n : Nat) : Nat := w.toNat / 2 ^ lo % 2 ^ n

/-- A scalar register field; bit 4 set is illegal. -/
def sfld (w : Word) (lo : Nat) : Option (Fin 16) := let x := fld w lo 5; if h : x < 16 then some ⟨x, h⟩ else none

/-- A vector register field. -/
def vfld (w : Word) (lo : Nat) : Fin 32 := Fin.ofNat 32 (fld w lo 5)

/-- A predicate in a five-bit destination field: [25:24] zero, [23:21] the predicate. -/
def pdfld (w : Word) : Option (Fin 8) := if fld w 24 2 = 0 then some (Fin.ofNat 8 (fld w 21 3)) else none

/-- A predicate in a five-bit source field whose two high bits are zero. -/
def psfld (w : Word) (lo : Nat) : Option (Fin 8) :=
  if fld w (lo + 3) 2 = 0 then some (Fin.ofNat 8 (fld w lo 3)) else none

/-- An accumulator in a five-bit field whose three high bits are zero. -/
def afld (w : Word) (lo : Nat) : Option (Fin 4) :=
  if fld w (lo + 2) 3 = 0 then some (Fin.ofNat 4 (fld w lo 2)) else none

/-- The guarding predicate, [10:8]. -/
def gfld (w : Word) : Fin 8 := Fin.ofNat 8 (fld w 8 3)

/-- Keep a decoding only under a condition on reserved fields. -/
def onlyIf (b : Bool) (x : Option GOp) : Option GOp := if b then x else none

/-- Scalar operations by function code (R215). -/
def aluOps : List AluOp :=
  [.add, .sub, .and, .or, .xor, .sll, .srl, .sra, .slt, .sltu, .min, .max, .minu, .maxu, .mul, .mulh, .mulhu]

/-- Vector operations by function code (R220). -/
def vOps : List VOp :=
  [.add, .sub, .adds, .subs, .addss, .subss, .absd, .avg, .minu, .maxu, .min, .max, .and, .or, .xor, .andn,
   .shl, .shr, .sra, .mul, .mulhu, .mulhs, .sel, .mov]

/-- Compare conditions by code (R221). -/
def vConds : List VCond := [.eq, .ne, .ltu, .leu, .gtu, .geu, .lt, .le, .gt, .ge]

/-- Multiply-accumulate operations by function code (R223). -/
def macOps : List MacOp := [.macu, .macs, .macsu, .msuu, .msus, .mulu, .mulsu]

/-- Branch conditions by opcode from 0x10 (R217). -/
def brConds : List BrCond := [.eq, .ne, .lt, .ge, .ltu, .geu]

/-- Reductions by function code (R225). -/
def redOps : List RedOp := [.sum, .sums, .maxu, .minu, .maxix, .minix]

/-- The second vector source by opcode: the even opcodes' vector form, or the scalar form. -/
def bfld (w : Word) (scalar : Bool) : Option VSrc :=
  if scalar then (sfld w 11).map .scalar else some (.vec (vfld w 11))

/-- Scalar, branch, loop and memory words: opcodes 0x00 to 0x29. -/
def decodeScalar (w : Word) : Option GOp :=
  let op := fld w 26 6
  let i : BitVec 11 := BitVec.ofNat 11 (fld w 0 11)
  let rbz := fld w 11 5 = 0
  match op with
  | 0x00 => onlyIf (fld w 6 5 = 0) do
      return .alu (← aluOps[fld w 0 6]?) (← sfld w 21) (← sfld w 16) (← sfld w 11)
  | 0x01 => onlyIf rbz do return .imm .add (← sfld w 21) (← sfld w 16) i
  | 0x02 => onlyIf rbz do return .imm .and (← sfld w 21) (← sfld w 16) i
  | 0x03 => onlyIf rbz do return .imm .or (← sfld w 21) (← sfld w 16) i
  | 0x04 => onlyIf rbz do return .imm .xor (← sfld w 21) (← sfld w 16) i
  | 0x05 => onlyIf rbz do return .imm .slt (← sfld w 21) (← sfld w 16) i
  | 0x06 => onlyIf rbz do return .imm .sltu (← sfld w 21) (← sfld w 16) i
  | 0x07 => onlyIf (rbz && fld w 5 6 = 0) do return .shift .sll (← sfld w 21) (← sfld w 16) (BitVec.ofNat 5 (fld w 0 5))
  | 0x08 => onlyIf (rbz && fld w 5 6 = 0) do return .shift .srl (← sfld w 21) (← sfld w 16) (BitVec.ofNat 5 (fld w 0 5))
  | 0x09 => onlyIf (rbz && fld w 5 6 = 0) do return .shift .sra (← sfld w 21) (← sfld w 16) (BitVec.ofNat 5 (fld w 0 5))
  | 0x0A => do return .lui (← sfld w 21) (BitVec.ofNat 21 (fld w 0 21))
  | 0x16 => do return .jal (← sfld w 21) (BitVec.ofNat 21 (fld w 0 21))
  | 0x17 => onlyIf rbz do return .jalr (← sfld w 21) (← sfld w 16) i
  | 0x18 => onlyIf (rbz && fld w 21 5 = 0) do return .loop (← sfld w 16) i
  | 0x19 => onlyIf rbz (some (.loopi (BitVec.ofNat 10 (fld w 16 10)) i))
  | 0x20 => onlyIf rbz do return .load .w (← sfld w 21) (← sfld w 16) i
  | 0x21 => onlyIf rbz do return .load .h (← sfld w 21) (← sfld w 16) i
  | 0x22 => onlyIf rbz do return .load .hu (← sfld w 21) (← sfld w 16) i
  | 0x23 => onlyIf rbz do return .load .b (← sfld w 21) (← sfld w 16) i
  | 0x24 => onlyIf rbz do return .load .bu (← sfld w 21) (← sfld w 16) i
  | 0x25 => onlyIf (fld w 21 5 = 0) do return .store .w (← sfld w 11) (← sfld w 16) i
  | 0x26 => onlyIf (fld w 21 5 = 0) do return .store .h (← sfld w 11) (← sfld w 16) i
  | 0x27 => onlyIf (fld w 21 5 = 0) do return .store .b (← sfld w 11) (← sfld w 16) i
  | 0x28 => onlyIf rbz do return .vld (vfld w 21) (← sfld w 16) i
  | 0x29 => onlyIf (fld w 21 5 = 0) do return .vst (vfld w 11) (← sfld w 16) i
  | k => onlyIf (0x10 ≤ k && k ≤ 0x15 && fld w 21 5 = 0) do
      return .branch (← brConds[k - 0x10]?) (← sfld w 16) (← sfld w 11) i

/-- Vector and predicate words: opcodes 0x2C to 0x38. -/
def decodeVector (w : Word) : Option GOp :=
  let op := fld w 26 6
  let f := fld w 0 8
  let p := gfld w
  let rbz := fld w 11 5 = 0
  let raz := fld w 16 5 = 0
  let rdz := fld w 21 5 = 0
  match op with
  | 0x2C => onlyIf (f ≠ 0x17 || rbz) do return .valu (← vOps[f]?) (vfld w 21) (vfld w 16) (.vec (vfld w 11)) p
  | 0x2D => do return .valu (← vOps[f]?) (vfld w 21) (vfld w 16) (← bfld w true) p
  | 0x2E => onlyIf (fld w 4 4 = 0) do return .vcmp (← vConds[fld w 0 4]?) (← pdfld w) (vfld w 16) (← bfld w false) p
  | 0x2F => onlyIf (fld w 4 4 = 0) do return .vcmp (← vConds[fld w 0 4]?) (← pdfld w) (vfld w 16) (← bfld w true) p
  | 0x30 => onlyIf (rbz && fld w 5 1 = 0 && legalOff (BitVec.ofNat 4 (fld w 6 4))) do
      return .wld (vfld w 21) (← sfld w 16) (fld w 10 1 = 1) (BitVec.ofNat 4 (fld w 6 4)) (BitVec.ofNat 5 (fld w 0 5))
  | 0x31 => do return .mac (← macOps[f]?) (← afld w 21) (vfld w 16) (← bfld w false) p
  | 0x32 => do return .mac (← macOps[f]?) (← afld w 21) (vfld w 16) (← bfld w true) p
  | 0x33 =>
    match f with
    | 0 => onlyIf (raz && rbz) do return .aclr (← afld w 21) p
    | 1 => do return .vrnd false (vfld w 21) (← afld w 16) (BitVec.ofNat 5 (fld w 11 5)) p
    | 2 => do return .vrnd true (vfld w 21) (← afld w 16) (BitVec.ofNat 5 (fld w 11 5)) p
    | 3 => onlyIf rbz do return .vtoa false (← afld w 21) (vfld w 16) p
    | 4 => onlyIf rbz do return .vtoa true (← afld w 21) (vfld w 16) p
    | _ => none
  | 0x34 =>
    if f = 6 then onlyIf rbz do return .vrsuma (← sfld w 21) (← afld w 16) p
    else onlyIf rbz do return .red (← redOps[f]?) (← sfld w 21) (vfld w 16) p
  | 0x35 =>
    let k : Fin 16 := Fin.ofNat 16 (fld w 4 4)
    match fld w 0 4 with
    | 0 => onlyIf (fld w 4 4 = 0) (some (.vperm (vfld w 21) (vfld w 16) (vfld w 11) p))
    | 1 => some (.vslide (vfld w 21) (vfld w 16) (vfld w 11) k p)
    | 2 => onlyIf (rbz && fld w 8 3 = 0) do return .vext (← sfld w 21) (vfld w 16) k
    | 3 => onlyIf (rbz && fld w 8 3 = 0) do return .vins (vfld w 21) (← sfld w 16) k
    | 4 => onlyIf (rbz && fld w 4 4 = 0) do return .vsplat (vfld w 21) (← sfld w 16) p
    | 5 => onlyIf (rbz && fld w 4 4 = 0) (some (.vrev (vfld w 21) (vfld w 16) p))
    | _ => none
  | 0x36 => onlyIf (fld w 19 2 = 0)
      (some (.vsplati (vfld w 21) (BitVec.ofNat 16 (fld w 0 16)) (Fin.ofNat 8 (fld w 16 3))))
  | 0x38 =>
    match fld w 0 11 with
    | 0 => do return .pred .and (← pdfld w) (← psfld w 16) (← psfld w 11)
    | 1 => do return .pred .or (← pdfld w) (← psfld w 16) (← psfld w 11)
    | 2 => do return .pred .xor (← pdfld w) (← psfld w 16) (← psfld w 11)
    | 3 => do return .pred .andn (← pdfld w) (← psfld w 16) (← psfld w 11)
    | 4 => onlyIf rbz do return .pnot (← pdfld w) (← psfld w 16)
    | 5 => onlyIf rbz do return .mtp (← pdfld w) (← sfld w 16)
    | 6 => onlyIf rbz do return .mfp (← sfld w 21) (← psfld w 16)
    | 7 => onlyIf rbz do return .pcnt (← sfld w 21) (← psfld w 16)
    | 8 => onlyIf rbz do return .pfirst (← sfld w 21) (← psfld w 16)
    | 9 => onlyIf rbz do return .plast (← sfld w 21) (← psfld w 16)
    | _ => none
  | 0x3C =>
    if f = 0 then onlyIf (fld w 12 4 = 0) do return .vput (vfld w 21) (← sfld w 16) (fld w 11 1 = 1) p
    else onlyIf (f = 1 && fld w 8 3 = 0) do return .cemit (vfld w 21) (← sfld w 16) (← sfld w 11)
  | 0x3F =>
    match fld w 0 11 with
    | 0 => onlyIf (rdz && raz && rbz) (some .nop)
    | 1 => onlyIf (rdz && raz && rbz) (some .waitline)
    | 2 => onlyIf (rdz && raz && rbz) (some .halt)
    | 3 => onlyIf (rdz && raz && rbz) (some .brk)
    | 4 => onlyIf (rdz && raz && rbz) (some .fence)
    | 8 => onlyIf (rbz && fld w 16 5 ≤ 5) do return .mfs (← sfld w 21) (BitVec.ofNat 5 (fld w 16 5))
    | 9 => onlyIf (rbz && fld w 21 5 = 0) do return .mts (BitVec.ofNat 5 (fld w 21 5)) (← sfld w 16)
    | _ => none
  | _ => none

/-- The instruction a word spells; none for a word that raises `ILLEGAL` (R214). -/
def decodeWord (w : Word) : Option GOp := if fld w 26 6 < 0x2C then decodeScalar w else decodeVector w

end Sys2Proof.Machine
end

