-- ==== Sys2Proof/Machine/Engines.lean ====
section
/-!
DEFINITION. The Grixis engine stage (06_grixis_engines.md, R180 to R209): the engines around their instructions, the stage
machine, kernel changes, the line window and its release, cut-offs, images, BAR2, crumbs and the crumb merger.
-/
namespace Sys2Proof.Machine

/-! ### Codes and lookups -/

/-- Engine states (`0x4200.01`): `STOPPED`. -/
def esStopped : Nat := 0
/-- `WAITING`. -/
def esWaiting : Nat := 1
/-- `EXECUTING`. -/
def esExecuting : Nat := 2
/-- `HALTED`. -/
def esHalted : Nat := 3
/-- `EXCEPTION`. -/
def esException : Nat := 4
/-- `BREAK`. -/
def esBreak : Nat := 5

/-- Engine `e`. -/
def State.engine (s : State) (e : Nat) : Engine := (mapGet s.eng.engs e).getD Engine.reset

/-- Replace engine `e`. -/
def State.setEngine (s : State) (e : Nat) (x : Engine) : State :=
  { s with eng := { s.eng with engs := mapPut s.eng.engs e x } }

/-- Engine `e` takes part in the stage: present, its digital domain on (R197). -/
def State.takesPart (s : State) (e : Nat) : Bool := s.engPresent e && s.pdOn (17 + 2 * (e / 8))

/-- The engines of a segment that take part. -/
def State.segEngines (s : State) (seg : Nat) : List Nat :=
  ((List.range 8).map (8 * seg + ·)).filter s.takesPart

/-- Every engine that takes part. -/
def State.allEngines (s : State) : List Nat := (List.range 192).filter s.takesPart

/-- Key of a status object of engine `e`. -/
def engKey (e sub : Nat) : Nat := (0x4200 + e) * 256 + sub

/-- The engine stage state (`0x4000.02`): 0 `STOPPED`, 1 `LOADING`, 2 `STARTING`, 3 `RUNNING`, 4 `STOPPING`,
5 `PENDING_ON`. -/
def State.stage (s : State) : Int := s.o 0x400002

/-- Key of a line. -/
def LineRec.key (l : LineRec) : Nat := if l.srcs.any (·.src = srcW) then rowKey l.line else l.line

/-- Two names are of lines of one numbering: the strip's, that of rows of W, or an auxiliary channel's. -/
def sameLines (a b : Nat) : Bool := a / 2 ^ 64 = b / 2 ^ 64

/-- A line that a source contributes to, by the line's name. -/
def State.lineAt (s : State) (src key : Nat) : Option LineRec :=
  s.pipe.lines.find? fun l => l.key = key && l.srcs.any (·.src = src)

/-- The kernel configuration in force for a line. -/
def State.kernAt (s : State) (key : Nat) : Option Kern :=
  s.eng.kerns.find? fun k => decide ((if isRow key then rowKey k.wStart else k.start) ≤ key)

/-- Derived sources that a kernel writes. -/
def Kern.derived (k : Kern) : List Nat := ([k.t0, k.t1].filter (0x40 ≤ ·)).eraseDups

/-- Sources whose records a kernel touches: primary, secondary, derived. -/
def Kern.sources (k : Kern) : List Nat :=
  [k.psrc] ++ (if k.ssrc = 0xFF then [] else [k.ssrc]) ++ k.derived

/-- The line a source contributes to, by its number within the source. -/
def State.lineOf (s : State) (src n : Nat) : Option LineRec := s.lineAt src (lineKey src n)

/-- A source's part of a line, by the line's name. -/
def State.srcAt (s : State) (src key : Nat) : Option SrcLine :=
  match s.lineAt src key with
  | some l => l.srcs.find? (·.src = src)
  | none => none

/-- A source's part of a line. -/
def State.srcLine (s : State) (src n : Nat) : Option SrcLine := s.srcAt src (lineKey src n)

/-- Change a source's part of a line. -/
def State.mapPart (s : State) (src key : Nat) (f : SrcLine → SrcLine) : State :=
  { s with pipe := { s.pipe with lines := s.pipe.lines.map fun l =>
      if l.key = key then { l with srcs := l.srcs.map fun x => if x.src = src then f x else x } else l } }

/-- Set a flag of a source's line. -/
def State.flagLine (s : State) (src key bit : Nat) : State :=
  s.mapPart src key fun x => { x with flags := x.flags ||| 2 ^ bit }

/-- The section of a line of a source. -/
def State.lineSect (s : State) (src n : Nat) : Nat :=
  match s.lineOf src n with
  | some l => l.sect
  | none => s.n 0x202004

/-! ### Section counts -/

/-- The counts of a section of an engine. -/
def Engine.sec (e : Engine) (sect : Nat) : EngSec :=
  (e.secs.find? (·.sect = sect)).getD { sect, overruns := 0, lost := 0, seq := 0, maxCyc := 0 }

/-- Replace the counts of a section. -/
def Engine.setSec (e : Engine) (x : EngSec) : Engine :=
  { e with secs := e.secs.filter (·.sect ≠ x.sect) ++ [x] }

/-! ### Cut-off (R191) -/

/-- What an engine delivered joins the outputs; those of lines that are out of the pipeline are forgotten. -/
def State.addOut (s : State) (o : EngOut) : State :=
  { s with eng := { s.eng with outs :=
      (s.eng.outs.filter fun p => p.eng ≠ o.eng || s.pipe.lines.any fun l => l.key = p.line) ++ [o] } }

/-- An engine is cut off on a line: its outputs are discarded, the records are flagged, the overrun is counted and the
first of a section is reported. -/
def State.cutOff (s : State) (e key : Nat) : State :=
  match s.kernAt key with
  | none => s
  | some k =>
    let n := keyLine key
    let sect := s.lineSect k.psrc n
    let first := s.eng.engs.all fun p => (p.2.sec sect).overruns = 0
    let s := k.sources.foldl (fun s f => s.flagLine f key fThrottled) s
    let en := s.engine e
    let c : EngSec := { en.sec sect with overruns := (en.sec sect).overruns + 1 }
    let mine := en.cur = some key
    let s := s.setEngine e { en.setSec c with
      prev := 0xFFFFFFFF, cur := if mine then none else en.cur, ready := if en.ready = some key then none else en.ready,
      loops := if mine then [] else en.loops }
    let s := (s.addOut (EngOut.mk e key none)).bump (engKey e 2) |>.put (engKey e 4) 0xFFFFFFFF
    if first then s.raiseAt 0x0505 (e / 8) (e % 8) n else s

/-! ### The window and the release (R184 to R189, R193) -/

/-- The lines of each source that have not yet arrived are unavailable to the windows open now (R188). -/
def State.cutWindows (s : State) : State :=
  let last (f : Nat) : Option Nat := ((s.pipe.pix.filter (·.src = f)).map (·.line)).max?
  let now := [0x0A, 0x0B, 0x0C, 0x0D, 0x10].filterMap fun f => (last f).map fun n => (f, n)
  { s with pipe := { s.pipe with cuts := (now ++ s.pipe.cuts).take 20 } }

/-- A line `m` that had not arrived at a stall or at the end of the run, when line `n` had (R188). -/
def State.isCut (s : State) (src n m : Nat) : Bool :=
  s.pipe.cuts.any fun c => c.1 = src && decide (n ≤ c.2) && decide (c.2 < m)

/-- The line that fills row `n + j` of a kernel's window, and whether it was substituted (R187): a line that had not arrived at a
stall or at the end of a run is unavailable to the lines that had (R188). -/
def State.windowLine (s : State) (p : LinePix) (first : Nat) (j : Int) : LinePix × Bool :=
  let ok (x : Int) : Bool := s.available p.src p.run x && decide ((keyLine first : Int) ≤ x) && !s.isCut p.src p.line x.toNat
  let a : Int := p.line + j
  let b : Int := p.line - j
  if j = 0 then (p, false)
  else if ok a then ((s.pix? p.src a.toNat).getD p, false)
  else if ok b then ((s.pix? p.src b.toNat).getD p, true)
  else (p, true)

/-- The 160 samples of a row for an engine: as they leave stage 5, across the segment edge through exchange 2. -/
def State.windowRow (s : State) (p : LinePix) (plane e : Nat) : List Nat :=
  let x := s.ctx p (e / 8) 0
  (List.range 160).map fun (i : Nat) =>
    let c := s.haloCol x.w x.seg 2 x.errs ((128 * e : Int) - 16 + i)
    let v := s.stage5 (s.ctx p (c / 1024) 0) c
    v.getD (if p.src = srcM then plane else 0) 0

/-- Rows of one source of a window with the offsets substituted in the past and in the future. -/
def State.windowRows (s : State) (k : Kern) (ix src plane e n first : Nat) :
    List (Nat × Nat × List Nat) × Bool × Bool :=
  match s.pix? src n with
  | none => ([], false, false)
  | some p =>
    let offs : List Int := (List.range k.h).map fun (i : Nat) => (i : Int) - ((k.h - 1) / 2 : Nat)
    let ls := offs.map fun (j : Int) => (j, s.windowLine p first j)
    (ls.map fun x => (ix, (x.1 + 4).toNat, s.windowRow x.2.1 plane e),
     ls.any fun x => decide (x.1 < 0) && x.2.2, ls.any fun x => decide (0 < x.1) && x.2.2)

/-- The input samples of an engine's own columns in the released line. -/
def Engine.inputOf (e : Engine) (ix : Nat) : List Nat :=
  match e.win.find? fun r => r.1 = ix && r.2.1 = 4 with
  | some r => (r.2.2.drop 16).take 128
  | none => List.replicate 128 0

/-- The settings that govern a line of a kernel, by its primary source (R183, R304). -/
def State.keyRead (s : State) (k : Kern) (key : Nat) : State :=
  match s.pix? k.psrc (keyLine key) with
  | some p => s.asRead p
  | none => s

/-- What an output buffer holds at a release (R193). -/
def State.outInit (s : State) (e : Engine) (target : Nat) : List Nat :=
  if target = 1 then e.inputOf 0
  else if target = 2 then e.inputOf 1
  else List.replicate 128 (s.n 0x305001)

/-- The line descriptor (R184). -/
def State.descriptor (s : State) (k : Kern) (e : Engine) (key : Nat) (past future : Bool) : List Nat :=
  let n := keyLine key
  let flags (src : Nat) : Nat := ((s.srcLine src n).map (·.flags)).getD 0
  let pos : Int := ((s.srcLine k.psrc n).map (·.pos)).getD 0
  let l := s.lineOf k.psrc n
  let bit (b : Bool) (i : Nat) : Nat := if b then 2 ^ i else 0
  let status := bit past 0 + bit future 1 + bit (e.prev = 0xFFFFFFFF) 2 + bit e.fresh 3
    + bit ((l.map (·.rev)).getD false) 4 + bit (n % max 1 (s.n 0x202002) = 0) 5
  leBytes 8 n ++ leBytes 8 (wrapU 64 pos) ++ leBytes 4 ((l.map (·.sect)).getD 0)
    ++ leBytes 4 ((l.map (·.epoch)).getD 0) ++ leBytes 2 (flags k.psrc)
    ++ leBytes 2 (if k.ssrc = 0xFF then 0 else flags k.ssrc) ++ leBytes 2 status
    ++ leBytes 2 (256 - e.crumbs.length) ++ leBytes 4 e.prev
    ++ leBytes 4 (if e.fresh then 0 else match e.relT with | some t => s.now - t | none => 0) ++ List.replicate 24 0

/-- The identity block (R185), with the mirrored halo edges of the line released. -/
def State.identity (s : State) (k : Kern) (e key : Nat) : List Nat :=
  let seg := e / 8
  let w := (s.keyRead k key).window k.psrc
  let errs := s.haloErrsOf seg k.psrc (keyLine key)
  let west := e % 8 = 0 && !s.haloReal w seg 2 errs false
  let east := e % 8 = 7 && !s.haloReal w seg 2 errs true
  leBytes 2 e ++ [seg, e % 8] ++ leBytes 2 (128 * e) ++ [k.h, k.h / 2, k.psrc, k.pplane, k.ssrc, k.splane, k.sel,
    (if west then 1 else 0) + (if east then 2 else 0), k.t0, k.t1] ++ leBytes 4 (s.n 0x40000B) ++ List.replicate 44 0

/-- Release a line to engine `e`: rows switched, descriptor and identity written, output buffers initialised, and the parameter
blocks of a new section (R183 to R189, R193). A stepped WAITLINE returns to `BREAK` (R231). -/
def State.release (s : State) (e key : Nat) : State :=
  match s.kernAt key with
  | none => s
  | some k =>
    let n := keyLine key
    let en := s.engine e
    let v := s.keyRead k key
    let (r0, p0, f0) := s.windowRows k 0 k.psrc k.pplane e n en.first
    let (r1, p1, f1) := if k.ssrc = 0xFF then ([], false, false) else s.windowRows k 1 k.ssrc k.splane e n en.first
    let en := { en with win := r0 ++ r1 }
    let sect := s.lineSect k.psrc n
    let d := memWriteN en.dmem 0x1FF80 (toBytes (s.descriptor k en key (p0 || p1) (f0 || f1)))
    let d := if en.fresh then memWriteN d 0x1FFC0 (toBytes (s.identity k e key)) else d
    let d := if en.psect = some sect then d
      else memWriteN d 0x1FF00 (toBytes (v.blob 0x401000 ++ v.blob ((0x4100 + e) * 256)))
    s.setEngine e { en with
      dmem := d, o0 := v.outInit en k.t0, o1 := v.outInit en k.t1, cur := some key, ready := none, setup := false,
      st := if en.stepping then esBreak else esExecuting, haltAt := if en.stepping then en.pc else en.haltAt,
      matched := en.matched && !en.stepping, stepping := false, cycles := 0, sat := false, aov := false,
      relT := some s.now, fresh := false, psect := some sect }

/-! ### Stage machine (R197, R198) -/

/-- Enter a kernel configuration that holds from line `b`, and from the next row of W on. -/
def State.enterKern (s : State) (b : Nat) (on : Bool) : State :=
  let k : Kern := { start := b, wStart := s.wLine, on, sel := s.n 0x400003, h := s.n 0x400004, psrc := s.n 0x400005,
                    pplane := s.n 0x400006, ssrc := s.n 0x400007, splane := s.n 0x400008, t0 := s.n 0x400009, t1 := s.n 0x40000A,
                    red := (List.range 8).map fun i => s.n ((0x4020 + i) * 256 + 1) }
  { s with eng := { s.eng with kerns := (k :: s.eng.kerns.filter (·.start ≠ b)).take 8 } }

/-- The first line of the newest kernel configuration that a change at line `b` concerns: a row of W where W is its primary source
(R186, R198). -/
def State.changeKey (s : State) (b : Nat) : Nat :=
  match s.kernAt b with
  | some k => if k.psrc = srcW then rowKey s.wLine else b
  | none => b

/-- The lines of the kernel's sources whose windows reach before the change at line `b` carry HISTORY (R199). -/
def State.kernHistory (s : State) (b : Nat) : State :=
  match s.kernAt b with
  | some k =>
    let first := keyLine (s.changeKey b)
    if 3 ≤ k.h then k.sources.foldl (fun s f => s.addRun f fHistory (first + (k.h - 1) / 2 - 1)) s else s
  | none => s

/-- An engine is to begin setup at a line (R198). A stopped engine takes no line before it. -/
def State.changeAt (s : State) (e key : Nat) : State :=
  let en := s.engine e
  if en.st = esStopped then s.setEngine e { en with chg := some key, first := key, st := esWaiting }
  else s.setEngine e { en with chg := some key }

/-- A kernel change applies at line `b` (R198). -/
def State.kernelChange (s : State) (b : Nat) : State :=
  let s := s.enterKern b true
  let s := s.allEngines.foldl (fun s e => s.changeAt e (s.changeKey b)) s
  (s.kernHistory b).put 0x40000C (s.o 0x7C0007)

/-- Words of the installed image. -/
def State.codeWords (s : State) : Nat :=
  match s.eng.store with
  | some (hdr, _, _) => fieldAt hdr 12 4
  | none => 0

/-- Entry word of a kernel in the installed image (R196). -/
def State.kernEntry (s : State) (sel : Nat) : Nat :=
  match s.eng.store with
  | some (hdr, _, _) => fieldAt hdr (28 + 4 * sel) 4
  | none => 0xFFFFFFFF

/-- Declared worst-case cycles of a kernel. -/
def State.kernWcet (s : State) (sel : Nat) : Nat :=
  match s.eng.store with
  | some (hdr, _, _) => fieldAt hdr (60 + 4 * sel) 4
  | none => 0

/-- The shortest trigger spacing in ticks: `T_min`, 2,500 ns or the plan end; 625 ns for W (R190). -/
def State.tMin (s : State) : Nat := if s.n 0x400005 = srcW then 250 else max 1000 (planEnd s.plan)

/-- Guaranteed budgets at the clocks in force, and the budget-short flag with its event (R190). -/
def State.refreshBudget (s : State) : State :=
  let s := s.put 0x401803 (s.tMin * 5 / 2 : Nat)
  let s := s.segs.foldl (fun s g =>
    s.put (0x401A01 + g) (s.tMin * 5 * s.n (0x401901 + g) / 2000 - 64 : Nat)) s
  let need := s.kernWcet (s.n 0x400003)
  let short := s.is 0x40000B 0 = false
    && s.segs.any fun g => s.pdOn (17 + 2 * g) && s.n (0x401A01 + g) < need
  if short && !s.b 0x40000D then (s.put 0x40000D 1).raise 0x050E
  else s.putB 0x40000D short

/-- Rows of W are renumbered from 0: rows that are out of the pipeline are forgotten, and a kernel of W starts with the first. -/
def State.wRenumber (s : State) : State :=
  let eng (p : Nat × Engine) : Nat × Engine :=
    (p.1, if isRow p.2.first then { p.2 with first := rowKey 0, chg := p.2.chg.map fun b => if isRow b then rowKey 0 else b,
                                             cur := none, ready := none } else p.2)
  let gone (l : LineRec) : Bool := l.srcs.any (·.src = srcW) && l.srcs.all fun x => x.segs.isEmpty
  { s with
    pipe := { s.pipe with lines := s.pipe.lines.filter fun l => !gone l }
    arr := { s.arr with wNo := 0, wNextT := s.now, wPend := false, wExtra := 0, runs := s.arr.runs.filter fun r => r.src ≠ srcW }
    eng := { s.eng with kerns := s.eng.kerns.map fun k => { k with wStart := 0 }, engs := s.eng.engs.map eng
                        outs := s.eng.outs.filter fun o => !isRow o.line } }

/-- The W frame mode takes effect at the next frame start; frames are numbered from 0 each time it leaves STOPPED, and what was
kept by the old numbers ends (R83). The count of frames delivered goes on (DESIGN CHOICE, log entry 90). `old` is the mode
before the write. -/
def State.wModeSet (s : State) (old : Int) : State :=
  if old = 0 && s.o 0x241808 ≠ 0 then s.wRenumber
  else if s.is 0x241808 1 then { s with arr := { s.arr with wNextT := max s.now s.arr.wNextT } }
  else s

/-- The engines start at line `b`. -/
def State.engStart (s : State) (b : Nat) : State :=
  let s := { s with eng := { s.eng with started := [], discSeen := false } }
  ((s.put 0x400002 2).kernelChange b).refreshBudget

/-- Setup begins on an engine at the kernel's entry, with the registers of R211. -/
def State.beginSetup (s : State) (e key : Nat) : State :=
  let en := s.engine e
  s.setEngine e { en with
    st := esExecuting, pc := s.kernEntry (((s.kernAt key).map (·.sel)).getD 0), sregs := [], vregs := [], accs := [],
    preds := [], loops := [], sat := false, aov := false, cur := none, ready := some key, setup := true, chg := none,
    first := key, fresh := true, psect := none, cycles := 0, skipBp := false, matched := false, stepping := false }

/-- A line is to be ended by this engine: the kernel runs for it, the segment is in the primary source's window and has not
passed it, and it is not before the engine's first line. -/
def State.owes (s : State) (e : Nat) (l : LineRec) : Bool :=
  !l.skipped && !(sameLines l.key (s.engine e).first && decide (l.key < (s.engine e).first))
    && (match s.kernAt l.key with
      | some k => k.on && l.srcs.any fun x =>
          x.src = k.psrc && x.segs.contains (e / 8) && decide (x.segA ≤ e / 8) && decide (e / 8 ≤ x.segB)
      | none => false)
    && !(s.eng.outs.any fun o => o.eng = e && o.line = l.key)

/-- Some accepted line up to the one named, of its numbering, still awaits this engine. -/
def State.owesLine (s : State) (e key : Nat) : Bool :=
  s.pipe.lines.any fun l => sameLines l.key key && decide (l.key ≤ key) && s.owes e l

/-- Write bytes of an image into an engine's data memory, the rest of user data zero-filled (R196). -/
def loadData (m : List Host.Cell) (data : List Nat) : List Host.Cell :=
  let top := m.filter fun c => dmemUser ≤ c.1
  ((List.range data.length).zip (toBytes data)).filter (fun c => c.2 ≠ 0) ++ top

/-- Words of an instruction image. -/
def loadCode : Nat → Nat → List Nat → List (Nat × Word)
  | 0, _, _ => []
  | n + 1, a, bs =>
    let w : Word := BitVec.ofNat 32 (leNat (bs.take 4))
    if w = 0 then loadCode n (a + 1) (bs.drop 4) else (a, w) :: loadCode n (a + 1) (bs.drop 4)

/-- Staged parts of an image are written into an engine, the rest of user data zero-filled; data part 1 from 0x1_0000 (R196,
R208). -/
def Engine.loadParts (e : Engine) (p : ImageParts) : Engine :=
  let e := match p.code with
    | some c => { e with imem := loadCode (c.length / 4) 0 c }
    | none => e
  match p.data0, p.data1 with
  | none, none => e
  | x, some d => { e with dmem := loadData e.dmem (x.getD [] ++ List.replicate (65536 - (x.getD []).length) 0 ++ d) }
  | some d, none => { e with dmem := loadData e.dmem d }

/-- A staged image whose header gives it no data zero-fills user data (R196). -/
def ImageParts.ofHeader (p : ImageParts) (hdr : List Nat) : ImageParts :=
  if fieldAt hdr 20 4 = 0 && p.code.isSome && p.data0.isNone then { p with data0 := some [] } else p

/-- The load of the staged parts begins: they are written into every engine that takes part (R197). -/
def State.loadBegin (s : State) (st : Int) : State :=
  let s := match s.eng.parts with
    | some p => s.allEngines.foldl (fun (s : State) e => s.setEngine e ((s.engine e).loadParts p)) s
    | none => s
  { s with eng := { s.eng with loadPend := false, discSeen := s.eng.discSeen && s.stage ≠ 0 } }.put 0x400002 st

/-- An image or header commit applies: the load begins, or waits for the stage to stop (R197). -/
def State.imageCommit (s : State) (p : ImageParts) : State :=
  let hdr := s.blob 0x400800
  let s := { s with eng := { s.eng with
    loading := hdr, parts := if p.code.isNone && p.data0.isNone && p.data1.isNone then none else some (p.ofHeader hdr) } }
  if s.stage = 0 || s.stage = 1 then s.loadBegin 1
  else { s with eng := { s.eng with loadPend := true } }

/-- Bytes of an engine's instruction memory, `n` words from 0. -/
def Engine.codeBytes (e : Engine) (n : Nat) : List Nat :=
  (List.range n).flatMap fun a => leBytes 4 ((mapGet e.imem a).getD 0).toNat

/-- Bytes of an engine's data image of `n` bytes: from 0, and where the commit staged a data part 1, that from 0x1_0000. -/
def Engine.dataBytes (e : Engine) (p : Option ImageParts) (n : Nat) : List Nat :=
  let at_ (a len : Nat) : List Nat := (List.range len).map fun i => (memRead e.dmem (a + i)).toNat
  match p with
  | some { data1 := some d, .. } => at_ 0 (n - d.length) ++ at_ 65536 (min n d.length)
  | _ => at_ 0 n

/-- An engine's memories match a header (R200). -/
def Engine.matchesHdr (e : Engine) (p : Option ImageParts) (hdr : List Nat) : Bool :=
  crc32c (e.codeBytes (fieldAt hdr 12 4)) = fieldAt hdr 16 4
    && (fieldAt hdr 20 4 = 0 || crc32c (e.dataBytes p (fieldAt hdr 20 4)) = fieldAt hdr 24 4)

/-- What a load checks and installs where no engine takes part: an engine with the image of the store, if there is one, and the
staged parts (DESIGN CHOICE, log entry 106). -/
def State.blankEngine (s : State) (p : Option ImageParts) : Engine :=
  let e := match s.eng.store with
    | some (_, code, data) => Engine.reset.loadParts { code := some code, data0 := some data, data1 := none }
    | none => Engine.reset
  match p with
  | some q => e.loadParts q
  | none => e

/-- The engine stage reaches STOPPED: a waiting load begins, or a latched enable starts it. A stop that no enable awaits is
reported (R197, R209), and the crumb ring has lost its source (R269). -/
def State.stageStopped (s : State) (nextLine : Nat) : State :=
  let pend := s.stage = 5
  let s := (s.put 0x400002 0).bufClose 8
  let s := if pend then s else s.raise 0x0502
  if s.eng.loadPend then s.loadBegin (if pend then 5 else 1)
  else if pend && s.o 0x40000B ≠ 0 then s.engStart nextLine
  else s

/-- The image load ends: the generation is installed, or the check fails naming the lowest failing engine (R197,
R200). A pending enable starts at the next line released. -/
def State.imageLoaded (s : State) (nextLine : Nat) : State :=
  let hdr := s.eng.loading
  if !(s.stage = 1 || s.stage = 5) || hdr.isEmpty || s.eng.loadPend then s
  else
    let pend := s.stage = 5
    let p := s.eng.parts
    let es := s.allEngines
    let s := { s.put 0x400002 0 with eng := { s.eng with loading := [], parts := none } }
    let bad := es.find? fun e => !(s.engine e).matchesHdr p hdr
    let blank := s.blankEngine p
    if bad.isSome || (es.isEmpty && !blank.matchesHdr p hdr) then
      let s := { s.put 0x40000B 0 with eng := { s.eng with store := none } }.refreshBudget
      match bad with
      | some e => s.raiseAt 0x0504 (e / 8) (e % 8) 0
      | none => s.raise 0x0504
    else
      let e := match es.head? with
        | some e => s.engine e
        | none => blank
      let len := match p with
        | some { data1 := some d, .. } => 65536 + d.length
        | _ => fieldAt hdr 20 4
      let img := (e.codeBytes (fieldAt hdr 12 4), e.dataBytes none len)
      let s := { s with eng := { s.eng with store := some (hdr, img.1, img.2) } }
      let s := (s.put 0x40000B (fieldAt hdr 8 4)).raise 0x0503
      if pend then s.engStart nextLine else s.refreshBudget

/-- The stage leaves STARTING when every engine has executed its first WAITLINE, and STOPPING when every engine has
ended its lines (R197). Engines outside the primary source's window never get a line and are not waited for. -/
def State.stageCheck (s : State) : State :=
  let cands := s.allEngines.filter fun e => match s.eng.kerns with
    | k :: _ => (s.window k.psrc).1 ≤ e / 8 && e / 8 ≤ (s.window k.psrc).2
    | [] => true
  if s.stage = 2 then
    if cands.all s.eng.started.contains then (s.put 0x400002 3).raise 0x0501 else s
  else if s.stage = 4 || (s.stage = 5 && (s.eng.loading.isEmpty || s.eng.loadPend)) then
    let lines := s.pipe.lines ++ (s.pos.trigQ.map (·.held)).toList
    let busy := s.allEngines.any fun e =>
      (lines.any (s.owes e)) || (s.engine e).cur.isSome || (s.engine e).ready.isSome
    if busy then s
    else
      let s := s.allEngines.foldl (fun s e =>
        s.setEngine e { s.engine e with st := esStopped, chg := none, setup := false, stepping := false }) s
      s.stageStopped (s.n 0x202003 + 1)
  else s

/-- The engine enable has been applied at line `b` with a value that differs from the one before (R197). -/
def State.enableApplied (s : State) (b : Nat) : State :=
  let st := s.stage
  if s.b 0x400001 then
    if st = 0 then (if s.o 0x40000B ≠ 0 then s.engStart b else s)
    else if st = 1 || st = 4 then s.put 0x400002 5
    else s
  else if st = 2 || st = 3 then ((s.put 0x400002 4).enterKern b false).stageCheck
  else if st = 5 then s.put 0x400002 (if s.eng.loading.isEmpty || s.eng.loadPend then 4 else 1)
  else s

/-- A change of the kernel configuration has been applied at line `b` (R198): event 0x050B. -/
def State.kernelApplied (s : State) (b : Nat) : State :=
  if s.stage = 2 || s.stage = 3 then (s.kernelChange b).raise 0x050B else s

/-- The reductions or parameters change without a kernel change. -/
def State.reductionApplied (s : State) (b : Nat) : State :=
  match s.eng.kerns with
  | k :: _ => s.enterKern b k.on
  | [] => s

/-- Halted engines restart at line `b` as a kernel change (R199, R201). -/
def State.restartApplied (s : State) (seg mask b : Nat) : State :=
  let es := (List.range 8).filter fun i => mask.testBit i && s.takesPart (8 * seg + i)
    && esHalted ≤ (s.engine (8 * seg + i)).st
  let s := if es.isEmpty then s else s.kernHistory b
  es.foldl (fun s i => (s.changeAt (8 * seg + i) (s.changeKey b)).raiseAt 0x050D seg i 0) s

/-! ### The window becomes ready (R188 to R191) -/

/-- Triggers from line `n` on are still accepted (R32, R41). -/
def State.runGoesOn (s : State) (n : Nat) : Bool :=
  (s.run = rsRunning || (s.run = rsStopping && s.pos.stopAt)) && !s.pos.stalled
    && (if s.pos.counted then s.n 0x202003 < n else s.n 0x202003 ≤ n)

/-- A line that could still arrive: triggered and accepted, or not triggered while the run goes on. -/
def State.mayArrive (s : State) (src n : Nat) : Bool :=
  if (s.pix? src n).isSome then false
  else if src = srcW then
    s.arr.wFrames.any fun f => 256 * f.no + f.first + f.next ≤ n && n < 256 * f.no + f.first + f.rows
  else
    match s.pipe.lines.find? (fun l => l.line = n && !(l.srcs.any (·.src = srcW))), s.pos.trigQ with
    | some l, _ => !l.skipped && l.srcs.any (·.src = src)
    | none, some q => if q.line = n then q.held.srcs.any (·.src = src) else q.line < n && s.runGoesOn n
    | none, none => s.runGoesOn n

/-- Line `n` of a source is held, and the `f` lines after it are or cannot arrive. -/
def State.lookAhead (s : State) (src n f : Nat) : Bool :=
  (s.pix? src n).isSome && (List.range f).all fun i => !s.mayArrive src (n + 1 + i)

/-- Lines of look-ahead of stages 2 to 5: one, for M three (R142, R145). -/
def stageAhead (src : Nat) : Nat := if src = srcM then 3 else 1

/-- The window of line `n` of a source with look-ahead `f` is ready: the last available line up to `n + f` has reached stage 6, for
which stages 2 to 5 need the lines after it; lines that had not arrived at a stall or the end of the run are not awaited (R188). -/
def State.windowThere (s : State) (src n f : Nat) : Bool :=
  let awaits (m : Nat) : Bool := !s.isCut src n m && s.mayArrive src m
  let last := ((List.range (f + 1)).map (n + ·)).foldl (fun a m =>
    if (s.pix? src m).isSome && !s.isCut src n m then m else a) n
  (s.pix? src n).isSome && (List.range f).all (fun i => !awaits (n + 1 + i))
    && (List.range (stageAhead src)).all fun i => !awaits (last + 1 + i)

/-- One engine at the moment the window of a line becomes ready, with the kernel enabled for it or not (R188 to R191, R198). A
line of another numbering than the engine's kernel is cut off for it (DESIGN CHOICE, log entry 107). -/
def State.windowFor (s : State) (key : Nat) (on : Bool) (e : Nat) : State :=
  let en := s.engine e
  let cutPrev (s : State) : State := match en.cur, en.ready with
    | some m, _ => s.cutOff e m
    | none, some m => s.cutOff e m
    | none, none => s
  let due := match en.chg with | some b => sameLines b key && decide (b ≤ key) | none => false
  if !on then
    let s := cutPrev s
    let x := s.engine e
    s.setEngine e { x with ready := none, st := if esHalted ≤ x.st then x.st else esWaiting }
  else if due then (cutPrev s).beginSetup e key
  else if sameLines en.first key && key < en.first then s
  else if !sameLines en.first key then s.cutOff e key
  else if en.st = esWaiting then s.release e key
  else if en.st = esExecuting && en.cur.isSome then
    let s := cutPrev s
    (s.setEngine e { s.engine e with pc := en.resume, skipBp := false, matched := false }).release e key
  else if en.st = esStopped then s
  else
    let s := cutPrev s
    s.setEngine e { s.engine e with ready := some key }

/-- Line `n` among the lines of the kernels in force: a line of the strip, or a row of W (R186). -/
def State.keyOfWindow (s : State) (n : Nat) : Option Nat :=
  let ours (key : Nat) : Bool := match s.kernAt key with
    | some k => decide ((k.psrc = srcW) = (isRow key = true)) && (s.lineOf k.psrc n).isSome
    | none => false
  if ours n then some n else if ours (rowKey n) then some (rowKey n) else none

/-- The window of line `n` of a segment becomes ready. -/
def State.windowReady (s : State) (seg n : Nat) (errs : List HaloErr) : State :=
  match s.keyOfWindow n with
  | none => s
  | some key =>
    match s.kernAt key, s.srcLine ((s.kernAt key).map (·.psrc) |>.getD 0) n with
    | some k, some x =>
      let f := k.h / 2
      if s.stage = 0 || s.stage = 1 || !s.windowThere k.psrc n f || (k.ssrc ≠ 0xFF && !s.windowThere k.ssrc n f)
          || seg < x.segA || x.segB < seg then s
      else
        let s : State := s.haloErrors seg k.psrc n errs false
        let s : State := if k.ssrc = 0xFF then s else s.haloErrors seg k.ssrc n errs false
        ((s.segEngines seg).foldl (State.windowFor · key k.on ·) s).stageCheck
    | _, _ => s

/-! ### Around an instruction (R201, R210, R230) -/

/-- A precise exception: nothing of the instruction is written, the engine halts with its cause. -/
def State.gExcept (s : State) (e cause : Nat) : State :=
  let en := s.engine e
  let s := s.setEngine e { en with st := esException, haltAt := en.pc, cause }
  s.raiseAt 0x0507 (e / 8) (e % 8) cause

/-- The line of an engine ends at its WAITLINE: the output buffers take effect, and the next line is awaited. -/
def State.gWait (s : State) (e : Nat) : State :=
  let en := s.engine e
  let en := { en with resume := en.pc }
  let s := match en.cur with
    | some key =>
      let sect := match s.kernAt key with
        | some k => s.lineSect k.psrc (keyLine key)
        | none => 0
      let c : EngSec := { en.sec sect with maxCyc := max (en.sec sect).maxCyc en.cycles }
      let s := s.setEngine e { en.setSec c with prev := en.cycles, cur := none, st := esWaiting }
      (s.addOut (EngOut.mk e key (some (en.o0, en.o1)))).put (engKey e 4) (min en.cycles 0xFFFFFFFE)
    | none => s.setEngine e { en with st := esWaiting }
  let s := if s.eng.started.contains e then s else { s with eng := { s.eng with started := e :: s.eng.started } }
  let s := match (s.engine e).ready with
    | some key => s.release e key
    | none => s.setEngine e { s.engine e with setup := false }
  s.stageCheck

/-- The crumb that CEMIT's operands describe, with what the device fills in from the descriptor (R204, R228). -/
def Engine.crumb (e : Engine) (no source : Nat) (sa sb : Word) (fs : List Half) (seq : Nat) : Crumb :=
  let a := min (sa.toNat % 256) 127
  let b := min (sa.toNat / 256 % 256) 127
  { line := memNat e.dmem 0x1FF80 8, pos := wrapS 64 (memNat e.dmem 0x1FF88 8 : Nat), sect := memNat e.dmem 0x1FF90 4
    epoch := memNat e.dmem 0x1FF94 4, engine := no, first := 128 * no + min a b, last := 128 * no + max a b
    cls := sb.toNat / 16777216, join := sa.toNat / 65536 % 4, extent := max 1 (sb.toNat % 16777216), source
    frags := 1, seq, features := fs.map (·.toNat), flags := memNat e.dmem 0x1FF98 2 }

/-- A crumb is emitted, discarded or lost (R204, R205). -/
def State.gEmit (s : State) (e : Nat) (sa sb : Word) (fs : List Half) : State :=
  let en := s.engine e
  let cls := sb.toNat / 16777216
  if !s.b 0x480001 || cls = 0 || cls = 0xFF then s.bump 0x480008
  else
    let sect := memNat en.dmem 0x1FF90 4
    let c := en.sec sect
    let src := match s.kernAt (en.cur.getD en.first) with
      | some k => k.psrc
      | none => s.n 0x400005
    let s := s.bump (engKey e 8)
    if en.crumbs.length < 256 then
      let x := en.crumb e src sa sb fs c.seq
      let c' : EngSec := { c with seq := (c.seq + 1) % 65536 }
      s.setEngine e { en.setSec c' with crumbs := en.crumbs ++ [x] }
    else
      let first := s.eng.engs.all fun p => (p.2.sec sect).lost = 0
      let s := s.setEngine e (en.setSec { c with seq := (c.seq + 1) % 65536, lost := c.lost + 1 })
      let s := (s.bump (engKey e 9)).bump 0x480007
      if first then s.raiseAt 0x0509 (e / 8) (e % 8) (memNat en.dmem 0x1FF80 8 : Nat) else s

/-- Positions of an output buffer that accept a value: 128, or 128/D for a derived target (R227). -/
def State.outLimit (s : State) (e : Engine) (second : Bool) : Nat :=
  match s.kernAt (e.cur.getD e.first) with
  | some k =>
    let t := if second then k.t1 else k.t0
    if 0x40 ≤ t then 128 / max 1 (k.red.getD (t - 0x40) 1) else 128
  | none => 128

/-- The surroundings of an instruction on engine `e`. -/
def State.gCfg (s : State) (e : Nat) : GCfg :=
  { codeWords := s.codeWords, lim0 := s.outLimit (s.engine e) false, lim1 := s.outLimit (s.engine e) true, no := e }

/-- One instruction on engine `e`, which is about to execute it: the instruction, its cycles, where control goes, and
what the device does for it. A transfer of control out of the image raises `FETCH_RANGE` and writes nothing (R217). -/
def State.gDo (s : State) (e : Nat) (op : GOp) : State :=
  let en := s.engine e
  match en.exec1 (s.gCfg e) op with
  | .exc c => s.gExcept e c
  | .ok en' cyc nx =>
    let (pc, loops) := en'.target nx
    if s.codeWords ≤ pc && nx ≠ .halt then s.gExcept e excFetch
    else
      let en' := { en' with pc, loops, cycles := en.cycles + cyc, skipBp := false }
      match nx with
      | .seq | .jump _ | .skip _ | .enter => s.setEngine e en'
      | .wait => (s.setEngine e en').gWait e
      | .halt => (s.setEngine e { en' with st := esHalted, haltAt := en.pc }).raiseAt 0x0506 (e / 8) (e % 8) en.pc
      | .brk => (s.setEngine e { en' with st := esBreak, haltAt := en.pc }).raiseAt 0x0508 (e / 8) (e % 8) en.pc
      | .emit sa sb fs => (s.setEngine e en').gEmit e sa sb fs

/-- A hardware breakpoint of the engine matches its PC (R231). -/
def Engine.bpHit (e : Engine) : Bool := !e.skipBp && e.bps.any (·.2 = e.pc)

/-- An engine that is present, executing and at no breakpoint executes the instruction it is given. -/
def State.gRuns (s : State) (e : Nat) : Bool :=
  s.takesPart e && (s.engine e).st = esExecuting && !(s.engine e).bpHit

/-- The command of an instruction: engine `e` executes it (R210). Otherwise nothing happens. -/
def State.gExec (s : State) (e : Nat) (op : GOp) : State := if s.gRuns e then s.gDo e op else s

/-- The word an engine fetches. -/
def State.gFetch (s : State) (e : Nat) : Word := (mapGet (s.engine e).imem (s.engine e).pc).getD 0

/-- A breakpoint matches: the instruction does not execute (R231). -/
def State.breakMatch (s : State) (e : Nat) : State :=
  let en := s.engine e
  if s.takesPart e && en.st = esExecuting && en.bpHit then
    (s.setEngine e { en with st := esBreak, haltAt := en.pc, matched := true }).raiseAt 0x0508 (e / 8) (e % 8) en.pc
  else s

/-- An engine fetches a word that is illegal (R214, R230). -/
def State.illegalInstr (s : State) (e : Nat) (w : Word) : State :=
  if s.gRuns e && (decodeWord w).isNone then s.gExcept e excIllegal else s

/-- Resume an engine halted in BREAK (R201, R231): a matched instruction executes without matching again. -/
def State.gResume (s : State) (e : Nat) : State :=
  let en := s.engine e
  if en.st ≠ esBreak then s
  else if s.codeWords ≤ en.pc then s.setEngine e { en with st := esException, cause := excFetch } |>.raiseAt 0x0507 (e / 8) (e % 8) excFetch
  else s.setEngine e { en with st := esExecuting, skipBp := en.matched, matched := false }

/-- Execute one instruction of an engine halted in BREAK; it returns to BREAK unless it halts otherwise (R231). A WAITLINE for which
no line is ready waits, and its release returns the engine to BREAK. -/
def State.gStep (s : State) (e : Nat) : State :=
  let en := s.engine e
  if en.st ≠ esBreak then s
  else
    let s := s.setEngine e { en with st := esExecuting, skipBp := true, matched := false, stepping := true }
    let s := match decodeWord (s.gFetch e) with
      | some op => s.gDo e op
      | none => s.gExcept e excIllegal
    let en := s.engine e
    if en.st = esExecuting then s.setEngine e { en with st := esBreak, haltAt := en.pc, stepping := false }
    else if en.st = esWaiting then s
    else s.setEngine e { en with stepping := false }

/-! ### Domains and resets (R200) -/

/-- A segment's engines lose everything with their domain. -/
def State.engPowerDown (s : State) (seg : Nat) : State :=
  { s with eng := { s.eng with engs := s.eng.engs.filter (fun p => p.1 / 8 ≠ seg)
                               started := s.eng.started.filter (fun e => e / 8 ≠ seg) } }

/-- A segment's digital domain has started: its engines are reloaded from the image store and join the stage. -/
def State.engPowerUp (s : State) (seg : Nat) : State :=
  let s := s.engPowerDown seg
  match s.eng.store with
  | none => s
  | some (_, code, data) =>
    (s.segEngines seg).foldl (fun s e =>
      let s := s.setEngine e (Engine.reset.loadParts { code := some code, data0 := some data, data1 := none })
      if s.stage = 2 || s.stage = 3 then s.changeAt e (s.changeKey (s.n 0x202003 + 1)) else s) s

/-- A reset or a hold-up hand-over empties the image store and stops the engines (R200). -/
def State.engClear (s : State) : State :=
  let s := s.puts [(0x40000B, 0), (0x400001, 0), (0x400002, 0)]
  let stop (p : Nat × Engine) : Nat × Engine :=
    (p.1, { p.2 with st := esStopped, cur := none, ready := none, chg := none, setup := false, stepping := false })
  { s with eng := { s.eng with
    store := none, loading := [], parts := none, loadPend := false, discSeen := false, started := [], outs := [], kerns := [],
    engs := s.eng.engs.map stop } }

/-! ### BAR2 (R202, R203) -/

/-- Where a BAR2 offset leads: an engine's instruction word, an engine's data byte, or nothing. -/
inductive BarTarget where
  | imem (e addr : Nat)
  | dmem (e addr : Nat)
  | absent
  | reserved
  deriving DecidableEq, Repr

/-- An offset within the 256 KiB of one engine. -/
def barIn (e off : Nat) : BarTarget :=
  if off < 0x8000 then .imem e off else if off < 0x20000 then .reserved else .dmem e (off - 0x20000)

/-- The target of a BAR2 read. On LNV-24S4 every engine offset reads all-ones. -/
def State.barRead (s : State) (off : Nat) : BarTarget :=
  let e := off / 0x40000
  if e < 192 then (if s.engPresent e then barIn e (off % 0x40000) else .absent)
  else if e = 192 then
    match (List.range 192).find? s.engPresent with
    | some e => barIn e (off % 0x40000)
    | none => .absent
  else .reserved

/-- Read a 32-bit word through BAR2. -/
def State.bar2Read (s : State) (off : Nat) : Nat :=
  match s.barRead (off / 4 * 4) with
  | .imem e a => ((mapGet (s.engine e).imem (a / 4)).getD 0).toNat
  | .dmem e a => memNat (s.engine e).dmem a 4
  | .absent => 0xFFFFFFFF
  | .reserved => 0

/-- Instruction-memory writes while the stage is not `STOPPED` are discarded: one access is counted once, and the first since the
stage left `STOPPED` is reported (R202). -/
def State.barDiscard (s : State) : State :=
  let s := s.sat 0x40000E
  if s.eng.discSeen then s else { s with eng := { s.eng with discSeen := true } }.raise 0x050C

/-- Write bytes of one engine through BAR2; instruction memory takes them while the stage is `STOPPED`. -/
def State.bar2Engine (s : State) (e off : Nat) (bs : List Nat) : State :=
  match barIn e off with
  | .imem _ a =>
    if s.stage ≠ 0 then s
    else
      let en := s.engine e
      let old := leBytes 4 ((mapGet en.imem (a / 4)).getD 0).toNat
      let w : Word := BitVec.ofNat 32 (leNat (setBytes old (a % 4) bs))
      s.setEngine e { en with imem := if w = 0 then mapDel en.imem (a / 4) else mapPut en.imem (a / 4) w }
  | .dmem _ a =>
    let en := s.engine e
    let ok := ((List.range bs.length).map (a + ·)).zip (toBytes bs) |>.filter fun c => c.1 < dmemUser
    s.setEngine e { en with dmem := ok.foldl (fun m c => memWrite m c.1 c.2) en.dmem }
  | .absent | .reserved => s

/-- An executing engine stalls for an access that has waited its 64 cycles: the cycles count against its line (R203, R210). -/
def State.barStall (s : State) (e stall : Nat) : State :=
  let en := s.engine e
  if s.takesPart e && en.st = esExecuting && stall ≠ 0 then
    (s.setEngine e { en with cycles := en.cycles + stall }).bump (engKey e 0x0B) stall
  else s

/-- Write up to four bytes within one aligned word through BAR2. `stall` is how many cycles the engine stalled. -/
def State.bar2Write (s : State) (off : Nat) (bs : List Nat) (stall : Nat) : State :=
  let e := off / 0x40000
  let es := if e < 192 then [e].filter s.takesPart else if e = 192 then s.allEngines else []
  let a := off % 0x40000
  let s := if a < 0x8000 && !es.isEmpty && s.stage ≠ 0 then s.barDiscard else s
  es.foldl (fun s e =>
    let s := s.bar2Engine e a (bs.take (4 - off % 4))
    if 0x20000 ≤ a then s.barStall e stall else s) s

/-- The cycles that a BAR2 read of data memory stalls its engine (R203). -/
def State.bar2ReadStall (s : State) (off stall : Nat) : State :=
  match s.barRead off with
  | .dmem _ _ =>
    s.barStall (if off / 0x40000 < 192 then off / 0x40000 else ((List.range 192).find? s.engPresent).getD 0) stall
  | _ => s

/-! ### Crumbs (R206, R207) -/

/-- The 64 bytes of a crumb record (R204). -/
def Crumb.bytes (c : Crumb) : List Nat :=
  let head := leBytes 8 c.line ++ leBytes 8 (wrapU 64 c.pos) ++ leBytes 4 c.sect ++ leBytes 4 c.epoch
    ++ leBytes 2 c.engine ++ leBytes 2 c.first ++ leBytes 2 c.last ++ [c.cls, c.join] ++ leBytes 4 c.extent
    ++ [c.source, c.frags] ++ leBytes 2 c.seq
  let feats := ((c.features ++ List.replicate 8 0).take 8).flatMap (leBytes 2)
  let full := head ++ feats ++ leBytes 2 c.flags ++ [0, 0]
  full ++ leBytes 4 (crc32c (full ++ [0, 0, 0, 0]))

/-- Pair the fragments of two neighbouring engines in emission order, class by class. -/
def pairCrumbs (l : List Crumb) (e : Nat) : List (Crumb × Crumb) :=
  let east := l.filter fun c => c.engine = e && c.join.testBit 1 && c.last = 128 * e + 127
  let west := l.filter fun c => c.engine = e + 1 && c.join.testBit 0 && c.first = 128 * (e + 1)
  ((east.map (·.cls)).eraseDups).flatMap fun k => (east.filter (·.cls = k)).zip (west.filter (·.cls = k))

/-- The chain that begins at a fragment. -/
def chainFrom (pairs : List (Crumb × Crumb)) : Nat → Crumb → List Crumb
  | 0, c => [c]
  | n + 1, c =>
    match pairs.find? (·.1 = c) with
    | some p => c :: chainFrom pairs n p.2
    | none => [c]

/-- Combine one feature word by its rule: 0 FIRST, 1 SUM, 2 MIN, 3 MAX. -/
def combineFeature (rule : Int) (xs : List Nat) : Nat :=
  if rule = 1 then min 65535 (xs.foldl (· + ·) 0)
  else if rule = 2 then xs.foldl min 65535
  else if rule = 3 then xs.foldl max 0
  else xs.headD 0

/-- Join up to eight fragments into one crumb; `west` and `east` say that the chain was split before or after it. -/
def State.joinCrumbs (s : State) (fs : List Crumb) (west east incomplete : Bool) : Option Crumb :=
  match fs with
  | [] => none
  | c :: t =>
    let mark := (if incomplete then 8 else 0) + (if west || east then 16 else 0)
    if t.isEmpty then some { c with join := c.join % 4 + mark }
    else some { c with
      last := ((c :: t).getLastD c).last
      extent := ((c :: t).map (·.extent)).foldl max 0
      flags := ((c :: t).map (·.flags)).foldl (· ||| ·) 0
      frags := (c :: t).length
      join := 4 + mark + (if west then 1 else 0) + (if east then 2 else 0)
      features := (List.range 8).map fun i =>
        combineFeature (s.o (0x481001 + i)) ((c :: t).map fun x => x.features.getD i 0) }

/-- Split a chain after each eighth fragment. -/
def splitChain : Nat → List Crumb → List (List Crumb)
  | 0, l => [l]
  | n + 1, l => if l.length ≤ 8 then [l] else l.take 8 :: splitChain n (l.drop 8)

/-- The crumbs a chain becomes, each with its westmost fragment, and whether a join flag of it found no partner. -/
def State.chainCrumbs (s : State) (chain : List Crumb) : List (Crumb × Crumb) × Bool :=
  let inc := (match chain with | c :: _ => c.join.testBit 0 | [] => false)
    || (match chain.getLast? with | some c => c.join.testBit 1 | none => false)
  let parts := splitChain 192 chain
  let k := parts.length
  ((List.range k).filterMap fun i =>
      let fs := parts.getD i []
      let lone := (i = 0 && (match fs with | c :: _ => c.join.testBit 0 | [] => false))
        || (i + 1 = k && (match fs.getLast? with | some c => c.join.testBit 1 | none => false))
      match fs.head?, s.joinCrumbs fs (0 < i) (i + 1 < k) lone with
      | some c, some x => some (c, x)
      | _, _ => none, inc)

/-- A class is enabled for delivery (`0x4818`). -/
def State.classOn (s : State) (cls : Nat) : Bool := cls ≠ 0 && cls ≠ 0xFF && s.bit (0x481801 + cls / 32) (cls % 32)

/-- Key of the line a crumb was emitted in. -/
def Crumb.key (c : Crumb) : Nat := lineKey c.source c.line

/-- The line of number `n` whose crumbs the merger holds: of the strip, or a row of W. -/
def State.mergeKey (s : State) (n : Nat) : Nat := if s.eng.held.any (·.key = n) then n else rowKey n

/-- Every engine has ended the line and those before it, and the buffers hold no crumb of them (R207). -/
def State.mergeReady (s : State) (key : Nat) : Bool :=
  s.allEngines.all fun e => !s.owesLine e key
    && !((s.engine e).crumbs.any fun c => sameLines c.key key && decide (c.key ≤ key))

/-- The merger joins, filters and queues the crumbs of line `n`; what it queues is returned. -/
def State.crumbMerge (s : State) (n : Nat) : State × List Crumb :=
  let key := s.mergeKey n
  if !s.mergeReady key || s.eng.held.any fun c => sameLines c.key key && decide (c.key < key) then (s, [])
  else
    let mine := s.eng.held.filter (·.key = key)
    let sorted := (List.range 192).flatMap fun e => mine.filter (·.engine = e)
    let s := { s with eng := { s.eng with held := s.eng.held.filter (·.key ≠ key) } }
    let (s, out) :=
      if !s.b 0x480002 then (s, sorted)
      else
        let pairs := (List.range 191).flatMap (pairCrumbs sorted)
        let heads := sorted.filter fun c => !pairs.any (·.2 = c)
        let res := heads.map fun c => s.chainCrumbs (chainFrom pairs 192 c)
        let incs := (res.filter (·.2)).length
        let all := res.flatMap (·.1)
        let out := sorted.flatMap fun c => (all.filter (·.1 = c)).map (·.2)
        let s := (s.bump 0x480005 ((out.filter fun c => 2 ≤ c.frags).map (·.frags)).sum).bump 0x480006 incs
        (if incs = 0 then s else s.raiseFirst 0x050A, out)
    let keep := out.filter fun c => s.classOn c.cls
    let s := s.bump 0x480008 (out.length - keep.length)
    let q := s.eng.queue ++ s.eng.merged ++ keep
    ({ s with eng := { s.eng with queue := q.take 1024, merged := q.drop 1024 } }, keep)

/-- The oldest crumb leaves the merger's queue for the ring. -/
def State.crumbTake (s : State) : Option (Crumb × State) :=
  match s.eng.queue ++ s.eng.merged with
  | [] => none
  | c :: t => some (c, { s with eng := { s.eng with queue := t.take 1024, merged := t.drop 1024 } }.bump 0x480004)

end Sys2Proof.Machine
end

