-- ==== Sys2Proof/Machine/Pipeline.lean ====
section
/-!
DEFINITION. Stages 6 and 7 of the segment pipeline (05_segment_pipeline.md, R142 to R148, R160, R168 to R172): a line of a
source passes one segment, the statistics of a section, and its records.
-/
namespace Sys2Proof.Machine

/-! ### Statistics of a section -/

/-- Statistics of a source in a segment with nothing in them. -/
def StatAcc.empty (src seg : Nat) : StatAcc :=
  { src, seg, incl := 0, excl := 0, throttled := 0, sat := 0, hist := [], zones := [], flagsSeen := 0, samples := 0,
    corrected := [], satShade := 0, thrAll := 0 }

/-- Update a section by its number: the one in progress or one awaiting its records; another section is no more (R256). -/
def State.updSection (s : State) (sect : Nat) (f : StatSection → StatSection) : State :=
  { s with pipe := { s.pipe with
    cur := s.pipe.cur.map fun c => if c.sect = sect then f c else c
    closing := s.pipe.closing.map fun c => if c.sect = sect then f c else c } }

/-- Update the entry of a source and segment in a list of statistics. -/
def updAcc (l : List StatAcc) (src seg : Nat) (f : StatAcc → StatAcc) : List StatAcc :=
  if l.any fun a => a.src = src && a.seg = seg then l.map fun a => if a.src = src && a.seg = seg then f a else a
  else l ++ [f (StatAcc.empty src seg)]

/-- Update the statistics of a source in a section and segment (0xFF for what is counted by line): the section in progress, or one
awaiting its records. -/
def State.updStat (s : State) (sect src seg : Nat) (f : StatAcc → StatAcc) : State :=
  if s.pipe.closing.any (·.sect = sect) then s.updSection sect fun c => { c with acc := updAcc c.acc src seg f }
  else if s.pipe.cur.any (·.sect = sect) then { s with pipe := { s.pipe with stats := updAcc s.pipe.stats src seg f } }
  else s

/-- Two partial statistics of one source together. -/
def StatAcc.join (a b : StatAcc) : StatAcc :=
  let add (h : List (Nat × Nat)) (p : Nat × Nat) : List (Nat × Nat) := mapPut h p.1 (((mapGet h p.1).getD 0) + p.2)
  let zone (z : List (Nat × Nat × Nat)) (p : Nat × Nat × Nat) : List (Nat × Nat × Nat) :=
    let o := (mapGet z p.1).getD (0, 0)
    mapPut z p.1 (o.1 + p.2.1, o.2 + p.2.2)
  { a with
    incl := a.incl + b.incl, excl := a.excl + b.excl, throttled := a.throttled + b.throttled, sat := a.sat + b.sat
    hist := b.hist.foldl add a.hist, zones := b.zones.foldl zone a.zones, flagsSeen := a.flagsSeen ||| b.flagsSeen
    samples := a.samples + b.samples, corrected := (a.corrected ++ b.corrected).eraseDups
    satShade := a.satShade + b.satShade, thrAll := a.thrAll + b.thrAll }

/-- Segments that have partial statistics of a section. -/
def StatSection.parts (c : StatSection) : List Nat := ((c.acc.map (·.seg)).filter (· ≠ 0xFF)).eraseDups

/-- The partial statistics of every segment have reached the merger, or their segment is failed (R172, R286). -/
def StatSection.complete (c : StatSection) : Bool := c.parts.all fun g => c.merged.testBit g || c.failed.testBit g

/-- The statistics of a section as the merger has them: a segment whose partial statistics did not reach it is left out (R168). -/
def StatSection.joined (c : StatSection) : StatSection :=
  let here := c.acc.filter fun a => a.seg = 0xFF || c.merged.testBit a.seg
  { c with acc := ((here.map (·.src)).eraseDups).map fun f =>
      (here.filter (·.src = f)).foldl StatAcc.join (StatAcc.empty f 0xFF) }

/-- Zone of a window column (R169). -/
def zoneOf (width o : Nat) : Nat := (64 * (o + 1) - 1) / max 1 width

/-- One included column joins the statistics: its planes, and the value binned. -/
def StatAcc.addColumn (a : StatAcc) (width o : Nat) (planes : List Nat) : StatAcc :=
  let y := match planes with
    | [r, g, b] => (r + 2 * g + b) / 4
    | _ => planes.headD 0
  let hist := mapPut a.hist (y / 64) (((mapGet a.hist (y / 64)).getD 0) + 1)
  let z := zoneOf width o
  let zones := (List.range planes.length).foldl (fun zs p =>
    let old := (mapGet zs (4 * z + p)).getD (0, 0)
    mapPut zs (4 * z + p) (old.1 + planes.getD p 0, old.2 + 1)) a.zones
  { a with hist, zones, samples := a.samples + 1, sat := a.sat + if planes.any (· = 65535) then 1 else 0 }

/-- A line carries one of the flags that exclude it from statistics (R168). -/
def excluded (flags : Nat) : Bool := flags &&& excludeFlags ≠ 0

/-- A line has left stage 7 in every segment, or was skipped: it is counted (R170). `prim` says that the source is the kernel's
primary one, by which throttled lines are counted once. -/
def State.statLine (s : State) (sect src flags : Nat) (prim : Bool) : State :=
  s.updStat sect src 0xFF fun a =>
    let inc := !excluded flags
    let thr := flags.testBit fThrottled
    { a with
      incl := a.incl + if inc then 1 else 0, excl := a.excl + if inc then 0 else 1
      throttled := a.throttled + if inc && thr then 1 else 0, thrAll := a.thrAll + if prim && thr then 1 else 0
      flagsSeen := a.flagsSeen ||| flags }

/-- Rows of a source on its array. -/
def srcRows (src : Nat) : List Nat := if src = srcM then [0, 1] else [0]

/-! ### One segment's part of a line -/

/-- Values of stage 5 of a segment's columns in a line. -/
def State.segStage5 (s : State) (p : LinePix) (seg : Nat) : List (List Nat) :=
  (List.range 1024).map fun i => s.stage5 (s.ctx p seg 0) (1024 * seg + i)

/-- Columns of a segment that received the pad value in stage 3, with their rows, by column. -/
def State.segUnfilled (s : State) (p : LinePix) (seg : Nat) : List (Nat × Nat) :=
  (List.range 1024).flatMap fun i => (srcRows p.src).filterMap fun r =>
    if (s.stage3 (s.ctx p seg r) (1024 * seg + i)).2 then some (r, 1024 * seg + i) else none

/-- Samples of a segment that reach 65,535 after shading (R157). -/
def State.segSaturated (s : State) (p : LinePix) (seg : Nat) : Nat :=
  ((List.range 1024).map fun i =>
    ((srcRows p.src).filter fun r => s.stage4 (s.ctx p seg r) (1024 * seg + i) = 65535).length).sum

/-- Columns of a segment that defect correction replaces in a line, in any row (R178). -/
def State.segCorrected (s : State) (p : LinePix) (seg : Nat) : List Nat :=
  if (s.asRead p).b (defectBase p.src + 1) then
    ((List.range 1024).map (1024 * seg + ·)).filter fun c => (srcRows p.src).any fun r => s.isBad p r c
  else []

/-- What an engine's output buffers put in the place of a source's planes at a column (R192). -/
def State.replaced (s : State) (src n c : Nat) (planes : List Nat) : List Nat :=
  let key := lineKey src n
  match s.kernAt key with
  | none => planes
  | some k =>
    match s.eng.outs.find? fun o => o.eng = c / 128 && o.line = key with
    | some { bufs := some (b0, b1), .. } =>
      let put (target src' plane : Nat) (ps : List Nat) : List Nat :=
        let ps := if k.t0 = target && src = src' then ps.set plane (b0.getD (c % 128) 0) else ps
        if k.t1 = target && src = src' then ps.set plane (b1.getD (c % 128) 0) else ps
      let pl (plane : Nat) : Nat := if src = srcM then plane else 0
      put 2 k.ssrc (pl k.splane) (put 1 k.psrc (pl k.pplane) planes)
    | _ => planes

/-- A derived source's values of a segment in a line: those of each engine's buffer, or the pad value (R192, R193). -/
def State.derivedVals (s : State) (k : Kern) (code seg key : Nat) : List Nat :=
  let d := max 1 (k.red.getD (code - 0x40) 1)
  (List.range 8).flatMap fun i =>
    match s.eng.outs.find? fun o => o.eng = 8 * seg + i && o.line = key with
    | some { bufs := some (b0, b1), .. } => (if k.t0 = code then b0 else b1).take (128 / d)
    | _ => List.replicate (128 / d) ((s.keyRead k key).n 0x305001)

/-- The engines of a segment that owe a line of the kernel's sources an end. -/
def State.engOwing (s : State) (src seg n : Nat) : List Nat :=
  match s.kernAt (lineKey src n) with
  | some k =>
    if src = k.psrc || src = k.ssrc then
      match s.lineOf k.psrc n with
      | some l => (s.segEngines seg).filter fun e => s.owes e l
      | none => []
    else []
  | none => []

/-- Bad columns that received the pad value: the first one is reported once per section and source, and the longest such run is
kept (R155). -/
def State.unfilledRuns (s : State) (p : LinePix) (seg : Nat) (l : List (Nat × Nat)) : State :=
  match l with
  | [] => s
  | c :: _ =>
    let k := defectBase p.src + 6
    let run := min 24576 ((l.map fun y => s.badRun (s.ctx p seg y.1) y.2).foldl max 0)
    (if s.n k < run then s.put k run else s).raiseFirst 0x040B p.src c.2

/-- Sixteen consecutive erroneous transfers mark a side link failed (R148). -/
def State.linkFailed (s : State) (link : Nat) : State :=
  if 23 ≤ link || s.bit 0x304003 link || ((mapGet s.pipe.linkErr link).getD 0) < 16 then s
  else (s.setBits 0x304003 (2 ^ link)).raiseAt 0x040A link 0xFF link

/-- The digital domain of a segment has restarted: its side links work again. -/
def State.linkRestored (s : State) (seg : Nat) : State :=
  let s := s.clrBits 0x304003 (2 ^ seg + if seg = 0 then 0 else 2 ^ (seg - 1))
  { s with pipe := { s.pipe with linkErr := mapDel (mapDel s.pipe.linkErr seg) (seg - 1) } }

/-- A segment has passed a source's line: it leaves the list of segments still due. A derived source has then produced a record
once every segment has passed (R208). -/
def State.segDone (s : State) (src key seg : Nat) : State :=
  let s := s.mapPart src key fun x => { x with segs := x.segs.filter (· ≠ seg) }
  let through := match s.srcAt src key with | some x => x.segs.isEmpty | none => false
  if 0x40 ≤ src && through then s.bump ((0x4020 + (src - 0x40)) * 256 + 2) else s

/-- A record being assembled still needs a line. -/
def State.asmHolds (s : State) (line : Nat) : Bool :=
  s.conf.streams.any fun st => st.asm.any fun a => a.line ≤ line && line ≤ a.last

/-- Keep one segment's part of a line until every stream has taken it. -/
def State.pushOut (s : State) (o : SegOut) : State :=
  let old (x : SegOut) : Bool := x.src = o.src && sameLines x.line o.line
    && (((x.line + 160 < o.line || o.line + 160 < x.line) && !s.asmHolds x.line) || (x.line = o.line && x.seg = o.seg))
  { s with pipe := { s.pipe with outs := s.pipe.outs.filter (!old ·) ++ [o] } }

/-- A primary source's part of a line takes its derived sources with it (R192). -/
def State.derivedStages (s : State) (k : Kern) (seg key : Nat) (west east : Bool) : State :=
  k.derived.foldl (fun (s : State) d =>
    (s.pushOut { src := d, line := key, seg, vals := s.derivedVals k d seg key, pad := false, west, east }).segDone d key seg) s

/-- Stages 2 to 7 of one line of one source in one segment, when every line it needs has arrived and its engines have
ended it. An engine that is halted is cut off on the line here, or when its next window is ready, whichever comes first. -/
def State.segmentStages (s : State) (seg src n : Nat) (errs : List HaloErr) : State :=
  match s.pix? src n, s.lineOf src n, s.srcLine src n with
  | some p, some l, some x =>
    let key := lineKey src n
    let s := (s.engOwing src seg n).foldl (fun s e =>
      if esHalted ≤ (s.engine e).st then s.cutOff e key else s) s
    let s := s.haloErrors seg src n errs true
    let base := s.segStage5 p seg
    let fail := x.rowFail.contains seg
    let out := (List.range 1024).map fun i => s.replaced src n (1024 * seg + i) (base.getD i [])
    let s := s.unfilledRuns p seg (s.segUnfilled p seg)
    let s := if fail then s.flagLine src key fSegFail else s
    let w := (x.segA, x.segB)
    let width := 1024 * (w.2 + 1 - w.1)
    let first := 1024 * (seg - w.1)
    let corr := s.segCorrected p seg
    let satur := s.segSaturated p seg
    let s := s.updStat l.sect src seg fun a =>
      let a := { a with corrected := (corr ++ a.corrected).eraseDups, satShade := a.satShade + satur }
      if excluded x.flags || fail then a
      else (List.range 1024).foldl (fun a i => a.addColumn width (first + i) (out.getD i [])) a
    let errs := s.haloErrsOf seg src n
    let west := s.haloReal w seg 3 errs false
    let east := s.haloReal w seg 3 errs true
    let s := (s.pushOut { src, line := key, seg, vals := out.flatten, pad := fail, west, east }).segDone src key seg
    let k := (s.kernAt key).filter fun k => k.on && src = k.psrc
    let s := match k with
      | some k => s.derivedStages k seg key west east
      | none => s
    match s.srcLine src n with
    | some y => if y.segs.isEmpty then s.statLine l.sect src y.flags k.isSome else s
    | none => s
  | _, _, _ => s

/-- A line of a source can pass a segment now: the lines it needs are there, its engines have ended it, and the lines before it
have passed (R142, R145, R194). -/
def State.segmentReady (s : State) (seg src n : Nat) : Bool :=
  (match s.srcLine src n with | some x => x.segs.contains seg | none => false)
    && s.lookAhead src n (stageAhead src)
    && ((s.engOwing src seg n).all fun e => esHalted ≤ (s.engine e).st)
    && !s.pipe.lines.any fun l => l.line < n && !l.skipped && l.srcs.any fun x => x.src = src && x.segs.contains seg

/-! ### Records of a section (R170 to R172) -/

/-- A zone mean as UQ24.8. -/
def zoneMean (p : Nat × Nat) : Nat := if p.2 = 0 then 0 else (512 * p.1 + p.2) / (2 * p.2)

/-- Means of the zones of one plane. -/
def StatAcc.zoneMeans (a : StatAcc) (plane : Nat) : List Nat :=
  (List.range 64).map fun z => zoneMean ((mapGet a.zones (4 * z + plane)).getD (0, 0))

/-- Valid zones, as a bit map. -/
def StatAcc.zoneValid (a : StatAcc) : Nat :=
  ((List.range 64).map fun z => if (mapGet a.zones (4 * z)).isSome then 2 ^ z else 0).foldl (· + ·) 0

/-- A record with its CHECK word filled in. -/
def withCheck (bs : List Nat) : List Nat := setBytes bs 60 (leBytes 4 (crc32c bs))

/-- Header of a statistics record (R170). -/
def statHeader (c : StatSection) (src typ flags len a b thr sat valid seen : Nat) : List Nat :=
  leBytes 8 c.firstLine ++ leBytes 8 (wrapU 64 c.firstPos) ++ leBytes 4 c.sect ++ leBytes 4 c.epoch ++ [src, typ]
    ++ leBytes 2 flags ++ leBytes 4 len ++ leBytes 4 a ++ leBytes 4 b ++ leBytes 4 thr ++ leBytes 4 sat
    ++ leBytes 8 valid ++ leBytes 4 seen ++ [0, 0, 0, 0]

/-- STAT_FLAGS of a source in a section. -/
def statFlags (c : StatSection) (src : Nat) (incomplete : Bool) : Nat :=
  let st := ((c.dark.find? (·.1 = src)).map (·.2.1)).getD 0
  (if c.truncated then 1 else 0) + (if incomplete then 2 else 0) + (if st = 4 then 4 else 0)
    + (if st = 2 || st = 3 then 8 else 0)

/-- The image record of a source (R170, R171). -/
def imageRecord (c : StatSection) (a : StatAcc) (incomplete : Bool) : List Nat :=
  let m := a.src = srcM
  let lev := ((c.dark.find? (·.1 = a.src)).map (·.2.2)).getD (0, 0)
  let hist := (List.range 1024).flatMap fun i => leBytes 4 ((mapGet a.hist i).getD 0)
  let zones := (if m then [0, 1, 2] else [0]).flatMap fun p => (a.zoneMeans p).flatMap (leBytes 4)
  let body := hist ++ zones ++ leBytes 4 (wrapU 32 lev.1) ++ leBytes 4 (wrapU 32 lev.2)
  let flags := statFlags c a.src incomplete
  withCheck (statHeader c a.src 1 flags (64 + body.length) a.incl a.excl a.throttled a.sat a.zoneValid a.flagsSeen ++ body)

/-- The summary record of a section (R171): crumbs lost and overruns per engine. -/
def State.summaryRecord (s : State) (c : StatSection) (incomplete : Bool) : List Nat :=
  let row (f : EngSec → Nat) : List Nat := (List.range 192).flatMap fun e =>
    leBytes 2 (if s.engPresent e then min (f ((s.engine e).sec c.sect)) 65535 else 65535)
  let thr := (c.acc.map (·.thrAll)).sum
  let seen := (c.acc.map (·.flagsSeen)).foldl (· ||| ·) 0
  let flags := (if c.truncated then 1 else 0) + (if incomplete then 2 else 0)
  let body := row (·.lost) ++ row (·.overruns)
  withCheck (statHeader c 0xFE 2 flags 832 c.accepted c.skipped thr 0 0 seen ++ body)

/-- Source index in the statistics mask: A to D, M, W, auxiliary channels from bit 8. -/
def maskBit (src : Nat) : Nat :=
  if isField src then src - 0x0A else if src = srcM then 4 else if src = srcW then 5 else 8 + (src - 0x20)

/-- Sources whose statistics a section yields. -/
def StatSection.sources (c : StatSection) : List Nat :=
  [0x0A, 0x0B, 0x0C, 0x0D, 0x10, 0x11, 0x20, 0x21, 0x22, 0x23].filter fun f => c.mask.testBit (maskBit f)

/-- Key of the latest record of a source. -/
def latestKey (src : Nat) : Nat := if 0x20 ≤ src then (0x3418 + (src - 0x20)) * 256 else (0x3410 + srcIx src) * 256

/-- The last line of a section has left stage 7 in every segment. -/
def State.sectionLeft (s : State) (c : StatSection) : Bool :=
  !(s.pos.trigQ.any fun q => q.held.sect = c.sect) && !s.pipe.lines.any fun l => l.sect = c.sect && !l.skipped && l.srcs.any fun x => x.src < 0x40 && !x.segs.isEmpty

/-- Some segment of a source's window was failed in the section, so that its partial statistics are missing (R172, R289). -/
def State.statIncomplete (s : State) (c : StatSection) (src : Nat) : Bool :=
  src < 0x20 && (segRange ((s.asOf c.lastLine).window src)).any fun g => s.segPresent g && c.failed.testBit g

/-- The section counts of the engines move to their last-section objects and are forgotten. -/
def State.engSection (s : State) (sect : Nat) : State :=
  s.eng.engs.foldl (fun s p =>
    let c := p.2.sec sect
    let s := s.puts [(engKey p.1 3, min c.overruns 65535), (engKey p.1 5, c.maxCyc)]
    s.setEngine p.1 { p.2 with secs := p.2.secs.filter (·.sect ≠ sect) }) s

/-- Identity of a section that begins at line `b`: position and exposures (R170, R174). -/
def State.statOpen (s : State) (sect b : Nat) (pos : Int) (expo : List (Nat × Option Nat)) : State :=
  let c : StatSection := {
    sect, epoch := s.n 0x7C0007, firstLine := b, firstPos := pos, lastLine := b, truncated := false, accepted := 0,
    skipped := 0, acc := [], dark := [], expo, mask := s.n 0x340001, failed := s.n 0x50C004, sent := 0, merged := 0 }
  { s with pipe := { s.pipe with cur := some c, stats := [] } }

/-- The section in progress ends and awaits its records; the state and levels of dark tracking in it and its source mask are kept
(R152, R172). -/
def State.statClose (s : State) (truncated : Bool) : State :=
  match s.pipe.cur with
  | some c =>
    let srcs := [0x0A, 0x0B, 0x0C, 0x0D, 0x10, 0x11]
    let c := { c with
      acc := s.pipe.stats, truncated, mask := s.n 0x340001
      dark := srcs.map fun f => (f, s.o (blackBase f + 6), s.o (blackBase f + 4), s.o (blackBase f + 5)) }
    { s with pipe := { s.pipe with cur := none, stats := [], closing := s.pipe.closing ++ [c] } }
  | none => s

/-- A segment is failed: the sections not yet recorded lack its partial statistics (R172, R289). -/
def State.statFailed (s : State) (seg : Nat) : State :=
  let f (c : StatSection) : StatSection := { c with failed := c.failed ||| 2 ^ seg }
  { s with pipe := { s.pipe with cur := s.pipe.cur.map f, closing := s.pipe.closing.map f } }

/-- The partial statistics of a segment have reached the merger. -/
def State.statMerged (s : State) (seg sect : Nat) : State :=
  { s with pipe := { s.pipe with closing := s.pipe.closing.map fun c =>
      if c.sect = sect then { c with merged := c.merged ||| 2 ^ seg } else c } }

/-- Count a line of the section in progress. -/
def State.statCount (s : State) (line : Nat) (skipped : Bool) : State :=
  match s.pipe.cur with
  | some c =>
    let c := { c with lastLine := line, accepted := c.accepted + if skipped then 0 else 1
                      skipped := c.skipped + if skipped then 1 else 0 }
    { s with pipe := { s.pipe with cur := some c } }
  | none => s

end Sys2Proof.Machine
end

