-- ==== Sys2Proof/Machine/Rings.lean ====
section
/-!
DEFINITION. Rings and queues in host memory (09_host_interface_and_reach.md, R266 to R274, R295, R296): doorbells,
descriptors, buffers, the statistics queue, the completion queue's enable.
-/
namespace Sys2Proof.Machine

/-- The ring is in `ERROR`. -/
def State.ringError (s : State) (r : Nat) : Bool := s.is (ringKey r 9) 2

/-- The completion queue takes entries: it is enabled and DMA runs. -/
def State.cqOn (s : State) : Bool := s.b 0x503003 && !s.host.d3

/-! ### Descriptors (R267, R268) -/

/-- What breaks a descriptor: 0 nothing, 1 alignment, 2 reserved bits, 3 length. -/
def descCause (addr len rsv minLen : Nat) : Nat :=
  if addr % 32 ≠ 0 then 1 else if rsv ≠ 0 then 2
  else if len % 32 ≠ 0 || len < minLen || 67108864 < len then 3 else 0

/-- How many descriptors the next fetch asks for: up to the producer index, the end of the ring, or 4,096 bytes. -/
def State.fetchCount (s : State) (r : Nat) : Nat :=
  let p := s.n (ringKey r 7)
  let f := (s.ring r).fetch
  min 256 (if f ≤ p then p - f else s.n (ringKey r 2) - f)

/-- A descriptor fetch begins when descriptors are posted and none is in progress. -/
def State.ringFetch (s : State) (r : Nat) : State :=
  let x := s.ring r
  let n := s.fetchCount r
  if !s.ringActive r || x.fetching.isSome || n = 0 then s
  else (s.setRing { x with fetching := some (s.now, n) }).readHost 1 r (s.n (ringKey r 1) + 16 * x.fetch) (16 * n)

/-- A ring enters `ERROR` (R268). -/
def State.ringFail (s : State) (r : Nat) : State :=
  ((s.setRing { s.ring r with fetching := none }).put (ringKey r 9) 2).raise 0x070A r

/-- A descriptor fetch completes: address, length, tag and reserved bytes of each descriptor. -/
def State.fetchDone (s : State) (r : Nat) (ok : Bool) (ds : List (Nat × Nat × Nat × Nat)) : State :=
  let x := s.ring r
  match x.fetching with
  | none => s
  | some (_, asked) =>
    if !s.ringActive r then s
    else if !ok then s.ringFail r
    else
      let n := min asked ds.length
      let new := (ds.take n).mapIdx fun i d =>
        let (addr, len, tag, rsv) := d
        Desc.mk (x.fetch + i) addr len tag (descCause addr len rsv (s.n (ringKey r 3)))
      let f := if x.fetch + n < s.n (ringKey r 2) then x.fetch + n else 0
      (s.setRing { x with descs := x.descs ++ new, fetch := f, fetching := none }).ringFetch r

/-- The fetch has had no completion for 50 ms. -/
def State.fetchTimeout (s : State) (r : Nat) : State :=
  match (s.ring r).fetching with
  | some (t, _) => if s.ringActive r then (s.atTick (t + 50 * tickMs)).ringFail r else s
  | none => s

/-- A bad descriptor is consumed without data and reported. -/
def State.badDesc (s : State) (r : Nat) (d : Desc) : State :=
  let s := (s.put (ringKey r 8) (nextIx (s.n (ringKey r 2)) d.idx)).bump (ringKey r 0x0B)
  let s := s.complete { kind := 7, ring := r, cause := d.bad, merged := false, ref := d.idx, first := 0, last := 0,
                        count := 0, bytes := 0 }
  s.raiseFirst 0x0709 0 (shl d.idx 8 + r : Nat)

/-- The next good descriptor of a ring; bad ones before it are reported. -/
def State.nextDesc : Nat → State → Nat → State × Option Desc
  | 0, s, _ => (s, none)
  | n + 1, s, r =>
    match (s.ring r).descs with
    | [] => (s, none)
    | d :: t =>
      let s := s.setRing { s.ring r with descs := t }
      if d.bad = 0 then (s, some d) else State.nextDesc n (s.badDesc r d) r

/-! ### Buffers (R269, R271) -/

/-- The flush time since a buffer's first record has passed. -/
def State.bufFlush (s : State) (r : Nat) : State :=
  match (s.ring r).buf with
  | some b => if s.mayComplete then (s.atTick (b.since + s.n (ringKey r 4) * tickUs)).bufDone r else s
  | none => s

/-- The open buffer cannot take a record of `len` bytes of a section. -/
def State.bufFull (s : State) (r len sect : Nat) : Bool :=
  match (s.ring r).buf with
  | some b => b.desc.len < b.used + len || (s.b (ringKey r 6) && b.sect < sect)
  | none => false

/-- A ring can take a record of `len` bytes of a section now. -/
def State.ringAccepts (s : State) (r len sect : Nat) : Bool :=
  let fresh := match (s.ring r).descs.find? (·.bad = 0) with
    | some d => decide (len ≤ d.len)
    | none => false
  s.cqOn && s.ringActive r
    && (if s.bufFull r len sect then s.mayComplete && fresh else (s.ring r).buf.isSome || fresh)

/-- Write a record into a ring that accepts it. -/
def State.ringPut (s : State) (r : Nat) (data : List Nat) (first last sect : Nat) : State :=
  let s := if s.bufFull r data.length sect then s.bufDone r else s
  let (s, b) := match (s.ring r).buf with
    | some b => (s, some b)
    | none =>
      let (s, d) := State.nextDesc 65536 s r
      (s, d.map fun d => OpenBuf.mk d 0 0 first last sect s.now)
  match b with
  | none => s
  | some b =>
    let s := s.dma 0 r (b.desc.addr + b.used) data
    let b' : OpenBuf := { b with used := b.used + data.length, count := b.count + 1, last := max b.last last,
                                 first := min b.first first, sect := max b.sect sect }
    s.setRing { s.ring r with buf := some b' }

/-! ### Statistics records (R273) -/

/-- A statistics record is lost. -/
def State.statLost (s : State) (x : StatRec) (cause : Nat) : State :=
  let s := s.complete { kind := 6, ring := 9, cause, merged := false, ref := x.sect, first := x.first, last := x.first,
                        count := 1, bytes := x.src + 256 * x.typ }
  (s.bump 0x50F003).raiseFirst 0x0710 0 x.src

/-- A statistics record enters the queue for its ring, or is dropped. -/
def State.statPush (s : State) (x : StatRec) : State :=
  if !s.cqOn || !s.b (ringKey 9 5) then s.statLost x 2
  else if 64 ≤ s.host.statq.length then s.statLost x 1
  else { s with host := { s.host with statq := s.host.statq ++ [x] } }

/-- The bytes a statistics record takes in its buffer: padded to a multiple of 64. -/
def StatRec.padded (x : StatRec) : List Nat :=
  x.data ++ List.replicate (64 * ceilDiv x.data.length 64 - x.data.length) 0

/-! ### Enables (R267, R295) -/

/-- The ring's stream, the crumb output or the statistics mask depends on a ring. -/
def State.ringUsed (s : State) (r : Nat) : Bool :=
  if r < 8 then s.is ((0x3810 + r) * 256 + 0x0B) 0
      && (s.b ((0x3810 + r) * 256 + 1) || !s.is ((0x3820 + r) * 256 + 1) 0)
  else if r = 8 then s.b 0x480001
  else s.n 0x340001 ≠ 0

/-- A write of a ring's enable: status and state. Indices start at zero at each enable. -/
def State.ringEnable (s : State) (r : Nat) (on : Bool) : Nat × State :=
  if on then
    if !s.b 0x503003 then (stState, s)
    else if s.b (ringKey r 5) then (stOk, s)
    else
      let s := s.puts [(ringKey r 5, 1), (ringKey r 7, 0), (ringKey r 8, 0), (ringKey r 9, 1)]
      (stOk, s.setRing { no := r, descs := [], fetch := 0, fetching := none, buf := none })
  else if !s.b (ringKey r 5) then (stOk, s)
  else if s.ringUsed r then (stState, s)
  else
    let s := (s.bufDone r).puts [(ringKey r 5, 0), (ringKey r 9, 0)]
    (stOk, s.setRing { no := r, descs := [], fetch := 0, fetching := none, buf := none })

/-- A write of the completion queue's enable: status and state. The detached log is written first. -/
def State.cqEnable (s : State) (on : Bool) : Nat × State :=
  if on then
    if s.b 0x503003 then (stOk, s)
    else
      let s := s.puts [(0x503003, 1), (0x503004, 0), (0x503005, 0), (0x50F001, 0)]
      let all := s.host.detached ++ s.host.backlog
      let s := { s with host := { s.host with cqPhase := true, detached := [], backlog := all } }
      let s := State.drainBacklog all.length s
      (stOk, s.put 0x503006 (min 1024 s.host.backlog.length))
  else if (List.range 10).any fun r => s.b (ringKey r 5) then (stState, s)
  else (stOk, s.put 0x503003 0)

/-- A write of the event queue's enable. -/
def State.evEnable (s : State) (on : Bool) : State :=
  if on && !s.b 0x503103 then
    { (s.puts [(0x503103, 1), (0x503104, 0), (0x503105, 0)]) with host := { s.host with evPhase := true, evOmitted := 0 } }
  else s.putB 0x503103 on

/-! ### Doorbells and moderation (R266, R268) -/

/-- A doorbell write at BAR0 offset `0x1000 + off`. When space returns to the event queue after entries were omitted, the next entry is
event 0x0706 (R272). -/
def State.doorbell (s : State) (off v : Nat) : State :=
  let bad (s : State) : State := s.raiseFirst 0x0709 0 (shl v 16 + off : Nat)
  if s.is 0x102001 dsRestricted then s
  else if off % 8 = 0 && off < 80 then
    let r := off / 8
    if s.n (ringKey r 2) ≤ v then bad s else (s.put (ringKey r 7) v).ringFetch r
  else if off = 0x80 then
    if s.n 0x503002 ≤ v then bad s else State.drainBacklog 1280 (s.put 0x503005 v)
  else if off = 0x88 then
    if s.n 0x503102 ≤ v then bad s
    else
      let s := s.put 0x503105 v
      if s.host.evOmitted = 0 || s.evFull || !s.b 0x503103 then s
      else { s with host := { s.host with evOmitted := 0 } }.raise 0x0706 s.host.evOmitted
  else s

/-- The moderation time of a vector has passed. -/
def State.moderation (s : State) (v : Nat) : State :=
  match s.host.vecs.find? (·.vec = v) with
  | some x => (s.atTick (x.since + s.n 0x503202 * tickUs)).fire v
  | none => s

end Sys2Proof.Machine
end

