-- ==== Sys2Proof/Machine/Reach.lean ====
section
/-!
DEFINITION. The Reach (09_host_interface_and_reach.md, R275 to R285): the page table, pages and footers, the position
index, commands, lookups, holds and gaps.
-/
namespace Sys2Proof.Machine

/-- Page states of R277. -/
def pgFree : Nat := 0
/-- `OPEN`. -/
def pgOpen : Nat := 1
/-- `CLOSED`. -/
def pgClosed : Nat := 2
/-- `HELD`. -/
def pgHeld : Nat := 3
/-- `RETURNING`. -/
def pgReturning : Nat := 4

/-- A page is 2 MiB. -/
def pageBytes : Nat := 2097152
/-- Usable bytes of a page; the footer follows. -/
def pageUsable : Nat := 2097088

/-- A page by slot. -/
def State.page? (s : State) (slot : Nat) : Option Page := s.host.pages.find? (·.slot = slot)

/-- How many pages are in a state. -/
def State.pagesIn (s : State) (st : Nat) : Nat := (s.host.pages.filter (·.st = st)).length

/-- Slots in ring order after a slot: occupied slots above it, then those up to it. -/
def State.ringOrder (s : State) (last : Option Nat) : List Page :=
  match last with
  | some l => s.host.pages.filter (fun p => l < p.slot) ++ s.host.pages.filter (fun p => p.slot ≤ l)
  | none => s.host.pages

/-- The next page the writer may open. -/
def State.nextPage (s : State) : Option Page :=
  (s.ringOrder s.host.lastSlot).find? fun p => p.st = pgFree || (p.st = pgClosed && s.is 0x504001 0)

/-- The counts and the write slot, the open one or the next, follow the page table (`0x5040.02` to `.08`, `.0C`). -/
def State.reachCounts (s : State) : State :=
  let g := s.host.pages.length
  let slot : Int := match s.host.open_, s.nextPage with
    | some o, _ => o.slot
    | none, some p => p.slot
    | none, none => 0xFFFFFFFF
  s.puts [(0x504002, g), (0x504003, s.pagesIn pgFree), (0x504004, s.pagesIn pgOpen), (0x504005, s.pagesIn pgClosed),
    (0x504006, s.pagesIn pgHeld), (0x504007, s.pagesIn pgReturning), (0x504008, slot), (0x50400C, (g / 4 : Nat))]

/-- Change every page. -/
def State.mapPages (s : State) (f : Page → Page) : State :=
  { s with host := { s.host with pages := s.host.pages.map f } }

/-- Change a page. -/
def State.setPage (s : State) (slot : Nat) (f : Page → Page) : State := s.mapPages fun p => if p.slot = slot then f p else p

/-! ### Holds (R282, R283, R285) -/

/-- Key of sub-index `j` of hold slot `h`. -/
def holdKey (h j : Nat) : Nat := (0x5050 + h) * 256 + j

/-- The hold is `ACTIVE` or `PARTIAL`. -/
def State.holdOn (s : State) (h : Nat) : Bool := s.o (holdKey h 5) ≠ 0

/-- Active hold slots. -/
def State.activeHolds (s : State) : List Nat := (List.range 64).filter s.holdOn

/-- A page's index span meets a range of positions. -/
def Page.meets (p : Page) (p1 p2 : Int) : Bool :=
  match p.span with
  | some (a, b) => decide (a * 65536 ≤ p2) && decide (p1 ≤ b * 65536)
  | none => false

/-- The range with which an active hold was placed. -/
def State.holdRange (s : State) (h : Nat) : Int × Int := (mapGet s.host.holds h).getD (s.o (holdKey h 1), s.o (holdKey h 2))

/-- A hold covers a page. -/
def State.holdCovers (s : State) (h : Nat) (p : Page) : Bool := p.meets (s.holdRange h).1 (s.holdRange h).2

/-- The pages each hold keeps (`.07`). -/
def State.holdCounts (s : State) : State :=
  (List.range 64).foldl (fun s h =>
    let n := if s.holdOn h then (s.host.pages.filter fun p => p.st = pgHeld && s.holdCovers h p).length else 0
    s.put (holdKey h 7) n) s

/-- The pages that would be `HELD` with a range placed in slot `h`: those of the other active holds and those it meets. -/
def State.heldWith (s : State) (h : Nat) (p1 p2 : Int) : Nat :=
  let others := s.activeHolds.filter (· ≠ h)
  (s.host.pages.filter fun p => (p.st = pgHeld && others.any (s.holdCovers · p))
    || ((p.st = pgHeld || p.st = pgClosed) && p.meets p1 p2)).length

/-- Pages follow the active holds: the covered closed pages are `HELD` where `p1` to `p2` is a range just placed, and pages that no hold
covers any more are `CLOSED`. -/
def State.holdPages (s : State) (placed : Option (Int × Int)) : State :=
  let on := s.activeHolds
  let s := s.mapPages fun p =>
    if p.st = pgClosed && placed.any (fun r => p.meets r.1 r.2) then { p with st := pgHeld }
    else if p.st = pgHeld && !on.any (s.holdCovers · p) then { p with st := pgClosed } else p
  s.holdCounts.reachCounts

/-- A hold of a range becomes active in a slot: the covered closed pages become `HELD`. -/
def State.holdActivate (s : State) (h : Nat) (p1 p2 : Int) (expiry : Nat) (origin : Nat) : State :=
  let s := s.puts [(holdKey h 1, p1), (holdKey h 2, p2), (holdKey h 3, expiry), (holdKey h 5, 1), (holdKey h 6, origin)]
  { s with host := { s.host with holds := mapPut s.host.holds h (p1, p2) } }.holdPages (some (p1, p2))

/-- PLACE on a host hold: status and state. -/
def State.holdPlace (s : State) (h : Nat) : Nat × State :=
  let p1 := s.o (holdKey h 1)
  let p2 := s.o (holdKey h 2)
  if 32 ≤ h then (stAccess, s)
  else if p2 < p1 || s.n 0x50400C < s.heldWith h p1 p2 then (stRange, s)
  else (stOk, s.holdActivate h p1 p2 (s.n (holdKey h 3)) 0xFF)

/-- A hold ends: pages no other hold covers are `CLOSED` again. -/
def State.holdEnd (s : State) (h : Nat) : State :=
  let s := s.put (holdKey h 5) 0
  { s with host := { s.host with holds := s.host.holds.filter (·.1 ≠ h) } }.holdPages none

/-- The line counter has passed the hold's expiry line. -/
def State.holdExpired (s : State) (h : Nat) : Bool :=
  s.holdOn h && s.n (holdKey h 3) ≠ 0 && s.n (holdKey h 3) < s.n 0x202003

/-- A rule's hold is refused: counted, and reported once per section. -/
def State.ruleRefused (s : State) (j : Nat) : State := (s.bump ((0x5090 + j) * 256 + 5)).raiseFirst 0x070E 1 j

/-- A crumb of a rule's class places or grows a hold (R283). -/
def State.ruleHold (s : State) (j : Nat) (c : Crumb) : State :=
  let k := (0x5090 + j) * 256
  let m := s.o (k + 2) * 65536
  let p1 := c.pos - m
  let p2 := c.pos + m
  let exp := c.line + s.n (k + 3)
  match (List.range 32).map (· + 32) |>.find? fun h =>
      s.holdOn h && s.n (holdKey h 6) = j && (s.holdRange h).1 ≤ p2 && p1 ≤ (s.holdRange h).2 with
  | some h =>
    let q1 := min p1 (s.holdRange h).1
    let q2 := max p2 (s.holdRange h).2
    if s.n 0x50400C < s.heldWith h q1 q2 then s.ruleRefused j
    else s.holdActivate h q1 q2 (max exp (s.n (holdKey h 3))) j
  | none =>
    match (List.range 32).map (· + 32) |>.find? fun h => !s.holdOn h with
    | some h =>
      if s.n 0x50400C < s.heldWith h p1 p2 then s.ruleRefused j
      else (s.holdActivate h p1 p2 exp j).bump (k + 4)
    | none => s.ruleRefused j

/-- Crumbs that leave the merger meet the rules while a stream is bound to the Reach. -/
def State.crumbRules (s : State) (cs : List Crumb) : State :=
  if s.is 0x380006 0xFF then s
  else cs.foldl (fun s c => (List.range 8).foldl (fun s j =>
    if c.cls ≠ 0 && s.n ((0x5090 + j) * 256 + 1) = c.cls then s.ruleHold j c else s) s) s

/-! ### Pages (R277 to R280, R284) -/

/-- A `COMMAND_DONE` entry (R270). -/
def State.cmdDone (s : State) (code status : Nat) : State :=
  s.complete { kind := 8, ring := 0x0B, cause := status, merged := false, ref := code, first := 0, last := 0,
               count := 0, bytes := 0 }

/-- A Reach command ends with a status. -/
def State.reachDone (s : State) (code status : Nat) : State :=
  let s := { s with host := { s.host with reachCmd := none } }
  (s.puts [(0x504105, 0), (0x504106, status)]).cmdDone code status

/-- A lookup ends. -/
def State.lookEnd (s : State) (st : Int) (status : Nat) : State :=
  let s := { s with host := { s.host with look := none } }
  (s.put 0x504804 st).cmdDone 0x10 status

/-- Counts, rounded down and up, limited to 48 bits. -/
def spanOf (pos : Int) (old : Option (Int × Int)) : Int × Int :=
  let lo := pos / 65536
  let hi := -(-pos / 65536)
  match old with
  | some (a, b) => (min a lo, max b hi)
  | none => (lo, hi)

/-- Open a page for its first record. A lookup reading it ends with CONFLICT (R285). -/
def State.openPage (s : State) (p : Page) (r : SRec) : State :=
  let seq := s.n 0x504009
  let s := match s.host.look with
    | some (slot, _) => if slot = p.slot then s.lookEnd 4 stConflict else s
    | none => s
  let s := s.setPage p.slot fun q => { q with st := pgOpen, span := none, seq }
  let o : OpenPage := {
    slot := p.slot, first := r.line, last := r.last, firstPos := r.pos, lastPos := r.pos, firstSect := r.sect,
    lastSect := r.sect, firstEpoch := r.epoch, lastEpoch := r.epoch, used := 0, records := 0, source := r.src,
    flagged := false, reversed := false, gapBefore := s.host.gapPend, crc := 0xFFFFFFFF }
  let s := { s with host := { s.host with open_ := some o, gapPend := false, lastSlot := some p.slot } }
  (s.bump 0x504009).reachCounts

/-- The footer (R279). -/
def OpenPage.footer (o : OpenPage) (seq : Nat) (short : Bool) : List Nat :=
  let fl := (if o.flagged then 1 else 0) + (if o.gapBefore then 2 else 0) + (if o.reversed then 4 else 0)
    + (if short then 8 else 0)
  let b := leBytes 8 o.first ++ leBytes 8 o.last ++ leBytes 8 (wrapU 64 o.firstPos) ++ leBytes 8 (wrapU 64 o.lastPos)
    ++ leBytes 4 o.firstSect ++ leBytes 4 o.lastSect ++ leBytes 4 o.firstEpoch ++ leBytes 4 o.lastEpoch
    ++ leBytes 4 o.used ++ leBytes 4 seq ++ leBytes 2 o.records ++ [o.source, fl]
  b ++ leBytes 4 ((b.foldl crcByte o.crc) ^^^ 0xFFFFFFFF)

/-- The open page closes: footer, entry, and its state under the active holds (R278, R282). -/
def State.closePage (s : State) (short returning : Bool) : State :=
  match s.host.open_ with
  | none => s
  | some o =>
    match s.page? o.slot with
    | none => s
    | some p =>
      let s := s.dma 7 0x0A (p.addr + pageUsable) (o.footer p.seq short)
      let s := { s with host := { s.host with open_ := none } }
      let covering := s.activeHolds.filter (s.holdCovers · p)
      let room := s.pagesIn pgHeld + 1 ≤ s.n 0x50400C
      let st := if returning then pgReturning else if !covering.isEmpty && room then pgHeld else pgClosed
      let s := s.setPage o.slot fun q => { q with st }
      let s := if !returning && !covering.isEmpty && !room then
          (covering.foldl (fun s h => s.put (holdKey h 5) 2) s).raise 0x070E (covering.headD 0)
        else s
      let s := s.complete { kind := 4, ring := 0x0A, cause := 0, merged := false, ref := o.slot, first := o.first,
                            last := o.last, count := o.records, bytes := o.used }
      s.holdCounts.reachCounts

/-- A gap ends and is reported (R284): `slot` is the next slot written. -/
def State.gapReport (s : State) (slot : Nat) : State :=
  match s.host.gap with
  | none => s
  | some g =>
    let s := { s with host := { s.host with gap := none } }
    let s := (s.bump 0x50400A).bump 0x50400B (g.last + 1 - g.first)
    s.complete { kind := 3, ring := 0x0A, cause := g.cause, merged := false, ref := slot, first := g.first,
                 last := g.last, count := g.count, bytes := 0 }

/-- A record of the bound stream is discarded into the gap. -/
def State.gapAdd (s : State) (r : SRec) (cause : Nat) : State :=
  match s.host.gap with
  | some g =>
    if g.cause = cause then
      { s with host := { s.host with gap := some { g with last := r.last, count := g.count + 1 } } }
    else
      let s := s.gapReport 0xFFFFFFFF
      { s with host := { s.host with gap := some ⟨r.line, r.last, 1, cause, r.sect⟩, gapPend := true } }
  | none => { s with host := { s.host with gap := some ⟨r.line, r.last, 1, cause, r.sect⟩, gapPend := true } }

/-- Write a record into the open page. -/
def State.pageWrite (s : State) (r : SRec) : State :=
  match s.host.open_ with
  | none => s
  | some o =>
    match s.page? o.slot with
    | none => s
    | some p =>
      let s := s.dma 5 0x0A (p.addr + o.used) r.data
      let o' : OpenPage := { o with
        last := r.last, lastPos := r.pos, lastSect := r.sect, lastEpoch := r.epoch, used := o.used + r.data.length
        records := o.records + 1, flagged := o.flagged || r.flags ≠ 0
        reversed := o.reversed || r.flags.testBit fDirChange || (o.records ≠ 0 && r.pos < o.lastPos)
        crc := r.data.foldl crcByte o.crc }
      let s := s.setPage o.slot fun q => { q with span := some (spanOf r.pos q.span) }
      { s with host := { s.host with open_ := some o' } }

/-- A record of the bound stream reaches the DMA engine. -/
def State.reachPut (s : State) (r : SRec) : State :=
  if !s.cqOn || s.is 0x50400D 0 then s.gapAdd r 4
  else
    let s := match s.host.open_ with
      | some o => if pageUsable < o.used + r.data.length then s.closePage false false else s
      | none => s
    if s.host.open_.isSome then s.pageWrite r
    else match s.nextPage with
      | some p =>
        let s := s.gapReport p.slot
        let s := if s.is 0x50400D 3 then s.raise 0x070D p.slot else s
        ((s.put 0x50400D 2).openPage p r).pageWrite r
      | none =>
        let s := if s.is 0x50400D 3 then s else (s.put 0x50400D 3).raise 0x070C
        s.gapAdd r 1

/-- The bound stream has left `ON` or stopped: the page closes short and an open gap is reported (R278, R284). -/
def State.reachUnbind (s : State) : State :=
  let s := (s.closePage true false).gapReport 0xFFFFFFFF
  if s.is 0x50400D 2 || s.is 0x50400D 3 then s.put 0x50400D 1 else s

/-! ### Commands (R276) -/

/-- A page list has been requested: the command runs until it is read. -/
def State.reachList (s : State) (code : Nat) : State :=
  let s := { (s.put 0x504105 1) with host := { s.host with reachCmd := some code } }
  s.readHost 2 0x0A (s.n 0x504102) (8 * s.n 0x504103)

/-- The stream bound to the Reach is off. -/
def State.boundOff (s : State) : Bool :=
  let k := s.n 0x380006
  k = 0xFF || s.is ((0x3820 + k) * 256 + 1) 0

/-- A Reach command with the arguments staged: status of the write, and state. -/
def State.reachCommand (s : State) (code : Nat) : Nat × State :=
  let count := s.n 0x504103
  let slot := s.n 0x504104
  let inRange (p : Page) : Bool := slot ≤ p.slot && p.slot < slot + count
  if s.is 0x504105 1 then (stBusy, s)
  else if code = 1 then
    if !s.is 0x50400D 0 then (stState, s)
    else if count < 16 || 131072 < count then (stRange, s)
    else (stOk, s.reachList 1)
  else if code = 2 then
    if s.is 0x50400D 0 then (stState, s)
    else if 131072 < s.host.pages.length + count then (stRange, s)
    else (stOk, s.reachList 2)
  else if code = 3 then
    if s.host.pages.any fun p => inRange p && p.st = pgHeld then (stLocked, s)
    else if (s.host.pages.filter fun p => !inRange p && p.st ≠ pgReturning).length < 16 then (stRange, s)
    else
      let s := match s.host.open_ with
        | some o => if slot ≤ o.slot && o.slot < slot + count then s.closePage true true else s
        | none => s
      let s := s.mapPages fun p => if inRange p && p.st ≠ pgOpen then { p with st := pgReturning } else p
      (stOk, (s.holdCounts.reachCounts).reachDone 3 stOk)
  else if code = 4 then
    if !s.boundOff then (stState, s)
    else
      let s := (s.closePage true true).mapPages fun p => { p with st := pgReturning }
      if s.host.pages.isEmpty then (stOk, ((s.put 0x50400D 0).reachCounts).reachDone 4 stOk)
      else
        let s := { s with host := { s.host with withdrawing := true, reachCmd := some 4 } }
        (stOk, (s.put 0x504105 1).holdCounts.reachCounts)
  else if code = 5 then (stOk, (s.closePage true false).reachDone 5 stOk)
  else match s.page? slot with
    | some p =>
      if p.st ≠ pgClosed then (stState, s)
      else (stOk, ((s.setPage slot fun q => { q with st := pgFree, span := none }).reachCounts).reachDone 6 stOk)
    | none => (stState, s)

/-- Put pages at addresses into the lowest empty slots. -/
def addPages : Nat → List Page → List Nat → List Page
  | 0, l, _ => l
  | _ + 1, l, [] => l
  | n + 1, [], a :: t => ⟨131072 - (n + 1), a, pgFree, none, 0⟩ :: addPages n [] t
  | n + 1, p :: l, a :: t =>
    if p.slot = 131072 - (n + 1) then p :: addPages n l (a :: t)
    else ⟨131072 - (n + 1), a, pgFree, none, 0⟩ :: addPages n (p :: l) t

/-- The page-list read of a GRANT or EXTEND has ended with these addresses. -/
def State.pageList (s : State) (ok : Bool) (addrs : List Nat) : State :=
  match s.host.reachCmd with
  | some code =>
    if code = 4 then s
    else if !ok then s.reachDone code stTimeout
    else
      let l := addrs.take (s.n 0x504103)
      if l.any (· % pageBytes ≠ 0) then s.reachDone code stConstraint
      else
        let s := { s with host := { s.host with pages := addPages 131072 s.host.pages l } }
        let s := if code = 1 then
            (s.puts [(0x50400D, if s.is 0x380006 0xFF then 1 else 2), (0x504009, 0)]).raise 0x070B l.length
          else s
        s.reachCounts.reachDone code stOk
  | none => s

/-- A `RETURNING` page has nothing outstanding (R277). -/
def State.pageReturned (s : State) (slot : Nat) : State :=
  match s.page? slot with
  | some p =>
    let reading := match s.host.look with | some (l, _) => l = slot | none => false
    if p.st ≠ pgReturning || reading then s
    else
      let s := { s with host := { s.host with pages := s.host.pages.filter (·.slot ≠ slot) } }.reachCounts
      let s := s.complete { kind := 5, ring := 0x0A, cause := 0, merged := false, ref := slot, first := 0, last := 0,
                            count := 1, bytes := 0 }
      if s.host.withdrawing && s.host.pages.isEmpty then
        let s := { (s.put 0x50400D 0) with host := { s.host with withdrawing := false, lastSlot := none } }
        s.reachCounts.reachDone 4 stOk
      else s
  | none => s

/-! ### Lookup (R281) -/

/-- The first page, from the start slot backwards in ring order, whose span encloses a position. -/
def State.lookPage (s : State) (p : Int) (start : Nat) : Option Page :=
  let from_ := if start = 0xFFFFFFFF then s.host.lastSlot.getD 131071 else start
  let order := (s.host.pages.filter fun q => q.slot ≤ from_).reverse ++ (s.host.pages.filter fun q => from_ < q.slot).reverse
  order.find? fun q => (q.st = pgOpen || q.st = pgClosed || q.st = pgHeld) && match q.span with
    | some (a, b) => decide (a * 65536 ≤ p) && decide (p ≤ b * 65536)
    | none => false

/-- The lookup command: status and state. -/
def State.lookup (s : State) : Nat × State :=
  if s.is 0x504804 1 then (stBusy, s)
  else match s.lookPage (s.o 0x504801) (s.n 0x504802) with
    | none => (stOk, s.lookEnd 3 stOk)
    | some p =>
      let s := { (s.put 0x504804 1) with host := { s.host with look := some (p.slot, p.seq) } }
      (stOk, s.readHost 6 p.slot p.addr pageBytes)

/-- The first record of a page's bytes that a position falls on: offset, LINE, POS. `prev` is POS of the record
before. -/
def findRec : Nat → Int → Option Int → Nat → List Nat → Option (Nat × Nat × Int)
  | 0, _, _, _, _ => none
  | n + 1, p, prev, off, bs =>
    if bs.length < 32 then none
    else
      let line := fieldAt bs 0 8
      let pos := sfieldAt bs 8 8
      let size := 32 * ceilDiv (32 + fieldAt bs 28 4) 32
      let hit := match prev with
        | some q => decide (min q pos ≤ p) && decide (p ≤ max q pos)
        | none => p = pos
      if hit then some (off, line, pos) else findRec n p (some pos) (off + size) (bs.drop size)

/-- The lookup's page read has ended; `bytes` are the page's record bytes. -/
def State.lookupRead (s : State) (ok : Bool) (bytes : List Nat) : State :=
  match s.host.look with
  | none => s
  | some (slot, _) =>
    if !ok then s.lookEnd 4 stTimeout
    else match findRec 65536 (s.o 0x504801) none 0 bytes with
      | some (off, line, pos) =>
        (s.puts [(0x504805, slot), (0x504806, off), (0x504807, line), (0x504808, pos)]).lookEnd 2 stOk
      | none => s.lookEnd 3 stOk

end Sys2Proof.Machine
end

