-- ==== Sys2Proof/Machine/Streams.lean ====
section
/-!
DEFINITION. Stream shaping (R80, R81, R161 to R164), record assembly, the stream machine, the stripe buffer, drop runs
and the line books (08_confluence_and_aux_input.md R234 to R246, R292, R293), and the Millrace stops (R286 to R291).
-/
namespace Sys2Proof.Machine

/-! ### Streams and their attributes -/

/-- Key of attribute `.j` of stream `k`. -/
def strCfg (k j : Nat) : Nat := (0x3810 + k) * 256 + j
/-- Key of status `.j` of stream `k`. -/
def strSt (k j : Nat) : Nat := (0x3820 + k) * 256 + j

/-- A stream. -/
def State.stream (s : State) (k : Nat) : StreamSt := (s.conf.streams.find? (·.no = k)).getD (StreamSt.reset k)

/-- Replace a stream. -/
def State.setStream (s : State) (x : StreamSt) : State :=
  { s with conf := { s.conf with streams := s.conf.streams.map fun y => if y.no = x.no then x else y } }

/-- The source is an auxiliary channel. -/
def isAux (src : Nat) : Bool := 0x20 ≤ src && src ≤ 0x23

/-- Numberings as streams name lines: 0 the strip, 1 rows of W, 2 to 5 auxiliary frames. -/
def State.numbering (s : State) (src : Nat) : Nat :=
  if isAux src then 2 + (src - 0x20) else if src = srcW || (0x40 ≤ src && s.n 0x400005 = srcW) then 1 else 0

/-- Line `n` of a numbering. -/
def numKey (num n : Nat) : Nat := num * 2 ^ 64 + n

/-- The first line of a numbering that comes after the boundary at line `b`: that line, the next row of W to be read, or the next
frame of the channel to start, one that starts in this tick among them (R240, R251). -/
def State.numBase (s : State) (num b : Nat) : Nat :=
  if num = 0 then b
  else if num = 1 then rowKey s.wLine
  else numKey num (65536 * match s.conf.aux.find? (·.ch = num - 2) with
    | some x => (match x.frames.getLast? with
      | some f => if f.startT = s.now then f.no else x.nextNo
      | none => x.nextNo)
    | none => 0)

/-- Binning of a source in force (R80, R82): horizontal, vertical, 1 for SUM; and the columns grouped (R237). -/
def State.srcBinning (s : State) (src key : Nat) : List Nat :=
  if isField src || src = srcM then
    let (h, v, m) := s.binning src
    [h, v, m, h]
  else if src = srcW && s.b 0x241805 then [2, 2, 0, 2]
  else if 0x40 ≤ src then
    let d := match s.kernAt key with | some k => k.red.getD (src - 0x40) 1 | none => s.n ((0x4020 + (src - 0x40)) * 256 + 1)
    [1, 1, 0, max 1 d]
  else [1, 1, 0, 1]

/-- Attributes `.01` to `.0B` in force at the boundary of line `b`, then the source's binning and its numbering. -/
def State.attrsNow (s : State) (k b : Nat) : List Nat :=
  let src := s.n (strCfg k 2)
  let num := s.numbering src
  (List.range 11).map (fun j => s.n (strCfg k (j + 1))) ++ s.srcBinning src (s.numBase num b) ++ [num]

/-- How a stream shapes its source. -/
structure Shape where
  src : Nat
  plane : Nat
  /-- Crop, in input columns. -/
  c0 : Nat
  w : Nat
  r : Nat
  a : Nat
  skip : Bool
  fmt : Nat
  optional : Bool
  reach : Bool
  h : Nat
  v : Nat
  sum : Bool
  g : Nat
  deriving DecidableEq, Repr

/-- The shape that attributes describe. -/
def shapeOf (l : List Nat) : Shape :=
  let x (i : Nat) : Nat := l.getD i 0
  let g := max 1 (x 14)
  { src := x 1, plane := x 2, c0 := x 3 / g, w := (x 4 + 1 - x 3) / g, r := max 64 (x 5), a := max 1 (x 6), skip := x 7 = 1,
    fmt := x 8, optional := x 9 = 1, reach := x 10 = 1, h := max 1 (x 11), v := max 1 (x 12), sum := x 13 = 1, g }

/-- The shape of a stream for a line. -/
def StreamSt.shapeAt (st : StreamSt) (key : Nat) : Shape :=
  let here (a : StreamAttrs) : Bool := sameLines a.first key && decide (a.first ≤ key) && a.stop.all (key < ·)
  shapeOf (((st.attrs.find? here).map (·.vals)).getD [])

/-- The source of a stream by its newest attributes, and the numbering of its lines. -/
def StreamSt.source (st : StreamSt) : Nat := ((st.attrs.head?).map fun a => a.vals.getD 1 0).getD 0

/-- Numbering of the lines of a stream's source. -/
def StreamSt.lines (st : StreamSt) : Nat := ((st.attrs.head?).map fun a => a.vals.getD 15 0).getD 0

/-- Lines of a vertical group: binning and averaging or skipping together. -/
def Shape.group (x : Shape) : Nat := x.v * x.a

/-- Output columns: floor(W / r). -/
def Shape.cols (x : Shape) : Nat := 64 * x.w / x.r

/-- Twice 64 times the centre of output `j` in input columns (R162). -/
def Shape.centre (x : Shape) (j : Nat) : Nat := 128 * x.c0 + (2 * j + 1) * x.r - 64

/-- Segment that holds the centre of an output column (R161). -/
def Shape.segOf (x : Shape) (j : Nat) : Nat := (x.centre j + 64) * x.g / 128 / 1024

/-- Payload bytes of `n` columns in a format (R164). -/
def payloadBytes (fmt n : Nat) : Nat :=
  if fmt = 0x08 then n else if fmt = 0x0A then ceilDiv (10 * n) 8 else if fmt = 0x0C then ceilDiv (12 * n) 8
  else if fmt = 0x30 then 6 * n else 2 * n

/-- Bytes of a record with its header and padding. -/
def recordBytes (payload : Nat) : Nat := 32 * ceilDiv (32 + payload) 32

/-- Output columns each segment holds, in ascending order of segment. -/
def Shape.segCols (x : Shape) : List (Nat × Nat) :=
  (List.range x.cols).foldl (fun l j =>
    let g := x.segOf j
    match l with
    | (g', n) :: t => if g' = g then (g', n + 1) :: t else (g, 1) :: l
    | [] => [(g, 1)]) [] |>.reverse

/-! ### The arithmetic of shaping -/

/-- Sums of consecutive groups of `h` values. -/
def chunkSums (h : Nat) : Nat → List Nat → List Nat
  | 0, _ => []
  | n + 1, l => if l.isEmpty then [] else (l.take h).foldl (· + ·) 0 :: chunkSums h n (l.drop h)

/-- Column by column sums of several rows. -/
def sumRows : List (List Nat) → List Nat
  | [] => []
  | [l] => l
  | l :: t => List.zipWith (· + ·) l (sumRows t)

/-- Mean of `n` samples from their sum, rounded half up. -/
def meanOf (n sum : Nat) : Nat := (2 * sum + n) / (2 * n)

/-- Binning of column sums over `n` samples each (R80, R81). -/
def binSums (n : Nat) (sum : Bool) (l : List Nat) : List Nat := l.map fun x => if sum then min 65535 x else meanOf (max 1 n) x

/-- Horizontal and vertical binning of the rows of one bin (R80, R81): one arithmetic over all samples. -/
def binRows (h : Nat) (sum : Bool) (rows : List (List Nat)) : List Nat :=
  binSums (h * rows.length) sum (sumRows (rows.map fun r => chunkSums h r.length r))

/-- Index of a column mirrored about the edges of `n` columns (R147). -/
def mirrorIx (n : Nat) (i : Int) : Nat :=
  let m : Int := n
  let k := if i < 0 then -i else i
  (if m ≤ k then max 0 (2 * (m - 1) - k) else k).toNat

/-- Weights of output `j`: input column and weight of 4,096 (R162). -/
def scaleWeights (r centre : Nat) : List (Int × Int) :=
  let lo : Int := ((centre : Int) - 2 * r) / 128
  let raw := ((List.range (2 * (2 * r) / 128 + 3)).map fun k =>
    let i := lo + k
    (i, max 0 ((2 * r : Int) - (128 * i - centre).natAbs))).filter fun p => p.2 ≠ 0
  let tot := (raw.map (·.2)).foldl (· + ·) 0
  let ws := raw.map fun p => roundDiv (4096 * p.2) (max 1 tot.toNat)
  (raw.map (·.1)).zip (addResidue ws 4096)

/-- Sixteen columns beyond an edge, nearest first (R147): those of `outer`, nearest first, then the row mirrored about the
outermost of them; `own` runs inward from the edge. -/
def margin (outer own : List Nat) : List Nat :=
  let run := outer.reverse ++ own
  (List.range 16).map fun i =>
    if i < outer.length then outer.getD i 0 else run.getD (mirrorIx run.length ((outer.length : Int) - i - 1)) 0

/-- Plane `p` of `np` interleaved planes. -/
def planeOf (np p : Nat) (l : List Nat) : List Nat := (List.range (l.length / max 1 np)).map fun i => l.getD (np * i + p) 0

/-- Output columns whose centre a segment holds (R161). -/
def Shape.segOuts (x : Shape) (g : Nat) : List Nat := (List.range x.cols).filter fun j => x.segOf j = g

/-- The outputs of one segment from its input columns with sixteen more on either side (R162). -/
def Shape.segScale (x : Shape) (g : Nat) (ext : List Nat) : List Nat :=
  let base : Int := ((g * (1024 / x.g) : Nat) : Int) - 16
  (x.segOuts g).map fun (j : Nat) =>
    if x.r = 64 then ext.getD ((x.c0 : Int) + j - base).toNat 0
    else (roundDiv ((scaleWeights x.r (x.centre j)).foldl
      (fun (a : Int) p => a + p.2 * (ext.getD (p.1 - base).toNat 0 : Nat)) 0) 4096).toNat

/-- Horizontal scaling of a row of `n` input columns of which the first is input column `base` (R162). -/
def Shape.scale (x : Shape) (base : Nat) (row : List Nat) : List Nat :=
  if x.r = 64 then (row.drop (x.c0 - base)).take x.w
  else (List.range x.cols).map fun j =>
    let v := (scaleWeights x.r (x.centre j)).foldl
      (fun (a : Int) p => a + p.2 * (row.getD (mirrorIx row.length (p.1 - base)) 0 : Nat)) 0
    (roundDiv v 4096).toNat

/-- Format conversion of one sample (R164). -/
def convertTo (bits v : Nat) : Nat := min (2 ^ bits - 1) ((v + 2 ^ (15 - bits)) / 2 ^ (16 - bits))

/-- Samples of `bits` bits packed into a little-endian bit string. -/
def packBits (bits : Nat) (vs : List Nat) : List Nat :=
  leBytes (ceilDiv (bits * vs.length) 8) (vs.reverse.foldl (fun x v => x * 2 ^ bits + v) 0)

/-- The payload of shaped planes (R164): one plane, or R, G and B. -/
def payload (fmt : Nat) (planes : List (List Nat)) : List Nat :=
  let p := planes.headD []
  if fmt = 0x08 then p.map (convertTo 8)
  else if fmt = 0x0A then (List.range (ceilDiv p.length 4)).flatMap fun i =>
    (packBits 10 (((p.drop (4 * i)).take 4).map (convertTo 10)))
  else if fmt = 0x0C then (List.range (ceilDiv p.length 2)).flatMap fun i =>
    (packBits 12 (((p.drop (2 * i)).take 2).map (convertTo 12)))
  else if fmt = 0x30 then (List.range p.length).flatMap fun i => planes.flatMap fun q => leBytes 2 (q.getD i 0)
  else p.flatMap (leBytes 2)

/-- The planes a shape takes from rows of R, G and B (R238), or the one plane. -/
def Shape.planes (x : Shape) (rgb : List (List Nat)) : List (List Nat) :=
  match rgb with
  | [r, g, b] =>
    if x.plane = 0 then [r] else if x.plane = 1 then [g] else if x.plane = 2 then [b]
    else if x.plane = 3 then [List.zipWith (fun p q => (p + q) / 4) (List.zipWith (fun p q => p + 2 * q) r g) b]
    else [r, g, b]
  | l => l.take 1

/-- Planes of a record's payload: three for colour. -/
def Shape.outPlanes (x : Shape) : Nat := if x.src = srcM && x.plane = 4 then 3 else 1

/-- Shape one vertical group: rows of planes per member line, the first input column of the rows (R161). -/
def Shape.shapeRows (x : Shape) (base : Nat) (lines : List (List (List Nat))) : List Nat :=
  let n := ((lines.headD []).length)
  let bin (ls : List (List (List Nat))) (p : Nat) : List Nat := binRows x.h x.sum (ls.map fun l => l.getD p [])
  let bins := if x.skip then [lines.take x.v] else (List.range x.a).map fun i => (lines.drop (x.v * i)).take x.v
  let scaled := bins.map fun b => (x.planes ((List.range n).map (bin b))).map (x.scale base)
  let np := (scaled.headD []).length
  let out := (List.range np).map fun p =>
    (sumRows (scaled.map fun q => q.getD p [])).map fun v => meanOf (max 1 scaled.length) v
  payload x.fmt out

/-! ### Records of a group -/

/-- The line that a source would contribute to: for a derived source, of which the engine stage makes no part, that of the primary
source (R242). -/
def State.memberLine (s : State) (src key : Nat) : Option LineRec :=
  match s.lineAt src key with
  | some l => some l
  | none =>
    if 0x40 ≤ src then s.lineAt (match s.kernAt key with | some k => k.psrc | none => s.n 0x400005) key else none

/-- How a line stands for a source: 0 accepted, 1 `SKIPPED`, 2 not accepted (R81, R242). -/
def State.memberState (s : State) (src key : Nat) : Nat :=
  match s.lineAt src key with
  | some l => if l.skipped then 1 else 0
  | none => if (s.memberLine src key).isSome then 1 else 2

/-- A record header (R165). -/
def recHeader (line : Nat) (pos : Int) (sect epoch flags src fmt len : Nat) : List Nat :=
  leBytes 8 line ++ leBytes 8 (wrapU 64 pos) ++ leBytes 4 sect ++ leBytes 4 epoch ++ leBytes 2 flags ++ [src, fmt]
    ++ leBytes 4 len

/-- Pad a record to a multiple of 32 bytes. -/
def padRecord (bs : List Nat) : List Nat := bs ++ List.replicate (32 * ceilDiv bs.length 32 - bs.length) 0

/-- Members of a group that decide its record: all, or the kept lines in mode SKIP. -/
def Shape.kept (x : Shape) (g : Nat) : List Nat := (List.range (if x.skip then x.v else x.group)).map (g + ·)

/-- The SKIPPED record of a group. -/
def State.skippedRecord (s : State) (x : Shape) (g last lines : Nat) : SRec :=
  let l := (List.range x.group).findSome? fun i => s.memberLine x.src (g + i)
  let pos := match l with | some a => a.grid | none => 0
  let (sect, epoch) := match l with | some a => (a.sect, a.epoch) | none => (s.n 0x202004, s.n 0x7C0007)
  let h := recHeader (keyLine g) pos sect epoch (2 ^ fSkipped) x.src x.fmt 0
  { line := g, last, pos, sect, epoch, flags := 2 ^ fSkipped, src := x.src, tokens := 1, lines, data := h }

/-- One segment's part of a line. -/
def State.outOf (s : State) (src key g : Nat) : Option SegOut :=
  s.pipe.outs.find? fun o => o.src = src && o.line = key && o.seg = g

/-- A segment's binned columns of a plane of a line, with sixteen more on either side: its neighbours' columns where exchange 3
brought them, else mirrored (R146 to R148). Where columns are binned, the exchange serves input columns (DEDUCED, log entry 104). -/
def State.extRow (s : State) (x : Shape) (n np p g : Nat) : List Nat :=
  let row (g : Nat) : List Nat := match s.outOf x.src n g with
    | some o => let l := planeOf np p o.vals; chunkSums x.h l.length l
    | none => []
  let west (g : Nat) : Bool := (s.outOf x.src n g).any (·.west)
  let east (g : Nat) : Bool := (s.outOf x.src n g).any (·.east)
  let own := row g
  let w := if west g then (row (g - 1)).reverse ++ (if west (g - 1) then (row (g - 2)).reverse else []) else []
  let e := if east g then row (g + 1) ++ (if east (g + 1) then row (g + 2) else []) else []
  (margin (w.take 16) own).reverse ++ own ++ margin (e.take 16) own.reverse

/-- The outputs of one segment for one vertical group, by plane (R161): binned, scaled, averaged; a segment whose row driver failed
in a line of the group gives the pad value in each of its output columns (R90). -/
def State.segShape (s : State) (x : Shape) (lines : List Nat) (g : Nat) : List (List Nat) :=
  let np := if x.src = srcM then 3 else 1
  let bins := if x.skip then [lines.take x.v] else (List.range x.a).map fun i => (lines.drop (x.v * i)).take x.v
  let bin (b : List Nat) (p : Nat) : List Nat :=
    binSums (x.h * b.length) x.sum (sumRows (b.map fun n => s.extRow x n np p g))
  let scaled := bins.map fun b => (x.planes ((List.range np).map (bin b))).map (x.segScale g)
  let mean (p : Nat) : List Nat := (sumRows (scaled.map fun q => q.getD p [])).map fun v => meanOf (max 1 scaled.length) v
  let pad := lines.any fun n => !(s.outOf x.src n g).any fun o => !o.pad
  (List.range x.outPlanes).map fun p =>
    if pad then List.replicate (x.segOuts g).length (s.n 0x305001) else mean p

/-- The payload of a group: the outputs of the segments in order; a segment that is failed gives the pad value (R234). -/
def State.groupBody (s : State) (x : Shape) (a : Asm) : List Nat :=
  let part (g : Nat) : List (List Nat) :=
    if a.fail.contains g then List.replicate x.outPlanes (List.replicate (x.segOuts g).length (s.n 0x305001))
    else ((a.parts.find? (·.1 = g)).map (·.2)).getD []
  let parts := (x.segCols.map (·.1)).map part
  payload x.fmt ((List.range x.outPlanes).map fun p => parts.flatMap fun q => q.getD p [])

/-- Flags of a source's line in its records: a derived source's are those of the line it was computed from (R167). -/
def State.recordFlags (s : State) (src key : Nat) : Nat :=
  let f := if src < 0x40 then src else match s.kernAt key with | some k => k.psrc | none => src
  ((s.srcAt f key).map (·.flags)).getD 0

/-- The record of an assembled group. -/
def State.groupRecord (s : State) (x : Shape) (a : Asm) : SRec :=
  let ms := (x.kept a.line).filterMap fun n => s.srcAt x.src n
  let flags := ((x.kept a.line).map (s.recordFlags x.src)).foldl (· ||| ·) (if a.fail.isEmpty then 0 else 2 ^ fSegFail)
  let pos := match ms.head?, ms.getLast? with
    | some p, some q => Int.tdiv (p.pos + q.pos) 2
    | _, _ => 0
  let (sect, epoch) := match s.lineAt x.src a.line with | some l => (l.sect, l.epoch) | none => (0, 0)
  let body := s.groupBody x a
  let data := padRecord (recHeader (keyLine a.line) pos sect epoch flags x.src x.fmt body.length ++ body)
  { line := a.line, last := a.last, pos, sect, epoch, flags, src := x.src, tokens := ceilDiv data.length 512,
    lines := a.lines, data }

/-! ### The line books (R292, R293) -/

/-- Add lines due and lines accounted of a stream and section. -/
def State.book (s : State) (k sect due acc : Nat) : State :=
  let mine (b : Nat × Nat × Nat × Nat) : Bool := b.1 = k && b.2.1 = sect
  let books := if s.conf.books.any mine then
      s.conf.books.map fun b => if mine b then (k, sect, b.2.2.1 + due, b.2.2.2 + acc) else b
    else s.conf.books ++ [(k, sect, due, acc)]
  { s with conf := { s.conf with books } }

/-- A book that fails: event, counters, last discrepancy (R292). `sub` is the counter, `no` the book's number. -/
def State.bookFails (s : State) (code sub no : Nat) (diff : Int) : State :=
  if diff = 0 then s
  else ((s.bump (0x50E000 + sub)).puts [(0x50E006, wrapS 32 diff), (0x50E007, no)]).raiseFirst code no diff

/-- Tokens held by admitted records. -/
def State.tokensHeld (s : State) : Nat :=
  (s.conf.streams.map fun st => (st.waiting.map (·.tokens)).sum
    + ((st.asm.filter (·.admitted)).map (·.tokens)).sum).sum

/-- The ledger's audit at the boundary that ends section `sect` (R292). Line books still open are in their transient;
a book closes when its last line due is accounted. -/
def State.ledgerAudit (s : State) (sect : Nat) : State :=
  let s := s.put 0x50E001 sect
  let closed := s.conf.books.filter fun b => b.2.1 ≤ sect && b.2.2.1 ≤ b.2.2.2
  let s := closed.foldl (fun s b => s.bookFails 0x0F04 2 1 ((b.2.2.2 : Int) - b.2.2.1)) s
  let s := { s with conf := { s.conf with books := s.conf.books.filter fun b => !closed.contains b } }
  let pages : Nat := ((List.range 5).map s.pagesIn).sum
  let s := s.bookFails 0x070F 3 2 ((pages : Int) - s.o 0x504002)
  let crumbs : Nat := (s.eng.engs.map fun p => p.2.crumbs.length - 256).sum
  let s := s.bookFails 0x0F05 4 3 (crumbs : Int)
  let s := s.bookFails 0x0F05 4 4 (s.o 0x380004 + s.tokensHeld - 32768)
  let off (x : Stop) : Int := (x.credits : Int) + (x.blocks.filter (·.sent)).length - 32
  s.bookFails 0x0F06 5 5 ((s.conf.stops.map off).sum)

/-! ### Tokens, admission and drops (R243, R244) -/

/-- Take tokens. -/
def State.takeTokens (s : State) (n : Nat) : State :=
  let s := s.put 0x380004 (s.o 0x380004 - n)
  { s with conf := { s.conf with least := min s.conf.least (s.n 0x380004) } }

/-- Return tokens. -/
def State.freeTokens (s : State) (n : Nat) : State := s.put 0x380004 (min 32768 (s.o 0x380004 + n))

/-- A record of a stream may be admitted now. -/
def State.admits (s : State) (x : Shape) (n : Nat) : Bool :=
  if x.optional || isAux x.src then decide (s.o 0x380003 + n ≤ s.o 0x380004) else decide ((n : Int) ≤ s.o 0x380004)

/-- The run of dropped records of a stream ends and is reported. -/
def State.runEnd (s : State) (k : Nat) : State :=
  let st := s.stream k
  match st.run with
  | none => s
  | some r =>
    let s := (s.setStream { st with run := none }).sat 0x380009
    s.complete { kind := 2, ring := if s.is (strCfg k 0x0B) 1 then 0x0A else k, cause := r.cause, merged := false,
                 ref := k, first := keyLine r.first, last := keyLine r.last, count := r.count, bytes := 0 }

/-- A record of a stream of a section up to `sect` may still be decided: the section lasts, a line of it waits in the trigger queue,
is not yet decided, or its auxiliary frame is not processed. -/
def State.mayDrop (s : State) (st : StreamSt) (sect : Nat) : Bool :=
  decide (s.n 0x202004 = sect) || (s.pos.trigQ.any fun q => q.held.sect ≤ sect)
    || (st.asm.any fun a => !a.decided && (match s.memberLine (st.shapeAt a.line).src a.line with
        | some l => decide (l.sect ≤ sect)
        | none => false))
    || (s.conf.aux.any fun x => st.source = 0x20 + x.ch && x.frames.any fun f => f.sect ≤ sect)

/-- A run ends at the section boundary, once no more records of its section can be dropped (R244). -/
def State.runSettle (s : State) (k : Nat) : State :=
  match (s.stream k).run with
  | some r => if s.mayDrop (s.stream k) r.sect then s else s.runEnd k
  | none => s

/-- A record of a stream is dropped: lines `first` to `last`, for `lines` lines due of section `sect`. -/
def State.dropRecord (s : State) (k first last lines sect cause : Nat) : State :=
  let s := if cause = 2 then s.bump (strSt k 6) lines
    else ((s.bump 0x380008).bump (strSt k 5)).raiseFirst 0x0603 k (shl (keyLine first) 8 + k : Nat)
  let s := match (s.stream k).run with
    | some r => if r.cause = cause && r.sect = sect then s else s.runEnd k
    | none => s
  let st := s.stream k
  let r : DropRun := match st.run with
    | some r => { r with last, count := r.count + 1 }
    | none => { first, last, count := 1, cause, sect }
  ((s.setStream { st with run := some r }).book k sect 0 lines).runSettle k

/-- A stream's first record has been admitted (R240); an admitted record ends a run of drops. -/
def State.streamAdmitted (s : State) (k : Nat) : State :=
  let s := s.runEnd k
  if s.is (strSt k 1) 1 then (s.put (strSt k 1) 2).raise 0x0601 k
  else if s.is (strSt k 1) 5 then s.put (strSt k 1) 3
  else s

/-- Insert a record by line, among those of its numbering. -/
def insRec (r : SRec) : List SRec → List SRec
  | [] => [r]
  | x :: t => if sameLines r.line x.line && r.line < x.line then r :: x :: t else x :: insRec r t

/-- A complete, admitted record waits for the DMA engine. -/
def State.pushRecord (s : State) (k : Nat) (r : SRec) : State :=
  let st := s.stream k
  s.setStream { st with waiting := insRec r st.waiting }

/-- A record that needs no block is decided and queued, or dropped (SKIPPED records). -/
def State.offerRecord (s : State) (k : Nat) (x : Shape) (r : SRec) : State :=
  if s.admits x r.tokens then ((s.takeTokens r.tokens).streamAdmitted k).pushRecord k r
  else s.dropRecord k r.line r.last r.lines r.sect 1

/-- Decide the admission of a record when its first block has arrived. -/
def State.decideAsm (s : State) (k : Nat) (a : Asm) : State :=
  if a.decided then s
  else
    let x := (s.stream k).shapeAt a.line
    let n := ceilDiv (recordBytes (payloadBytes x.fmt x.cols)) 512
    let ok := s.admits x n
    let sect := match s.memberLine x.src a.line with | some l => l.sect | none => s.n 0x202004
    let s := if ok then (s.takeTokens n).streamAdmitted k
      else s.dropRecord k a.line a.last a.lines sect 1
    let st := s.stream k
    let s := s.setStream { st with asm := st.asm.map fun b =>
      if b.line = a.line then { b with decided := true, admitted := ok, tokens := if ok then n else 0 } else b }
    s.runSettle k

/-- A record with no segment outstanding is complete. -/
def State.finishAsm (s : State) (k line : Nat) : State :=
  match (s.stream k).asm.find? (·.line = line) with
  | none => s
  | some a =>
    if !a.need.isEmpty then s
    else
      let s := s.decideAsm k a
      match (s.stream k).asm.find? (·.line = line) with
      | none => s
      | some a =>
        let st := s.stream k
        let s := s.setStream { st with asm := st.asm.filter (·.line ≠ line) }
        if a.admitted then s.pushRecord k { s.groupRecord (st.shapeAt line) a with tokens := a.tokens } else s

/-- Change one assembly. -/
def State.setAsm (s : State) (k line : Nat) (f : Asm → Asm) : State :=
  let st := s.stream k
  s.setStream { st with asm := st.asm.map fun a => if a.line = line then f a else a }

/-- A segment's columns of a record carry the pad value. -/
def State.padAsm (s : State) (k line seg : Nat) : State :=
  (s.setAsm k line fun a => if a.need.contains seg then
    { a with need := a.need.filter (· ≠ seg), fail := a.fail ++ [seg] } else a).finishAsm k line

/-! ### Millrace stops (R286 to R291) -/

/-- A stop. -/
def State.stop (s : State) (g : Nat) : Stop :=
  (s.conf.stops.find? (·.seg = g)).getD { seg := g, blocks := [], seq := 0, credits := 32 }

/-- Replace a stop. -/
def State.setStop (s : State) (x : Stop) : State :=
  { s with conf := { s.conf with stops := s.conf.stops.map fun y => if y.seg = x.seg then x else y } }

/-- A segment's stop loses its blocks with the segment's digital domain (R428). -/
def State.stopLost (s : State) (g : Nat) : State := s.setStop { seg := g, blocks := [], seq := 0, credits := 32 }

/-- Place of a block among those of a stop: partial statistics, crumbs, then streams by number and line (R286). -/
def MBlock.before (x b : MBlock) : Bool :=
  let rank (y : MBlock) : Nat := if y.kind = 3 then 0 else if y.kind = 2 then 1 else 2 + y.stream
  decide (rank x < rank b) || (decide (rank x = rank b) && decide (x.line ≤ b.line))

/-- A stop sends blocks as long as it has retry credits; each block keeps one until it is acknowledged (R288). -/
def Stop.send (x : Stop) : Stop :=
  let r := x.blocks.foldl (fun (a : List MBlock × Nat) b =>
    if b.sent || a.2 = 0 then (a.1 ++ [b], a.2) else (a.1 ++ [{ b with sent := true }], a.2 - 1)) ([], x.credits)
  { x with blocks := r.1, credits := r.2 }

/-- Blocks queue behind those sent, in the order of R286. -/
def Stop.queue (x : Stop) (new : List MBlock) : Stop :=
  match new with
  | [] => x
  | b :: _ =>
    let first (y : MBlock) : Bool := y.sent || y.before b
    { x with blocks := x.blocks.filter first ++ new ++ x.blocks.filter (!first ·) }.send

/-- The 512 payload bytes of a block; what is not used is zero. -/
def MBlock.payload (b : MBlock) : List Nat := b.data ++ List.replicate (512 - b.data.length) 0

/-- Bits [95:0] of the trailer of a block that a stop sends as number `seq` (R287). -/
def MBlock.head (b : MBlock) (seg seq : Nat) : Nat :=
  b.kind * 2 ^ 28 + b.stream * 2 ^ 32 + seg * 2 ^ 35 + seq % 256 * 2 ^ 40 + b.offset % 65536 * 2 ^ 48 + b.line % 2 ^ 32 * 2 ^ 64

/-- The trailer: CRC-32C over the payload and bits [95:0] in bits [127:96] (R287). -/
def MBlock.trailer (b : MBlock) (seg seq : Nat) : Nat :=
  b.head seg seq + crc32c (b.payload ++ leBytes 12 (b.head seg seq)) * 2 ^ 96

/-- The bytes of a block on the Millrace: payload and trailer. -/
def MBlock.wire (b : MBlock) (seg seq : Nat) : List Nat := b.payload ++ leBytes 16 (b.trailer seg seq)

/-- A received block's CRC is good. -/
def wireGood (w : List Nat) : Bool := crc32c (w.take 524) = fieldAt w 524 4

/-- SEQ of a received block. -/
def wireSeq (w : List Nat) : Nat := fieldAt w 517 1

/-- A segment sends its contribution to a record (R234, R291), in blocks of 512 bytes. -/
def State.contribute (s : State) (k line seg : Nat) : State :=
  let x := (s.stream k).shapeAt line
  let planes := s.segShape x (x.kept line) seg
  let bytes := payload x.fmt planes
  let blocks := max 1 (ceilDiv bytes.length 512)
  let st := s.stop seg
  if 512 < st.blocks.length + blocks then
    ((s.bump 0x50C006).raiseFirstAt 0x0F07 seg (shl (keyLine line) 8 + seg : Nat)).padAsm k line seg
  else
    let new := (List.range blocks).map fun i => ({
      kind := 1, stream := k, line, offset := 16 * i, data := (bytes.drop (512 * i)).take 512, final := i + 1 = blocks,
      crumbs := [], sect := 0, sent := false, fails := 0 } : MBlock)
    (s.setAsm k line fun a => { a with parts := (seg, planes) :: a.parts.filter (·.1 ≠ seg) }).setStop (st.queue new)

/-- The neighbours' columns that a segment scales with have come over exchange 3. -/
def State.haloThere (s : State) (x : Shape) (n g : Nat) : Bool :=
  match s.outOf x.src n g with
  | some o => x.r = 64 || ((!o.west || (s.outOf x.src n (g - 1)).isSome) && (!o.east || (s.outOf x.src n (g + 1)).isSome))
  | none => false

/-- A segment contributes to each record that it can: the last needed line of a source has passed it, and its neighbours' part
of the exchange has come. -/
def State.segContribOne (s : State) (src key seg : Nat) : State :=
  (List.range 8).foldl (fun s k =>
    let st := s.stream k
    match st.asm.find? fun a => (st.shapeAt a.line).src = src && a.need.contains seg
        && (((st.shapeAt a.line).kept a.line).getLast?.getD a.line) = key && s.haloThere (st.shapeAt a.line) key seg with
    | some a =>
      if (s.stop seg).blocks.any fun b => b.kind = 1 && b.stream = k && b.line = a.line then s else s.contribute k a.line seg
    | none => s) s

/-- A segment has passed a line of a source: it contributes, and its neighbours where they waited for its columns. -/
def State.segContrib (s : State) (seg src key : Nat) : State :=
  ([seg - 1, seg, seg + 1].eraseDups).foldl (fun (s : State) g => s.segContribOne src key g) s

/-- Crumbs are acknowledged: they leave their engine's buffer, and the merger holds them (R288, R207). -/
def State.crumbsArrive (s : State) (cs : List Crumb) : State :=
  cs.foldl (fun (s : State) c =>
    let en := s.engine c.engine
    let s := s.setEngine c.engine { en with crumbs := en.crumbs.drop 1, inFlight := en.inFlight - 1 }
    { s with eng := { s.eng with held := s.eng.held ++ [c] } }) s

/-- A stream's block is placed: the first of a record decides its admission, the last completes the segment's part (R234). -/
def State.placeBlock (s : State) (seg : Nat) (b : MBlock) : State :=
  match (s.stream b.stream).asm.find? fun a => a.line = b.line with
  | none => s
  | some a =>
    let s := s.decideAsm b.stream a
    if b.final then
      (s.setAsm b.stream b.line fun a => { a with need := a.need.filter (· ≠ seg) }).finishAsm b.stream b.line
    else s

/-- A block is good: it is acknowledged, its credit returns, and what it carries arrives (R288). -/
def State.blockGood (s : State) (seg : Nat) : State :=
  let st := s.stop seg
  match st.blocks with
  | [] => s
  | b :: t =>
    let s := (s.setStop { st with blocks := t, seq := (st.seq + 1) % 256, credits := st.credits + 1 }.send).bump 0x50C001
    if b.kind = 1 then s.placeBlock seg b
    else if b.kind = 2 then s.crumbsArrive b.crumbs
    else s.statMerged seg b.sect

/-- A negative acknowledgement of the block at place `ix`: it is resent ahead of new traffic, at most eight times. -/
def State.blockNak (s : State) (seg ix : Nat) : State :=
  let st := s.stop seg
  match st.blocks[ix]? with
  | none => s
  | some b =>
    if !b.sent || 9 ≤ b.fails then s
    else
      let s := s.setStop { st with blocks := st.blocks.set ix { b with fails := b.fails + 1 } }
      if b.fails < 8 then s.bump 0x50C003 else s

/-- A Confluence port checks a block of a stop that arrives: its CRC, and its SEQ against the next expected (R288). -/
def State.blockReceived (s : State) (seg : Nat) (rx : BlockRx) : State :=
  let st := s.stop seg
  match st.blocks[rx.place]? with
  | none => s
  | some b =>
    if !b.sent || 9 ≤ b.fails then s
    else
      let w := xorBytes (b.wire seg (st.seq + rx.place)) rx.errs
      if !wireGood w then
        (((s.bump 0x50C002).sat (0x50C801 + seg)).raiseFirstAt 0x0F01 seg seg).blockNak seg rx.place
      else if wireSeq w ≠ st.seq then s.blockNak seg rx.place
      else s.blockGood seg

/-- A segment's crumbs that are on the Millrace remain in its engines' buffers (R289). -/
def State.crumbsRemain (s : State) (seg : Nat) : State :=
  { s with eng := { s.eng with engs := s.eng.engs.map fun p => if p.1 / 8 = seg then (p.1, { p.2 with inFlight := 0 }) else p } }

/-- Eight resends of a block have failed: the segment is failed (R289). -/
def State.segmentFailure (s : State) (seg : Nat) : State :=
  let st := s.stop seg
  match st.blocks.find? fun b => 9 ≤ b.fails with
  | none => s
  | some b =>
    let s := (s.setBits 0x50C004 (2 ^ seg)).bump 0x50C007
    let s := ((s.setStop { st with blocks := [], credits := 32 }).statFailed seg).crumbsRemain seg
    let s := s.raiseAt 0x0F02 seg 0xFF (keyLine b.line)
    (List.range 8).foldl (fun s k => ((s.stream k).asm.map (·.line)).foldl (fun s n => s.padAsm k n seg) s) s

/-- Segments are restored at a boundary (R290). -/
def State.restoreSegments (s : State) (mask : Nat) : State :=
  ((List.range 24).filter fun g => mask.testBit g && s.bit 0x50C004 g).foldl (fun s g =>
    ((s.clrBits 0x50C004 (2 ^ g)).setStop { seg := g, blocks := [], seq := 0, credits := 32 }).raiseAt 0x0F03 g 0xFF 0) s

/-- Crumbs that the engines' buffers hold and that are on the Millrace. -/
def State.crumbsOnWay (s : State) : Nat := (s.eng.engs.map fun p => p.2.inFlight).sum

/-- The stop of a segment takes one crumb, round-robin from the engine after the one served last, while the merger accepts: what it
holds and what is on the way has room in its queue, or its queue is empty (R206). Up to eight crumbs share a block (R286); a crumb
stays in its buffer until the block is acknowledged (R288). A failed segment sends none (R289). -/
def State.crumbDrain (s : State) (seg : Nat) : State :=
  let last := (mapGet s.eng.served seg).getD 7
  let order := (List.range 8).map fun i => 8 * seg + (last + 1 + i) % 8
  let n := s.eng.queue.length + s.eng.merged.length
  let due (e : Nat) : Option (Nat × Crumb) :=
    if s.takesPart e then ((s.engine e).crumbs[(s.engine e).inFlight]?).map fun c => (e, c) else none
  if s.bit 0x50C004 seg || (n ≠ 0 && 1024 ≤ n + s.eng.held.length + s.crumbsOnWay) then s
  else match order.findSome? due with
    | none => s
    | some (e, c) =>
      let en := s.engine e
      let s := s.setEngine e { en with inFlight := en.inFlight + 1 }
      let s := { s with eng := { s.eng with served := mapPut s.eng.served seg (e % 8) } }
      let st := s.stop seg
      let room (b : MBlock) : Bool := b.kind = 2 && !b.sent && b.crumbs.length < 8
      let join (b : MBlock) : MBlock := if room b then { b with data := b.data ++ c.bytes, crumbs := b.crumbs ++ [c] } else b
      if st.blocks.any room then s.setStop { st with blocks := st.blocks.map join }
      else s.setStop (st.queue [{
        kind := 2, stream := 0, line := c.line, offset := 0, data := c.bytes, final := true, crumbs := [c], sect := c.sect,
        sent := false, fails := 0 }])

/-- A segment has passed the last line of a closed section: its partial statistics go to the merger, in one block (R286). The
spec lays out no content: the block's bytes are free. -/
def State.statSend (s : State) : State :=
  s.pipe.closing.foldl (fun (s : State) c =>
    let through (g : Nat) : Bool := !c.sent.testBit g && !c.failed.testBit g && s.segPresent g
      && !(s.pos.trigQ.any fun q => q.held.sect = c.sect) && !s.pipe.lines.any fun l => l.sect = c.sect && !l.skipped && l.srcs.any fun x => x.src < 0x40 && x.segs.contains g
    (c.parts.filter through).foldl (fun (s : State) g =>
      let s := s.updSection c.sect fun c => { c with sent := c.sent ||| 2 ^ g }
      let f := s.free g (2 ^ 4096)
      f.2.setStop ((f.2.stop g).queue [{
        kind := 3, stream := 0, line := c.lastLine, offset := 0, data := leBytes 512 f.1, final := true, crumbs := [],
        sect := c.sect, sent := false, fails := 0 }])) s) s

/-! ### Groups and lines due -/

/-- A stream produces a record for the group that begins at `g`, where `on`; else it is suspended for it (R240, R246). -/
def StreamSt.spanHas (st : StreamSt) (on : Bool) (g : Nat) : Bool :=
  st.spans.any fun p => p.on = on && sameLines p.first g && decide (p.first ≤ g) && p.stop.all (g < ·)

/-- A stream produces a record for the group that begins at `g`. -/
def StreamSt.covers (st : StreamSt) (g : Nat) : Bool := st.spanHas true g

/-- A group of a stream is complete: its record is skipped, dropped as suspended, or begins to be assembled. -/
def State.closeGroup (s : State) (k g : Nat) : State :=
  let st := s.stream k
  let x := st.shapeAt g
  let ms := (List.range x.group).map (g + ·)
  let lines := (ms.filter fun n => s.memberState x.src n < 2).length
  let last := g + x.group - 1
  let sect := match ms.findSome? fun n => s.memberLine x.src n with | some l => l.sect | none => s.n 0x202004
  if (sameLines g st.next && g < st.next) || lines = 0 then s
  else
    let s := s.setStream { st with next := if st.lines = g / 2 ^ 64 then g + x.group else st.next }
    if st.spanHas false g then (s.book k sect lines 0).dropRecord k g last lines sect 2
    else if !st.covers g then s
    else
      let s := s.book k sect lines 0
      if (x.kept g).any fun n => s.memberState x.src n ≠ 0 then
        s.offerRecord k x (s.skippedRecord x g last lines)
      else
        let all := (x.segCols.map (·.1)).filter s.segPresent
        let fail := all.filter (s.bit 0x50C004 ·)
        let need := all.filter (!fail.contains ·)
        let a : Asm := { line := g, last, lines, need, fail, tokens := 0, decided := false, admitted := false, parts := [] }
        let st := s.stream k
        let s := s.setStream { st with asm := st.asm ++ [a] }
        let m := ((x.kept g).getLast?).getD g
        let done := match s.srcAt x.src m with | some y => need.filter fun g => !y.segs.contains g && s.haloThere x m g | none => []
        (done.foldl (fun s seg => s.contribute k g seg) s).finishAsm k g

/-- The start of the group of a shape that holds a line. -/
def Shape.groupStart (x : Shape) (key : Nat) : Nat := key - keyLine key % max 1 x.group

/-- A line of a source has been triggered or read, accepted or not: groups that end with it are complete. -/
def State.streamLine (s : State) (src key : Nat) : State :=
  (List.range 8).foldl (fun s k =>
    let x := (s.stream k).shapeAt key
    if x.src = src && (keyLine key + 1) % max 1 x.group = 0 then s.closeGroup k (x.groupStart key) else s) s

/-- The run has ended: groups it left unfinished are complete, their missing lines not accepted (R81). -/
def State.settleGroups (s : State) (src key : Nat) : State :=
  (List.range 8).foldl (fun s k =>
    let x := (s.stream k).shapeAt key
    if x.src = src then s.closeGroup k (x.groupStart key) else s) s

/-- Sources whose streams follow the rows of W: W, and derived sources while W is the kernel's primary source. -/
def rowStreamSources : List Nat := srcW :: (List.range 8).map (0x40 + ·)

/-- A row of W has been read: groups that end with it are complete, and those that the row before it left unfinished, if the row lies
beyond them (R81). -/
def State.streamRow (s : State) (prev : Option Nat) (n : Nat) : State :=
  rowStreamSources.foldl (fun (s : State) f =>
    let s := match prev with
      | some p => (List.range 8).foldl (fun (s : State) k =>
          let x := (s.stream k).shapeAt (rowKey p)
          if x.src = f && x.groupStart (rowKey p) + x.group ≤ rowKey n then s.closeGroup k (x.groupStart (rowKey p)) else s) s
      | none => s
    s.streamLine f (rowKey n)) s

/-- The last row of a frame of W has been read: a group that no later row of W can complete is complete. -/
def State.streamFrameEnd (s : State) (no n : Nat) : State :=
  (List.range 8).foldl (fun (s : State) k =>
    let x := (s.stream k).shapeAt (rowKey n)
    if rowStreamSources.contains x.src && x.groupStart (rowKey n) + x.group ≤ rowKey (256 * (no + 1)) then
      s.closeGroup k (x.groupStart (rowKey n))
    else s) s

/-- The first group of a stream at or after the boundary at line `b`. -/
def State.streamFirst (s : State) (k b : Nat) : Nat :=
  let st := s.stream k
  let base := s.numBase st.lines b
  let g := max 1 ((shapeOf (((st.attrs.head?).map (·.vals)).getD [])).group)
  if 2 ≤ st.lines then base else numKey st.lines (ceilDiv (keyLine base) g * g)

/-- The span of a stream that is open ends at the boundary at line `b`; another begins there, `on` or suspended. -/
def State.streamSpan (s : State) (k b : Nat) (on : Option Bool) : State :=
  let st := s.stream k
  let at_ := s.streamFirst k b
  let ended := st.spans.map fun p => if p.stop.isNone then { p with stop := some at_ } else p
  s.setStream { st with spans := match on with
    | some x => ({ first := at_, stop := none, on := x } :: ended).take 12
    | none => ended }

/-- The stream is bound to the Reach, if its destination is. -/
def State.streamBind (s : State) (k : Nat) : State :=
  if s.is (strCfg k 0x0B) 1 then
    let s := s.put 0x380006 k
    if s.is 0x50400D 1 then s.put 0x50400D 2 else s
  else s

/-! ### The stream machine (R240, R241, R246) -/

/-- Records begin at the first line of a group at or after the boundary. -/
def State.streamBegin (s : State) (k b : Nat) (state : Int) : State :=
  ((s.streamSpan k b (some true)).streamBind k).put (strSt k 1) state

/-- No records from the boundary on. -/
def State.streamCut (s : State) (k b : Nat) : State := s.streamSpan k b none

/-- A stream has become `OFF`. -/
def State.streamOff (s : State) (k : Nat) : State :=
  let s := s.runEnd k
  let s := s.bufClose k
  let s := if s.n 0x380006 = k then s.reachUnbind.put 0x380006 0xFF else s
  (s.put (strSt k 1) 0).raise 0x0602 k

/-- Records of a stream are still in flight: of one that waits to start again, those from before its latched start. -/
def State.streamInFlight (s : State) (k : Nat) : Bool :=
  let st := s.stream k
  let early (n : Nat) : Bool := match st.latch with
    | some b => !(s.is (strSt k 1) 4 && sameLines n b && decide (b ≤ n))
    | none => true
  st.asm.any (early ·.line) || st.waiting.any (early ·.line)

/-- A stopping stream whose records are all written or reported becomes `OFF`, or starts again from its latched boundary (R240); it
is `ON` if a record from there has been admitted already. A stream that leaves `ON` closes its page of the Reach when its last record
has left (R278; DEDUCED, log entry 112). -/
def State.streamCheck (s : State) (k : Nat) : State :=
  let st := s.stream k
  if s.streamInFlight k then s
  else if s.is (strSt k 1) 3 then s.streamOff k
  else if s.is (strSt k 1) 4 then
    let s := s.runEnd k
    let s := if s.n 0x380006 = k then s.reachUnbind.put 0x380006 0xFF else s
    let s := (s.setStream { s.stream k with latch := none }).streamBind k
    if st.asm.any (·.admitted) || !st.waiting.isEmpty then (s.put (strSt k 1) 2).raise 0x0601 k else s.put (strSt k 1) 1
  else if s.is (strSt k 1) 6 && s.n 0x380006 = k then (s.closePage true false).gapReport 0xFFFFFFFF
  else s

/-- New attributes hold from `start`, and the old ones end there, or in their own numbering at the boundary of line `b` (R241). -/
def State.streamAttrs (s : State) (k b start : Nat) (l : List Nat) : State :=
  let st := s.stream k
  let stopOf (first : Nat) : Nat := if sameLines first start then start else s.numBase (first / 2 ^ 64) b
  let old := st.attrs.map fun a => if a.stop.isNone then { a with stop := some (stopOf a.first) } else a
  let spans := st.spans.map fun p =>
    if p.stop.isNone && !sameLines p.first start then { p with stop := some (stopOf p.first) } else p
  let moved := st.spans.find? fun p => p.stop.isNone && !sameLines p.first start
  s.setStream { st with
    attrs := ({ first := start, stop := none, vals := l } :: old.filter (·.first ≠ start)).take 16
    spans := match moved with
      | some p => { first := start, stop := none, on := p.on } :: spans
      | none => spans }

/-- The attributes of a stream have been applied at boundary line `b` (R240, R241). Attributes of W hold from the next row on, its
binning from the next frame (R84), and none changes within a vertical group. An enable in PENDING_OFF clears the latch (DESIGN
CHOICE, log entry 109). -/
def State.streamApplied (s : State) (k b : Nat) : State :=
  let st := s.stream k
  let l := s.attrsNow k b
  let old := ((st.attrs.head?).map (·.vals)).getD []
  if old = l then s
  else
    let x := shapeOf l
    let num := l.getD 15 0
    let base := if x.src = srcW && l.getD 12 0 ≠ old.getD 12 1 then rowKey (256 * s.arr.wNo) else s.numBase num b
    let g := Nat.lcm (max 1 x.group) (max 1 (shapeOf old).group)
    let start := if 2 ≤ num then base else numKey num (ceilDiv (keyLine base) g * g)
    let s := s.streamAttrs k b start l
    let s := s.puts [(strSt k 2, x.cols), (strSt k 3, recordBytes (payloadBytes x.fmt x.cols)), (strSt k 7, s.o 0x7C0007)]
    let on := l.getD 0 0 ≠ 0
    let state := s.o (strSt k 1)
    let latch (s : State) (v : Option Nat) : State := s.setStream { s.stream k with latch := v }
    if state = 0 then (if on then s.streamBegin k b 1 else s)
    else if state = 1 then (if on then s else latch ((s.streamCut k b).put (strSt k 1) 5) (some (s.n 0x202004)))
    else if state = 2 then (if on then s else ((s.streamCut k b).put (strSt k 1) 3).streamCheck k)
    else if state = 3 then
      (if on then latch ((s.streamSpan k b (some true)).put (strSt k 1) 4) (some (s.streamFirst k b)) else s)
    else if state = 4 then
      (if on then s
       else
         let s := (s.setStream { s.stream k with latch := none, spans := (s.stream k).spans.drop 1 }).put (strSt k 1) 3
         s.streamCheck k)
    else if state = 5 then (if on then latch ((s.streamSpan k b (some true)).put (strSt k 1) 1) none else s)
    else if state = 6 then
      (if !on then (s.streamCut k b).streamOff k else if x.optional then s else s.streamBegin k b 2)
    else s

/-- At a boundary, line `b`: runs of drops end; a PENDING_OFF stream with nothing due stops; least free tokens are
kept; OPTIONAL streams suspend or resume with throttle step 3 (R244, R240, R246). -/
def State.streamBoundary (s : State) (b : Nat) : State :=
  let s := (List.range 8).foldl (fun s k => s.runSettle k) s
  let elapsed (k : Nat) : Bool := (s.stream k).latch.any (· ≠ s.n 0x202004)
  let s := (List.range 8).foldl (fun s k =>
    if s.is (strSt k 1) 5 && elapsed k && !s.streamInFlight k then
      ((s.setStream { s.stream k with latch := none }).put (strSt k 1) 3).streamCheck k else s) s
  let s := s.put 0x380005 s.conf.least
  let s := { s with conf := { s.conf with least := s.n 0x380004 } }
  let optional (k : Nat) : Bool := s.is (strCfg k 0x0A) 1
  if 3 ≤ s.o 0x600804 then
    let ks := (List.range 8).filter fun k => s.is (strSt k 1) 2 && optional k
    if ks.isEmpty then s
    else (ks.foldl (fun s k => ((s.streamSpan k b (some false)).put (strSt k 1) 6).streamCheck k) s).raise 0x0604 (ks.foldl (fun m k => m + 2 ^ k) 0)
  else
    let ks := (List.range 8).filter fun k => s.is (strSt k 1) 6
    if ks.isEmpty then s
    else (ks.foldl (fun s k => s.streamBegin k b 2) s).raise 0x0605 (ks.foldl (fun m k => m + 2 ^ k) 0)

/-- A numbering begins anew from 0: records of streams of it that run are due from its first line. -/
def State.streamRenumber (s : State) (num : Nat) : State :=
  let first := numKey num 0
  (List.range 8).foldl (fun s k =>
    let st := s.stream k
    let attrs := st.attrs.filter fun a => a.first / 2 ^ 64 ≠ num
    let spans := st.spans.filter fun a => a.first / 2 ^ 64 ≠ num
    if st.lines = num then
      s.setStream { st with
        next := first
        attrs := (st.attrs.take 1).map (fun a => { a with first := first }) ++ attrs
        spans := (st.spans.filter (·.stop.isNone)).map (fun p => { p with first := first }) ++ spans }
    else s.setStream { st with attrs, spans }) s

/-- The epoch renumbers the lines of the strip. -/
def State.streamEpoch (s : State) : State := s.streamRenumber 0

/-! ### The DMA engine takes the next record (R245, R274) -/

/-- The oldest record of a stream, when no earlier one is still being assembled. -/
def StreamSt.ready (st : StreamSt) : Option SRec :=
  match st.waiting with
  | r :: _ =>
    let earlier (n : Nat) : Bool := if sameLines n r.line then decide (n < r.line) else decide (st.lines = r.line / 2 ^ 64)
    if st.asm.any fun a => earlier a.line && !(a.decided && !a.admitted) then none else some r
  | [] => none

/-- A stream can hand over its oldest record: it is written, or discarded because its destination is unusable. -/
def State.streamServes (s : State) (k : Nat) : Bool :=
  match (s.stream k).ready with
  | none => false
  | some r =>
    if (s.stream k).shapeAt r.line |>.reach then !s.cqOn || !s.is 0x50400D 0
    else !s.cqOn || s.ringError k || s.ringAccepts k r.data.length r.sect

/-- A record with the numbers that the host sees: its line and the last it accounts for within their source. -/
def SRec.forHost (r : SRec) : SRec := { r with line := keyLine r.line, last := keyLine r.last }

/-- A stream's oldest record leaves Confluence. -/
def State.streamServe (s : State) (k : Nat) : State :=
  let st := s.stream k
  match st.ready with
  | none => s
  | some q =>
    let r := q.forHost
    let s := (s.setStream { st with waiting := st.waiting.drop 1 }).freeTokens r.tokens
    let done (s : State) : State :=
      (((s.bump 0x380007).bump (strSt k 4)).put (strSt k 8) r.line).book k r.sect 0 r.lines
    let s := if (st.shapeAt q.line).reach then
        if !s.cqOn || s.nextPage.isNone && s.host.open_.isNone then (s.reachPut r).book k r.sect 0 r.lines
        else done (s.reachPut r)
      else if !s.cqOn then s.dropRecord k q.line q.last r.lines r.sect 4
      else if s.ringError k then s.dropRecord k q.line q.last r.lines r.sect 3
      else done (s.ringPut k r.data r.line r.last r.sect)
    s.streamCheck k

/-- The statistics queue can hand over its oldest record. -/
def State.statServes (s : State) : Bool :=
  match s.host.statq with
  | x :: _ => !s.cqOn || !s.b (ringKey 9 5) || s.ringAccepts 9 x.padded.length x.sect
  | [] => false

/-- The oldest statistics record is written, or lost because its ring is disabled (R273). -/
def State.statServe (s : State) : State :=
  match s.host.statq with
  | x :: t =>
    let s := { s with host := { s.host with statq := t } }
    if !s.cqOn || !s.b (ringKey 9 5) then s.statLost x 2 else s.ringPut 9 x.padded x.first x.last x.sect
  | [] => s

/-- The crumb queue can hand over its oldest crumb. -/
def State.crumbServes (s : State) : Bool :=
  match s.eng.queue with
  | c :: _ => s.ringAccepts 8 64 c.sect
  | [] => false

/-- The oldest crumb is written. -/
def State.crumbServe (s : State) : State :=
  match s.crumbTake with
  | some (c, s) => s.ringPut 8 c.bytes c.line c.line c.sect
  | none => s

/-- A record that waits for a ring does not fit its open buffer: the buffer completes, whether or not another is there (R269). -/
def State.closeFull (s : State) : State :=
  let full (s : State) (r len sect : Nat) : State :=
    if s.cqOn && s.ringActive r && s.bufFull r len sect then s.bufClose r else s
  let s := match s.host.statq with
    | x :: _ => full s 9 x.padded.length x.sect
    | [] => s
  let s := match s.eng.queue with
    | c :: _ => full s 8 64 c.sect
    | [] => s
  (List.range 8).foldl (fun (s : State) k =>
    match (s.stream k).ready with
    | some r => if ((s.stream k).shapeAt r.line).reach then s else full s k r.data.length r.sect
    | none => s) s

/-- The DMA engine issues the last byte of the next record, in the order of R245. -/
def State.recordWritten (s : State) : State :=
  let s := s.closeFull
  let isAuxK (k : Nat) : Bool := isAux (((s.stream k).ready.map (·.src)).getD 0)
  let ks := (List.range 8).filter s.streamServes
  if s.statServes then s.statServe
  else if s.crumbServes then s.crumbServe
  else match (ks.filter (!isAuxK ·)) ++ ks.filter isAuxK with
    | k :: _ => s.streamServe k
    | [] => s

end Sys2Proof.Machine
end

