-- ==== Sys2Proof/Machine/Control.lean ====
section
/-!
DEFINITION. The records of a section, exposure control and white balance (05_segment_pipeline.md, R170 to R177).
-/
namespace Sys2Proof.Machine

/-! ### Exposure (R173, R174) -/

/-- Key base of the exposure control of a field or M. -/
def expKey (src : Nat) : Nat := (0x3480 + srcIx src) * 256

/-- The phase of a source in the plan in force. -/
def State.phaseOf (s : State) (src : Nat) : Option (Nat × Phase) :=
  ((List.range (s.n 0x242001)).map fun p => (p, s.phase p)).find? fun q => q.2.field = src

/-- Width of the longest strobe of a source's phase; 1 for a phase with no strobe (R174, R175). -/
def State.longWidth (s : State) (src : Nat) : Nat :=
  match s.phaseOf src with
  | some (_, ph) => if ph.strobes.isEmpty then 1 else (ph.strobes.map (·.2.2)).foldl max 0
  | none => 1

/-- Exposure of a source in force: w x S x 288,000 / FS. -/
def State.exposureNow (s : State) (src : Nat) : Nat := s.longWidth src * s.stages src * (288000 / max 1 (s.fullScale src))

/-- Sources under exposure control. -/
def expSources : List Nat := [0x0A, 0x0B, 0x0C, 0x0D, srcM]

/-- The control of a source; white balance is kept under code 0xFF. -/
def State.ctlOf (s : State) (src : Nat) : CtlState :=
  (s.pipe.ctl.find? (·.src = src)).getD { src, last := none, pending := false, satRun := false }

/-- Replace the control of a source. -/
def State.setCtl (s : State) (c : CtlState) : State :=
  { s with pipe := { s.pipe with ctl := s.pipe.ctl.filter (·.src ≠ c.src) ++ [c] } }

/-- White-balance gains in force as one number: the reference of the control of white balance, which is kept under code 0xFF. -/
def State.gainsNow (s : State) : Nat := s.n 0x303002 * 2 ^ 32 + s.n 0x303004

/-- `AUTO` or `HOLD` begins: the exposure or the gains in force are the reference (R174, R177). -/
def State.ctlBegin (s : State) (src : Nat) : State :=
  if src = 0xFF then (s.setCtl { src, last := some s.gainsNow, pending := false, satRun := false }).put 0x348805 1
  else (s.setCtl { src, last := some (s.exposureNow src), pending := false, satRun := false }).put (expKey src + 0x0E) 1

/-- Commit `c` is an application of the control of a source. -/
def Commit.ofControl (c : Commit) (src : Nat) : Bool :=
  c.origin = .control && (c.entries.map (·.1)).head? = some (if src = 0xFF then 0x303002 else src)

/-- `AUTO` is left: an application still pending is withdrawn, since the other modes apply nothing (R173). -/
def State.ctlLeft (s : State) (src : Nat) : State :=
  { (s.setCtl { s.ctlOf src with pending := false }) with
    dict := { s.dict with commits := s.dict.commits.filter fun c => !c.ofControl src } }

/-- Exposures and gains in force, for the section that begins. White balance is entered under 0xFF. -/
def State.expoList (s : State) : List (Nat × Option Nat) :=
  expSources.map (fun f => (f, some (s.exposureNow f))) ++ [(0xFF, some s.gainsNow)]

/-- A decision may be taken from the record of a source (R174). White balance is gated likewise by its gains (DEDUCED, log
entry 105). -/
def State.mayDecide (s : State) (c : StatSection) (a : StatAcc) (ctl : Nat) (valid : Nat) : Bool :=
  let held := ((c.expo.find? (·.1 = ctl)).map (·.2)).getD none
  let x := s.ctlOf ctl
  held.isSome && held = x.last && !x.pending && s.n (expKey a.src + 0x0A) ≤ a.incl && 32 ≤ valid

/-- Lower median of the valid zone means, in 1/256 code (R175). -/
def StatAcc.median (a : StatAcc) (plane : Nat) : Nat :=
  let ms := ((List.range 64).filterMap fun z => (mapGet a.zones (4 * z + plane)).map zoneMean).insertionSort (· ≤ ·)
  ms.getD ((ms.length - 1) / 2) 0

/-- Strobe of width `x` scaled by `w / old` and rounded, at least 4 ticks. -/
def scaleStrobe (x w old : Nat) : Nat := max 4 (roundDiv (x * w : Nat) (max 1 old)).toNat

/-- Largest width for which every strobe of the phase still fits, at most `wmax` (R175). -/
def widthLimit (ph : Phase) (old wmax : Nat) : Nat :=
  ph.strobes.foldl (fun m x => min m (((2 * (ph.len - x.2.1) + 1) * old - 1) / (2 * max 1 x.2.2))) wmax

/-- Full scales of R87, descending. -/
def fullScales : List Nat := [288000, 144000, 72000, 36000]

/-- Width, stage count, full scale and limit state (0, 4 low, 5 high) for an exposure `num / den` (R175), within the limits in
force and from the strobes of the section measured, `v`. -/
def State.scanExposure (s v : State) (src : Nat) (num den : Nat) : Nat × Nat × Nat × Nat :=
  let k := expKey src
  let old := v.longWidth src
  let (hasW, lim) := match v.phaseOf src with
    | some (_, ph) => if ph.strobes.isEmpty then (false, 1) else (true, widthLimit ph old (s.n (k + 5)))
    | none => (false, 1)
  let wmin := if hasW then s.n (k + 4) else 1
  let (smin, smax) := if src = srcM then (1, 1) else (s.n (k + 6), s.n (k + 7))
  let ss := if src = srcM then [1] else [16, 32, 48, 64].filter fun x => smin ≤ x && x ≤ smax
  let fs := fullScales.filter fun x => s.n (k + 8) ≤ x && x ≤ s.n (k + 9)
  let all := fs.flatMap fun f => ss.map fun st => ((roundDiv (num : Int) (max 1 (den * st * (288000 / f)))).toNat, st, f)
  match all.find? fun x => x.1 ≤ lim with
  | some (w, st, f) =>
    (max w wmin, st, f, if w < wmin && st = smin && f = s.n (k + 9) then 4 else 0)
  | none => (lim, smax, s.n (k + 8), 5)

/-- A control state is entered, with the event of a limit (R175, R177). -/
def State.ctlState (s : State) (k code : Nat) (src : Nat) (st : Nat) : State :=
  let old := s.n k
  let s := s.put k st
  if 4 ≤ st && old ≠ st then s.raise code (shl st 8 + src : Nat) else s

/-- The exposure decision of a source from its record of section `c` (R175). -/
def State.expoDecide (s : State) (c : StatSection) (a : StatAcc) : State :=
  let k := expKey a.src
  let plane := if a.src = srcM then 1 else 0
  let valid := ((List.range 64).filter fun z => (mapGet a.zones (4 * z + plane)).isSome).length
  if s.is (k + 1) 2 || !s.mayDecide c a a.src valid then s
  else
    let m := a.median plane
    let goal := 256 * s.n (k + 2)
    let above := s.n (k + 0x0C) * a.samples < 1000 * a.sat
    let x := s.ctlOf a.src
    let s := s.puts [(k + 0x0D, m / 256), (k + 0x0F, c.sect)]
    let s := if above && !x.satRun then s.raise 0x040E (shl c.sect 8 + a.src : Nat) else s
    let s := s.setCtl { x with satRun := above }
    if !above && ((m : Int) - goal).natAbs * 1000 ≤ goal * s.n (k + 3) then s.put (k + 0x0E) 3
    else
      let step := s.n (k + 0x0B)
      let (n0, d0) := if m = 0 then (step, 65536)
        else if goal * 65536 > step * m then (step, 65536)
        else if goal * step < 65536 * m then (65536, step) else (goal, m)
      let (n1, d1) := if above && n0 * step > d0 * 65536 then (65536, step) else (n0, d0)
      let v := s.asOf c.lastLine
      let (w, st, fs, lim) := s.scanExposure v a.src (v.exposureNow a.src * n1) d1
      let s := s.puts [(k + 0x10, w), (k + 0x11, st), (k + 0x12, fs)]
      let s := s.ctlState (k + 0x0E) 0x040D a.src (if lim = 0 then 2 else lim)
      if s.is (k + 1) 0 then
        let com : Commit := { epoch := 0, at_ := some (c.sect + 2), origin := .control, entries := [(a.src, [])] }
        { (s.setCtl { s.ctlOf a.src with pending := true }) with
          dict := { s.dict with commits := s.dict.commits ++ [com] } }
      else s

/-- What an application of the exposure control writes, within the limits in force (R176): keys and values. -/
def State.expoEntries (s : State) (src : Nat) : List (Nat × Int) :=
  let k := expKey src
  let fs := min (max (s.n (k + 0x12)) (s.n (k + 8))) (s.n (k + 9))
  let st := min (max (s.n (k + 0x11)) (s.n (k + 6))) (s.n (k + 7))
  let stage := if src = srcM then [(0x241401, (fs : Int))] else [(fieldBase src + 1, (st : Int)), (fieldBase src + 2, (fs : Int))]
  match s.phaseOf src with
  | some (p, ph) =>
    if ph.strobes.isEmpty then stage
    else
      let old := s.longWidth src
      let w := min (max (s.n (k + 0x10)) (s.n (k + 4))) (widthLimit ph old (s.n (k + 5)))
      stage ++ ph.strobes.map fun x => ((0x2421 + p) * 256 + 0x0A + x.1, (scaleStrobe x.2.2 w old : Int))
  | none => stage

/-! ### White balance (R177) -/

/-- A gain by a ratio `num / den` of sums, limited by the step and to 0.25 to 4.0. -/
def stepGain (g : Int) (num den step : Nat) : Int :=
  let up := g * step / 65536
  let down := g * 65536 / max 1 step
  let x := if den = 0 then up else roundDiv (g * num) den
  clampI 16384 262144 (clampI down up x)

/-- The white-balance decision from the M record of section `c`. -/
def State.wbDecide (s : State) (c : StatSection) (a : StatAcc) : State :=
  let zs := (List.range 64).filterMap fun z =>
    match mapGet a.zones (4 * z), mapGet a.zones (4 * z + 1), mapGet a.zones (4 * z + 2) with
    | some r, some g, some b =>
      let t := (zoneMean r, zoneMean g, zoneMean b)
      let lim := 256 * s.n 0x348804
      if t.1 < lim && t.2.1 < lim && t.2.2 < lim then some t else none
    | _, _, _ => none
  let valid := ((List.range 64).filter fun z => (mapGet a.zones (4 * z + 1)).isSome).length
  if s.is 0x348801 2 || !s.mayDecide c a 0xFF valid || zs.isEmpty then s
  else
    let r := (zs.map (·.1)).sum
    let g0 := (zs.map (·.2.1)).sum
    let b := (zs.map (·.2.2)).sum
    let (g, s) := if g0 = 0 then s.free 1 65536 else (g0, s)
    let s := s.puts [(0x348806, min (roundDiv (r * 65536 : Nat) g) 2147483647), (0x348807, min (roundDiv (b * 65536 : Nat) g) 2147483647)]
    let off (x : Nat) : Bool := s.n 0x348802 * g < 1000 * ((x : Int) - g).natAbs
    if !off r && !off b then s.put 0x348805 3
    else
      let gr := stepGain (s.o 0x303002) g r (s.n 0x348803)
      let gb := stepGain (s.o 0x303004) g b (s.n 0x348803)
      let lim := if gr = 262144 || gb = 262144 then 5 else if gr = 16384 || gb = 16384 then 4 else 2
      let s := s.ctlState 0x348805 0x040F srcM lim
      if s.is 0x348801 0 then
        let com : Commit := { epoch := 0, at_ := some (c.sect + 2), origin := .control,
                              entries := [(0x303002, encodeVal .q16 gr), (0x303004, encodeVal .q16 gb)] }
        { (s.setCtl { s.ctlOf 0xFF with pending := true }) with
          dict := { s.dict with commits := s.dict.commits ++ [com] } }
      else s

/-! ### The records of a section (R172, R273) -/

/-- A record is complete: counted, kept as the latest, sent to the statistics ring. -/
def State.statRecord (s : State) (c : StatSection) (key src typ : Nat) (data : List Nat) : State :=
  ((s.putBlob key data).bump 0x340002).statPush
    { src, typ, sect := c.sect, first := c.firstLine, last := c.lastLine, data }

/-- Statistics of a source in a closed section. -/
def StatSection.accOf (c : StatSection) (src : Nat) : StatAcc := (c.acc.find? (·.src = src)).getD (StatAcc.empty src 0xFF)

/-- No frame of the section remains in the auxiliary pipeline (R256). -/
def State.auxLeft (s : State) (sect : Nat) : Bool := !s.conf.aux.any fun a => a.frames.any fun f => f.sect = sect

/-- The oldest closed section yields its records when its last line has left stage 7 and the partial statistics of the segments have
reached the merger (R172), and the controls decide. -/
def State.statsClose (s : State) : State :=
  match s.pipe.closing with
  | [] => s
  | part :: rest =>
    if !s.sectionLeft part || !s.auxLeft part.sect || !part.complete then s
    else
      let c := part.joined
      let s := { s with pipe := { s.pipe with closing := rest } }
      let srcs := c.sources
      let s := if srcs.any (s.statIncomplete c) then s.raiseFirst 0x040C 0 c.sect else s
      let s := srcs.foldl (fun s f =>
        s.statRecord c (latestKey f) f 1 (imageRecord c (c.accOf f) (s.statIncomplete c f))) s
      let s := s.statRecord c 0x341F00 0xFE 2 (s.summaryRecord c (srcs.any (s.statIncomplete c)))
      let s := s.put 0x340003 c.sect
      let s := (c.acc.filter fun a => a.src < 0x20).foldl (fun s a =>
        s.puts [(defectBase a.src + 5, a.corrected.length), (shadeBase a.src + 3, a.satShade)]) s
      let s := s.engSection c.sect
      let s := (expSources.filter srcs.contains).foldl (fun s f => s.expoDecide c (c.accOf f)) s
      if srcs.contains srcM then s.wbDecide c (c.accOf srcM) else s

end Sys2Proof.Machine
end

