-- ==== Sys2Proof/Machine/AuxInput.lean ====
section
/-!
DEFINITION. The CSI-2 receiver, auxiliary frames and the auxiliary pipeline (08_confluence_and_aux_input.md, R247 to
R256).
-/
namespace Sys2Proof.Machine

/-- Key of configuration `.j` of channel `v`. -/
def auxCfg (v j : Nat) : Nat := (0x3910 + v) * 256 + j
/-- Key of status `.j` of channel `v`. -/
def auxSt (v j : Nat) : Nat := (0x3920 + v) * 256 + j

/-- A channel. -/
def State.auxCh (s : State) (v : Nat) : AuxChan :=
  (s.conf.aux.find? (·.ch = v)).getD { ch := v, frames := [], nextNo := 0, lastStart := none, lastPkt := 0, embedded := [] }

/-- Replace a channel. -/
def State.setAux (s : State) (x : AuxChan) : State :=
  { s with conf := { s.conf with aux := s.conf.aux.map fun y => if y.ch = x.ch then x else y } }

/-- The frame a channel is receiving. -/
def AuxChan.open_ (x : AuxChan) : Option AuxFrame := x.frames.find? (!·.closed)

/-- Replace the frame a channel is receiving. -/
def AuxChan.setOpen (x : AuxChan) (f : AuxFrame) : AuxChan :=
  { x with frames := x.frames.map fun g => if g.closed then g else f }

/-- Replace the frame a channel is processing, its oldest. -/
def AuxChan.setHead (x : AuxChan) (h : AuxFrame → AuxFrame) : AuxChan :=
  { x with frames := (x.frames.take 1).map h ++ x.frames.drop 1 }

/-- The receiver is `ON`. -/
def State.csiOn (s : State) : Bool := s.is 0x390005 2

/-! ### The receiver (R249) -/

/-- Channel states follow the receiver and the enables: OFF, WAIT_FRAME, IN_FRAME. -/
def State.auxStates (s : State) : State :=
  (List.range 4).foldl (fun s v =>
    let st : Int := if (s.auxCh v).open_.isSome then 2 else if s.csiOn && s.b (auxCfg v 1) then 1 else 0
    s.put (auxSt v 1) st) s

/-- A line that stands in for one that did not arrive. -/
def State.padLine (s : State) (f : AuxFrame) (start : Int) (flag : Nat) : AuxLine :=
  let pos := match f.lines.reverse.find? fun l => l.real ≠ 0 with
    | some l => l.pos
    | none => start
  { pos, vals := List.replicate f.width (s.n 0x305001), real := 0, flags := 2 ^ flag, held := false }

/-- The frame a channel is receiving closes: missing lines are added (R252, R253). -/
def State.auxClose (s : State) (v : Nat) : State :=
  let x := s.auxCh v
  match x.open_ with
  | none => s
  | some f =>
    let n := f.height - f.lines.length
    let flag := if f.cut then fCut else fPadded
    let pad := s.padLine f (s.o (auxSt v 8)) flag
    let s := s.setAux (x.setOpen { f with lines := f.lines ++ List.replicate n pad, closed := true })
    let s := s.bump (auxSt v 2)
    let s := if n = 0 || f.cut then s else (s.bump (auxSt v 4) n).raiseFirst 0x0607 v (shl f.no 8 + v : Nat)
    s.auxStates

/-- A write of the receiver enable: status and state. -/
def State.csiEnable (s : State) (on : Bool) : Nat × State :=
  let st := s.o 0x390005
  if on && !s.pdOn 7 then (stState, s)
  else
    let s := s.putB 0x390001 on
    let s := if on then
        (if st = 0 then s.put 0x390005 1 else if st = 3 then s.put 0x390005 4 else if st = 5 then s.put 0x390005 1 else s)
      else
        (if st = 1 then s.put 0x390005 5
         else if st = 2 then ((List.range 4).foldl State.auxClose s).put 0x390005 3
         else if st = 4 then s.put 0x390005 3 else s)
    (stOk, s.auxStates)

/-- The receiver has started. -/
def State.csiStarted (s : State) : State :=
  if s.is 0x390005 1 then (s.put 0x390005 2).auxStates
  else if s.is 0x390005 5 then (s.put 0x390005 3).auxStates
  else s

/-- The receiver has stopped. -/
def State.csiStopped (s : State) : State :=
  if s.is 0x390005 3 then (s.put 0x390005 0).auxStates
  else if s.is 0x390005 4 then (s.put 0x390005 1).auxStates
  else s

/-- A channel's enable has been written: frames are numbered from 0 at each enable (R250). -/
def State.auxEnabled (s : State) (v : Nat) (was : Bool) : State :=
  if !was && s.b (auxCfg v 1) then
    ((s.setAux { s.auxCh v with nextNo := 0, lastStart := none }).streamRenumber (2 + v)).auxStates
  else s.auxStates

/-! ### Packets (R248, R250 to R253) -/

/-- The header's ECC: 0 good, 1 corrected, 2 uncorrectable. False when the packet is discarded. -/
def State.csiHeader (s : State) (ecc : Nat) : State × Bool :=
  if ecc = 0 then (s, true)
  else if ecc = 1 then (s.sat 0x390006, true)
  else ((s.sat 0x390007).raiseFirst 0x060A, false)

/-- A packet is discarded and counted. -/
def State.csiDiscard (s : State) : State := s.sat 0x390009

/-- A packet whose header is good: of a channel that exists and is enabled, or still receives a frame (R248, R250). -/
def State.auxTakes (s : State) (v : Nat) : Bool := v < 4 && (s.b (auxCfg v 1) || (s.auxCh v).open_.isSome)

/-- A packet's header is examined, and the packet is discarded or meets its channel (R248). -/
def State.csiPacket (s : State) (v ecc : Nat) (f : State → State) : State :=
  if !s.csiOn then s
  else
    let x := s.csiHeader ecc
    if !x.2 then x.1
    else if !x.1.auxTakes v then x.1.csiDiscard
    else f (x.1.setAux { x.1.auxCh v with lastPkt := x.1.now })

/-- A frame-start packet of channel `v` with the sensor's frame number. -/
def State.auxFrameStart (s : State) (v num ecc : Nat) : State :=
  s.csiPacket v ecc fun s =>
    let s := s.auxClose v
    if !s.b (auxCfg v 1) then s.csiDiscard
    else
      let x := s.auxCh v
      let late := match x.lastStart with
        | some t => s.n (auxCfg v 7) ≠ 0 && t + (s.n (auxCfg v 7) + s.n (auxCfg v 8)) * tickUs < s.now
        | none => false
      let f : AuxFrame := {
        no := x.nextNo, sect := s.n 0x202004, epoch := s.n 0x7C0007, width := s.n (auxCfg v 3),
        height := s.n (auxCfg v 4), dtype := s.n (auxCfg v 2), colour := s.n (auxCfg v 5), black := s.n (auxCfg v 6),
        defects := s.blob (auxCfg v 9), gains := s.blob (auxCfg v 0x0A), shade := s.b (auxCfg v 0x0B),
        bilinear := s.b (auxCfg v 0x0C), flags := flagIf late fLateAux, lines := [], closed := false, cut := false,
        startT := s.now, timeout := s.n (auxCfg v 0x0D), band := 0, col := 0 }
      let x := { x with frames := x.frames ++ [f], nextNo := x.nextNo + 1, lastStart := some s.now, embedded := [] }
      let s := (s.setAux x).puts [(auxSt v 7, num % 65536), (auxSt v 8, s.livePos)]
      let s := if late then (s.bump (auxSt v 6)).raiseFirst 0x0609 v (shl f.no 8 + v : Nat) else s
      s.auxStates

/-- A frame start in the tick of a section boundary belongs to the new section (R251). -/
def State.auxBoundary (s : State) : State :=
  let move (f : AuxFrame) : AuxFrame :=
    if !f.closed && f.startT = s.now then { f with sect := s.n 0x202004, epoch := s.n 0x7C0007 } else f
  { s with conf := { s.conf with aux := s.conf.aux.map fun x => { x with frames := x.frames.map move } } }

/-- A frame-end packet. -/
def State.auxFrameEnd (s : State) (v ecc : Nat) : State := s.csiPacket v ecc fun s => s.auxClose v

/-- Bits per sample of a RAW data type. -/
def rawBits (dtype : Nat) : Nat := if dtype = 0x2A then 8 else 10 + 2 * (dtype - 0x2B)

/-- Mark the last line of a frame with CUT: an extra line was discarded (R252). -/
def AuxFrame.cutLast (f : AuxFrame) : AuxFrame :=
  { f with lines := f.lines.mapIdx fun i l => if i + 1 = f.height then { l with flags := l.flags ||| 2 ^ fCut } else l }

/-- A line of a frame: received samples, or none when it was lost. -/
def State.auxLine (s : State) (v : Nat) (f : AuxFrame) (samples : Option (List Nat)) : State :=
  let x := s.auxCh v
  if f.height ≤ f.lines.length then
    ((s.setAux (x.setOpen f.cutLast)).bump (auxSt v 5)).raiseFirst 0x0608 v (shl f.no 8 + v : Nat)
  else if 4194304 < s.n 0x39000A + 2 * f.width then
    ((s.setAux (x.setOpen { f with cut := true })).bump (auxSt v 3)).raise 0x0606 (shl f.no 8 + v : Nat)
  else
    let vs := (samples.getD []).map fun q => q % 2 ^ rawBits f.dtype * 2 ^ (16 - rawBits f.dtype)
    let short := decide (vs.length < f.width)
    let long := decide (f.width < vs.length)
    let l : AuxLine := {
      pos := s.livePos, vals := vs.take f.width ++ List.replicate (f.width - vs.length) (s.n 0x305001),
      real := min vs.length f.width, flags := flagIf short fPadded ||| flagIf long fCut, held := true }
    let s := s.setAux (x.setOpen { f with lines := f.lines ++ [l] })
    let fill := s.n 0x39000A + 2 * f.width
    let s := s.puts [(0x39000A, fill), (0x39000B, max fill (s.n 0x39000B))]
    let s := if short then (s.bump (auxSt v 4)).raiseFirst 0x0607 v (shl f.no 8 + v : Nat) else s
    if long then (s.bump (auxSt v 5)).raiseFirst 0x0608 v (shl f.no 8 + v : Nat) else s

/-- A long packet of an image data type. Packets of a frame that has been cut are discarded uncounted (R253; DESIGN CHOICE, log
entry 108). -/
def State.auxLong (s : State) (v dtype ecc : Nat) (crcOk : Bool) (samples : List Nat) : State :=
  s.csiPacket v ecc fun s =>
    if dtype < 0x2A || 0x2E < dtype then s.csiDiscard
    else
      match (s.auxCh v).open_ with
      | none => s.csiDiscard
      | some f =>
        if f.cut then s
        else if dtype ≠ f.dtype then (s.csiDiscard.raiseFirst 0x060D v v).auxLine v f none
        else if !crcOk then
          (((s.sat 0x390008).bump (auxSt v 0x0A)).raiseFirst 0x060B 0 v).auxLine v f none
        else s.auxLine v f (some samples)

/-- An embedded-data packet: the first 256 bytes of a frame are kept. Those of a packet whose CRC is wrong are not (DESIGN CHOICE,
log entry 108). -/
def State.auxEmbedded (s : State) (v ecc : Nat) (pkt : Embedded) : State :=
  s.csiPacket v ecc fun s =>
    match (s.auxCh v).open_ with
    | none => s.csiDiscard
    | some f =>
      if f.cut then s
      else if !pkt.crcOk then (s.sat 0x390008).raiseFirst 0x060B 0 v
      else
        let x := s.auxCh v
        let e := (x.embedded ++ pkt.bytes).take 256
        (s.setAux { x with embedded := e }).putBlob (auxSt v 9) e

/-- A line start, line end or generic short packet: ignored. -/
def State.auxShort (s : State) (v ecc : Nat) : State := s.csiPacket v ecc id

/-- No packet of the channel has arrived for the frame timeout that its frame began with (R250). -/
def State.auxTimeout (s : State) (v : Nat) : State :=
  match (s.auxCh v).open_ with
  | some f => (s.atTick ((s.auxCh v).lastPkt + f.timeout * tickMs)).auxClose v
  | none => s

/-! ### The auxiliary pipeline (R254) -/

/-- Sample of a frame after the black level, mirrored beyond the edges. -/
def AuxFrame.at1 (f : AuxFrame) (l c : Int) : Nat :=
  match f.lines[mirrorIx f.height l]? with
  | some x => x.vals.getD (mirrorIx f.width c) 0 - f.black
  | none => 0

/-- A pixel is in the defect list. -/
def AuxFrame.defect (f : AuxFrame) (l c : Nat) : Bool :=
  (List.range (f.defects.length / 4)).any fun i => fieldAt f.defects (4 * i) 2 = c && fieldAt f.defects (4 * i + 2) 2 = l

/-- After defect correction. -/
def AuxFrame.at2 (f : AuxFrame) (l c : Int) : Nat :=
  let li := mirrorIx f.height l
  let ci := mirrorIx f.width c
  let d := if f.colour = 0 then 1 else 2
  if !f.defect li ci then f.at1 li ci
  else if ci < d then f.at1 li (ci + d : Nat)
  else if f.width ≤ ci + d then f.at1 li (ci - d : Nat)
  else (f.at1 li (ci - d : Nat) + f.at1 li (ci + d : Nat) + 1) / 2

/-- After shading. -/
def AuxFrame.at3 (f : AuxFrame) (l c : Int) : Int :=
  let ci := mirrorIx f.width c
  let g := if 2 * ci + 1 < f.gains.length then fieldAt f.gains (2 * ci) 2 else 16384
  let v := f.at2 l c
  if f.shade then min 65535 (roundDiv (v * g : Nat) 16384) else v

/-- Colour at a pixel: 0 R, 1 G, 2 B. -/
def AuxFrame.colourAt (f : AuxFrame) (l c : Int) : Nat :=
  let r := mirrorIx f.height l % 2
  let k := mirrorIx f.width c % 2
  let tile := if f.colour = 1 then [0, 1, 1, 2] else if f.colour = 2 then [1, 0, 2, 1]
    else if f.colour = 3 then [1, 2, 0, 1] else [2, 1, 1, 0]
  tile.getD (2 * r + k) 1

/-- The pair of the first direction, or of the second when it differs less. -/
def pickPair (bilinear : Bool) (h v : Int × Int) : Int × Int :=
  if bilinear || (h.1 - h.2).natAbs ≤ (v.1 - v.2).natAbs then h else v

/-- Green at a pixel. -/
def AuxFrame.green (f : AuxFrame) (l c : Int) : Int :=
  if f.colourAt l c = 1 then f.at3 l c
  else
    let p := pickPair f.bilinear (f.at3 l (c - 1), f.at3 l (c + 1)) (f.at3 (l - 1) c, f.at3 (l + 1) c)
    (p.1 + p.2 + 1) / 2

/-- Red (0) or blue (2) at a pixel. -/
def AuxFrame.chroma (f : AuxFrame) (x : Nat) (l c : Int) : Int :=
  if f.colourAt l c = x then f.at3 l c
  else
    let d (q : Int × Int) : Int := f.at3 q.1 q.2 - f.green q.1 q.2
    let pair (a b : Int × Int) : (Int × Int) × Int := ((f.at3 a.1 a.2, f.at3 b.1 b.2), d a + d b)
    let h := pair (l, c - 1) (l, c + 1)
    let v := pair (l - 1, c) (l + 1, c)
    let sum := if f.colourAt l (c + 1) = x then h.2
      else if f.colourAt (l + 1) c = x then v.2
      else
        let a := pair (l - 1, c - 1) (l + 1, c + 1)
        let b := pair (l - 1, c + 1) (l + 1, c - 1)
        if f.bilinear || (a.1.1 - a.1.2).natAbs ≤ (b.1.1 - b.1.2).natAbs then a.2 else b.2
    clampI 0 65535 (f.green l c + (sum + 1) / 2)

/-- The planes of a pixel as they leave stage 4. -/
def AuxFrame.pixel (f : AuxFrame) (l c : Nat) : List Nat :=
  if f.colour = 0 then [(f.at3 l c).toNat]
  else [(f.chroma 0 l c).toNat, (f.green l c).toNat, (f.chroma 2 l c).toNat]

/-- The planes of a line. -/
def AuxFrame.rows (f : AuxFrame) (l : Nat) : List (List Nat) :=
  let ps := (List.range f.width).map (f.pixel l)
  (List.range (if f.colour = 0 then 1 else 3)).map fun p => ps.map fun q => q.getD p 0

/-! ### Stripes (R255) and records -/

/-- A frame's next band is ready. -/
def AuxFrame.ready (f : AuxFrame) : Bool := f.closed || 16 * f.band + 17 < f.lines.length

/-- The channel served next: the first ready one in ascending order after the one just served. -/
def State.auxNext (s : State) : Option (Nat × AuxFrame) :=
  (List.range 4).findSome? fun i =>
    let v := (s.conf.auxServed + 1 + i) % 4
    match (s.auxCh v).frames with
    | f :: _ => if f.ready then some (v, f) else none
    | [] => none

/-- Lines of a band of a frame. -/
def AuxFrame.bandLines (f : AuxFrame) : List Nat :=
  (List.range 16).map (16 * f.band + ·) |>.filter (· < f.height)

/-- Streams of a channel with the groups that begin in the band, and the tokens each record needs. -/
def State.auxGroups (s : State) (v : Nat) (f : AuxFrame) : List (Nat × Nat × Nat) :=
  (List.range 8).flatMap fun k =>
    let st := s.stream k
    f.bandLines.filterMap fun l =>
      let n := numKey (2 + v) (65536 * f.no + l)
      let x := st.shapeAt n
      if x.src = 0x20 + v && l % x.a = 0 && st.covers n && !st.asm.any (·.line = n) then
        some (k, n, ceilDiv (recordBytes (payloadBytes x.fmt x.cols)) 512)
      else none

/-- A record that begins in the band is admitted, or the pipeline waits before it: the records admitted until then keep their
tokens (R243). -/
def State.auxAdmitOne (s : State) (f : AuxFrame) (p : Nat × Nat × Nat) : State × Bool :=
  let (k, n, t) := p
  let x := (s.stream k).shapeAt n
  if !s.admits x t then (s, false)
  else
    let s := ((s.takeTokens t).streamAdmitted k).book k f.sect x.a 0
    let st := s.stream k
    (s.setStream { st with asm := st.asm ++
      [{ line := n, last := n + x.a - 1, lines := x.a, need := [], fail := [], tokens := t, decided := true, admitted := true,
         parts := [] }] }, true)

/-- The records that begin in the band are admitted one by one; false says that the pipeline waits. -/
def State.auxAdmit (s : State) (v : Nat) (f : AuxFrame) : State × Bool :=
  (s.auxGroups v f).foldl (fun (a : State × Bool) p => if a.2 then a.1.auxAdmitOne f p else a) (s, true)

/-- The record of an auxiliary group. -/
def AuxFrame.record (f : AuxFrame) (x : Shape) (a : Asm) : SRec :=
  let l0 := a.line % 65536
  let ms := ((List.range x.a).map (l0 + ·))
  let kept := if x.skip then [l0] else ms
  let lines := kept.filterMap (f.lines[·]?)
  let flags := (lines.map (·.flags)).foldl (· ||| ·) f.flags
  let pos := match lines.head?, lines.getLast? with
    | some p, some q => Int.tdiv (p.pos + q.pos) 2
    | _, _ => 0
  let body := x.shapeRows 0 (kept.map f.rows)
  let data := padRecord (recHeader (keyLine a.line) pos f.sect f.epoch flags x.src x.fmt body.length ++ body)
  { line := a.line, last := a.last, pos, sect := f.sect, epoch := f.epoch, flags, src := x.src, tokens := a.tokens,
    lines := a.lines, data }

/-- Groups of a stream that end in a band become records; those of a suspended stream are reported (R243, R246). -/
def State.auxStream (s : State) (v : Nat) (f : AuxFrame) (k : Nat) : State :=
  let key (l : Nat) : Nat := numKey (2 + v) (65536 * f.no + l)
  let lastLine := key (16 * f.band + 15)
  let mine := (s.stream k).asm.filter fun a => sameLines a.line lastLine && a.last ≤ lastLine && key 0 ≤ a.line
  let s := mine.foldl (fun (s : State) a =>
    let st := s.stream k
    (s.setStream { st with asm := st.asm.filter (·.line ≠ a.line) }).pushRecord k (f.record (st.shapeAt a.line) a)) s
  f.bandLines.foldl (fun (s : State) l =>
    let st := s.stream k
    let x := st.shapeAt (key l)
    if x.src = 0x20 + v && l % x.a = 0 && st.spanHas false (key l) then
      (s.book k f.sect x.a 0).dropRecord k (key l) (key (l + x.a - 1)) x.a f.sect 2
    else s) s

/-- The last stripe of a band is done: groups that end in it become records, its lines enter the statistics, and input
lines no later stripe reads are freed. -/
def State.auxBandDone (s : State) (v : Nat) (f : AuxFrame) : State :=
  let lastBand := decide (f.height ≤ 16 * (f.band + 1))
  let s := (List.range 8).foldl (fun (s : State) k => s.auxStream v f k) s
  let s := f.bandLines.foldl (fun s l =>
    let x := (f.lines[l]?).map (·.real) |>.getD 0
    s.updStat f.sect (0x20 + v) 0xFF fun a =>
      let a := (List.range x).foldl (fun (a : StatAcc) c =>
        a.addColumn f.width c [match f.pixel l c with
          | [r, g, b] => (r + 2 * g + b) / 4
          | p => p.headD 0]) a
      { a with incl := a.incl + (if x = 0 then 0 else 1), excl := a.excl + (if x = 0 then 1 else 0)
               flagsSeen := a.flagsSeen ||| f.flags ||| ((f.lines[l]?).map (·.flags)).getD 0 }) s
  let free (i : Nat) : Bool := lastBand || i + 2 < 16 * (f.band + 1)
  let n := ((List.range f.lines.length).filter fun i => free i && ((f.lines[i]?).map (·.held)).getD false).length
  let s := s.put 0x39000A (s.n 0x39000A - 2 * f.width * n : Nat)
  let x := s.auxCh v
  if lastBand then
    (List.range 8).foldl (fun (s : State) k => s.runSettle k) (s.setAux { x with frames := x.frames.drop 1 })
  else s.setAux (x.setHead fun g =>
    { g with band := g.band + 1, col := 0, lines := g.lines.mapIdx fun i l => if free i then { l with held := false } else l })

/-- The pipeline finishes the next ready stripe; `waited` are the cycles it waited for admission (R243). -/
def State.auxStripe (s : State) (waited : Nat) : State :=
  match s.auxNext with
  | none => s
  | some (v, f) =>
    let x := if f.col = 0 then s.auxAdmit v f else (s, true)
    if !x.2 then x.1
    else
      let s := (x.1.bump 0x393005).bump 0x393006 waited
      let s := { s with conf := { s.conf with auxServed := v } }
      if f.width ≤ f.col + 256 then s.auxBandDone v f
      else s.setAux ((s.auxCh v).setHead fun g => { g with col := g.col + 256 })

end Sys2Proof.Machine
end

