-- ==== Sys2Proof/Machine/Adc.lean ====
section
/-!
DEFINITION. The monitor ADC (R418 to R424): the sequencer and its passes, results, window comparators and
self-calibration.
-/
namespace Sys2Proof.Machine

/-- ADC states (`0x6400.01`): `OFF`. -/
def adOff : Int := 0
/-- `RUNNING`. -/
def adRunning : Int := 1
/-- `STOPPING`. -/
def adStopping : Int := 2
/-- `STOPPED`. -/
def adStopped : Int := 3
/-- `PENDING_ON`. -/
def adPendingOn : Int := 4
/-- `CALIBRATING`. -/
def adCalibrating : Int := 5

/-- The sequencer's state. -/
def State.adc (s : State) : Int := s.o 0x640001

/-- A sub-index of slot `k`. -/
def slotKey (k j : Nat) : Nat := (0x6410 + k) * 256 + j

/-- A sub-index of slot `k`'s result in the front buffer. -/
def resultKey (k j : Nat) : Nat := (0x6440 + k) * 256 + j

/-- A sub-index of channel `c`'s window. -/
def windowKey (c j : Nat) : Nat := (0x6480 + c) * 256 + j

/-- The slots that name a channel: slot, channel, range, N (R419). -/
def State.adcSlots (s : State) : List (Nat × Nat × Nat × Nat) :=
  (List.range 32).filterMap fun k =>
    if s.is (slotKey k 1) 0xFF then none else some (k, s.n (slotKey k 1), s.n (slotKey k 2), s.n (slotKey k 3))

/-- Time of a pass in µs (R420): N + d for each slot, the first following the last. -/
def passTime (plan : List (Nat × Nat × Nat × Nat)) : Nat :=
  let chs := plan.map fun p => p.2.1
  let prev := (chs.getLast?.map fun c => c :: chs).getD []
  ((plan.zip prev).map fun q => q.1.2.2.2 + if q.1.2.1 = q.2 then 0 else 1).foldl (· + ·) 0

/-- A pass begins with the slots as they now are (R419). -/
def State.passBegin (s : State) : State :=
  let plan := s.adcSlots
  let t := s.therm
  { s.put 0x640004 (passTime plan) with therm := { t with plan := plan, back := [], pass := (t.pass + 1) % 2 ^ 32 } }

/-- A calibration begins (R423). -/
def State.adcCalBegin (s : State) : State :=
  { s.put 0x640001 adCalibrating with therm := { s.therm with calPend := false, plan := [], back := [] } }

/-- Passes begin. -/
def State.adcRun (s : State) : State := (s.put 0x640001 adRunning).passBegin

/-- PD12 is on: the ADC calibrates once and the sequencer starts (R419, R423). -/
def State.adcUp (s : State) : State := { s with therm := { s.therm with stopAfter := false } }.adcCalBegin

/-- PD12 is off: a pass in progress is abandoned and the front buffer stands (R424). -/
def State.adcDown (s : State) : State :=
  let t := s.therm
  let t := { t with plan := [], back := [], calPend := false, stopAfter := false, lastCh := none, ranges := [], settle := [],
                    offset := 0, gain := 0 }
  { s.put 0x640001 adOff with therm := t }

/-- START (R419). -/
def State.adcStart (s : State) : Nat × State :=
  if s.adc = adOff then (stState, s)
  else if s.adc = adStopped then (stOk, s.adcRun)
  else if s.adc = adStopping then (stOk, s.put 0x640001 adPendingOn)
  else if s.adc = adCalibrating then (stOk, { s with therm := { s.therm with stopAfter := false } })
  else (stOk, s)

/-- STOP (R419, R424). -/
def State.adcStop (s : State) : Nat × State :=
  if s.adc = adOff then (stState, s)
  else if s.adc = adRunning || s.adc = adPendingOn then (stOk, s.put 0x640001 adStopping)
  else if s.adc = adCalibrating then (stOk, { s with therm := { s.therm with stopAfter := true } })
  else (stOk, s)

/-- CALIBRATE (R423). -/
def State.adcCalibrate (s : State) : Nat × State :=
  if s.adc = adOff then (stState, s)
  else if s.adc = adCalibrating || s.therm.calPend then (stBusy, s)
  else if s.adc = adStopped then (stOk, { s with therm := { s.therm with stopAfter := true } }.adcCalBegin)
  else (stOk, { s with therm := { s.therm with calPend := true } })

/-- The 2.1 ms calibration ends with an offset in codes and a gain error in ppm (R423). -/
def State.adcCalDone (s : State) (offset gain : Int) : State :=
  if s.adc ≠ adCalibrating then s
  else
    let good : Bool := -64 ≤ offset && offset ≤ 64 && -5000 ≤ gain && gain ≤ 5000
    let s := if good then
        (({ s with therm := { s.therm with offset := offset, gain := gain } }).put 0x640005 1).raise 0x0C12
      else (s.put 0x640005 2).raise 0x0C13
    if s.therm.stopAfter then
      { s.put 0x640001 adStopped with therm := { s.therm with stopAfter := false } }
    else s.adcRun

/-- Full span of a channel in µV, and its value at code 0 (R418, R420). -/
def adcSpan (ch range : Nat) : Int × Int :=
  if ch = 22 then (250000, -125000)
  else if 16 ≤ ch && ch ≤ 19 then (if range = 0 then 1250000 else if range = 1 then 2500000 else 5000000, 0)
  else if ch = 0 || ch = 6 || ch = 10 then (1250000, 0)
  else if ch = 2 || ch = 4 || ch = 21 || ch = 23 then (5000000, 0)
  else (2500000, 0)

/-- The channel reads a temperature. -/
def isTempChannel (ch : Nat) : Bool := ch = 9 || (12 ≤ ch && ch ≤ 15)

/-- The scaled value of a mean code under the calibration factors (R421; log entry 48). -/
def State.adcValue (s : State) (ch range code : Nat) : Int :=
  let c := code - s.therm.offset
  let v := if isTempChannel ch then Config.adcTemp ch c
    else
      let den := 65536 * (1000000 + s.therm.gain)
      roundDiv (c * (adcSpan ch range).1 * 1000000) den.toNat + (adcSpan ch range).2
  clampI (-(2 ^ 31)) (2 ^ 31 - 1) v

/-- A result meets its channel's window (R422): the channel's alarm state afterwards. -/
def State.windowTest (s : State) (ch : Nat) (v : Int) : State :=
  if !s.b (windowKey ch 4) then s
  else
    let lo := s.o (windowKey ch 1)
    let hi := s.o (windowKey ch 2)
    let h := s.o (windowKey ch 3)
    let old := s.o (windowKey ch 5)
    let new : Int := if v < lo then 1 else if hi < v then 2 else if lo + h ≤ v && v ≤ hi - h then 0 else old
    if new = old then s
    else if new = 0 then (s.put (windowKey ch 5) 0).raise 0x0C11 ch
    else (((s.put (windowKey ch 5) new).setBits (windowKey ch 6) (if new = 1 then 1 else 2))).raise 0x0C10 (ch + shl new.toNat 8)

/-- The 12 bytes of a result (R421). -/
def AdcResult.bytes (r : AdcResult) : List Nat :=
  leBytes 2 r.code ++ leBytes 2 r.flags ++ leBytes 4 (wrapU 32 r.value) ++ leBytes 4 r.pass

/-- The last slot of a pass has completed: the buffers swap, and the pending command acts (R419, R421, R423). -/
def State.passEnd (s : State) : State :=
  let no := s.therm.pass
  let res (k : Nat) : AdcResult := (s.therm.back.find? (·.slot = k)).getD ⟨k, 0, 16, 0, no⟩
  let s := (List.range 32).foldl (fun (s : State) k =>
    s.puts [(resultKey k 1, (res k).code), (resultKey k 2, (res k).flags), (resultKey k 3, (res k).value),
      (resultKey k 4, (res k).pass)]) s
  let s := (s.putBlob 0x646000 ((List.range 32).flatMap fun k => (res k).bytes)).put 0x640003 no
  if s.therm.calPend then
    { s with therm := { s.therm with stopAfter := s.adc = adStopping } }.adcCalBegin
  else if s.adc = adStopping then { s.put 0x640001 adStopped with therm := { s.therm with plan := [], back := [] } }
  else s.adcRun

/-- The slot whose conversions are due. -/
def State.adcSlot (s : State) : Option (Nat × Nat × Nat × Nat) :=
  if s.adc = adRunning || s.adc = adStopping || s.adc = adPendingOn then s.therm.plan.head? else none

/-- Conversions of an AIN channel still settling as its slot begins (R420). -/
def State.settling (s : State) (ch range : Nat) : Nat :=
  if ch < 16 || 19 < ch then 0
  else if mapGet s.therm.ranges ch = some range || mapGet s.therm.ranges ch = none then (mapGet s.therm.settle ch).getD 0
  else 2

/-- A slot completes with its kept conversions: the result and the channel's window (R421, R422). The pass goes on. -/
def State.adcResult (s : State) (codes : List Nat) : State :=
  match s.adcSlot with
  | none => s
  | some (k, ch, range, n) =>
    if codes.length ≠ n then s
    else
      let sum := (codes.map (· % 65536)).foldl (· + ·) 0
      let code := (2 * sum + n) / (2 * n)
      let left := s.settling ch range
      let v := s.adcValue ch range code
      let d : Nat := if s.therm.lastCh = some ch then 0 else 1
      let s := s.bump 0x640006 (n + d)
      let s := if left = 0 then s.windowTest ch v else s
      let al := s.n (windowKey ch 5)
      let clip := codes.any fun c => c % 65536 = 0 || c % 65536 = 65535
      let flags := (if left = 0 then 0 else 1) + (if al = 1 then 2 else 0) + (if al = 2 then 4 else 0) + if clip then 8 else 0
      let t := s.therm
      let t := { t with plan := t.plan.drop 1, lastCh := some ch, back := t.back ++ [⟨k, code, flags, v, t.pass⟩],
                        ranges := mapPut t.ranges ch range, settle := mapPut t.settle ch (left - n) }
      { s with therm := t }

/-- Results of a slot still in the back buffer or in the front one: the latest. -/
def State.latestResult (s : State) (k : Nat) : Option Int :=
  match s.therm.back.find? (·.slot = k) with
  | some r => some r.value
  | none => if s.is (resultKey k 4) 0 then none else some (s.o (resultKey k 3))

/-- A write of `.07` clears latched alarms (R422). -/
def State.clearLatch (s : State) (ch m : Nat) : State := s.clrBits (windowKey ch 6) m

end Sys2Proof.Machine
end

