-- ==== Sys2Proof/Machine/Charger.lean ====
section
/-!
DEFINITION. The hold-up charger (R434 to R438): its windows and target, its state machine, the safety timer and the
faults.
-/
namespace Sys2Proof.Machine

/-- Charger states (`0x1510.01`): `OFF`. -/
def chOff : Int := 0
/-- `PRECHARGE`. -/
def chPre : Int := 1
/-- `CONST_CURRENT`. -/
def chCurrent : Int := 2
/-- `CONST_VOLTAGE`. -/
def chVoltage : Int := 3
/-- `FULL`. -/
def chFull : Int := 4
/-- `SUSPENDED`. -/
def chSuspended : Int := 5
/-- `FAULT`. -/
def chFault : Int := 6
/-- `DISCHARGING`. -/
def chDischarging : Int := 7

/-- The charger's state. -/
def State.charger (s : State) : Int := s.o 0x151001

/-- A charging state. -/
def State.charging (s : State) : Bool := s.charger = chPre || s.charger = chCurrent || s.charger = chVoltage

/-- The store is a Li-ion cell; otherwise a supercapacitor. -/
def State.liIon (s : State) : Bool := s.is 0x150001 2

/-- Conditions under which charging runs (R434). The charger itself lies in PD13; it keeps running through standby, where PD12 is
off, while the input supplies the device (R444; DEDUCED, log entry 113). -/
def State.chargeAllowed (s : State) : Bool :=
  s.o 0x150001 ≠ 0 && s.b 0x150002 && s.pdOn 13
    && ((s.is 0x152005 0 && s.pdOn 12) || (s.is 0x152005 4 && !s.pow.onStore))

/-- Window of a temperature in 1/64 °C after window `w`: left upwards at its upper limit, downwards 2 °C below its lower
one (R436). -/
def windowOf (w : Nat) (t : Int) : Nat :=
  let limits : List Int := [0, 640, 2880, 3840]
  let up := (limits.filter fun x => x ≤ t).length
  let down := (limits.filter fun x => x - 128 ≤ t).length
  if w < up then up else if down < w then down else w

/-- Target voltage of the window in force in mV (R436). -/
def State.chargeTarget (s : State) : Int :=
  let w := s.n 0x151005
  let t := s.o 0x151004
  if s.liIon then s.o 0x150005 - (if w = 3 then 100 else 0)
  else
    let full := s.o 0x150004
    if w < 3 || t ≤ 3200 then full else max (min 3800 full) (full - (20 * (t - 3200) + 32) / 64)

/-- Restart threshold (R437). -/
def State.chargeRestart (s : State) : Int := s.chargeTarget - s.o 0x150006

/-- The window suspends charging (R436). -/
def State.chargeSuspends (s : State) : Bool := s.liIon && (s.is 0x151005 0 || s.is 0x151005 4)

/-- Programmed current of the state in mA. -/
def State.chargeCurrent (s : State) : Nat := if s.charger = chPre then s.n 0x150003 / 10 else s.n 0x150003

/-- What limits the current: priority, window, throttle (`0x1510.06`). -/
def State.showLimits (s : State) : State :=
  s.put 0x151006 ((if s.pow.chgLimit < 16 then 1 else 0) + (if s.liIon && s.is 0x151005 1 then 2 else 0)
    + (if s.bit 0x600803 1 then 4 else 0))

/-- Enter a charger state. -/
def State.chargerTo (s : State) (st : Int) : State := s.put 0x151001 st

/-- A new charge cycle: timer cleared (R437). -/
def State.chargeCycle (s : State) : State :=
  let s := { s with pow := { s.pow with chgTimer := 0, chgSteps := 0, chgT := s.now, chgRead := false } }
  (s.put 0x151007 0).chargerTo (if s.liIon && s.o 0x151002 < 3000 then chPre else chCurrent)

/-- The charger is full. -/
def State.chargeFull (s : State) : State := (s.chargerTo chFull).raise 0x0D07

/-- Fault conditions that persist: NTC, STORE_OV, SENSE (R438). -/
def State.faultConds (s : State) : Nat :=
  let t := s.o 0x151004
  (if t < -2560 || 8000 < t then 2 else 0)
    + (if s.chargeTarget + 200 < s.o 0x151002 then 4 else 0)
    + (if !s.charging && 50 < (s.o 0x151003).natAbs then 16 else 0)

/-- A fault latches: charging stops (R437). -/
def State.chargeFault (s : State) (bit : Nat) : State :=
  let again := s.bit 0x151008 bit && !s.charging
  let s := if again then s else (s.setBits 0x151008 (2 ^ bit)).raise 0x0D08 (s.n 0x151008 ||| 2 ^ bit : Nat)
  let s := { s with pow := { s.pow with chgRead := false } }
  if s.charging then s.chargerTo chFault else s

/-- One evaluation of the charger's machine (R437). -/
def State.chargerStep (s : State) : State :=
  let v := s.o 0x151002
  if s.charger = chDischarging then s
  else if !s.chargeAllowed then s.chargerTo chOff
  else if s.charging && s.pow.chgConds.testBit 1 then s.chargeFault 1
  else if s.charging && s.chargeSuspends then
    { s with pow := { s.pow with chgFrom := s.charger } }.chargerTo chSuspended
  else if s.charger = chOff then (if v < s.chargeRestart then s.chargeCycle else s.chargerTo chFull)
  else if s.charger = chPre then (if 3000 ≤ v then s.chargerTo chCurrent else s)
  else if s.charger = chCurrent then (if s.chargeTarget ≤ v then s.chargerTo chVoltage else s)
  else if s.charger = chVoltage then (if !s.liIon && s.chargeTarget - 20 ≤ v then s.chargeFull else s)
  else if s.charger = chFull then
    (if v < s.chargeRestart then
      let s := { s with pow := { s.pow with chgTimer := 0, chgSteps := 0, chgT := s.now } }
      (s.put 0x151007 0).chargerTo chCurrent
    else s)
  else if s.charger = chSuspended then (if s.chargeSuspends then s else s.chargerTo s.pow.chgFrom)
  else if s.pow.chgRead && s.n 0x151008 = 0 && s.pow.chgConds = 0 && v < s.chargeRestart then s.chargeCycle
  else s

/-- Settings or the power state changed: the machine and the limits follow. -/
def State.chargerEval (s : State) : State :=
  { s with pow := { s.pow with chgConds := s.faultConds } }.chargerStep.showLimits

/-- Results of the device slots reach the charger: store temperature, voltage, current (R434, R436). -/
def State.chargerResult (s : State) (slot : Nat) (v : Int) : State :=
  if slot = 28 then
    let t := clampI (-32768) 32767 (Config.ntcTemp v (s.n 0x15000A) (s.n 0x15000B) (s.n 0x15000C))
    ((s.put 0x151004 t).put 0x151005 (windowOf (s.n 0x151005) t)).chargerEval
  else if slot = 29 then (s.put 0x151002 (clampI 0 5500 (roundDiv v 1000))).chargerEval
  else if slot = 30 then (s.put 0x151003 (clampI (-32768) 32767 (roundDiv v (max 1 (s.n 0x150009))))).chargerEval
  else s

/-- 100 ms on the safety timer (R438). -/
def State.safetyAdvance (s : State) : State :=
  let i := (s.o 0x151003).toNat
  let t := s.pow.chgTimer + max 12500 (100000 * i / max 1 s.chargeCurrent)
  { s with pow := { s.pow with chgTimer := t } }.put 0x151007 (t / 1000000 : Nat)

/-- Every 100 µs while charging: the priority limit moves by a sixteenth (R435); every 1,000 steps the safety timer
advances (R438). -/
def State.currentStep (s : State) : State :=
  if !s.charging then s
  else
    let vin := (s.latestResult 31).getD 0
    let lim := s.pow.chgLimit
    let lim := if vin < s.o 0x152003 * 1000 then lim - 1 else if s.o 0x152003 * 1000 < vin then min 16 (lim + 1) else lim
    let n := s.pow.chgSteps + 1
    let s := { s with pow := { s.pow with chgLimit := lim, chgSteps := if n = 1000 then 0 else n } }
    (if n = 1000 then s.safetyAdvance else s).showLimits

/-- The safety timer reaches its limit (R438). -/
def State.safetyExpiry (s : State) : State :=
  if s.charging && s.n 0x150007 * 3600000000 ≤ s.pow.chgTimer then
    (s.put 0x151009 (if s.n 0x151006 / 2 ≠ 0 then 2 else 1)).chargeFault 0
  else s

/-- Li-ion current has been below a tenth of the programmed current for 1 s (R437). -/
def State.chargeTermination (s : State) : State :=
  if s.charger = chVoltage && s.liIon && 10 * s.o 0x151003 < s.o 0x150003 then s.chargeFull else s

/-- A condition has lasted its time: 2 STORE_OV, 3 STORE_SHORT, 4 SENSE (R438). -/
def State.faultTimer (s : State) (bit : Nat) : State :=
  let holds : Bool :=
    if bit = 2 then s.pow.chgConds.testBit 2
    else if bit = 3 then
      (if s.liIon then decide (s.charger = chPre) && decide (s.pow.chgT + 1800 * tickS ≤ s.now)
      else s.charging && decide (s.o 0x151002 < 500) && decide (s.pow.chgT + 60 * tickS ≤ s.now))
    else bit = 4 && s.pow.chgConds.testBit 4
  if holds && s.pdOn 13 then s.chargeFault bit else s

/-- The latched faults are read: they clear (R438). -/
def State.faultsRead (s : State) : State :=
  { s.put 0x151008 0 with pow := { s.pow with chgRead := true } }.chargerEval

/-- RECHARGE (R438). -/
def State.recharge (s : State) : Nat × State :=
  if s.pow.chgConds &&& 0x16 ≠ 0 then (stState, s)
  else
    let s := s.put 0x151008 0
    (stOk, (if s.chargeAllowed then s.chargeCycle else s).showLimits)

/-- The store is below the hand-over reserve (R446). -/
def State.belowReserve (s : State) : State :=
  if (s.charger = chFull || s.charger = chOff) && s.o 0x151002 < s.o 0x150008 && s.o 0x150001 ≠ 0 then s.raise 0x0D0F else s

end Sys2Proof.Machine
end

