-- ==== Sys2Proof/Machine/Host.lean ====
section
/-!
DEFINITION. The PCI Express function (R259 to R263, R295): configuration space, link, power management, errors, and
what a function-level reset clears.
-/
namespace Sys2Proof.Machine

/-- Causes of R295 as event 0x0704 carries them (log entry 52): a function-level reset. -/
def frFlr : Nat := 0
/-- Hot reset. -/
def frHot : Nat := 1
/-- Link disable. -/
def frDisable : Nat := 2
/-- Data Link Layer down. -/
def frDown : Nat := 3
/-- PERSTn assertion. -/
def frPerst : Nat := 4
/-- Return from D3hot. -/
def frD3 : Nat := 5

/-- The function answers: PERSTn is released and its domains are on (R260). -/
def State.pcieOn (s : State) : Bool := !s.host.perst && s.pdOn 8 && s.pdOn 9

/-- PERSTn is released (R260). -/
def State.perstRelease (s : State) : State :=
  if s.host.perst then { s with host := { s.host with perst := false, perstT := s.now } } else s

/-! ### Configuration space (R259, R260) -/

/-- The device id of the variant. -/
def State.deviceId (s : State) : Nat :=
  if s.variant = 2 then 0x24A2 else if s.variant = 3 then 0x24A5 else if s.variant = 4 then 0x16A4 else 0x24A4

/-- A word of OTP region 0 as its shadow holds it. -/
def State.region0 (s : State) (w : Nat) : Nat := (mapGet s.otp.shadow w).getD 0

/-- Fixed bits of configuration space: offset, which bits, their values. The capabilities are those of R259; the spec gives none of
them a place, and the model puts them at 0x40, 0x70 and 0xB0, and from 0x100 on (DESIGN CHOICE, log entry 23). -/
def State.cfgFixed (s : State) : List (Nat × Nat × Nat) :=
  let all := 2 ^ 32 - 1
  [(0x00, all, s.region0 4 % 65536 + shl s.deviceId 16),                 -- vendor and device id
   (0x04, 0x180000, 0x100000),                                           -- a capabilities list, no INTx pending
   (0x08, all, s.region0 4 / 65536 % 256 + shl 0x118000 8),              -- revision, class code
   (0x0C, 0xFF0000, 0),                                                  -- type 0 header, one function
   (0x10, 0xFFFFFF, 4), (0x18, 0x3FFFFFF, 0xC), (0x20, all, 0), (0x24, all, 0),   -- BARs
   (0x34, 0xFF, 0x40), (0x3C, 0xFF00, 0),                                -- first capability; no INTx pin
   (0x40, 0x607FFFF, 0x37001), (0x44, 3, if s.host.d3 then 3 else 0),    -- Power Management: D0 and D3hot
   (0x70, 0xFFFFFF, 0x2B010), (0x74, 0x10000007, 0x10000002),            -- PCI Express: 512 bytes, function-level reset
   (0x7C, 0xFFF, 0x845),                                                 -- 32 GT/s, ×4, ASPM L1 alone
   (0x80, 0x3FF0000, shl (s.n 0x500001 % 16) 16 + shl (s.n 0x500002 % 64) 20),   -- the link's speed and width
   (0x94, 0x30800, 0x30800), (0x9C, 0xFE, 0x3E),                         -- 10-bit tags, LTR; the five speeds
   (0xB0, 0x7FFFFFF, 0x3F0011), (0xB4, all, 0xF00000), (0xB8, all, 0xF01000),     -- MSI-X: 64 vectors in BAR0
   (0x100, 0xFFF0FFFF, 0x15000001), (0x150, 0xFFF0FFFF, 0x17000019),     -- AER, Secondary PCI Express
   (0x170, 0xFFF0FFFF, 0x18000025), (0x180, 0xFFF0FFFF, 0x1B000026),     -- Data Link Feature, Physical Layer 16.0 GT/s
   (0x1B0, 0xFFF0FFFF, 0x1E00002A), (0x1E0, 0xFFF0FFFF, 0x20000027),     -- Physical Layer 32.0 GT/s, Lane Margining
   (0x200, 0xFFF0FFFF, 0x21000018), (0x210, 0xFFF0FFFF, 0x2200001F),     -- LTR, PTM
   (0x214, 1, 1), (0x220, 0xFFF0FFFF, 3),                                -- PTM requester; Device Serial Number
   (0x224, all, s.n 0x100003 % 2 ^ 32), (0x228, all, s.n 0x100003 / 2 ^ 32)]

/-- A dword of configuration space: its fixed bits, and what the host wrote. -/
def State.cfgRead (s : State) (off : Nat) : Nat :=
  match s.cfgFixed.find? (·.1 = off) with
  | some (_, m, v) => (s.cfgWord off &&& (m ^^^ (2 ^ 32 - 1))) ||| v
  | none => s.cfgWord off

/-- A dword with the bytes of another where they are enabled. -/
def mergeBytes (be old new : Nat) : Nat :=
  ((List.range 4).map fun i => (if be.testBit i then new else old) / 256 ^ i % 256 * 256 ^ i).sum

/-- A configuration request: a write of the enabled bytes of a dword, or a read of it. -/
def State.configRequest (s : State) (write : Bool) (off value be : Nat) : State :=
  let off := off / 4 * 4
  if !s.pcieOn then s
  else if s.boot.step ≤ 2 then s.emit .configRetry
  else if !write then s.emit (.completion (s.cfgRead off))
  else
    let w := mergeBytes be (s.cfgWord off) value
    { s with host := { s.host with
      cfg := mapPut s.host.cfg off w, ptm := if off = 0x218 then w.testBit 0 else s.host.ptm } }

/-! ### The link (R261) -/

/-- Training ends at the partner's speed and width with the lane margins of four lanes. -/
def State.linkUp (s : State) (speed width : Nat) (margins : List Nat) : State :=
  let sp := min speed (s.n 0x500003)
  let s := (s.put 0x500001 sp).put 0x500002 width
  let s := s.putBlob 0x500008 ((margins ++ List.replicate 16 0).take 16)
  let s := s.raise 0x0701 (sp + shl width 8)
  if sp < s.n 0x500003 || width < 4 then s.raise 0x0703 (sp + shl width 8) else s

/-- The data link goes down. -/
def State.linkDown (s : State) : State :=
  if s.is 0x500001 0 then s
  else ((s.put 0x500001 0).put 0x500002 0 |>.bump 0x500007).raise 0x0702

/-- The function detects an error (R297). -/
def State.aerError (s : State) (uncorrectable : Bool) : State :=
  if uncorrectable then (s.bump 0x500006).raiseFirst 0x0705 else s.sat 0x500005

/-! ### Function-level reset (R295) -/

/-- Objects of a range of indices fall back to their defaults, but for the keys kept. -/
def State.resetRange (s : State) (lo hi : Nat) (keep : List Nat := []) : State :=
  let out (k : Nat) : Bool := lo * 256 ≤ k && k < hi * 256 + 256 && !keep.contains k
  { s with objs := s.objs.filter fun p => !out p.1, blobs := s.blobs.filter fun p => !out p.1 }

/-- The lines of a ring's open buffer will not be reported by a buffer entry: a run of the ring's stream with cause
DETACHED accounts for them (R294, R296). -/
def State.detachBuffer (s : State) (r : Nat) : State :=
  match (s.ring r).buf with
  | some b =>
    if 7 < r then s
    else s.detach { kind := 2, ring := r, cause := 4, merged := false, ref := r, first := b.first, last := b.last,
                    count := b.count, bytes := 0 }
  | none => s

/-- The Reach's page table and position index, which lie in PD77, are lost; the Reach is unconfigured (R275, R428). -/
def State.pagesLost (s : State) : State :=
  let s := s.resetRange 0x5040 0x508F [0x504001, 0x50400A, 0x50400B]
  { s with host := { s.host with pages := [], open_ := none, gapPend := false, reachCmd := none, lastSlot := none,
                                 withdrawing := false, look := none, holds := [] } }

/-- Step 2 of R295: rings, queues, write-back, MSI-X, mailbox, Reach grant, page table, index and holds are cleared. -/
def State.hostClear (s : State) : State :=
  let s := (List.range 10).foldl (fun (s : State) r => s.detachBuffer r) s
  let lost := s.host.statq
  let s := (s.resetRange 0x5020 0x5032 [0x503006, 0x503007]).pagesLost
  let h := s.host
  let h := { h with vecs := [], cqPhase := true, evPhase := true, evOmitted := 0,
                    rings := HostState.reset.rings, statq := [], mbState := 0, mbReq := [], mbResp := [], mbVec := 2,
                    msixTab := [], d3 := false, l1 := false }
  lost.foldl (fun (s : State) x => s.statLost x 2) { s with host := h }

/-- An event of R295 but for the loss of port 1. -/
def State.functionReset (s : State) (cause : Nat) : State :=
  let s := if cause = frDisable || cause = frDown || cause = frPerst then s.linkDown else s
  let e : LogEntry := { seq := s.n 0x780002, code := 0x0704, seg := 0xFF, elem := 0xFF, line := s.n 0x202003,
                        section_ := s.n 0x202004, data := cause }
  let s := if s.pdOn 2 then (s.logEvent e).notify e else s
  let s := (s.bump 0x500009).hostClear
  if cause = frPerst then { s with host := { s.host with perst := true, cfg := [], ptm := false } } else s

/-- D3hot is entered: all DMA stops (R262). -/
def State.d3Entry (s : State) : State := { s with host := { s.host with d3 := true } }

end Sys2Proof.Machine
end

