-- ==== Sys2Proof/Machine/Network.lean ====
section
/-!
DEFINITION. The field network and multi-head lock step (11_field_network_and_lockstep.md, R328 to R353): the port, frames,
the Sluice barrier, position reports and the lock-step evaluation. What needs the dictionary or the run machine is in
Run.lean and Dict.lean.
-/
namespace Sys2Proof.Machine

/-- The state a port with power has by its transmit enable. -/
def State.netPlain (s : State) : Int := if s.b 0x540001 then 2 else 1

/-- Sluice states of `0x5450.02`: 0 OFF, 1 HOLDING, 2 RELEASED, 3 PASSED. -/
def State.sluice (s : State) : Int := s.o 0x545002

/-! ### Frames (R330, R331, R336 to R338) -/

/-- A frame with a valid FCS has been received: it restarts the silence time and ends a link loss. -/
def State.netHeard (s : State) : State :=
  let s := { s with net := { s.net with frameT := s.now } }
  if s.is 0x540002 3 then (s.put 0x540002 s.net.before).raise 0x0903 else s

/-- A frame the device takes. -/
def State.netRx (s : State) : State := s.netHeard.bump 0x54000B

/-- A frame the device ignores; with a bad FCS it is counted as an error only. -/
def State.netIgnored (s : State) (fcsOk : Bool) : State :=
  if s.is 0x540002 0 then s else if fcsOk then s.netHeard.bump 0x540009 else s.sat 0x54000D

/-- The link is declared lost (R330); the loss of port 2 is in Dict.lean. -/
def State.netLost (s : State) : State :=
  let s := { s with net := { s.net with before := s.o 0x540002, cache := [], lostT := some s.now } }
  (s.put 0x540002 3).raise 0x0902

/-- A link loss by the missing BEACON applies to this node. -/
def State.beaconLoss (s : State) : Bool :=
  s.is 0x541001 1 && s.n 0x541002 ≠ 0 && !s.is 0x540002 0 && !s.is 0x540002 3

/-- A link loss by silence applies to this node. -/
def State.silenceLoss (s : State) : Bool := s.n 0x540006 ≠ 0 && !s.is 0x540002 0 && !s.is 0x540002 3

/-- A BEACON has been received, or sent by the coordinator (R329). -/
def State.plcaBeacon (s : State) : State :=
  if s.is 0x541001 1 && !s.is 0x540002 0 then
    { (s.put 0x541007 2) with net := { s.net with beaconT := s.now } }
  else s

/-- An access setting has changed: the node waits for the next BEACON. -/
def State.plcaChanged (s : State) : State := s.put 0x541007 (if s.is 0x541001 1 then 1 else 0)

/-- Transmit has been enabled or disabled. A frame already queued is not sent after a disable (log entry 31). -/
def State.netEnable (s : State) (on : Bool) : State :=
  let s := s.putB 0x540001 on
  let s := if s.is 0x540002 0 then s
    else if s.is 0x540002 3 then { s with net := { s.net with before := s.netPlain } }
    else s.put 0x540002 s.netPlain
  if on then { s with net := { s.net with txOff := false } }
  else { s with net := { s.net with txq := [], txOff := false, copies := none } }

/-- An ENABLE_TX frame (R337). -/
def State.enableTx (s : State) (serial src seq : Nat) : State :=
  if s.is 0x540002 0 then s
  else if serial ≠ s.n 0x100003 then s.netIgnored true
  else
    let s := (s.netRx.netEnable true).put 0x540005 src
    let s := s.queueFrame ⟨2, src, pehel 0x8B seq 0 (s.n 0x100003) ++ List.replicate 12 0⟩
    s.raise 0x0901 src

/-- The next frame leaves, in the order of kinds (R338). A lost link does not change the transmit enable (R330): the port still
sends. -/
def State.frameTransmit (s : State) (collisions : Nat) : State :=
  let q := s.net.txq
  match [0, 1, 2, 3].findSome? fun k => q.findIdx? (·.kind = k) with
  | none => s
  | some i =>
    if s.is 0x540002 0 || !s.b 0x540001 then s
    else match q[i]? with
      | none => s
      | some f =>
        let s := { s with net := { s.net with txq := q.eraseIdx i } }
        let s := ((s.bump 0x54000C).sat 0x54000E collisions).emit (.frame f.kind f.dest f.body)
        if s.net.txOff && !s.net.txq.any (·.kind = 2) then s.netEnable false else s

/-- The response to a request of the partner: queued, and kept for repeats (R335, R336). -/
def State.netRespond (s : State) (typ seq : Nat) (msg : List Nat) : State :=
  let s := s.queueFrame ⟨2, s.n 0x540005, msg⟩
  { s with net := { s.net with cache := ((seq, typ, msg) :: s.net.cache).take 16 } }

/-! ### The Sluice barrier (R340 to R345) -/

/-- Pull SLUICE low, or release it. -/
def State.pull (s : State) (low : Bool) : State :=
  { (if low then s.put 0x545005 0 else s) with net := { s.net with low, pullAt := none } }

/-- A write of the participation: status and state. -/
def State.sluiceJoin (s : State) (on : Bool) : Nat × State :=
  if on then
    if s.is 0x545002 0 then (stOk, ((s.put 0x545001 1).put 0x545002 1).pull true) else (stOk, s.put 0x545001 1)
  else if 2 ≤ s.sluice then (stState, s)
  else (stOk, ((s.puts [(0x545001, 0), (0x545002, 0), (0x545005, 1)])).pull false)

/-- A barrier commit has been accepted: SLUICE is released and the timer runs (R341). -/
def State.barrierRelease (s : State) (port epoch : Nat) : State :=
  let b : Barrier := { port, epoch, deadline := s.now + s.n 0x545003 * tickMs, apply := none }
  let s := (s.put 0x545002 2).pull false
  { s with net := { s.net with barrier := some b } }

/-- The pending entry of a barrier commit is withdrawn with its epoch (R317). -/
def State.barrierWithdraw (s : State) : State :=
  match s.net.barrier with
  | none => s
  | some b =>
    let s := { s with
      dict := { s.dict with commits := s.dict.commits.filter fun c => c.epoch ≠ b.epoch }
      net := { s.net with barrier := none } }
    ((s.puts [((0x7C10 + b.port) * 256 + 1, 0), ((0x7C10 + b.port) * 256 + 2, 0), (0x545002, 1)]).showStaging).pull true

/-- The head aborts its barrier: cause 1 timer, 2 hand-over, 3 host (R343). -/
def State.barrierAbort (s : State) (cause : Nat) : State :=
  match s.net.barrier with
  | none => s
  | some b =>
    let s := s.barrierWithdraw
    let body := pehel 0x0A s.net.seq 0 (s.n 0x100003) ++ leBytes 4 (s.n 0x808002) ++ leBytes 4 b.epoch
      ++ leBytes 4 (b.apply.getD 0xFFFFFFFF) ++ [cause, 0, 0, 0]
    let s := (s.queueFrame ⟨0, s.n 0x540004, body⟩).nextSeq
    let copies := if s.b 0x540001 then some (AbortCopies.mk 2 (s.now + 500 * tickUs) body) else none
    let s := { s with net := { s.net with copies } }
    (s.bump 0x545008).raise 0x0906 (shl b.epoch 8 + cause : Nat)

/-- The barrier timer expires before the pass. -/
def State.barrierExpiry (s : State) : State :=
  match s.net.barrier with
  | some b => if s.is 0x545002 2 then (s.atTick b.deadline).barrierAbort 1 else s
  | none => s

/-- The next copy of an abort. -/
def State.abortRepeat (s : State) : State :=
  match s.net.copies with
  | some c =>
    let s := (s.atTick c.next).queueFrame ⟨0, s.n 0x540004, c.body⟩
    { s with net := { s.net with copies := if c.left ≤ 1 then none else some ⟨c.left - 1, c.next + 500 * tickUs, c.body⟩ } }
  | none => s

/-- A received BARRIER_ABORT (R344). -/
def State.abortReceived (s : State) (serial seq system : Nat) : State :=
  if s.is 0x540002 0 then s
  else
    let s := s.netRx
    if system ≠ s.n 0x808002 then s
    else
      let known := s.net.aborts.contains (serial, seq)
      let s := { s with net := { s.net with aborts := ((serial, seq) :: s.net.aborts.filter (· ≠ (serial, seq))).take 16 } }
      if known || s.sluice < 2 then s.bump 0x54500A
      else (s.barrierWithdraw.bump 0x545009).raise 0x0908 serial

/-- SLUICE has been high for 2 us: the barrier passes with the apply section `sect` (R342). -/
def State.barrierPass (s : State) (sect : Nat) : State :=
  match s.net.barrier with
  | none => s
  | some b =>
    let s := { s with
      dict := { s.dict with commits := s.dict.commits.map fun (c : Commit) => if c.epoch = b.epoch then { c with at_ := some sect } else c }
      net := { s.net with barrier := some { b with apply := some sect }, pullAt := some (s.now + 10 * tickUs) } }
    let k := (0x7C10 + b.port) * 256
    ((s.puts [(k + 1, 0), (k + 2, 0), (0x545002, 3), (0x545005, 1), (0x545006, sect)]).bump 0x545007).raise 0x0904 sect

/-- SLUICE is pulled low again 10 us after the pass. -/
def State.sluicePull (s : State) : State :=
  match s.net.pullAt with
  | some t => (s.atTick t).pull true
  | none => s

/-! ### Position reports (R348) -/

/-- The head numbers its lines locally (R348, RFLAGS bit 0). -/
def State.localNumbering (s : State) : Bool := s.b 0x2C1801 || s.tmode = 2 || s.tmode = 3

/-- The body of a POSREPORT at the boundary of section `sect`, line `line`, position `pos`. -/
def State.reportBody (s : State) (sect line : Nat) (pos : Int) : List Nat :=
  leBytes 8 line ++ leBytes 8 (wrapU 64 pos) ++ leBytes 4 sect ++ leBytes 4 (s.n 0x7C0007) ++ leBytes 4 (s.n 0x200802)
    ++ leBytes 4 (s.n 0x200902) ++ leBytes 4 (s.n 0x201008) ++ leBytes 4 (s.n 0x808002)
    ++ [s.n 0x808001, s.n 0x204002, (if s.localNumbering then 1 else 0) + (if s.b 0x544006 then 2 else 0), 0]
    ++ leBytes 8 (s.n 0x202005)

/-- At a section boundary: a report is queued while enabled, and the evaluation becomes due (R348, R349). -/
def State.reportBoundary (s : State) (sect line : Nat) (pos : Int) : State :=
  let e : LockEval := { sect, due := s.now + s.n 0x544002 * tickUs, line, pos, pitch := s.pitch }
  let s := { s with net := { s.net with eval := some e } }
  if s.b 0x544001 && s.b 0x540001 && s.epochSet then
    let s := s.queueFrame ⟨1, s.n 0x540004, pehel 0x09 s.net.repSeq 0 (s.n 0x100003) ++ s.reportBody sect line pos⟩
    { (s.bump 0x54400D) with net := { s.net with repSeq := (s.net.repSeq + 1) % 65536 } }
  else s

/-- The objects of a peer's entry. -/
def State.peerObjs (s : State) (i : Nat) (p : Peer) : State :=
  let k := (0x5460 + i) * 256
  s.puts [(k + 1, p.serial), (k + 2, p.head), (k + 3, p.sect), (k + 4, p.line), (k + 5, p.pos), (k + 6, p.epoch),
    (k + 7, p.missing)]

/-- The peer table becomes `l`. -/
def State.setPeers (s : State) (l : List Peer) : State :=
  let s := { s with net := { s.net with peers := l } }
  (List.range 16).foldl (fun s i => match l[i]? with
    | some p => s.peerObjs i p
    | none => s) s

/-- A received POSREPORT: the sender's serial and the body of R348. -/
def State.reportReceived (s : State) (serial : Nat) (body : List Nat) : State :=
  if s.is 0x540002 0 then s
  else
    let s := s.netRx
    let old := s.net.peers.find? (·.serial = serial)
    let p : Peer := {
      serial, head := fieldAt body 40 1, sect := fieldAt body 16 4, line := fieldAt body 0 8, pos := sfieldAt body 8 8,
      epoch := fieldAt body 20 4, pitch := fieldAt body 44 8, flags := fieldAt body 42 1,
      missing := (old.map (·.missing)).getD 0 }
    if fieldAt body 36 4 ≠ s.n 0x808002 || serial = s.n 0x100003 then s
    else if old.isSome then s.setPeers (s.net.peers.map fun q => if q.serial = serial then p else q)
    else if 16 ≤ s.net.peers.length then s.bump 0x54400F
    else s.setPeers (s.net.peers ++ [p])

/-! ### Lock step (R349, R350) -/

/-- A participant: LINE, PITCH, POS. -/
structure Head where
  line : Nat
  pitch : Nat
  pos : Int
  deriving DecidableEq, Repr

/-- The majority of the participants: the group with more than half, all of them when fewer than three. -/
def majority (l : List Head) : Option (List Head) :=
  l.findSome? fun h =>
    let g := l.filter fun x => x.line = h.line && x.pitch = h.pitch
    if (if l.length < 3 then g.length = l.length else l.length < 2 * g.length) then some g else none

/-- Lower median of positions. -/
def medianPos (l : List Head) : Int := ((l.map (·.pos)).insertionSort (· ≤ ·)).getD ((l.length - 1) / 2) 0

/-- Peers that sent no report of section `k` are missing; the limit is reported once. -/
def State.peersMissing (s : State) (k : Nat) : State :=
  let l := s.net.peers.map fun p => { p with missing := if p.sect = k then 0 else min 255 (p.missing + 1) }
  let hit := l.filter fun p => p.sect ≠ k && (p.missing : Int) = s.o 0x544004
    && !(s.net.peers.any fun q => q.serial = p.serial && q.missing = p.missing)
  hit.foldl (fun s p => s.raise 0x0907 p.serial) (s.setPeers l)

/-- A lock-step fault: cause and signed difference. -/
def State.lockFault (s : State) (cause : Nat) (diff : Int) : State :=
  if s.b 0x544006 then s
  else ((s.puts [(0x544006, 1), (0x544007, cause)]).bump 0x54400E).raise 0x0905 (cause + 256 * diff)

/-- Lock step is evaluated; whether a fault is found is returned with the state. -/
def State.lockstep (s : State) : State × Bool :=
  match s.net.eval with
  | none => (s, false)
  | some e =>
    let s := { (s.atTick e.due) with net := { s.net with eval := none } }
    if s.localNumbering then (s, false)
    else
      let s := s.peersMissing e.sect
      let own : Head := ⟨e.line, e.pitch, e.pos⟩
      let l := own :: ((s.net.peers.filter fun p => p.sect = e.sect && !p.flags.testBit 0).map fun p =>
        Head.mk p.line p.pitch p.pos)
      let s := s.puts [(0x544009, e.sect), (0x54400A, l.length)]
      match majority l with
      | none => ((s.put 0x54400B 0).lockFault 4 0, true)
      | some g =>
        let diff := wrapS 64 (own.pos - medianPos g)
        let m := g.headD own
        let s := s.puts [(0x54400B, g.length), (0x54400C, diff)]
        if own.line ≠ m.line then (s.lockFault 1 ((own.line : Int) - m.line), true)
        else if own.pitch ≠ m.pitch then (s.lockFault 3 ((own.pitch : Int) - m.pitch), true)
        else if s.o 0x544003 * 65536 < diff.natAbs then (s.lockFault 2 diff, true)
        else (s, false)

end Sys2Proof.Machine
end

