-- ==== Sys2Proof/Machine/TwoWire.lean ====
section
/-!
DEFINITION. The two-wire ports (R354 to R382): the bus side of the target port, and the controller port with its jobs
and bus clears. What the target port asks of the dictionary is in Machine/TwtPort.lean.
-/
namespace Sys2Proof.Machine

/-! ### Target port (R356 to R372) -/

/-- CRC-8 of one byte, polynomial 0x07 (R365). -/
def crc8Byte (crc b : Nat) : Nat :=
  (List.range 8).foldl (fun (c : Nat) _ => if 128 ≤ c then ((2 * c) ^^^ 7) % 256 else 2 * c) ((crc ^^^ b) % 256)

/-- The check byte over the bytes of a transaction in bus order (R365). -/
def crc8 (bs : List Nat) : Nat := bs.foldl crc8Byte 0

/-- Address byte of a write; a read's is one more (R355). -/
def State.twtAddr (s : State) : Nat := 2 * s.n 0x580001

/-- The port waits in standby for its address (R360). -/
def State.twtStandby (s : State) : Bool := s.is 0x152005 4

/-- The second the always-on clock counts. -/
def State.second (s : State) : Nat := s.now / tickS

/-- A bus error (R358); the first of a second raises event 0x0A01. -/
def State.twtBusError (s : State) : State :=
  let s := s.bump 0x580006
  if s.two.errSec = some s.second then s
  else { s with two := { s.two with errSec := some s.second } }.raise 0x0A01

/-- A write is discarded (R358, R366). -/
def State.twtDiscard (s : State) : State := s.bump 0x58000A

/-- A request with a wrong or missing check byte is discarded (R365). -/
def State.twtCheckError (s : State) : State :=
  let s := ({ s with two := { s.two with twState := 3 } }.sat 0x580005).twtDiscard
  if s.two.chkSec = some s.second then s
  else { s with two := { s.two with chkSec := some s.second } }.raise 0x0A02

/-- The check byte follows while the check is enabled (R365). -/
def State.withCheck8 (s : State) (onBus : List Nat) (bs : List Nat) : List Nat :=
  if s.b 0x580003 then bs ++ [crc8 (onBus ++ bs)] else bs

/-- The device answers `n` bytes of a block; bytes beyond it read 0xFF (R364). -/
def State.twtSend (s : State) (bs : List Nat) (n : Nat) : State :=
  s.emit (.twt ((bs ++ List.replicate n 0xFF).take n))

/-- A read command of command mode: the code alone, a repeated START with the read address, and the block (R362). -/
def State.twtRead (s : State) (code : Nat) (block : List Nat) (n : Nat) : State :=
  s.twtSend (s.withCheck8 [s.twtAddr, code, s.twtAddr + 1] block) n

/-- A stretch is abandoned after 25 ms (R359). -/
def State.twtAbandon (s : State) : State := (s.bump 0x580007).raise 0x0A03

/-- The port state falls back to IDLE: a reset of the port or its loss (R364). -/
def State.twtClear (s : State) : State := { s with two := { s.two with twState := 0, twResp := [] } }

/-! ### Controller port (R373 to R380) -/

/-- A sub-index of job `j`. -/
def jobKey (j k : Nat) : Nat := (0x5880 + j) * 256 + k

/-- Port states (`0x5840.05`). -/
def tcOff : Int := 0
/-- `IDLE`. -/
def tcIdle : Int := 1
/-- `BUSY`. -/
def tcBusy : Int := 2
/-- `CLEARING`. -/
def tcClearing : Int := 3
/-- `STUCK_WAIT`. -/
def tcStuckWait : Int := 4
/-- `FAILED`. -/
def tcFailed : Int := 5

/-- Job states (`.02`): `IDLE`. -/
def jbIdle : Int := 0
/-- `WAITING`. -/
def jbWaiting : Int := 1
/-- `READY`. -/
def jbReady : Int := 2
/-- `RUNNING`. -/
def jbRunning : Int := 3

/-- The port's state. -/
def State.twc (s : State) : Int := s.o 0x584005

/-- A job's state. -/
def State.job (s : State) (j : Nat) : Int := s.o (jobKey j 2)

/-- A job's kind reads bytes (R374). -/
def State.jobReads (s : State) (j : Nat) : Bool := s.o (jobKey j 4) ≠ 0

/-- A job ends with a status: the first of a run of failures raises event 0x0A06 (R376). -/
def State.jobStatus (s : State) (j status : Nat) : State :=
  let failed : Bool := 2 ≤ status && status ≤ 7
  let was := s.n (jobKey j 0x0A)
  let s := (s.put (jobKey j 0x0A) status).put (jobKey j 0x0E) (s.o 0x202003)
  let s := if failed then s.bump (jobKey j 0x0C) else s
  if failed && was ≤ 1 then s.raise 0x0A06 j else s

/-- The state a job returns to when it is done: an armed job waits for its next trigger (R375). -/
def State.jobRest (s : State) (j : Nat) : Int := if s.is (jobKey j 5) 0 || s.two.cancel then jbIdle else jbWaiting

/-- The running transaction is over: the job rests and the bus is free. -/
def State.jobEnd (s : State) (j status : Nat) : State :=
  let s := ((s.jobStatus j status).bump (jobKey j 0x0B)).put (jobKey j 2) (s.jobRest j)
  let s := { s with two := { s.two with running := none, cancel := false, nacks := 0,
                                        losses := mapDel s.two.losses j } }
  if s.twc = tcBusy then s.put 0x584005 tcIdle else s

/-- A trigger of a job (R375). -/
def State.jobTrigger (s : State) (j : Nat) : State :=
  if s.job j = jbWaiting then s.put (jobKey j 2) jbReady
  else if s.job j = jbIdle then s
  else (s.bump (jobKey j 0x0D)).raiseFirst 0x0A0A j j

/-- Section boundary: SECTION jobs become READY (R375). -/
def State.twcBoundary (s : State) : State :=
  (List.range 16).foldl (fun (s : State) j => if s.is (jobKey j 5) 2 then s.jobTrigger j else s) s

/-- A bus clear begins (R379); a running job ends BUS_STUCK. -/
def State.clearBegin (s : State) : State :=
  let s := match s.two.running with
    | some j => s.jobEnd j 6
    | none => s
  { s with two := { s.two with attempts := 0 } }.put 0x584005 tcClearing

/-- The port is enabled and powered: it waits for both lines to be high, or first clears the bus an interrupted byte
may have left held (R373, R379). -/
def State.twcUp (s : State) : State :=
  if !s.b 0x584001 || !s.pdOn 11 then s
  else if s.two.interrupted then { s with two := { s.two with interrupted := false } }.clearBegin
  else s.put 0x584005 tcBusy

/-- The port goes off: the running transaction is ABORTED (R376). -/
def State.twcDown (s : State) : State :=
  let s := match s.two.running with
    | some j => s.jobEnd j 9
    | none => s
  s.put 0x584005 tcOff

/-- A write of the enable (R373). -/
def State.twcEnable (s : State) (on : Bool) : State :=
  let was := s.b 0x584001
  let s := s.putB 0x584001 on
  if on && !was then s.twcUp else if was && !on then s.twcDown else s

/-- PD11 sheds: the running job is ABORTED, every job becomes IDLE, and PD0 records an interrupted byte
(R376, R379, R381). -/
def State.twcShed (s : State) : State :=
  let cut := s.two.running.isSome
  let s := s.twcDown
  let s := { s with two := { s.two with interrupted := s.two.interrupted || cut, nextT := [], losses := [] } }
  (List.range 16).foldl (fun (s : State) j => s.put (jobKey j 2) jbIdle) s

/-- Both lines have been high for 50 µs (R373). -/
def State.twcReady (s : State) : State :=
  if s.twc = tcBusy && s.two.running.isNone then s.put 0x584005 tcIdle else s

/-- RUN (R374, R375). -/
def State.jobRun (s : State) (j : Nat) : Nat × State :=
  if s.jobReads j && s.is (jobKey j 8) 0 then (stConstraint, s)
  else if s.twc = tcOff || s.twc = tcFailed then (stState, s)
  else if s.job j ≠ jbIdle then (stOk, if s.is (jobKey j 5) 2 then s else s.jobTrigger j)
  else if s.is (jobKey j 5) 2 then (stOk, s.put (jobKey j 2) jbWaiting)
  else
    let s := s.put (jobKey j 2) jbReady
    (stOk, if s.is (jobKey j 5) 1 then
      { s with two := { s.two with nextT := mapPut s.two.nextT j (s.now + s.n (jobKey j 6) * tickMs) } } else s)

/-- CANCEL (R375). -/
def State.jobCancel (s : State) (j : Nat) : State :=
  let s := { s with two := { s.two with nextT := mapDel s.two.nextT j } }
  if s.job j = jbRunning then { s with two := { s.two with cancel := true } }
  else
    let s := if s.job j = jbReady then s.jobStatus j 8 else s
    { s.put (jobKey j 2) jbIdle with two := { s.two with losses := mapDel s.two.losses j } }

/-- A write of a job's command. -/
def State.jobCommand (s : State) (j v : Nat) : Nat × State := if v = 1 then s.jobRun j else (stOk, s.jobCancel j)

/-- A job's period expires (R375). -/
def State.jobPeriodic (s : State) (j : Nat) : State :=
  match mapGet s.two.nextT j with
  | some t =>
    if t ≤ s.now then
      { s with two := { s.two with nextT := mapPut s.two.nextT j (t + s.n (jobKey j 6) * tickMs) } }.jobTrigger j
    else s
  | none => s

/-- The transaction of a job on the bus (R374). -/
def State.jobBus (s : State) (j : Nat) : State :=
  s.emit (.twc (s.n (jobKey j 3)) (if s.is (jobKey j 4) 1 then [] else s.blob (jobKey j 7))
    (if s.jobReads j then s.n (jobKey j 8) else 0))

/-- The bus is free: the lowest READY job starts (R375). -/
def State.jobStart (s : State) : State :=
  if s.twc ≠ tcIdle then s
  else match (List.range 16).find? (fun j => s.job j = jbReady) with
    | none => s
    | some j =>
      let s := (s.put (jobKey j 2) jbRunning).put 0x584005 tcBusy
      ({ s with two := { s.two with running := some j, cancel := false, nacks := 0 } }).jobBus j

/-- The running transaction ends: 0 completed, 1 address NACKed, 2 a write byte NACKed (R376). -/
def State.jobComplete (s : State) (result : Nat) (data : List Nat) : State :=
  match s.two.running with
  | none => s
  | some j =>
    if result = 0 then
      let s := if s.jobReads j then s.putBlob (jobKey j 9) (data.take (s.n (jobKey j 8))) else s
      s.jobEnd j 1
    else if result = 1 && s.two.nacks < s.n 0x58400A then
      { s with two := { s.two with nacks := s.two.nacks + 1 } }.jobBus j
    else s.jobEnd j (if result = 1 then 2 else 3)

/-- Arbitration is lost (R377). -/
def State.jobArbLost (s : State) : State :=
  match s.two.running with
  | none => s
  | some j =>
    let s := s.bump 0x584008
    let k := (mapGet s.two.losses j).getD 0 + 1
    if s.n 0x584004 < k then s.jobEnd j 4
    else if s.two.cancel then
      let s := (s.jobStatus j 8).put (jobKey j 2) jbIdle
      { s with two := { s.two with running := none, cancel := false, losses := mapDel s.two.losses j } }.put 0x584005 tcIdle
    else
      let s := s.put (jobKey j 2) jbReady
      { s with two := { s.two with running := none, losses := mapPut s.two.losses j k } }.put 0x584005 tcIdle

/-- A target holds SCL beyond 25 ms (R378). -/
def State.jobStretch (s : State) : State :=
  match s.two.running with
  | none => s
  | some j => ((s.jobEnd j 5).bump 0x584009).clearBegin

/-- The port becomes FAILED: every READY or WAITING job ends PORT_FAILED (R379). -/
def State.twcFail (s : State) : State :=
  let s := (s.put 0x584005 tcFailed).raise 0x0A09
  (List.range 16).foldl (fun (s : State) j =>
    if s.job j = jbReady || s.job j = jbWaiting then (s.jobStatus j 7).put (jobKey j 2) jbIdle else s)
    { s with two := { s.two with nextT := [], losses := [] } }

/-- A clear attempt ends, with SDA high or still low (R379). -/
def State.busClear (s : State) (high : Bool) : State :=
  if s.twc ≠ tcClearing then s
  else if high then
    ({ s with two := { s.two with attempts := 0, stuck := false } }.put 0x584005 tcIdle |>.bump 0x584007).raise 0x0A07
  else
    let k := s.two.attempts + 1
    let s := { s with two := { s.two with attempts := k, stuck := true, waitT := s.now + 10 * tickMs } }
    let s := if k = 1 then s.raise 0x0A08 else s
    if k < 4 then s.put 0x584005 tcStuckWait else s.twcFail

/-- The wait between attempts ends (R379). -/
def State.stuckWaitEnd (s : State) : State :=
  if s.twc = tcStuckWait then (s.atTick s.two.waitT).put 0x584005 tcClearing else s

/-- A write of 0x01 to `0x5840.06` (R379). -/
def State.clearFailure (s : State) : State := if s.twc = tcFailed then s.clearBegin else s

/-- SDA is found low while the bus should be idle (R379). -/
def State.sdaLow (s : State) : State :=
  if s.twc = tcIdle || (s.twc = tcBusy && s.two.running.isNone) then s.clearBegin else s

end Sys2Proof.Machine
end

