-- ==== Sys2Proof/Machine/Domains.lean ====
section
/-!
DEFINITION. Power domains (R427 to R431): what each domain requires, its holders and its state machine, and what its
units do when it turns on or off.
-/
namespace Sys2Proof.Machine

/-- A sub-index of domain `n`. -/
def domKey (n j : Nat) : Nat := (0x1410 + n) * 256 + j

/-- Domain states (`.02`): `OFF`. -/
def pdOff : Int := 0
/-- `STARTING`. -/
def pdStarting : Int := 1
/-- `ON`. -/
def pdOnState : Int := 2
/-- `STOPPING`. -/
def pdStopping : Int := 3
/-- `PENDING_ON`. -/
def pdPendingOn : Int := 4
/-- `PENDING_OFF`. -/
def pdPendingOff : Int := 5
/-- `ABSENT`. -/
def pdAbsent : Int := 6

/-- A domain's state. -/
def State.pd (s : State) (n : Nat) : Int := s.o (domKey n 2)

/-- The Millrace half of a segment: PD3 west, PD4 east (R286). -/
def State.halfOf (s : State) (g : Nat) : Nat := if g < (if s.variant = 4 then 8 else 12) then 3 else 4

/-- The domains a domain requires (R427). -/
def State.requires (s : State) (n : Nat) : List Nat :=
  if 16 ≤ n && n ≤ 63 then if n % 2 = 0 then [74, 75] else [76, s.halfOf ((n - 17) / 2)]
  else if 64 ≤ n && n ≤ 70 then [74, 76]
  else if n = 2 || n = 8 then [76]
  else if n = 3 || n = 4 || n = 6 || n = 71 || n = 78 then [5]
  else if n = 5 then [2, 76]
  else if n = 7 then [6]
  else if n = 9 then [2, 8]
  else if n = 10 || n = 11 || n = 72 || n = 73 || n = 79 then [2]
  else if n = 77 then [9]
  else []

/-- The domain's control is Device or Never off (R427). -/
def isDeviceDomain (n : Nat) : Bool := n = 0 || n = 1 || n = 14 || n = 15

/-- The domain belongs to an absent unit of the variant (R8). -/
def State.domainAbsent (s : State) (n : Nat) : Bool :=
  (s.variant = 2 && n = 70) || (s.variant = 3 && n = 78)
    || (s.variant = 4 && ((48 ≤ n && n ≤ 63) || n = 68 || n = 69))

/-- A debug session is open (R470). -/
def State.session (s : State) : Bool := s.n 0x682003 ≠ 0 || s.is 0x682001 2

/-- The power state lets device functions run domains: not on the store and not in standby (R440, R444). -/
def State.mayUse (s : State) : Bool := !s.is 0x152005 2 && !s.is 0x152005 4

/-- A device-controlled domain has a user (R427). -/
def State.deviceUse (s : State) (n : Nat) : Bool :=
  if !s.mayUse then false
  else if n = 1 then !s.otp.queue.isEmpty || s.otp.reading.isSome || s.boot.step = 1
  else if n = 14 then
    !s.pow.minimal && (s.b 0x243001 || s.o 0x204801 ≠ 0 || s.tmode = 2 || s.tmode = 4 || s.is 0x201801 2 || s.b 0x545001)
  else if n = 15 then s.session
  else false

/-! ### What units do with their domain (R428) -/

/-- The defaults of the variant's objects (R8). -/
def State.variantInit (s : State) : State :=
  (variantDefaults s.variant.toNat).foldl (fun (s : State) (d : Nat × Nat × Nat × Int) =>
    (List.range d.2.1).foldl (fun (s : State) j => s.put ((d.1 + j) * 256 + d.2.2.1) d.2.2.2) s) s

/-- The converter factors of a segment come from the calibration set, neutral when none is in force (R428). -/
def State.reloadFactors (s : State) (g : Nat) : State :=
  let slot := s.cal.slots.getD (s.n 0x320006) CalSlot.erased
  (List.range 4).foldl (fun (s : State) b =>
    let k := (0x3300 + 4 * g + b) * 256
    let v := if slot.st = 0 then (mapGet slot.vals k).getD (blobDefault k) else blobDefault k
    s.putBlob k v) s

/-- The units of a domain begin from reset: they take the defaults of their chapters. -/
def State.unitReset (s : State) (n : Nat) : State :=
  if n = 2 then { s with boot := { s.boot with beat := s.now } }.releaseHeld
  else if n = 5 then
    let c := s.conf
    { (s.resetRange 0x3800 0x382F).variantInit with conf :=
      { c with streams := ConfState.reset.streams, least := 32768, books := [] } }
  else if n = 6 then { s.resetRange 0x3910 0x393F with conf := { s.conf with aux := ConfState.reset.aux, auxServed := 3 } }
  else if n = 7 then s.resetRange 0x3900 0x3900
  else if n = 9 then s.hostClear
  else if n = 10 then { s.resetRange 0x5400 0x54FF with net := NetState.reset }
  else if n = 11 then s.twcUp
  else if n = 12 then s.adcUp.chargerEval
  else if n = 71 then { s.resetRange 0x3400 0x341F with pipe := { s.pipe with stats := [], closing := [] } }
  else if n = 73 then { s with rcb := { s.rcb with sums := [], elig := [], closed := none } }
  else if n = 78 then { s.resetRange 0x4800 0x481F with eng := { s.eng with queue := [], held := [] } }
  else if 16 ≤ n && n ≤ 63 then
    let g := (n - 16) / 2
    if n % 2 = 0 then s.reloadFactors g else ((s.linkRestored g).engPowerUp g).storesLost g
  else s

/-- The units of a domain run their off sequences, and its power goes. -/
def State.unitOff (s : State) (n : Nat) : State :=
  if n = 2 then
    { s.resetRange 0x7C10 0x7C13 with
      dict := { s.dict with log := [], txns := DictState.reset.txns, commits := [], asm := DictState.reset.asm }
      eng := { s.eng with store := none, loading := [], loadPend := false } }
  else if n = 7 then s.put 0x390005 0
  else if n = 8 then s.linkDown
  else if n = 10 then s.put 0x540002 0
  else if n = 11 then s.twcShed
  else if n = 12 then s.adcDown.chargerEval
  else if n = 13 then s.put 0x151001 0
  else if n = 70 then s.wAbandon
  else if n = 77 then s.pagesLost
  else if n = 72 then
    if s.is 0x328012 1 then { s with cal := { s.cal with accs := [], missing := [0x0A, 0x0B, 0x0C, 0x0D, srcM] } } else s
  else if 16 ≤ n && n ≤ 63 && n % 2 = 1 then ((s.engPowerDown ((n - 16) / 2)).storesLost ((n - 16) / 2)).stopLost ((n - 16) / 2)
  else s

/-! ### The machine (R430, R431) -/

/-- The bit maps of domains on and pending (`0x1400.01` to `.04`). -/
def State.showDomains (s : State) : State :=
  let map (lo hi : Nat) (f : Nat → Bool) : Nat :=
    ((List.range (hi - lo)).filter fun i => f (lo + i)).foldl (fun (m : Nat) i => m + 2 ^ i) 0
  let on (n : Nat) : Bool := s.pd n = pdOnState
  let pend (n : Nat) : Bool := s.pd n = pdPendingOn || s.pd n = pdPendingOff
  s.puts [(0x140001, map 0 64 on), (0x140002, map 64 80 on), (0x140003, map 0 64 pend), (0x140004, map 64 80 pend)]

/-- A domain's machine meets its holders: it starts with the first and stops with the last. -/
def State.domainStep (s : State) (n : Nat) : State :=
  let held := s.n (domKey n 3) ≠ 0
  let st := s.pd n
  if n = 0 || st = pdAbsent then s
  else if held && st = pdOff then (s.put (domKey n 2) pdStarting).bump (domKey n 5)
  else if held && st = pdStopping then s.put (domKey n 2) pdPendingOn
  else if held && st = pdPendingOff then s.put (domKey n 2) pdStarting
  else if !held && st = pdOnState then (s.put (domKey n 2) pdStopping).unitOff n
  else if !held && st = pdStarting then s.put (domKey n 2) pdPendingOff
  else if !held && st = pdPendingOn then s.put (domKey n 2) pdStopping
  else s

/-- Holder bits 2 and 3 of a domain from its users. One that is stopping keeps what it requires on, and revives
nothing. -/
def State.domainHolders (s : State) (n : Nat) : State :=
  let used := (List.range 80).any fun m =>
    (s.requires m).contains n && s.pd m ≠ pdOff && s.pd m ≠ pdAbsent && (s.pd m ≠ pdStopping || s.pd n = pdOnState)
  let h := s.n (domKey n 3)
  let h2 := if isDeviceDomain n then (if s.deviceUse n then 4 else 0) else h &&& 4
  s.put (domKey n 3) ((h &&& 3) ||| h2 ||| (if used then 8 else 0) : Nat)

/-- One pass over the domains. -/
def State.domainPass (s : State) : State :=
  ((List.range 79).map (· + 1)).foldl (fun (s : State) n => (s.domainHolders n).domainStep n) s

/-- Holders and states settle: requirements are at most five deep. -/
def State.settleDomains (s : State) : State := ((s.domainPass.domainPass.domainPass.domainPass.domainPass).domainPass).showDomains

/-- Set or clear a holder bit of domains, and let the machine settle. -/
def State.hold (s : State) (bit : Nat) (on : Bool) (ns : List Nat) : State :=
  (ns.foldl (fun (s : State) n => if on then s.setBits (domKey n 3) bit else s.clrBits (domKey n 3) bit) s).settleDomains

/-- Acquisition holds the domains its sources use, until IDLE (R430). -/
def State.holdImaging (s : State) (on : Bool) : State :=
  if on then s.hold 2 true s.imagingDomains else s.hold 2 false (List.range 80)

/-- The domains a rail feeds, in the order of R432; the supplies of I/O and of always-on logic feed no domain of their own.
DEDUCED: VIN18 feeds the core, so that it feeds every domain but PD0 and PD13 (log entry 62). -/
def railDomains (rail : Nat) : List Nat :=
  if rail = 0 then ((List.range 80).filter fun n => n ≠ 0 && n ≠ 13)
  else if rail = 1 then [74] ++ (List.range 7).map (64 + ·)
  else if rail = 2 then [75] ++ (List.range 24).map (16 + 2 * ·)
  else if rail = 5 || rail = 6 then [7, 8]
  else if rail = 7 then [7]
  else []

/-- Domains with those that require one of them: a domain cannot stay on without what it requires (log entry 62). -/
def State.withDependents (s : State) (ns : List Nat) : List Nat :=
  let more (l : List Nat) : List Nat := (List.range 80).filter fun n => l.contains n || (s.requires n).any l.contains
  more (more (more (more ns)))

/-- A host may request a domain: the rails that feed it are good and their latches clear (R432). -/
def State.railAllows (s : State) (n : Nat) : Bool :=
  (List.range 8).all fun r => !(railDomains r).contains n || (s.bit 0x148001 r && !s.bit 0x148002 r)

/-- A host request (R430): status and state. -/
def State.domainRequest (s : State) (n v : Nat) : Nat × State :=
  if s.domainAbsent n then (stAbsent, s)
  else if isDeviceDomain n && v = 1 then (stAccess, s)
  else if s.is 0x102001 dsHoldup || s.is 0x102001 dsShutdown then (stState, s)
  else if v = 1 && !s.railAllows n then (stState, s)
  else if v = 0 && n = 13 && s.o 0x150001 ≠ 0 then (stState, s)
  else if v = 0 && n = 73 && s.o 0x2C1001 ≠ 0 then (stState, s)
  else if isDeviceDomain n then (stOk, s)
  else (stOk, (s.put (domKey n 1) v).hold 1 (v = 1) [n])

/-- A domain finishes starting (R431); a required domain must be on first. -/
def State.domainStarted (s : State) (n : Nat) : State :=
  let ready := (s.requires n).all fun m => s.pdOn m || (n = 9 && m = 2)
  if s.pd n = pdStarting && ready then (s.put (domKey n 2) pdOnState).unitReset n |>.settleDomains
  else if s.pd n = pdPendingOff then ((s.put (domKey n 2) pdStopping).settleDomains)
  else s

/-- A domain misses its start max (R431). -/
def State.domainTimeout (s : State) (n : Nat) : State :=
  if s.pd n ≠ pdStarting then s
  else
    let s := (((s.put (domKey n 2) pdOff).bump (domKey n 4)).bump 0x140006).raise 0x0D0A n
    let s := s.put (domKey n 3) 0
    (s.put (domKey n 1) 0).settleDomains

/-- The power of a stopping domain is removed (R431). -/
def State.domainStopped (s : State) (n : Nat) : State :=
  if s.pd n = pdStopping then (s.put (domKey n 2) pdOff).settleDomains
  else if s.pd n = pdPendingOn then ((s.put (domKey n 2) pdStarting).bump (domKey n 5)).settleDomains
  else s

/-- Domains shed: every holder is removed and the latches are cleared (R411, R431, R440). -/
def State.shed (s : State) (ns : List Nat) : State :=
  (ns.foldl (fun (s : State) n =>
    if s.pd n = pdOff || s.pd n = pdAbsent || n = 0 then s
    else
      let on := s.pd n = pdOnState
      let s := (s.puts [(domKey n 1, 0), (domKey n 3, 0), (domKey n 2, pdStopping)])
      if on then s.unitOff n else s) s).settleDomains

/-- The domains a thermal shutdown sheds (R411). -/
def thermalDomains : List Nat := [3, 4, 5, 6, 7] ++ (List.range 60).map (· + 16) ++ [78, 79]

end Sys2Proof.Machine
end

