-- ==== Sys2Proof/Machine/Otp.lean ====
section
/-!
DEFINITION. The fuse array and its controller (R449 to R457): reads at the margins, judging a region, counters,
programming, locks and the seal of region 7, and re-burning.
-/
namespace Sys2Proof.Machine

/-! ### Reading -/

/-- A fuse word; a word not listed is blank. -/
def State.fuse (s : State) (w : Nat) : Fuse := (s.otp.fuses.find? (·.word = w)).getD ⟨w, 0, 0⟩

/-- Set a fuse word, keeping the words in rising order. -/
def putFuse : List Fuse → Fuse → List Fuse
  | [], f => [f]
  | g :: t, f => if f.word < g.word then f :: g :: t else if g.word = f.word then f :: t else g :: putFuse t f

/-- A bit at a margin. -/
def State.fuseHi (s : State) (w b : Nat) : Bool := (s.fuse w).hi.testBit b

/-- A bit at strict-low. -/
def State.fuseLo (s : State) (w b : Nat) : Bool := (s.fuse w).lo.testBit b

/-- What the array reads of one word: a bit that reads 1 at strict-high reads 1 at strict-low, and a fuse once blown
still reads 1 at strict-low (R449, R451). -/
def readFuse (old : Fuse) (hi lo : Nat) : Fuse := { old with hi := hi, lo := old.lo ||| lo ||| hi }

/-- The controller reads words; what they read at the two strict margins comes from outside (log entry 46). -/
def State.readArray (s : State) (reads : List (Nat × Nat × Nat)) : State :=
  let one (l : List Fuse) (r : Nat × Nat × Nat) : List Fuse :=
    if r.1 < 512 then
      putFuse l (readFuse ((l.find? (·.word = r.1)).getD ⟨r.1, 0, 0⟩) (r.2.1 % 2 ^ 32) (r.2.2 % 2 ^ 32))
    else l
  { s with otp := { s.otp with fuses := reads.foldl one s.otp.fuses } }

/-! ### Regions (R449, R450, R452) -/

/-- Data words of a region, relative to it. -/
def dataWords (r : Nat) : List Nat :=
  List.range ([6, 4, 48, 0, 0, 0, 17, 62].getD r 0)

/-- Counter words of a region, relative to it. -/
def counterWords (r : Nat) : List Nat := List.range ([0, 0, 0, 8, 16, 40, 0, 0].getD r 0)

/-- The check of a region's data words as read at one margin (R450). -/
def State.regionCheck (s : State) (r : Nat) (rd : Fuse → Nat) : Nat :=
  if (dataWords r).isEmpty then 0
  else crc32c ((dataWords r).flatMap fun w => leBytes 4 (rd (s.fuse (64 * r + w))))

/-- The region's data verify at a margin. -/
def State.regionVerifies (s : State) (r : Nat) (rd : Fuse → Nat) : Bool :=
  s.regionCheck r rd = rd (s.fuse (64 * r + 62))

/-- Region states of R452. -/
def rgBlank : Nat := 0
/-- `OPEN`. -/
def rgOpen : Nat := 1
/-- `SEALED`. -/
def rgSealed : Nat := 2
/-- `FAILED`. -/
def rgFailed : Nat := 3

/-- Words 0 to 63 of a region. -/
def regionWords (r : Nat) : List Nat := (List.range 64).map (64 * r + ·)

/-- What judging a region gives (R452): its state, whether the strict-high words are used, and what the bits read at
strict-low only are: 0 unflagged, 1 weak, 2 drift. -/
def State.judge (s : State) (r : Nat) : Nat × Bool × Nat :=
  let sealed := s.fuseLo (64 * r + 63) 0
  let st := if sealed then rgSealed else rgOpen
  if !sealed && (regionWords r).all (fun w => (s.fuse w).lo = 0) then (rgBlank, true, 0)
  else if !sealed && (s.fuse (64 * r + 62)).lo = 0 then (rgOpen, false, 1)
  else if s.regionVerifies r Fuse.hi then (st, true, 2)
  else if s.regionVerifies r Fuse.lo then (st, false, 1)
  else (rgFailed, true, 0)

/-- The bits of a word that read 1 at strict-low only. -/
def partBits (f : Fuse) : List Nat := (List.range 32).filter fun b => f.lo.testBit b && !f.hi.testBit b

/-- A weak bit enters the re-burn list (R452, R456). -/
def State.weakBit (s : State) (w b : Nat) : State :=
  let s := s.raise 0x0E01 (w + shl b 16)
  if s.otp.reburn.length < 64 && !s.otp.reburn.contains (w, b) then
    { s with otp := { s.otp with reburn := s.otp.reburn ++ [(w, b)] } }.put 0x680009 (s.otp.reburn.length + 1)
  else s

/-- A drift bit is counted (R452). -/
def State.driftBit (s : State) (w b : Nat) : State := (s.sat 0x68000B).raise 0x0E04 (w + shl b 16)

/-- Judge one region: its state, its flagged bits and its shadow (R451 to R453). -/
def State.judgeRegion (s : State) (r : Nat) : State :=
  let j := s.judge r
  let s := s.put (0x680001 + r) j.1
  let flag (s : State) (w kind : Nat) : State :=
    (partBits (s.fuse w)).foldl (fun (s : State) b => if kind = 1 then s.weakBit w b else s.driftBit w b) s
  let s := if j.2.2 = 0 then s
    else ((dataWords r).map (64 * r + ·) ++ [64 * r + 62, 64 * r + 63]).foldl (fun (s : State) w => flag s w j.2.2) s
  let s := ((counterWords r).map (64 * r + ·)).foldl (fun (s : State) w => flag s w 1) s
  if r ≤ 2 || r = 6 then
    let used (w : Nat) : Nat := if j.1 = rgFailed then 0 else if j.2.1 then (s.fuse w).hi else (s.fuse w).lo
    let one (m : List (Nat × Nat)) (w : Nat) : List (Nat × Nat) := mapPut m w (used w)
    { s with otp := { s.otp with shadow := ((dataWords r).map (64 * r + ·)).foldl one s.otp.shadow } }
  else s

/-- A word of the shadow registers. -/
def State.shadow (s : State) (w : Nat) : Nat := (mapGet s.otp.shadow w).getD 0

/-! ### Counters (R453) -/

/-- Set bits of a word. -/
def popcount (x : Nat) : Nat := ((List.range 32).filter x.testBit).length

/-- First word and length in words of a counter. -/
def counterSpan : BurnOrigin → Nat × Nat
  | .security => (192, 8)
  | .age => (256, 8)
  | .hot => (264, 8)
  | .overwrite => (320, 32)
  | .unlock => (352, 8)
  | _ => (0, 0)

/-- A counter's value: the bits set at either margin. -/
def State.counter (s : State) (c : BurnOrigin) : Nat :=
  ((List.range (counterSpan c).2).map fun i => popcount (s.fuse ((counterSpan c).1 + i)).lo).foldl (· + ·) 0

/-- The object that shows a counter. -/
def State.showCounter (s : State) (c : BurnOrigin) : State :=
  match c with
  | .security => (s.put 0x681001 (s.counter c)).put 0x100007 (s.counter c)
  | .age => s.put 0x700003 (s.counter c)
  | .hot => s.put 0x700004 (s.counter c)
  | .overwrite => s.put 0x320008 (s.counter c)
  | .unlock => s.put 0x682002 (s.counter c)
  | _ => s

/-! ### Programming (R454 to R456) -/

/-- Programming may run. -/
def State.mayProgram (s : State) : Bool :=
  s.is 0x152005 0 && s.bit 0x148001 8 && 0 ≤ s.o 0x600801 && s.o 0x600801 ≤ 110 * 64

/-- Whether the controller is programming; PD1 runs while it does (R427). -/
def State.progState (s : State) : State := (s.putB 0x68000D (!s.otp.queue.isEmpty)).settleDomains

/-- Queue fuses behind the one being pulsed, in ascending word order (R473). -/
def State.queueBurns (s : State) (l : List Burn) : State :=
  let q := match s.otp.queue with
    | [] => l.insertionSort (fun a b => a.word ≤ b.word)
    | x :: t => x :: (t ++ l).insertionSort (fun a b => a.word ≤ b.word)
  { s with otp := { s.otp with queue := q } }.progState

/-- The lowest bits of a counter that are neither set nor about to be: at most `n`. -/
def State.nextBits (s : State) (c : BurnOrigin) (n : Nat) : List Burn :=
  (((List.range (32 * (counterSpan c).2)).filter fun i =>
    !s.fuseLo ((counterSpan c).1 + i / 32) (i % 32)
      && !s.otp.queue.any (fun q => q.word = (counterSpan c).1 + i / 32 && q.bit = i % 32)).take n).map
    fun i => ⟨(counterSpan c).1 + i / 32, i % 32, 0, c⟩

/-- Burn one bit of a counter. A counter has no further bit once full. -/
def State.burnCounter (s : State) (c : BurnOrigin) (n : Nat := 1) : State := s.queueBurns (s.nextBits c n)

/-- A fuse is blown: it reads 1 at every margin. -/
def State.blow (s : State) (w b : Nat) : State :=
  let f := s.fuse w
  { s with otp := { s.otp with fuses := putFuse s.otp.fuses { f with hi := f.hi ||| 2 ^ b, lo := f.lo ||| 2 ^ b } } }

/-- A pulse that fails verification leaves the fuse conducting partly: it reads 1 at strict-low. -/
def State.blowWeak (s : State) (w b : Nat) : State :=
  let f := s.fuse w
  { s with otp := { s.otp with fuses := putFuse s.otp.fuses { f with lo := f.lo ||| 2 ^ b } } }

/-- The region 7 object shows the data words. -/
def State.showRegion7 (s : State) : State :=
  s.putBlob 0x683005 ((List.range 62).flatMap fun w => leBytes 4 (s.fuse (448 + w)).hi)

/-- Take a bit off the re-burn list. -/
def State.dropReburn (s : State) (w b : Nat) : State :=
  let l := s.otp.reburn.filter (· ≠ (w, b))
  { s with otp := { s.otp with reburn := l } }.put 0x680009 l.length

/-- Results of region 7 commands (`0x6830.04`): OK. -/
def r7Ok : Nat := 1

/-- A host operation on region 7 has blown its last fuse. -/
def State.region7Done (s : State) (org : BurnOrigin) : State :=
  if s.otp.queue.any (·.origin = org) then s
  else match org with
  | .program | .check => (s.showRegion7).put 0x683004 r7Ok
  | .seal => (s.put 0x683004 r7Ok).setBits 0x68000C 0x80
  | _ => s

/-- The third pulse has failed: the operation ends with its other fuses (R454). -/
def State.burnFailed (s : State) (b : Burn) : State :=
  let s := s.raise 0x0E05 (b.word + shl b.bit 16)
  let s := { s with otp := { s.otp with queue := s.otp.queue.filter fun q => q.origin ≠ b.origin || b.origin = BurnOrigin.reburn } }
  let s := match b.origin with
    | .reburn => s.raise 0x0E03 (b.word + shl b.bit 16)
    | .program | .check | .seal => s.put 0x683004 5
    | _ => s
  s.progState

/-- A fuse of an operation has verified. -/
def State.burnDone (s : State) (b : Burn) : State :=
  let s := s.showCounter b.origin
  let s := match b.origin with
    | .reburn => ((s.dropReburn b.word b.bit).bump 0x68000A).raise 0x0E02 (b.word + shl b.bit 16)
    | .program | .check | .seal => s.region7Done b.origin
    | .security => if s.otp.queue.any (·.origin = BurnOrigin.security) then s else s.raise 0x0E0A (s.counter .security)
    | .overwrite => if s.counter .overwrite = 1024 then s.raise 0x0B06 else s
    | .age | .hot => if s.counter b.origin = 256 then s.raise 0x0B0E else s
    | .unlock => s
  s.progState

/-- The fuse in progress completes although programming is no longer permitted (R473). -/
def State.finishFuse (s : State) : State :=
  { s with otp := { s.otp with finishing := !s.otp.queue.isEmpty && (s.mayProgram || s.otp.finishing) } }

/-- A 20 µs pulse ends and the fuse is verified at strict-high (R454): the fuse operated on and whether the operation
goes on, for what hangs on its end. -/
def State.fusePulse (s : State) (ok : Bool) : State × Option (Burn × Bool) :=
  match s.otp.queue with
  | [] => (s, none)
  | b :: t =>
    if !s.mayProgram && !s.otp.finishing then (s, none)
    else if ok then
      let s := ({ s with otp := { s.otp with queue := t, finishing := false } }).blow b.word b.bit
      (s.burnDone b, some (b, true))
    else
      let s := s.blowWeak b.word b.bit
      if b.pulses < 2 then ({ s with otp := { s.otp with queue := { b with pulses := b.pulses + 1 } :: t } }, none)
      else (({ s with otp := { s.otp with queue := t, finishing := false } }).burnFailed b, some (b, false))

/-- A region 7 command is refused with a result (R455). -/
def State.r7Refuse (s : State) (result : Nat) : Nat × State :=
  (if result = 2 then stLocked else stConstraint, s.put 0x683004 result)

/-- PROGRAM (R455). -/
def State.r7Program (s : State) : Nat × State :=
  let w := 448 + s.n 0x683001
  let v := s.n 0x683002
  if (List.range 32).any (fun b => !v.testBit b && s.fuseLo w b) then s.r7Refuse 3
  else if s.bit 0x68000C 7 then s.r7Refuse 2
  else if !s.mayProgram then (stState, s)
  else
    let bits := (List.range 32).filter fun b => v.testBit b && !s.fuseHi w b
    if bits.isEmpty then (stOk, s.put 0x683004 r7Ok)
    else (stOk, (s.put 0x683004 0).queueBurns (bits.map fun b => ⟨w, b, 0, .program⟩))

/-- WRITE_CHECK (R455). -/
def State.r7Check (s : State) : Nat × State :=
  if (s.fuse 510).lo ≠ 0 then s.r7Refuse 4
  else if s.bit 0x68000C 7 then s.r7Refuse 2
  else if !s.mayProgram then (stState, s)
  else
    let v := s.regionCheck 7 Fuse.hi
    let bits := (List.range 32).filter v.testBit
    if bits.isEmpty then (stOk, s.put 0x683004 r7Ok)
    else (stOk, (s.put 0x683004 0).queueBurns (bits.map fun b => ⟨510, b, 0, .check⟩))

/-- SEAL (R455). -/
def State.r7Seal (s : State) : Nat × State :=
  if !s.regionVerifies 7 Fuse.hi then
    let r := s.r7Refuse 6
    (r.1, r.2.raise 0x0E06)
  else if s.bit 0x68000C 7 then s.r7Refuse 2
  else if !s.mayProgram then (stState, s)
  else if s.fuseHi 511 0 then (stOk, (s.put 0x683004 r7Ok).setBits 0x68000C 0x80)
  else (stOk, (s.put 0x683004 0).queueBurns [⟨511, 0, 0, .seal⟩])

/-- Re-burning begins at the first moment after READY at which programming is permitted, then every 24 operating
hours (R456). -/
def State.reburnStart (s : State) : State :=
  let due := match s.otp.reburnH with
    | none => true
    | some h => h + 24 ≤ s.n 0x700001
  if s.boot.step ≠ 4 || !s.mayProgram || !due || s.otp.reburn.isEmpty then s
  else
    let l : List Burn := s.otp.reburn.map fun (p : Nat × Nat) => ⟨p.1, p.2, 0, BurnOrigin.reburn⟩
    { s with otp := { s.otp with reburnH := some (s.n 0x700001) } }.queueBurns l

/-- ADVANCE of the security version (R461). -/
def State.advanceSecurity (s : State) : Nat × State :=
  let need := s.n 0x681002 - s.counter .security - (s.otp.queue.filter fun q => q.origin = BurnOrigin.security).length
  if need = 0 then (stOk, s)
  else if !s.mayProgram then (stState, s)
  else (stOk, s.burnCounter .security need)

/-- The read command of `0x6808` (R451). -/
def State.otpRead (s : State) : Nat × State :=
  if s.otp.reading.isSome then (stBusy, s)
  else (stOk, { s with otp := { s.otp with reading := some (s.n 0x680801, s.n 0x680802) } }.settleDomains)

/-- The read completes, unless programming is in progress: then it waits (R451, R473). At the normal margin a fuse
that conducts partly reads as a free value. -/
def State.otpReadDone (s : State) : State :=
  match s.otp.reading with
  | none => s
  | some (w, m) =>
    if s.b 0x68000D && s.mayProgram then s
    else
      let f := s.fuse w
      let v := s.free 0 (2 ^ 32)
      let s := if m = 0 then v.2 else s
      let x := if m = 1 then f.hi else if m = 2 then f.lo else f.hi ||| (v.1 &&& (f.lo ^^^ f.hi))
      { s.put 0x680804 x with otp := { s.otp with reading := none } }.settleDomains

/-- A write of the lock register: only 1 bits count, and the host may set bit 7 (R303, R455). -/
def State.lockWrite (s : State) (v : Nat) : State := s.setBits 0x68000C (v % 256)

end Sys2Proof.Machine
end

