-- ==== Sys2Proof/Machine/Calib.lean ====
section
/-!
DEFINITION. The calibration set and its store (R383 to R391), and the dark and flat-field procedures (R392 to R397).
-/
namespace Sys2Proof.Machine

/-! ### The set (R383 to R386) -/

/-- Object keys that hold a part's values in force (R383). -/
def partKeys (p : Nat) : List Nat :=
  let r (a n : Nat) : List Nat := (List.range n).map fun i => (a + i) * 256
  if p = 1 then r 0x3300 96 else if p = 2 then r 0x3240 4 else if p = 3 then r 0x3244 4
  else if p = 4 then r 0x3220 7 else if p = 5 then r 0x3228 7 else if p = 6 then r 0x3210 7
  else if p = 7 then r 0x3218 6 else if p = 8 then r 0x3230 7 else if p = 9 then r 0x2C40 24
  else if p = 10 then r 0x2840 24 else if p = 11 then [0x303002, 0x303003, 0x303004]
  else if p = 12 then r 0x3250 1 else if p = 13 then r 0x3258 1 else []

/-- The keys of every part. -/
def allPartKeys : List Nat := (List.range 13).flatMap fun i => partKeys (i + 1)

/-- A part's value in force as the set holds it; none when it is the neutral one. -/
def State.partValue (s : State) (k : Nat) : Option (List Nat) :=
  if k / 256 = 0x3030 then
    if s.o k = objDefault k then none else some (leBytes 4 (wrapU 32 (s.o k)))
  else mapGet s.blobs k

/-- Put a part's value in force; none puts the neutral one. -/
def State.putPart (s : State) (k : Nat) (v : Option (List Nat)) : State :=
  if k / 256 = 0x3030 then s.put k ((v.map fun b => sfieldAt b 0 4).getD (objDefault k))
  else s.putBlob k (v.getD (blobDefault k))

/-- A slot of the set. -/
def State.calSlot (s : State) (i : Nat) : CalSlot := s.cal.slots.getD i CalSlot.erased

/-- The values of the set in force; neutral when none is. -/
def State.setVals (s : State) : List (Nat × List Nat) :=
  let x := s.calSlot (s.n 0x320006)
  if x.st = 0 && s.o 0x320005 ≠ 0 then x.vals else []

/-- The values of the set in force with the selected parts from the values in force (R387). -/
def State.snapshot (s : State) (parts : List Nat) : List (Nat × List Nat) :=
  let one (m : List (Nat × List Nat)) (k : Nat) : List (Nat × List Nat) :=
    match s.partValue k with
    | some v => mapPut m k v
    | none => mapDel m k
  (parts.flatMap partKeys).foldl one s.setVals

/-- Parts of a mask: bit p - 1 stands for part p (R390). -/
def maskParts (m : Nat) : List Nat := ((List.range 13).filter m.testBit).map (· + 1)

/-- Replace a slot. -/
def State.setSlot (s : State) (i : Nat) (x : CalSlot) : State :=
  { s with cal := { s.cal with slots := s.cal.slots.set i x } }

/-- The slot a store builds in: the one that is not in force. -/
def State.targetSlot (s : State) : Nat := 1 - s.n 0x320006

/-- The other slot's state object (`0x3200.07`). -/
def State.showOther (s : State) : State := s.put 0x320007 (s.calSlot s.targetSlot).st

/-- A store begins (R387): snapshot taken, target slot being erased. It holds PD2 and PD11 (R388). -/
def State.storeBegin (s : State) (origin : Nat) (isSave : Bool) (parts : List Nat) : State :=
  let st : CalStore := { origin := origin, save := isSave, step := 1, vals := s.snapshot parts }
  let s := { s with cal := { s.cal with store := some st } }
  let s := s.setSlot s.targetSlot { CalSlot.erased with st := 1 }
  let s := (s.showOther.put 0x320003 2).put 0x32000B 0
  s.hold 4 true [2, 11]

/-- A store falls due for the margin plan: parts 0x0C and 0x0D; it waits for a store in progress (R389). -/
def State.planStore (s : State) : State :=
  if s.cal.store.isSome then { s with cal := { s.cal with planWait := true } }
  else { s with cal := { s.cal with planWait := false } }.storeBegin 3 false [12, 13]

/-- A host store (R387, R389). -/
def State.calStore (s : State) : Nat × State :=
  if s.cal.store.isSome then (stBusy, s)
  else (stOk, s.storeBegin 2 false (maskParts (s.n 0x320002)))

/-- SAVE of the converter calibration (R107, R390). -/
def State.calSaveStore (s : State) : State :=
  let t := { s.put 0x281003 4 with conv := { s.conv with saving := true, calPrev := s.o 0x281003 } }
  t.storeBegin 2 true [1, 10]

/-- A store ends (R387, R390): its status, its event, and the plan store that waited. -/
def State.storeEnd (s : State) (ok : Bool) : State :=
  match s.cal.store with
  | none => s
  | some st =>
    let set := if s.is 0x320005 0 then 1 else 0
    let s := { s with cal := { s.cal with store := none } }
    let s := (s.put 0x320003 set).put 0x320009 (if ok then 1 else 2)
    let s := if ok then (s.bump 0x32000A).put 0x32000B 100 else s
    let d : Int := s.o 0x320004 + shl (s.n 0x320006) 32
    let s :=
      if st.save then
        let s := { s.put 0x281003 s.conv.calPrev with conv := { s.conv with saving := false } }
        (s.put 0x28100F (if ok then 1 else 2)).raise (if ok then 0x030B else 0x030C)
      else s.raise (if ok then 0x0B04 else 0x0B05) d
    let s := s.hold 4 false [2, 11]
    if s.cal.planWait then s.planStore else s

/-- A store is suspended while the loss record is written (R388, R389). -/
def State.storeSuspended (s : State) : Bool := s.is 0x152005 1

/-- The erase of the target slot ends; the programming that follows leaves it invalid until its header stands. -/
def State.calErased (s : State) (ok : Bool) : State :=
  match s.cal.store with
  | some st =>
    if st.step ≠ 1 || s.storeSuspended then s
    else if !ok then s.storeEnd false
    else
      let p := s.free 0 100
      let s := p.2.put 0x32000B p.1
      { s with cal := { s.cal with store := some { st with step := 2 } } }
  | none => s

/-- Directory and parts are programmed and read back; a USER store burns one bit of the overwrite counter. -/
def State.calProgrammed (s : State) (ok : Bool) : State :=
  match s.cal.store with
  | some st =>
    if st.step ≠ 2 || s.storeSuspended then s
    else
      let s := s.setSlot s.targetSlot { CalSlot.erased with st := 1 }
      if !ok then s.showOther.storeEnd false
      else
        let p := s.free 0 100
        let s := (p.2.put 0x32000B p.1).showOther
        let s := { s with cal := { s.cal with store := some { st with step := 3 } } }
        if st.origin = 2 then s.burnCounter .overwrite else s
  | none => s

/-- The header is programmed and verified: the slot in force switches. -/
def State.calHeader (s : State) (ok : Bool) : State :=
  match s.cal.store with
  | some st =>
    if st.step ≠ 3 || s.storeSuspended || s.otp.queue.any (·.origin = BurnOrigin.overwrite) then s
    else if !ok then s.storeEnd false
    else
      let t := s.targetSlot
      let plan := (mapGet st.vals 0x325800).getD neutralPlan
      let x : CalSlot := { st := 0, gen := s.n 0x320004 + 1, origin := st.origin, overs := s.n 0x320008,
                           planGen := fieldAt plan 0 4, hours := s.n 0x700001, vals := st.vals }
      let s := (s.setSlot t x).puts [(0x320004, x.gen), (0x320005, x.origin), (0x320006, t)]
      s.showOther.storeEnd true
  | none => s

/-- Defect-map entries of all sources (`0x7038.03`), and the columns that each source's map names (`0x3010.02`). -/
def State.showDefects (s : State) : State :=
  let s := [0x0A, 0x0B, 0x0C, 0x0D, srcM, srcW].foldl (fun (s : State) f =>
    s.put ((0x3010 + srcIx f) * 256 + 2) (min 4096 ((srcRows f).flatMap (s.defectMap f)).eraseDups.length)) s
  s.put 0x703803 (((partKeys 8).map fun k => (s.blob k).length / 2).foldl (· + ·) 0 : Nat)

/-- A segment's entry of the margin plan in force: slack, degradation, offset, ceiling (R400). -/
def State.planSeg (s : State) (g : Nat) : Int × Int × Nat × Nat :=
  let p := s.blob 0x325800
  (fieldAt p (16 + 8 * g) 2, fieldAt p (18 + 8 * g) 2, fieldAt p (20 + 8 * g) 1, fieldAt p (22 + 8 * g) 2)

/-- What of the margin plan is in force from the start: offsets, ceilings, interval, link speed. -/
def State.planLoad (s : State) : State :=
  let p := s.blob 0x325800
  let s := s.puts [(0x700009, fieldAt p 0 4), (0x28100B, fieldAt p 10 2), (0x703005, fieldAt p 10 2), (0x500004, fieldAt p 12 1),
    (0x704004, fieldAt p 12 1)]
  s.segs.foldl (fun (s : State) g =>
    let x := s.planSeg g
    s.puts [((0x7010 + g) * 256 + 5, x.2.2.1), ((0x7010 + g) * 256 + 6, x.2.2.2),
      ((0x7010 + g) * 256 + 7, x.2.2.1), ((0x7010 + g) * 256 + 8, x.2.2.2)]) s

/-- The set is loaded at start-up (R386). -/
def State.calLoad (s : State) : State :=
  let a := s.calSlot 0
  let b := s.calSlot 1
  let pick : Option Nat :=
    if a.st = 0 && b.st = 0 then some (if b.gen ≤ a.gen then 0 else 1)
    else if a.st = 0 then some 0 else if b.st = 0 then some 1 else none
  let vals := match pick with
    | some i => (s.calSlot i).vals
    | none => []
  let s := allPartKeys.foldl (fun (s : State) k => s.putPart k (mapGet vals k)) s
  let s := match pick with
    | some i =>
      let x := s.calSlot i
      let s := s.puts [(0x320003, 0), (0x320004, x.gen), (0x320005, x.origin), (0x320006, i)]
      let s := (s.showOther).raise 0x0B01 (x.gen + shl i 32)
      if (s.calSlot (1 - i)).st = 1 then s.raise 0x0B02 (1 - i) else s
    | none => ((s.puts [(0x320003, 1), (0x320004, 0), (0x320005, 0), (0x320006, 0)]).showOther).raise 0x0B03
  s.planLoad.showDefects.mapsLoaded.refreshExclusions

/-! ### Procedures (R392 to R397): the accumulator -/

/-- Procedure states (`0x3280.12`). -/
def prIdle : Int := 0
/-- `ACCUMULATING`. -/
def prAccum : Int := 1
/-- `EVALUATING`. -/
def prEval : Int := 2
/-- `PENDING`. -/
def prPending : Int := 3
/-- `APPLYING`. -/
def prApplying : Int := 4

/-- The procedure state. -/
def State.proc (s : State) : Int := s.o 0x328012

/-- Sources of the mask. -/
def State.procSources (s : State) : List Nat :=
  [0x0A, 0x0B, 0x0C, 0x0D, srcM].filter fun f => s.bit 0x328002 (if f = srcM then 4 else f - 0x0A)

/-- No sums. -/
def ColSum.zero : ColSum := { n := 0, x := 0, xx := 0, y := 0, xy := 0, sat := 0 }

/-- Add sums. -/
def ColSum.add (a b : ColSum) : ColSum :=
  { n := a.n + b.n, x := a.x + b.x, xx := a.xx + b.xx, y := a.y + b.y, xy := a.xy + b.xy, sat := a.sat + b.sat }

/-- One sample: x in 2^-16 ticks, y in 2^-24 electron (log entry 56). -/
def ColSum.one (x y : Int) : ColSum := { n := 1, x := x, xx := x * x, y := y, xy := x * y, sat := 0 }

/-- Sums of all columns: the parts of segment `g` are numbered from 1,000 g. -/
def procPart (g part : Nat) : Nat := 1000 * g + part

/-- Add to the accumulator of a source, part and section. -/
def State.procAdd (s : State) (src part sect : Nat) (x : Int) (new : List ColSum) : State :=
  let same (a : ProcAcc) : Bool := a.src = src && a.part = part && a.sect = sect
  let acc : ProcAcc := match s.cal.accs.find? same with
    | some a =>
      { a with lines := a.lines + 1, xMin := min a.xMin x, xMax := max a.xMax x, cols := List.zipWith ColSum.add a.cols new }
    | none => { src := src, part := part, sect := sect, lines := 1, xMin := x, xMax := x, cols := new }
  { s with cal := { s.cal with accs := (s.cal.accs.filter fun a => !same a) ++ [acc] } }

/-- x of a line in a segment: stage count, line period and the dark factor of the segment's temperature (R392). -/
def State.darkX (s : State) (stages tline seg : Nat) : Int :=
  let f := darkFactor (s.segTemp seg)
  roundDiv ((stages * tline * f.1 : Nat) : Int) (2 ^ (16 + f.2))

/-- Dark sums of one line in one segment (R392): the source's own, and those of the physical groups. -/
def State.procDark (s : State) (p : LinePix) (l : LineRec) (seg : Nat) : State :=
  let w := (s.asRead p).blackSum p false
  let e := (s.asRead p).blackSum p true
  let m : Int := mean256 (w.1 + e.1) (w.2 + e.2)
  let x := s.darkX p.stages p.tline seg
  let col (row i : Nat) : ColSum :=
    let v : Int := ((mapGet p.vals (pixKey row (1024 * seg + i))).getD 0 / 2 : Nat)
    ColSum.one x ((256 * v - m) * p.fs)
  let s := (srcRows p.src).foldl (fun (s : State) r =>
    s.procAdd p.src (procPart seg r) l.sect x ((List.range 1024).map (col r))) s
  if !isField p.src then s
  else
    let xg := s.darkX 16 p.tline seg
    (usedGroups p.stages).foldl (fun (s : State) g =>
      let keys := (List.range 32).flatMap fun i => [blackW + i, blackE + i]
      let bs := keys.map fun k => s.readVal p.src g p.line k / 2
      let mg : Int := mean256 (bs.foldl (· + ·) 0) bs.length
      let cg (i : Nat) : ColSum :=
        let c := 1024 * seg + i
        let v : Int := (s.readVal p.src g p.line c / 2 : Nat)
        ColSum.one xg ((256 * v - mg) * (16 * s.ePerCode (bankOf p.src) c))
      s.procAdd p.src (procPart seg (10 + physGroup l.rev g)) l.sect xg ((List.range 1024).map cg)) s

/-- Flat sums of one line in one segment (R394): the outputs of stage 3, and the samples that were saturated. -/
def State.procFlat (s : State) (p : LinePix) (l : LineRec) (seg : Nat) : State :=
  (srcRows p.src).foldl (fun (s : State) r =>
    let x : PixCtx := { s.ctx p seg r with errs := [] }
    let col (i : Nat) : ColSum :=
      let c := 1024 * seg + i
      { ColSum.one 0 (s.stage3 x c).1 with sat := if satMark p r c then 1 else 0 }
    s.procAdd p.src (procPart seg r) l.sect 0 ((List.range 1024).map col)) s

/-- A line passes a segment while a procedure accumulates: it is summed when its section counts and it is included
(R168, R392, R394). -/
def State.procLine (s : State) (seg src n : Nat) : State :=
  if s.proc ≠ prAccum || !s.procSources.contains src then s
  else match s.pix? src n, s.lineOf src n with
    | some p, some l =>
      if l.sect < s.cal.start || p.flags &&& excludeFlags ≠ 0 then s
      else if s.cal.kind = 1 then s.procDark p l seg else s.procFlat p l seg
    | _, _ => s

/-- Lines summed of a source: those of its first segment, in sections up to `c`. -/
def State.procLines (s : State) (src c : Nat) : Nat :=
  let g := (s.window src).1
  ((s.cal.accs.filter fun a => a.src = src && a.part = procPart g 0 && a.sect ≤ c).map (·.lines)).foldl (· + ·) 0

/-- The least count over the sources (`0x3280.19`). -/
def State.procLeast (s : State) (c : Nat) : Nat :=
  match s.procSources.map fun f => s.procLines f c with
  | [] => 0
  | a :: t => t.foldl min a

/-- The sections up to `c` are merged into one. -/
def mergeAccs (c : Nat) (l : List ProcAcc) : List ProcAcc :=
  let one (m : List ProcAcc) (a : ProcAcc) : List ProcAcc :=
    let same (b : ProcAcc) : Bool := b.src = a.src && b.part = a.part && b.sect = 0
    match m.find? same with
    | some b => (m.filter fun b => !same b) ++
        [{ b with lines := b.lines + a.lines, xMin := min b.xMin a.xMin, xMax := max b.xMax a.xMax,
                  cols := List.zipWith ColSum.add b.cols a.cols }]
    | none => m ++ [{ a with sect := 0 }]
  (l.filter fun a => a.sect ≤ c).foldl one [] ++ l.filter fun a => c < a.sect

/-- Section `c` is closed everywhere (R397): the last required section ends accumulation. A source whose segment has failed
lacks that segment's sums. -/
def State.procSection (s : State) (c : Nat) : State :=
  if s.proc ≠ prAccum || c < s.cal.start then s
  else
    let gone := s.procSources.filter fun f => (segRange (s.window f)).any fun g => s.bit 0x50C004 g
    let s := { s with cal := { s.cal with accs := mergeAccs c s.cal.accs, missing := (s.cal.missing ++ gone).eraseDups } }
    let least := s.procLeast c
    let s := s.put 0x328019 least
    if s.n (if s.cal.kind = 1 then 0x328007 else 0x328006) ≤ least then
      { s with cal := { s.cal with accs := s.cal.accs.filter (·.sect ≤ c) } }.put 0x328012 prEval
    else s

/-! ### Procedures: commands and ends -/

/-- The accumulator and the results are dropped. -/
def State.procClear (s : State) : State := { s with cal := { s.cal with accs := [], results := [], missing := [] } }

/-- A procedure ends with a reason (R396). -/
def State.procEnd (s : State) (reason : Nat) : State :=
  ((s.procClear.put 0x328013 reason).put 0x328012 prIdle).raise 0x0B08 reason

/-- An interruption of an accumulation (R396). -/
def State.procStop (s : State) (reason : Nat) : State := if s.proc = prAccum then s.procEnd reason else s

/-- ABORT, or a hand-over (R396, R397). -/
def State.procAbort (s : State) : State :=
  if s.proc = prAccum || s.proc = prEval then s.procEnd 5
  else if s.proc = prPending then s.procClear.put 0x328012 prIdle
  else s

/-- The run state is watched while a procedure accumulates (R396): leaving RUNNING ends it. -/
def State.procWatch (s : State) : State :=
  if s.proc ≠ prAccum || s.run = rsRunning then s
  else if s.run = rsStalled then if s.cal.kind = 2 then s.procStop 2 else s
  else s.procStop 1

/-- The motion test of a flat field at an accepted trigger (R394). -/
def State.procMotion (s : State) : State :=
  if s.cal.kind = 2 && (s.o 0x201002).natAbs < (s.o 0x328008).toNat then s.procStop 2 else s

/-- An application changed objects from what they were in `s0` (R396): the stage count, full scale, phase strobes, gain mode,
threshold, bank D input, black-level or shading objects, or the maps, of a masked source. -/
def State.procChanged (s0 s : State) (keys : List Nat) : State :=
  let touch (f k : Nat) : Bool :=
    let ph := k / 256 * 256 + 1
    (isField f && (k = fieldBase f + 1 || k = fieldBase f + 2)) || (f = srcM && k = 0x241401)
      || (0x2421 ≤ k / 256 && k / 256 ≤ 0x2424 && k % 256 ≠ 2 && (s.is ph f || s0.is ph f))
      || k / 256 = 0x2808 + bankIx (bankOf f) && (k % 256 = 1 || k % 256 = 2)
      || (k = 0x280401 && bankOf f = 0x0D) || k / 256 = blackBase f / 256 || k / 256 = shadeBase f / 256
      || (srcRows f).any (fun r => k = (0x3230 + calIndex f r) * 256)
      || (isField f && 0x2C40 ≤ k / 256 && k / 256 ≤ 0x2C57)
  let changed := keys.filter fun k => s0.o k ≠ s.o k || s0.blob k ≠ s.blob k
  if s.proc = prAccum && s.procSources.any (fun f => changed.any (touch f)) then s.procStop 3 else s

/-- START of a procedure: 1 dark, 2 flat; the refusals stand in the order of R302 (R392, R394, R404). -/
def State.procStart (s : State) (kind : Nat) : Nat × State :=
  let src := s.procSources
  if src.any fun f => !s.srcPresent f then (stAbsent, s)
  else if s.n 0x328004 < s.n 0x328003 then (stConstraint, s)
  else if (kind = 1 && s.b 0x243001) || !s.pdOn 72 || s.run ≠ rsRunning then (stState, s)
  else if kind = 2 && (s.tmode = 1 || s.tmode = 3) then (stState, s)
  else if s.proc = prAccum || s.proc = prEval || s.proc = prApplying then (stBusy, s)
  else
    let s := s.procClear
    let s := { s with cal := { s.cal with kind := kind, start := s.n 0x202004 + 1 } }
    (stOk, s.puts [(0x328012, prAccum), (0x328019, 0)])

/-- The strobe master enable became 1: a dark procedure ends (R396). -/
def State.procStrobes (s : State) : State := if s.cal.kind = 1 then s.procStop 4 else s

/-- DISCARD (R397). -/
def State.procDiscard (s : State) : Nat × State :=
  if s.proc = prPending then (stOk, s.procClear.put 0x328012 prIdle) else (stState, s)

/-! ### Evaluation (R393, R395, R396) -/

/-- Sums of a column of a part. -/
def State.colSum (s : State) (src part c : Nat) : ColSum :=
  match s.cal.accs.find? fun a => a.src = src && a.part = procPart (c / 1024) part with
  | some a => a.cols.getD (c % 1024) ColSum.zero
  | none => ColSum.zero

/-- Columns of a source's window. -/
def State.procCols (s : State) (src : Nat) : List Nat :=
  (segRange (s.window src)).flatMap fun g => (List.range 1024).map (1024 * g + ·)

/-- The least-squares fit: numerator and denominator of the slope (R393). -/
def ColSum.slope (a : ColSum) : Int × Int := (a.n * a.xy - a.x * a.y, a.n * a.xx - a.x * a.x)

/-- Fitted excess b in 0.5 electrons per second (R393). -/
def ColSum.excess (a : ColSum) : Int :=
  if a.slope.2 ≤ 0 then 0 else roundDiv (a.slope.1 * 3125000) a.slope.2.toNat

/-- Fitted offset a in 1/8 electron. -/
def ColSum.offset (a : ColSum) (withB : Bool) : Int :=
  if a.n ≤ 0 then 0
  else if withB && 0 < a.slope.2 then
    roundDiv (a.y * a.slope.2 - a.slope.1 * a.x) ((a.n * a.slope.2).toNat * 2 ^ 21)
  else roundDiv a.y (a.n * 2 ^ 21)

/-- The index mirrored about the ends of a range. -/
def mirrorIn (lo hi : Int) (i : Int) : Nat := (if i < lo then 2 * lo - i else if hi < i then 2 * hi - i else i).toNat

/-- Deviations of the offsets from their 65-column moving mean, in 1/520 electron; the mean is mirrored at the ends. -/
def deviations (as_ : List Int) : List Int :=
  let n := as_.length
  let at_ (i : Int) : Int := as_.getD (mirrorIn 0 (n - 1) i) 0
  (List.range n).map fun i => 65 * at_ i - ((List.range 65).map fun k => at_ ((i : Int) + k - 32)).foldl (· + ·) 0

/-- The rms test of LIGHT_PRESENT (R396): deviations from the 65-column moving mean, the largest 1 % dropped. -/
def structureExceeds (as_ : List Int) (limit : Nat) : Bool :=
  let n := as_.length
  let kept := (((deviations as_).map Int.natAbs).insertionSort (· ≤ ·)).take (n - n / 100)
  decide (limit ^ 2 * 520 ^ 2 * kept.length < (kept.map (· ^ 2)).foldl (· + ·) 0)

/-- What an evaluation of one source gives: reason, worst column, its change and the fraction moved, new values. -/
structure ProcResult where
  reason : Nat
  col : Nat
  change : Int
  moved : Nat
  vals : List (Nat × List Nat)

/-- A column is bad for a procedure: in the defect map, fully excluded, or unrepaired (R153, R393 to R396). -/
def State.badCol (s : State) (src row c : Nat) : Bool :=
  (s.defectMap src row).contains c || s.fullyExcluded src (s.stages src) s.xferRev c || s.unrepaired src c s.upcomingLine

/-- The column where a quantity is greatest, the first of equals. -/
def worstOf (cols : List Nat) (f : Nat → Int) : Nat :=
  cols.foldl (fun b c => if f b < f c then c else b) (cols.headD 0)

/-- Evaluate dark for one source (R393, R396). The worst column of a failure is the one of the greatest offset among the good
columns, of the greatest deviation, or of the greatest result (log entry 60). -/
def State.evalDark (s : State) (src : Nat) : ProcResult :=
  let withB := s.b (blackBase src + 7)
  let cols := s.procCols src
  let accs := s.cal.accs.filter fun a => a.src = src && a.part % 1000 < 10
  let xMin := (accs.map (·.xMin)).foldl min ((accs.head?.map (·.xMin)).getD 0)
  let xMax := (accs.map (·.xMax)).foldl max 0
  let a (r c : Nat) : Int := (s.colSum src r c).offset withB
  let b (r c : Nat) : Int := if withB then (s.colSum src r c).excess else s.calI16 ((0x3228 + calIndex src r) * 256) c
  let good (r : Nat) : List Nat := cols.filter fun c => !s.badCol src r c
  let ovf (x : Int) : Bool := x < -32768 || 32767 < x
  let light := (srcRows src).find? fun r => (good r).any fun c => s.o 0x32800E * 8 < a r c
  let rough := (srcRows src).find? fun r => structureExceeds (cols.map (a r)) (s.n 0x32800F)
  let wide := (srcRows src).find? fun r => cols.any fun c => ovf (a r c) || ovf (b r c)
  let arr (k : Nat) (f : Nat → Int) : List Nat :=
    let inside := cols
    (List.range 24576).flatMap fun c => leBytes 2 (wrapU 16 (if inside.contains c then f c else s.calI16 k c))
  let vals := (srcRows src).flatMap fun r =>
    let ka := (0x3220 + calIndex src r) * 256
    let kb := (0x3228 + calIndex src r) * 256
    (ka, arr ka (a r)) :: if withB then [(kb, arr kb (b r))] else []
  if withB && xMax < 4 * xMin then ⟨7, 0, 0, 0, []⟩
  else match light, rough, wide with
    | some r, _, _ => ⟨6, worstOf (good r) (a r), 0, 0, []⟩
    | none, some r, _ =>
      let d := deviations (cols.map (a r))
      ⟨6, cols.getD (worstOf (List.range d.length) fun i => (d.getD i 0).natAbs) 0, 0, 0, []⟩
    | none, none, some r => ⟨12, worstOf cols fun c => max (a r c).natAbs (b r c).natAbs, 0, 0, []⟩
    | none, none, none => ⟨0, 0, 0, 0, vals⟩

/-- Hot groups of the dark run: column, field, physical group (R393). -/
def State.hotGroups (s : State) : List (Nat × Nat × Nat) :=
  (s.procSources.filter isField).flatMap fun f => (s.procCols f).flatMap fun c =>
    ((List.range 4).filter fun g => s.o 0x328010 * 2 < (s.colSum f (10 + g) c).excess).map fun g => (c, f, g)

/-- Low-pass profile at a column of a row: sum and count over the good columns near it (R395). -/
def State.lowPass (s : State) (src row c : Nat) : Int × Nat :=
  let step : Nat := if src = srcM then 2 else 1
  let near := (List.range 65).map fun k =>
    mirrorIn (s.o 0x328003) (s.o 0x328004) ((c : Int) + step * ((k : Int) - 32))
  let ok := near.filter fun i => !s.badCol src row i
  ((ok.map fun i => (s.colSum src row i).y).foldl (· + ·) 0, ok.length)

/-- The profile in 2^-16 of a sum. -/
def State.profile16 (s : State) (src row c : Nat) : Int :=
  let l := s.lowPass src row c
  if l.2 = 0 then 0 else roundDiv (l.1 * 65536) l.2

/-- Present fine gain of a column. -/
def State.fineGain (s : State) (src row c : Nat) : Nat := s.calU16 ((0x3210 + calIndex src row) * 256) c 0x4000

/-- New fine gain of a column (R395); bad columns keep theirs. -/
def State.newFine (s : State) (src row c : Nat) : Nat :=
  if s.badCol src row c then s.fineGain src row c
  else
    let l := s.lowPass src row c
    let den := l.2 * (s.colSum src row c).y.toNat
    if den = 0 then 0 else (roundDiv (16384 * l.1) den).toNat

/-- The row whose profile gives the coarse gain at a column: the green one for M. -/
def coarseRow (src c : Nat) : Nat := if src = srcM && c % 2 = 0 then 1 else 0

/-- New coarse gains, 384 knots (R395). -/
def State.newCoarse (s : State) (src : Nat) : List Nat :=
  let lo := s.n 0x328003
  let hi := s.n 0x328004
  let range := (List.range (hi + 1 - lo)).map (lo + ·)
  let prof (c : Nat) : Int := s.profile16 src (coarseRow src c) c
  let total := (range.map prof).foldl (· + ·) 0
  (List.range 384).map fun j =>
    let old := s.calU16 ((0x3218 + srcIx src) * 256) j 0x4000
    if 64 * j + 31 < lo || hi < 64 * j + 32 then old
    else
      let den := (range.length : Int) * (prof (64 * j + 31) + prof (64 * j + 32))
      if den ≤ 0 then 0 else (roundDiv (16384 * 2 * total) den.toNat).toNat

/-- Evaluate a flat field for one source (R395, R396). -/
def State.evalFlat (s : State) (src : Nat) : ProcResult :=
  let lo := s.n 0x328003
  let hi := s.n 0x328004
  let range := (List.range (hi + 1 - lo)).map (lo + ·)
  let both := s.is 0x328005 1
  let kc := (0x3218 + srcIx src) * 256
  let knots := s.newCoarse src
  let t := if both then s.putBlob kc (knots.flatMap (leBytes 2)) else s
  let cells := (srcRows src).flatMap fun r => range.map fun c => (r, c)
  let sat := (cells.map fun p => (s.colSum src p.1 p.2).sat).foldl (· + ·) 0
  let samples := (cells.map fun p => (s.colSum src p.1 p.2).n).foldl (· + ·) 0
  let outside (g : Nat) : Bool := 4 * (g : Int) < s.o 0x32800A || s.o 0x32800B < 4 * (g : Int)
  let badGain := cells.find? fun p => !s.badCol src p.1 p.2 && outside (s.newFine src p.1 p.2)
  let badKnot := (List.range 384).find? fun j =>
    both && lo ≤ 64 * j + 31 && 64 * j + 32 ≤ hi && outside (knots.getD j 0)
  let ratio (p : Nat × Nat) : Int × Nat :=
    let old := s.fineGain src p.1 p.2 * s.coarseGain src p.2
    let new := s.newFine src p.1 p.2 * t.coarseGain src p.2
    ((new : Int) - old, old)
  let change (p : Nat × Nat) : Int := if (ratio p).2 = 0 then 0 else roundDiv (1000 * (ratio p).1) (ratio p).2
  let worst := cells.foldl (fun (b : Nat × Nat) p =>
    if (ratio b).1.natAbs * (ratio p).2 < (ratio p).1.natAbs * (ratio b).2 then p else b) (cells.headD (0, 0))
  let large := decide (s.n 0x32800C * (ratio worst).2 ≤ (ratio worst).1.natAbs * 1000)
  let moved := (cells.filter fun p => s.n 0x32800D * (ratio p).2 < (ratio p).1.natAbs * 1000).length
  let frac := if cells.isEmpty then 0 else moved * 1000 / cells.length
  let arr (r k : Nat) : List Nat := (List.range 24576).flatMap fun c =>
    leBytes 2 (if lo ≤ c && c ≤ hi then s.newFine src r c else s.calU16 k c 0x4000)
  let vals := ((srcRows src).map fun r =>
      let k := (0x3210 + calIndex src r) * 256
      (k, arr r k)) ++ if both then [(kc, knots.flatMap (leBytes 2))] else []
  let res (reason col : Nat) (vs : List (Nat × List Nat)) : ProcResult :=
    ⟨reason, col, clampI (-32768) 32767 (change worst), frac, vs⟩
  if s.n 0x328009 * samples ≤ sat * 1000 then res 8 worst.2 []
  else match badGain, badKnot with
    | some p, _ => res 9 p.2 []
    | none, some j => res 9 (64 * j + 31) []
    | none, none =>
      if large then res 10 worst.2 []
      else if s.n 0x328011 * cells.length < moved * 1000 then res 11 worst.2 []
      else res 0 worst.2 vals

/-- The bytes that list hot groups (`0x3290`). -/
def hotBytes (l : List (Nat × Nat × Nat)) : List Nat := (l.take 4096).flatMap fun h => [h.2.2, h.2.1] ++ leBytes 2 h.1

/-- The fit and the checks end (R396, R397): the results are held, or discarded with the first reason that failed. -/
def State.procEvaluate (s : State) : State :=
  if s.proc ≠ prEval then s
  else
    let rs := s.procSources.map fun f =>
      (f, if s.cal.missing.contains f then ⟨13, 0, 0, 0, []⟩ else if s.cal.kind = 1 then s.evalDark f else s.evalFlat f)
    let hot := s.hotGroups
    let s := if s.cal.kind = 1 then (s.putBlob 0x329000 (hotBytes hot)).put 0x703801 (min hot.length (2 ^ 32 - 1) : Nat) else s
    match rs.find? (fun (r : Nat × ProcResult) => r.2.reason ≠ 0) with
    | some (f, r) =>
      (s.puts [(0x328014, f), (0x328015, r.col), (0x328016, r.change), (0x328017, r.moved)]).procEnd r.reason
    | none =>
      let worst := (rs.head?.map (·.2)).getD ⟨0, 0, 0, 0, []⟩
      let s := s.puts [(0x328013, 0), (0x328014, 0xFF), (0x328015, worst.col), (0x328016, worst.change), (0x328017, worst.moved)]
      let s := { s with cal := { s.cal with accs := [], results := rs.flatMap (fun (r : Nat × ProcResult) => r.2.vals) } }
      (s.put 0x328012 prPending).raise 0x0B07 0

end Sys2Proof.Machine
end

