-- ==== Sys2Proof/Machine/Ageing.lean ====
section
/-!
DEFINITION. Ageing monitors, the margin plan and its report (R398 to R403), and the engine clock that the plan and the
throttle step set (R182, R410). A plan takes effect in Run.lean.
-/
namespace Sys2Proof.Machine

/-! ### Engine clock (R182, R410) -/

/-- Clock limit of the throttle step in force; on LNV-24S4 the steps limit nothing. -/
def State.stepClock (s : State) : Nat :=
  if s.variant = 3 then 900 else if s.is 0x600804 0 then 900 else if s.is 0x600804 1 then 600 else 400

/-- Clock limit of a segment: the ceiling in force and the throttle step. -/
def State.clockLimit (s : State) (g : Nat) : Nat := min (s.n ((0x7010 + g) * 256 + 6)) s.stepClock

/-- Clocks in force, the lowest limit, and the budgets that follow (`0x4019`, `0x6008.08`). -/
def State.refreshClock (s : State) : State :=
  let s := s.segs.foldl (fun (s : State) g => s.put (0x401901 + g) (if s.pdOn (17 + 2 * g) then s.clockLimit g else 0)) s
  let s := s.put 0x600808 ((s.segs.map s.clockLimit).foldl min 900 : Nat)
  s.refreshBudget

/-! ### Operating time (R398) -/

/-- An operating hour completes; `hot` says that an hour at 125 °C or more completes with it. -/
def State.operatingHour (s : State) (hot : Bool) : State :=
  if !s.pdOn 2 then s
  else
    let s := (((s.sat 0x700001).sat 0x700005).sat 0x28100C).put 0x705005 (219000 - min 219000 (s.n 0x700001 + 1) : Nat)
    let s := if hot then s.sat 0x700002 else s
    let s := if s.n 0x700001 % 1000 = 0 then s.burnCounter .age else s
    if hot && s.n 0x700002 % 100 = 0 then s.burnCounter .hot else s

/-- Hours are written to the flash record. -/
def State.hoursRecord (s : State) : State :=
  if s.pdOn 2 then { s with cal := { s.cal with hoursRec := (s.n 0x700001, s.n 0x700002) } } else s

/-! ### Planning begins (R401) -/

/-- 500 operating hours since the last plan. -/
def State.scheduledReplan (s : State) : State :=
  if s.n 0x700006 ≤ s.n 0x700005 then s.replanStart 1 else s

/-- The host's request: `BUSY` while planning. -/
def State.replanRequest (s : State) : Nat × State :=
  if s.planning then (stBusy, s) else (stOk, s.replanStart 3)

/-! ### Monitors (R399) -/

/-- A segment's key in the ageing table. -/
def ageKey (g j : Nat) : Nat := (0x7010 + g) * 256 + j

/-- Slack in 0.01 % at offset `n` and clock `f`, times `f`: exact (R401). -/
def State.slackTimes (s : State) (g n f : Nat) : Int :=
  ((s.planSeg g).1 - s.o (ageKey g 3) + 40 * n) * f + (800 - f) * 10000

/-- The slack in force of a segment, rounded to 0.01 %. -/
def State.showSlack (s : State) (g : Nat) : State :=
  let f := s.n (ageKey g 6)
  s.put (ageKey g 4) (clampI (-32768) 32767 (roundDiv (s.slackTimes g (s.n (ageKey g 5)) f) (max 1 f)))

/-- Degradation of a segment at the last plan. -/
def State.planned (s : State) (g : Nat) : Int := ((s.cal.plans.head?.map (·.2)).getD []).getD g 0

/-- One ring-oscillator pair has been measured. With no unstressed count the degradation is a free value. -/
def State.ageOne (s : State) (g stressed unstressed : Nat) : State :=
  let s := s.puts [(ageKey g 1, stressed), (ageKey g 2, unstressed)]
  let p : Int × State :=
    if unstressed = 0 then
      let f := s.free 0 65535
      (f.1 - 32768, f.2)
    else (roundDiv (((unstressed : Int) - stressed) * 10000) unstressed - (s.planSeg g).2.1, s)
  (p.2.put (ageKey g 3) (clampI (-32768) 32767 p.1)).showSlack g

/-- The 10 s measurement of the segments: segment, stressed and unstressed frequency in kHz. -/
def State.ageingSample (s : State) (ms : List (Nat × Nat × Nat)) : State :=
  if !s.pdOn 79 then s
  else
    let ms := ms.filter fun m => s.segPresent m.1
    let s := ms.foldl (fun (s : State) m => s.ageOne m.1 (m.2.1 % 2 ^ 32) (m.2.2 % 2 ^ 32)) s
    if ms.any fun m => s.planned m.1 + 50 ≤ s.o (ageKey m.1 3) then s.marginThreshold else s

/-- Latest hours at which a bank was calibrated, newest first. -/
def State.bankHours (s : State) (b : Nat) : List Nat := (s.cal.calHours.filter (·.1 = b)).map (·.2)

/-- A bank has been calibrated with a mean absolute offset change in 1/65,536 code: its drift rate in codes per 1,000 h
(free where no hour lies between the calibrations), and the threshold. -/
def State.bankDrift (s : State) (bank change : Nat) : State :=
  let now := s.n 0x700001
  let k := 0x703001 + bankIx bank
  let s := match s.bankHours bank with
    | [] => s
    | h :: _ =>
      if now ≤ h then
        let f := s.free 0 (2 ^ 31 - 1)
        f.2.put k f.1
      else s.put k (min (2 ^ 31 - 1) (roundDiv (change * 1000) (now - h)))
  let keep := s.cal.calHours.filter (·.1 ≠ bank) ++ ((s.bankHours bank).take 1).map fun h => (bank, h)
  let s := { s with cal := { s.cal with calHours := (bank, now) :: keep } }
  if 8 * 65536 ≤ change then s.marginThreshold else s

/-- A bank's calibration completes (R105): what was measured, the new factors of its segments, the mean offset change. -/
def State.bankCalComplete (s : State) (cols : List (Nat × Nat × Int)) (spares : List (Nat × Nat × Nat × Int))
    (blacks : List (Bool × Nat × Nat × Int)) (factors : List (Nat × List Nat)) (change : Nat) : State :=
  match s.conv.calLeft with
  | [] => s
  | bank :: _ =>
    if !s.is 0x281003 1 then s
    else
      let good := factors.filter fun p => s.segPresent p.1 && !s.bit 0x281009 p.1
      let s := good.foldl (fun (s : State) p =>
        let key := (0x3300 + 4 * p.1 + bankIx bank) * 256
        s.putBlob key (((p.2.map (· % 256)) ++ (s.blob key).drop p.2.length).take 17152)) s
      (s.calComplete cols spares blacks).bankDrift bank change

/-- A training ended with these margins of its lanes: timing in 0.001 UI, voltage in mV (R399). -/
def State.trainingDone (s : State) (speed width : Nat) (margins : List Nat) : State :=
  let lane (i off : Nat) : Nat := fieldAt margins (4 * i + off) 2
  let lanes := List.range (min width 4)
  if lanes.isEmpty then s
  else
    let t := (lanes.map fun i => lane i 0).foldl min 65535
    let v := (lanes.map fun i => lane i 2).foldl min 65535
    let s := s.puts [(0x704001, t), (0x704002, v), (0x704003, speed)]
    let same := (s.cal.trains.filter (·.1 = speed)).take 1
    let s := { s with cal := { s.cal with trains := (speed, t, v) :: same ++ s.cal.trains.filter (·.1 ≠ speed) } }
    if t < 150 || v < 15 then s.marginThreshold else s

/-- Present sensors (R406). -/
def State.sensors (s : State) : List Nat :=
  (List.range 32).filter fun n => s.variant ≠ 4 || !((16 ≤ n && n ≤ 23) || n = 28 || n = 29)

/-- Key of sub-index `j` of sensor `n`. -/
def sensorKey (n j : Nat) : Nat := (0x6020 + n) * 256 + j

/-- Sensors that have not failed. -/
def State.validSensors (s : State) : List Nat := s.sensors.filter fun n => s.is (sensorKey n 3) 0

/-- Drift of a sensor at the last plan. -/
def State.plannedDrift (s : State) (n : Nat) : Int := (mapGet s.cal.drifts n).getD 0

/-- A quiet period records each sensor's drift against PTAT (slot 27; R399). -/
def State.driftPeriod (s : State) : State :=
  let vals := s.validSensors.map fun n => s.o (sensorKey n 1)
  let close := (vals.foldl max (-32768)) - (vals.foldl min 32767) ≤ 128
  let quiet := (List.range 24).all fun g => !s.pdOn (16 + 2 * g)
  match s.latestResult 27 with
  | none => s
  | some ptat =>
    if !s.pdOn 79 || !quiet || vals.isEmpty || !close then s
    else
      let s := s.sensors.foldl (fun (s : State) n =>
        s.put (0x704801 + n) (clampI (-32768) 32767 (s.o (sensorKey n 1) - ptat))) s
      if s.sensors.any fun n => 64 ≤ (s.o (0x704801 + n) - s.plannedDrift n).natAbs then s.marginThreshold else s

/-! ### The plan (R401) -/

/-- Raise the offset while the slack is below the guard band. -/
def State.planOffset (s : State) (g guard f : Nat) : Nat → Nat → Nat
  | 0, n => n
  | fuel + 1, n =>
    if s.slackTimes g n f < (guard : Int) * f && n < 10 then s.planOffset g guard f fuel (n + 1) else n

/-- Lower the ceiling while the slack is below the guard band. -/
def State.planCeiling (s : State) (g guard n : Nat) : Nat → Nat → Nat
  | 0, f => f
  | fuel + 1, f =>
    if s.slackTimes g n f < (guard : Int) * f && 400 < f then s.planCeiling g guard n fuel (f - 25) else f

/-- Offset and ceiling of a segment under a new plan, and whether the margin is exhausted. -/
def State.planOne (s : State) (g : Nat) : Nat × Nat × Bool :=
  let guard := s.n 0x70000B
  let x := s.planSeg g
  let n := s.planOffset g guard x.2.2.2 10 x.2.2.1
  let f := s.planCeiling g guard n 21 x.2.2.2
  (n, f, decide (s.slackTimes g n f < (guard : Int) * f))

/-- Recalibration interval from the largest drift rate; 500 until two calibrations exist. -/
def State.planInterval (s : State) : Nat :=
  if s.banks.all fun b => (s.bankHours b).length < 2 then 500
  else
    let r := (s.banks.map fun b => s.n (0x703001 + bankIx b)).foldl max 0
    let h := if r = 0 then 10000 else 4000 * 65536 / r
    min 10000 (max 24 (h / 24 * 24))

/-- A training left every lane within the limits. -/
def goodTraining (x : Nat × Nat × Nat) : Bool := 150 ≤ x.2.1 && 15 ≤ x.2.2

/-- Recommended link speed. -/
def State.planLink (s : State) : Nat :=
  let of (v : Nat) : List (Nat × Nat × Nat) := s.cal.trains.filter (·.1 = v)
  if s.cal.trains.all (·.1 = 5) then 5
  else
    match [5, 4, 3, 2, 1].find? fun v => (of v).length = 2 && (of v).all goodTraining with
    | some v => v
    | none => s.n 0x704004

/-- The offset trim of a sensor in part 0x0C is corrected by its drift, within 5 °C; what remains is its drift. -/
def State.trimSensor (s : State) (n : Nat) : State :=
  let d := s.o (0x704801 + n)
  let c := clampI (-320) 320 d
  let part := s.blob 0x325000
  let t := clampI (-32768) 32767 (sfieldAt part (16 * n) 2 - c)
  let s := if c = 0 then s else s.putBlob 0x325000 (setBytes part (16 * n) (leBytes 2 (wrapU 16 t)))
  let s := if d = c then s.clrBits 0x705007 (2 ^ n) else s.setBits 0x705007 (2 ^ n)
  s.put (0x704801 + n) (d - c)

/-- Used groups of a field by physical number. -/
def State.fieldGroups (s : State) (f : Nat) : Nat := groupMap (s.stages f) s.xferRev

/-- A hot group already is in the exclusion map. -/
def State.hotKnown (s : State) (col f g : Nat) : Bool :=
  let m := s.blob ((0x2C40 + col / 1024) * 256)
  (fieldAt m (2 * (col % 1024)) 2).testBit (4 * (f - 0x0A) + g)

/-- Hot groups of the last dark run that are in no map: column, field, physical group. -/
def State.newHot (s : State) : List (Nat × Nat × Nat) :=
  let b := s.blob 0x329000
  ((List.range (b.length / 4)).map fun i => (fieldAt b (4 * i + 2) 2, fieldAt b (4 * i + 1) 1, fieldAt b (4 * i) 1)).filter
    fun h => isField h.2.1 && !s.hotKnown h.1 h.2.1 h.2.2

/-- Hours until a slack of `x` in 0.01 % is used up at the least-squares rate `num / den`; none beyond the service life. -/
def hoursLeft (now : Nat) (x num den : Int) : Option Nat :=
  if num ≤ 0 then none
  else
    let h := (roundDiv (max x 0 * den) num.toNat).toNat
    if 219000 < now + h then none else some h

/-- The ageing report (R403), for the segment with the least slack at 800 MHz without offset. -/
def State.ageReport (s : State) (exhausted low : Bool) : State :=
  let base (g : Nat) : Int := (s.planSeg g).1 - s.o (ageKey g 3)
  let w := s.segs.foldl (fun b g => if base g < base b then g else b) (s.segs.headD 0)
  let pts := s.cal.plans.map fun p => ((p.1 : Int), p.2.getD w 0)
  let sum (f : Int × Int → Int) : Int := (pts.map f).foldl (· + ·) 0
  let n : Int := (pts.length : Int)
  let num := n * sum (fun p => p.1 * p.2) - sum (·.1) * sum (·.2)
  let den := n * sum (fun p => p.1 * p.1) - sum (·.1) * sum (·.1)
  let now := s.n 0x700001
  let g : Int := s.o 0x70000B
  let a := if den ≤ 0 then none else hoursLeft now (base w + 400 - g) num den
  let c := if den ≤ 0 then none else hoursLeft now (base w + 400 + 3333 - g) num den
  let show_ (h : Option Nat) : Int := (h.getD (2 ^ 32 - 1) : Nat)
  let st : Int := if exhausted || low then 2 else if a.isSome || c.isSome then 1 else 0
  s.puts [(0x705001, w), (0x705002, show_ a), (0x705003, show_ a), (0x705004, show_ c),
    (0x705005, (219000 - min 219000 now : Nat)), (0x705006, st)]

/-- A segment's offset and ceiling take effect. -/
def State.applySegment (s : State) (g : Nat) : State :=
  (s.puts [(ageKey g 5, s.o (ageKey g 7)), (ageKey g 6, s.o (ageKey g 8))]).showSlack g

/-- A re-plan completes (R401): the plan, its report, and the store with origin PLAN. Segments with a slack in force below
g / 2 take their offset and ceiling at once (R402). -/
def State.replanDone (s : State) : State :=
  if !s.planning then s
  else
    let now := s.n 0x700001
    let res := s.segs.map fun g => (g, s.planOne g)
    let cal := { s.cal with plans := ((now, (List.range 24).map fun g => s.o (ageKey g 3)) :: s.cal.plans).take 4, grown := s.growth }
    let s := { s with cal := cal }
    let interval := s.planInterval
    let link := s.planLink
    let p := res.foldl (fun (b : List Nat) x =>
      setBytes b (20 + 8 * x.1) (leBytes 1 x.2.1 ++ [0] ++ leBytes 2 x.2.2.1)) (s.blob 0x325800)
    let gen := (s.n 0x700009 + 1) % 2 ^ 32
    let p := setBytes p 0 (leBytes 4 gen ++ leBytes 4 now ++ leBytes 2 (s.n 0x70000B) ++ leBytes 2 interval ++ leBytes 1 link ++ leBytes 1 s.cal.cause)
    let p := setBytes p 1020 (leBytes 4 (crc32c (p.take 1020)))
    let low := res.any fun x => x.2.2.1 < 800
    let exhausted := res.any fun x => x.2.2.2
    let s := s.ageReport exhausted low
    let s := s.putBlob 0x325800 p
    let s := s.sensors.foldl (fun (s : State) n => s.trimSensor n) s
    let s := { s with cal := { s.cal with drifts := s.sensors.map fun n => (n, s.o (0x704801 + n)) } }
    let s := res.foldl (fun (s : State) x => s.puts [(ageKey x.1 7, x.2.1), (ageKey x.1 8, x.2.2.1)]) s
    let s := s.puts [(0x700009, gen), (0x700005, 0), (0x703005, interval), (0x704004, link), (0x700008, 2)]
    let hot := s.newHot
    let s := if s.is 0x70000A 1 then s.putBlob 0x703805 (hotBytes hot) else s
    let s := { s with cal := { s.cal with exhausted := exhausted, adds := s.is 0x70000A 0 && !hot.isEmpty } }
    let s := res.foldl (fun (s : State) x => if x.2.2.2 then s.raiseAt 0x0B0F x.1 0xFF 0 else s) s
    let s := (s.raise 0x0B0A gen).planStore
    let urgent := s.segs.filter fun g => 2 * s.o (ageKey g 4) < s.o 0x70000B
    (urgent.foldl (fun (s : State) g => s.applySegment g) s).refreshClock

end Sys2Proof.Machine
end

