-- ==== Sys2Proof/Machine/Apply.lean ====
section
/-!
DEFINITION. What a value does when it comes into force: a plain write of class NOW or IDLE, and the application of a
commit at the boundary of line `b` (R34, R43, R45, R71, R76, R94, R116, R134, R139, R197, R198, R241, R304), and the
declaration of a reversal (R55).
-/
namespace Sys2Proof.Machine

/-! ### Lines and reversals -/

/-- Number of the next line to be triggered (R32). -/
def State.nextLine (s : State) : Nat := if s.pos.counted then s.n 0x202003 + 1 else s.n 0x202003

/-- Sources with records in line form: the fields and M. -/
def lineSources : List Nat := [0x0A, 0x0B, 0x0C, 0x0D, srcM]

/-- A reversal is declared at a position (R55, R56): flag, grid, counters, event. The transfer direction, and with it the order of
groups, changes at the next accepted line (R78). The edge of the declaration begins the first interval in the new direction (R25). -/
def State.declareReversal (s : State) (p : Int) : State :=
  let rev := !s.rev
  let last := s.pos.lastLine
  let mark (l : LineRec) : LineRec :=
    if some l.line = last then
      { l with srcs := l.srcs.map fun x => if x.segs.isEmpty then x else { x with flags := x.flags ||| 2 ^ fDirChange } }
    else l
  let s := { s with pipe := { s.pipe with lines := s.pipe.lines.map mark } }
  let s := { s with pos := { s.pos with trigQ := s.pos.trigQ.map fun (q : QTrig) => { q with held := mark q.held } } }
  let s := s.putB 0x201006 rev
  let s := { s with pos := { s.pos with furthest := p, gridJ := s.gridIndexAt p rev, afterRev := true, ivals := [] } }
  ((s.bump 0x203005).slipHold).raise 0x010A (last.getD 0)

/-- The further of two positions along the direction of travel. -/
def further (rev : Bool) (p q : Int) : Int := if rev then min p q else max p q

/-- A velocity of the virtual source opposite to the direction in force is a direction change at once (R45). -/
def State.virtualTurn (s : State) (p : Int) : State :=
  let v := s.o 0x202804
  if (v < 0 && !s.rev) || (0 < v && s.rev) then s.declareReversal p else s

/-! ### Scalars (R304) -/

/-- A channel of an encoder works again when loss detection ends; the state follows the enable (R18, R22). -/
def State.encoderSet (s : State) (i : Nat) : State :=
  let e := s.enc i
  let detect := s.b (encCfg i + 7) && s.is (encCfg i + 2) 0
  let e := if s.encOn i && detect then e else { e with lost := 0 }
  let e := if s.encOn i then e else { e with step := none }
  (s.setEnc i e).put (encSt i + 3) (if !s.encOn i then 0 else if e.lost = 0 then 2 else 1)

/-- The trigger mode changes; `old` is the mode before. POS64 keeps its value: the virtual source goes on from it, and ENC0 edges
count on from where the virtual source stood. The next grid point lies beyond the furthest position reached (R31, R45). -/
def State.modeSet (s : State) (old : Int) : State :=
  let p := s.livePos
  let now := s.now
  let s := if s.tmode ≠ 4 then { s with pos := { s.pos with sheet := { s.pos.sheet with running := false, queued := none } } } else s
  let far := further s.rev s.pos.furthest p
  let i := s.gridIndexAt far s.rev
  let j := if s.gridPos i = far then i + (if s.rev then -1 else 1) else i
  let s := if s.gridMode then { s with pos := { s.pos with gridJ := j } } else s
  if s.tmode = old then s
  else if s.tmode = 1 then
    let s := (s.virtualSnap p now).put 0x201002 (roundDiv (s.o 0x202804 * 65536) 1000000)
    let s := { s with pos := { s.pos with ivals := [], ivT := none, furthest := far, motionT := now } }
    (if s.is 0x202804 0 then s else s.put 0x201005 0).virtualTurn p
  else if old = 1 then
    let s := (s.standSnap p now).put 0x201002 0
    { s with pos := { s.pos with cnt := p, ivals := [], ivT := none, furthest := far } }
  else s

/-- The virtual velocity changes; a change of sign is a direction change at once (R45). `old` is the velocity before. -/
def State.velocitySet (s : State) (old : Int) : State :=
  if s.tmode ≠ 1 then s
  else
    let v := s.o 0x202804
    let p := match s.pos.snaps with
      | sn :: _ => posOf sn s.now
      | [] => s.pos.cnt
    let s := (s.virtualSnap p s.now).put 0x201002 (roundDiv (v * 65536) 1000000)
    let s := if v = 0 then (if old = 0 then s else { s with pos := { s.pos with motionT := s.now } }) else s.put 0x201005 0
    s.virtualTurn p

/-- The effective pitch that the programmed pitch and the trim give (R135). -/
def State.effPitch (s : State) : Nat :=
  (trimmedPitch (s.n 0x202001) (if s.b 0x2C1801 then s.o 0x2C1802 else 0)).toNat

/-- A pitch that applies at once takes over at the next grid point while the epoch is set (R34). -/
def State.pitchAtOnce (s : State) : State :=
  let p := s.effPitch
  if s.epochSet && s.gridMode then
    { s with pos := { s.pos with pendPitch := if p = s.pitch then none else some p } }
  else s.put 0x202005 p

/-- The integrator objects as they are stored to flash, those that are not empty (R324). -/
def State.integratorValues (s : State) : List (Nat × List Nat) :=
  let slots := (List.range 64).map fun i => ((0x8000 + i) * 256, s.blob ((0x8000 + i) * 256))
  (slots ++ [(0x808001, leBytes 1 (s.n 0x808001)), (0x808002, leBytes 4 (s.n 0x808002)), (0x808003, s.blob 0x808003)]).filter
    fun (p : Nat × List Nat) => !p.2.isEmpty

/-- An integrator object has been written (R324): a store follows, or the next store includes it. -/
def State.integratorWritten (s : State) : State :=
  if s.is 0x80F001 1 then { s with dict := { s.dict with intAgain := true } }
  else { s.put 0x80F001 1 with dict := { s.dict with intStore := some s.integratorValues, intAgain := false } }

/-- A scalar of class NOW or IDLE takes a value: status and state. The status is not OK where the unit refuses. -/
def State.setScalar (s : State) (k : Nat) (v : Int) : Nat × State :=
  let i := k / 256
  let j := k % 256
  let on := v ≠ 0
  if 0x21C0 ≤ i && i ≤ 0x21FF && j = 2 then s.armUser (i - 0x2100) v
  else if 0x5020 ≤ i && i ≤ 0x5029 && j = 5 then s.ringEnable (i - 0x5020) on
  else if k = 0x503003 then s.cqEnable on
  else if k = 0x503103 then (stOk, s.evEnable on)
  else if k = 0x390001 then s.csiEnable on
  else if k = 0x540001 then (stOk, s.netEnable on)
  else if k = 0x545001 then
    let r := s.sluiceJoin on
    (r.1, r.2.settleDomains)
  else if k = 0x584001 then (stOk, s.twcEnable on)
  else if 0x1410 ≤ i && i ≤ 0x145F && j = 1 then
    let r := s.domainRequest (i - 0x1410) v.toNat
    (r.1, r.2.refreshClock)
  else if k = 0x68000C then (stOk, s.lockWrite v.toNat)
  else if k = 0x684006 && !s.is 0x684004 0 then (stBusy, s)
  else
    let old := s.o k
    let s := s.put k v
    let s : State :=
      if (i = 0x2000 || i = 0x2001) && (j = 1 || j = 2 || j = 7) then s.encoderSet (i - 0x2000)
      else if k = 0x202801 then (s.modeSet old).settleDomains
      else if k = 0x202804 then s.velocitySet old
      else if k = 0x202002 then (if s.epochSet then s.put 0x202004 (s.n 0x202003 / s.n 0x202002 % 2 ^ 32 : Nat) else s)
      else if k = 0x201801 then s.settleDomains
      else if k = 0x204801 then
        -- a pulse in progress runs to its end under the other modes (DESIGN CHOICE, log entry 91)
        (if v = 0 then { s with pos := { s.pos with trigOut := false } } else s).settleDomains
      else if k = 0x241808 then (if old = 0 && on then (s.wModeSet old).streamRenumber 1 else s.wModeSet old)
      else if k = 0x24180B then s.darkRescale srcW old.toNat v.toNat
      else if k = 0x243001 then
        (if on then s.procStrobes else { s with arr := { s.arr with strobes := 0 } }).settleDomains
      else if i = 0x3910 || i = 0x3911 || i = 0x3912 || i = 0x3913 then
        (if j = 1 then (s.auxEnabled (i - 0x3910) (old ≠ 0)).auxStates else s)
      else if i = 0x5410 then (if old = v then s else s.plcaChanged)
      else if i = 0x1500 then s.chargerEval
      else if i = 0x8080 then s.integratorWritten
      else s
    (stOk, s)

/-- A BLOB or TEXT of class NOW or IDLE takes a value. -/
def State.setBytes_ (s : State) (k : Nat) (bs : List Nat) : State :=
  if 0x2840 ≤ k / 256 && k / 256 ≤ 0x2857 then s.mapWritten (k / 256 - 0x2840) bs
  else if k = 0x110000 then { s with dict := { s.dict with profStore := some bs } }
  else if 0x8000 ≤ k / 256 && k / 256 ≤ 0x80FF then (s.putBlob k bs).integratorWritten
  else s.putBlob k bs

/-- The value of a key comes into force: status and state. Effects that concern several keys follow in `effects`. -/
def State.setKey (s : State) (k : Nat) (bs : List Nat) : Nat × State :=
  match findRow k with
  | none => (stOk, s)
  | some r =>
    if r.ty.isBlob then (stOk, if r.app = .atSection then s.putBlob k bs else s.setBytes_ k bs)
    else if r.app = .atSection then (stOk, if r.acc = .wo then s else s.put k (decodeVal r.ty bs))
    else s.setScalar k (decodeVal r.ty bs)

/-! ### What follows from several keys -/

/-- The bank D input takes over at line `b` (R94). -/
def State.switchD (s : State) : State :=
  let old := s.o 0x280402
  let new := s.o 0x280401
  if old = new then s
  else
    let s := if old = 2 then s.wAbandon else s
    let s := (s.put 0x280402 new).raise 0x0309 (old + 256 * new)
    if new = 2 then { s with arr := { s.arr with wFirst := true, wNextT := s.now, wPend := false } } else s

/-- How a source's phase changed: 0 not, 1 light of its own phase, 2 newly named or in another phase. -/
def phaseChange (p q : Option (Nat × Phase)) : Nat :=
  match p, q with
  | some a, some b => if a.1 ≠ b.1 then 2 else if a.2 = b.2 then 0 else 1
  | none, some _ => 2
  | _, none => 0

/-- A refill of a source begins with line `b` when that line starts, and `n` lines are PARTIAL (R126). -/
def State.refillSource (s : State) (src b n : Nat) : State :=
  { s with rcb := { s.rcb with refillDue := (s.rcb.refillDue.filter fun (p : Nat × Nat) => p.1 ≠ src) ++ [(src, b)] } }.addRun
    src fPartial (b + n - 1)

/-- Line `n` starts: refill points that begin with it take effect (R78, R126, R151). -/
def State.refillStart (s : State) (n : Nat) : State :=
  let due := s.rcb.refillDue.filter fun p => p.2 ≤ n
  let s := { s with rcb := { s.rcb with refillDue := s.rcb.refillDue.filter fun (p : Nat × Nat) => n < p.2 } }
  due.foldl (fun (s : State) p => (s.refill p.1 p.2).darkRefill p.1) s

/-- PARTIAL and MIXED from line `b` (R76, R116). `s0` is the state before the application. -/
def State.planFlags (s0 s : State) (b : Nat) : State :=
  lineSources.foldl (fun (s : State) f =>
    let c := phaseChange (s0.phaseOf f) (s.phaseOf f)
    let switched := s0.bankD ≠ s.bankD && ((f = 0x0D && s.bankD = 0) || (f = srcM && s.bankD = 1))
    let n := if switched && f = srcM then 2 else s.stages f
    if switched || c = 2 || (isField f && s0.stages f ≠ s.stages f && (s.phaseOf f).isSome) then s.refillSource f b n
    else if c = 1 then s.addRun f fMixed (if f = srcM then b else b + s.stages f - 2)
    else s) s

/-- SETTLE from line `b`: gain mode or threshold of a bank (R116). -/
def State.gainFlags (s0 s : State) (b : Nat) : State :=
  [0x0A, 0x0B, 0x0C, 0x0D].foldl (fun (s : State) k =>
    let key := bankBase k
    if s0.o (key + 1) = s.o (key + 1) && s0.o (key + 2) = s.o (key + 2) then s
    else if k = 0x0D && s.bankD = 1 then s.addRun srcM fSettle (b + 1)
    else if k = 0x0D && s.bankD = 2 then s.addRun srcW fSettle (s.wLine + 1)
    else s.addRun k fSettle (b + 1)) s

/-- A full scale changed: carried dark levels are rescaled (R151). -/
def State.scaleFlags (s0 s : State) : State :=
  lineSources.foldl (fun (s : State) f => s.darkRescale f (s0.fullScale f) (s.fullScale f)) s

/-- New exclusion maps (R139). -/
def State.exclusionsApplied (s0 s : State) (ks : List Nat) : State :=
  let maps := (List.range 24).filter fun g => ks.contains ((0x2C40 + g) * 256)
  maps.foldl (fun (s : State) g =>
    let k := (0x2C40 + g) * 256
    let old := s0.blob k
    let new := s.blob k
    let d := ((List.range 1024).filter fun c => fieldAt old (2 * c) 2 ≠ fieldAt new (2 * c) 2).length
    if d = 0 then s else s.raiseAt 0x0405 g 0xFF d) s

/-- Some key of a list lies in a range. -/
def anyIn (ks : List Nat) (lo hi : Nat) : Bool := ks.any fun k => lo ≤ k && k ≤ hi

/-- The engine stage meets what was applied at line `b` (R197, R198, R201). -/
def State.enginesApplied (s0 s : State) (kvs : List (Nat × List Nat)) (b : Nat) : State :=
  let ks := kvs.map (·.1)
  let val (k : Nat) : Option (List Nat) := (kvs.find? (·.1 = k)).map (·.2)
  let s := if ks.contains 0x400800 then
      s.imageCommit { code := val 0x400900, data0 := val 0x400A00, data1 := val 0x400B00 }
    else s
  let started := s0.b 0x400001 ≠ s.b 0x400001
  let s := if started then s.enableApplied b else s
  let conf := (List.range 8).any fun j => s0.o (0x400003 + j) ≠ s.o (0x400003 + j)
  let s := if conf && !started then s.kernelApplied b else s
  let red := (List.range 8).any fun j => s0.o ((0x4020 + j) * 256 + 1) ≠ s.o ((0x4020 + j) * 256 + 1)
  let s := if red then s.reductionApplied b else s
  let s := (List.range 24).foldl (fun (s : State) g =>
    match val (0x400401 + g) with
    | some bs => s.restartApplied g (leNat bs) b
    | none => s) s
  if conf || started || ks.contains 0x400800 then s.refreshBudget else s

/-- Exposure and white-balance controls whose mode was set end and begin (R173, R174). -/
def State.controlsApplied (s0 s : State) : State :=
  (expSources ++ [0xFF]).foldl (fun (s : State) f =>
    let k := if f = 0xFF then 0x348801 else expKey f + 1
    if s0.o k = s.o k then s
    else
      let s := if s0.o k = 0 then s.ctlLeft f else s
      if s.o k = 2 then s else s.ctlBegin f) s

/-- What follows once the values of an application are in force from line `b`. `s0` is the state before it. -/
def State.effects (s0 s : State) (kvs : List (Nat × List Nat)) (b : Nat) : State :=
  let ks := kvs.map (·.1)
  let s := s.switchD
  let planKeys := anyIn ks 0x241001 0x2424FF || ks.contains 0x280401 || ks.contains 0x280402
  let s := if planKeys then (s0.planFlags s b).refreshPlan else s
  let s := if s0.plan = s.plan then s else (s.put 0x244002 (s.o 0x7C0007)).raise 0x0201
  let s := s0.scaleFlags (s0.gainFlags s b)
  let s := s0.exclusionsApplied s ks
  let s := if anyIn ks 0x2C4000 0x2C57FF || anyIn ks 0x241001 0x2413FF then s.refreshExclusions else s
  let s := if ks.contains 0x2C1001 then s.slipModeApplied
    else s
  let s := if ks.contains 0x2C1003 && s.o 0x2C1006 ≤ 1 then s.slipPreset (s.o 0x2C1006) else s
  let s := if s0.b 0x2C1801 && !s.b 0x2C1801 then s.trimDisabled else s
  let s := if anyIn ks 0x323000 0x3236FF then s.showDefects else s
  let s := s0.controlsApplied s
  let s := if s0.b 0x480001 && !s.b 0x480001 then s.bufClose 8 else s
  let s := if s0.n 0x340001 ≠ 0 && s.n 0x340001 = 0 then s.bufClose 9 else s
  let s := if anyIn ks 0x400001 0x41BFFF then s0.enginesApplied s kvs b else s
  let s := if s0.tMin = s.tMin then s else s.refreshBudget
  let s := (List.range 8).foldl (fun (s : State) k => s.streamApplied k b) s
  let s := match kvs.find? (·.1 = 0x50C005) with
    | some p => s.restoreSegments (leNat p.2)
    | none => s
  s0.procChanged s ks

/-- A write that arms or disarms a user entry comes after the other sub-indices of the entries (R40). -/
def isArming (k : Nat) : Bool := decide (0x21C0 ≤ k / 256) && decide (k / 256 ≤ 0x21FF) && decide (k % 256 = 2)

/-- The values of an application come into force from line `b`, in order (R304, R316). -/
def State.applyKeys (s : State) (kvs : List (Nat × List Nat)) (b : Nat) : State :=
  let order := kvs.filter (!isArming ·.1) ++ kvs.filter (isArming ·.1)
  let s1 := order.foldl (fun (s : State) p => (s.setKey p.1 p.2).2) s
  s.effects s1 kvs b

/-- A plain write of class NOW or IDLE: status and state. -/
def State.applyNow (s : State) (k : Nat) (bs : List Nat) : Nat × State :=
  let r := s.setKey k bs
  if r.1 ≠ stOk then (r.1, s)
  else (stOk, s.effects r.2 [(k, bs)] s.nextLine)

end Sys2Proof.Machine
end

