-- ==== Sys2Proof/Machine/Boundary.lean ====
section
/-!
DEFINITION. What happens at a section boundary and when the run state becomes IDLE: the pending commits apply in order
(R43, R176, R315, R316, R397), the section's units close and open (R33, R37 to R39, R57, R150, R172, R262, R292, R321),
and a margin plan takes effect (R402).
-/
namespace Sys2Proof.Machine

/-- The staging ledger at a section boundary (R321). -/
def State.stagingAudit (s : State) : State :=
  let d : Int := (s.entriesUsed : Int) - s.o 0x7C0003
  let e : Int := (s.bytesUsed : Int) - s.o 0x7C0004
  let s := if d = 0 then s else s.raise 0x0805 d
  if e = 0 then s else s.raise 0x0805 e

/-! ### Applications (R43, R316) -/

/-- The values an application sets, with the limits of R176 in force for an exposure control. -/
def State.commitValues (s : State) (c : Commit) : List (Nat × List Nat) :=
  match c.origin, c.entries with
  | .control, [(src, [])] => (s.expoEntries src).map fun p =>
      (p.1, match findRow p.1 with | some r => encodeVal r.ty p.2 | none => [])
  | _, l => l

/-- An application of a control is done: the exposure it set is the reference (R174). -/
def State.controlDone (s : State) (c : Commit) : State :=
  match c.entries with
  | [(src, [])] => s.setCtl { s.ctlOf src with pending := false, last := some (s.exposureNow src) }
  | _ => s.setCtl { s.ctlOf 0xFF with pending := false, last := some s.gainsNow }

/-- The apply boundary of the barrier's commit is reached: the Sluice holds again (R345). -/
def State.barrierApplied (s : State) (c : Commit) : State :=
  match s.net.barrier with
  | some x => if x.epoch = c.epoch then { (s.put 0x545002 1) with net := { s.net with barrier := none } } else s
  | none => s

/-- One commit applies at line `b` (R315, R316). A control takes its epoch as it applies; one withdrawn by a commit of the same
boundary does not apply (R173). -/
def State.applyCommit (s : State) (c : Commit) (b : Nat) : State :=
  if !s.dict.commits.contains c then s
  else
  let ep := if c.epoch = 0 then s.nextEpoch else c.epoch
  let s := if c.epoch = 0 then s.put 0x7C0006 ep else s
  let s := { s with dict := { s.dict with commits := s.dict.commits.filter (· ≠ c) } }
  let s := (s.put 0x7C0007 ep).raise 0x0804 (ep + shl c.param 32 : Nat)
  let s := (s.applyKeys (s.commitValues c) b).showStaging.barrierApplied c
  match c.origin with
  | .control => s.controlDone c
  | .calib => (s.raise 0x0B09).put 0x328012 prIdle
  | .port _ => s
  | .profile => s

/-- Host commits come before calibration applications, and those before the controls. -/
def Commit.rank (c : Commit) : Nat :=
  match c.origin with
  | .port _ => 0
  | .profile => 0
  | .calib => 1
  | .control => 2

/-- A commit is due in a section: its section is reached or was passed over. -/
def Commit.due (c : Commit) (sect : Nat) : Bool :=
  match c.at_ with
  | some a => decide ((sect + 2 ^ 32 - a) % 2 ^ 32 < 2 ^ 31)
  | none => false

/-- Apply those of the pending commits that satisfy a test, in the order of R316. The epoch in force is then the highest of
theirs (R315). -/
def State.applyWhere (s : State) (f : Commit → Bool) (b : Nat) : State :=
  let l := s.dict.commits.filter f
  let order : List Commit := [0, 1, 2].flatMap fun r => l.filter fun (c : Commit) => c.rank = r
  let later (x y : Nat) : Bool := decide ((x + 2 ^ 32 - y) % 2 ^ 32 < 2 ^ 31)
  (order.filter (·.epoch ≠ 0)).foldl
    (fun (s : State) (c : Commit) => if later c.epoch (s.n 0x7C0007) then s.put 0x7C0007 c.epoch else s)
    (order.foldl (fun (s : State) c => s.applyCommit c b) s)

/-- The run state applies commits at once (R43). -/
def State.atOnce (s : State) : Bool := s.run = rsIdle || s.run = rsWaitEpoch

/-- The apply section of a commit that applies at once (R43). -/
def State.sectionAtOnce (s : State) : Nat := if s.epochSet then (s.n 0x202004 + 1) % 2 ^ 32 else 0

/-- Every commit with an apply section is due while the run state applies commits at once (R43). The pitch then takes
over under R34. -/
def State.applyIdle (s : State) : State :=
  if s.atOnce then (s.applyWhere (·.at_.isSome) s.nextLine).pitchAtOnce else s

/-! ### A margin plan in IDLE (R402) -/

/-- An exclusion map with one bit added. -/
def exclWith (m : List Nat) (local_ f g : Nat) : List Nat :=
  setBytes m (2 * local_) (leBytes 2 (fieldAt m (2 * local_) 2 ||| 2 ^ (4 * (f - 0x0A) + g)))

/-- Defect additions of a plan: hot groups enter the exclusion maps, columns with every used group hot the defect maps. The
count of new entries is returned. -/
def State.addHot (s : State) : Nat × State :=
  let hot := s.newHot
  let s := hot.foldl (fun (s : State) h =>
    let k := (0x2C40 + h.1 / 1024) * 256
    s.putBlob k (exclWith (s.blob k) (h.1 % 1024) h.2.1 h.2.2)) s
  let whole := (hot.map fun h => (h.1, h.2.1)).eraseDups.filter fun h =>
    let m := fieldAt (s.blob ((0x2C40 + h.1 / 1024) * 256)) (2 * (h.1 % 1024)) 2
    let used := s.fieldGroups h.2
    m / 2 ^ (4 * (h.2 - 0x0A)) % 16 &&& used = used
  let s := whole.foldl (fun (s : State) h =>
    let k := (0x3230 + (h.2 - 0x0A)) * 256
    let cols := (List.range ((s.blob k).length / 2)).map fun i => fieldAt (s.blob k) (2 * i) 2
    if cols.contains h.1 then s
    else s.putBlob k (((cols ++ [h.1]).insertionSort (· ≤ ·)).flatMap (leBytes 2))) s
  (hot.length + whole.length, s.refreshExclusions.showDefects)

/-- A plan that waits for IDLE takes effect. -/
def State.planIdle (s : State) : State :=
  if !s.is 0x700008 2 then s
  else
    let s := (s.segs.foldl (fun (s : State) g => s.applySegment g) s).puts
      [(0x28100B, s.o 0x703005), (0x500004, s.o 0x704004), (0x700008, 0)]
    let s := s.refreshClock
    let (n, s) := if s.cal.adds then s.addHot else (0, s)
    let s := { s with cal := { s.cal with adds := false } }
    let s := s.raise 0x0B0B (s.n 0x700009)
    if n = 0 then s
    else
      let ep := s.nextEpoch
      (((s.puts [(0x7C0006, ep), (0x7C0007, ep)]).bump 0x703804 n).raise 0x0804 (ep + shl 0xFE 32 : Nat)).raise 0x0B0D n

/-! ### Entering RUNNING -/

/-- The run state becomes RUNNING from IDLE, STARTING or WAIT_EPOCH (R41, R262). -/
def State.enterRunning (s : State) : State :=
  let s := (s.put 0x204002 rsRunning).emit (.ltr (s.n 0x50000A))
  let s := { s with
    pos := { s.pos with
      runFirst := true, motionT := if s.tmode = 2 || s.tmode = 3 then s.now else s.pos.motionT, stopAt := false, stalled := false }
    pipe := { s.pipe with run := s.pipe.run + 1 } }
  s.raise 0x0112

/-! ### The section boundary -/

/-- Encoder travel over the section just ended is compared (R57); at the boundary of line 0 the travel since the boundary before
(DESIGN CHOICE, log entry 92: no section has ended there). -/
def State.crosscheck (s : State) : State :=
  let r0 := s.o 0x200801
  let r1 := s.o 0x200901
  let d0 := r0 - s.pos.enc0.mark
  let d1 := r1 - s.pos.enc1.mark
  let s := { s with pos := { s.pos with enc0 := { s.pos.enc0 with mark := r0 }, enc1 := { s.pos.enc1 with mark := r1 } } }
  if !s.is 0x203801 2 then s
  else
    let x := d0 * 2 ^ 32 - s.o 0x203802 * d1
    let s := s.put 0x203805 (clampI (-(2 ^ 31)) (2 ^ 31 - 1) (roundDiv x (2 ^ 32)))
    if s.o 0x203804 * 2 ^ 32 < |x| && !s.b 0x203806 then (s.put 0x203806 1).raise 0x010D (s.o 0x203805) else s

/-- PTM latches time, position and section (R262). The PTM time is a free value. -/
def State.ptmLatch (s : State) (sect : Nat) (pos : Int) : State :=
  if !s.host.ptm then s
  else
    let (t, s) := s.free 0 (2 ^ 64)
    s.puts [(0x509802, sect), (0x509803, t), (0x509804, pos)]

/-- Low-gain samples of the section just ended (`0x2808.05`). -/
def State.lowGainBoundary (s : State) : State :=
  let l := s.conv.lowGain
  let s := [0x0A, 0x0B, 0x0C, 0x0D].foldl (fun (s : State) b => s.put (bankBase b + 5) ((mapGet l b).getD 0)) s
  { s with conv := { s.conv with lowGain := [] } }

/-- Triggers are accepted: RUNNING, or STOPPING while a STOP_AT_SECTION awaits its boundary (R41). -/
def State.accepting (s : State) : Bool := s.run = rsRunning || (s.run = rsStopping && s.pos.stopAt)

/-- The units of the device meet the boundary of section `sect` at line `b` (rank 3a of R38). Section 0 began at the epoch (R29):
its first events were noted then. -/
def State.sectionUnits (s : State) (sect b : Nat) (pos : Int) : State :=
  let old := s.n 0x202004
  let s := (s.put 0x202004 sect).crosscheck
  let s := if b = 0 then s else { s with dict := { s.dict with seen := [] } }
  let s := (s.statClose false).statSend.slipClose old
  let s := if s.run = rsStopping && s.pos.stopAt then { s with pos := { s.pos with stopAt := false, stalled := false } } else s
  let s := if s.run = rsStarting then s.enterRunning else s
  let r := s.rowReenable b s.wLine
  let s := r.2.foldl (fun (s : State) f => s.refillSource f b (s.stages f)) r.1
  let s := (s.slipBoundary sect).lowGainBoundary
  let s := if s.is 0x204801 3 then s.pulse (s.n 0x204802) else s
  let s := (s.ptmLatch sect pos).ledgerAudit old
  let s := (s.stagingAudit.streamBoundary b).twcBoundary
  s.reportBoundary sect b pos

/-- Line numbers at which an accepted line's fields refill: the first of a run, after a stall, after a reversal, of a
sheet (R126). -/
def State.disturbed (s : State) : Bool := s.pos.runFirst || s.pos.afterStall || s.pos.afterRev || s.pos.afterSheet

/-- The levels of dark tracking of the section that begins at line `b`, under the settings that apply from it (R150 to R152). -/
def State.darkBoundaries (s : State) (b : Nat) : State :=
  (planSources s.plan).foldl (fun (s : State) f =>
    s.darkBoundary f b (s.disturbed || s.rcb.refillDue.any fun p => p.1 = f && p.2 = b)) s

/-- The boundary at line `b`, grid position `pos`: ranks 3a, 3b and 3c of R38. Lines below `b` keep what was in force for them. -/
def State.boundary (s : State) (b : Nat) (pos : Int) : State :=
  let sect := b / max 1 (s.n 0x202002) % 2 ^ 32
  let s1 := s.sectionUnits sect b pos
  let s := (s.keepPast (s1.applyWhere (·.due sect) b) b).auxBoundary.darkBoundaries b
  if s.accepting then s.statOpen sect b pos s.expoList else s

end Sys2Proof.Machine
end

