-- ==== Sys2Proof/Machine/Run.lean ====
section
/-!
DEFINITION. Line triggers, the trigger queue, sheets, stalls, the encoders' edges, the epoch and run control
(01_position_keeping.md, R19 to R56; R68, R72, R74).
-/
namespace Sys2Proof.Machine

/-! ### An accepted line (R51, R68, R72, R116) -/

/-- Flags of a line of a source as its trigger is accepted. -/
def State.lineFlags (s : State) (f n : Nat) : Nat :=
  let part := s.inRun f fPartial n
  let w := s.window f
  flagIf part fPartial ||| flagIf (s.inRun f fSettle n) fSettle ||| flagIf (!part && s.inRun f fMixed n) fMixed
    ||| flagIf (s.inRun f fHistory n) fHistory ||| flagIf (s.is 0x152005 1) fHoldup ||| flagIf (s.repairedIn f) fRepaired
    ||| flagIf (isField f && s.slipUnlocked (s.stages f)) fSlip
    ||| flagIf ((s.rowFailedSegs f).any fun g => w.1 ≤ g && g ≤ w.2) fSegFail

/-- A source's part of a line. -/
def State.srcPart (s : State) (f n : Nat) (p : Int) : SrcLine :=
  let w := s.window f
  { src := f, stages := s.stages f, fs := s.fullScale f, pos := p, flags := s.lineFlags f n, segA := w.1, segB := w.2,
    slots := s.slots f, segs := (segRange w).filter s.segPresent, rowFail := s.rowFailedSegs f }

/-- The derived sources that a running kernel makes of its primary one are parts of the line too (R192). -/
def State.derivedParts (s : State) (key : Nat) (base : List SrcLine) : List SrcLine :=
  match s.kernAt key with
  | some k =>
    match base.find? (·.src = k.psrc) with
    | some x => if k.on then k.derived.map fun d => { x with src := d, slots := 0 } else []
    | none => []
  | none => []

/-- The parts of a line: its sources, and what is derived of them. -/
def State.lineParts (s : State) (n : Nat) (p : Int) : List SrcLine :=
  let base := (planSources s.plan).map fun f => s.srcPart f n p
  base ++ s.derivedParts n base

/-- A line as its trigger is accepted, or as it is skipped. -/
def State.lineRec (s : State) (n : Nat) (p : Int) (skipped : Bool) : LineRec :=
  let mark (x : SrcLine) : SrcLine := if skipped then { x with flags := 2 ^ fSkipped, slots := 0, segs := [] } else x
  { line := n, sect := s.n 0x202004, epoch := s.n 0x7C0007, grid := p, start := s.now, tline := 0, rev := s.xferRev, skipped,
    run := s.pipe.run, off := s.o 0x2C1007, srcs := (s.lineParts n p).map mark }

/-- The transfer direction follows a declared reversal at an accepted line, and with it the order of groups (R78, R139). -/
def State.turnArrays (s : State) : State :=
  if s.rev = s.xferRev then s else (s.putB 0x244001 s.rev).refreshPlan.refreshExclusions

/-- The TRIG_OUT pulse of an accepted trigger in mode LINE (R58). A dropped trigger keeps its line number and is an accepted
one too (R44, R51; DEDUCED, log entry 78). -/
def State.linePulse (s : State) : State := if s.is 0x204801 1 then s.pulse (s.n 0x204802) else s

/-- A trigger is accepted as line `n`: the settings in force are its settings, and its strobes enter the event table (R72). -/
def State.takeLine (s : State) (n : Nat) (p : Int) : State × QTrig :=
  let s := (s.applyRepairs n).turnArrays
  let s := if s.disturbed then
      (planSources s.plan).foldl (fun (s : State) f => s.refillSource f n (s.stages f)) s
    else s
  let s := { s with pos := { s.pos with runFirst := false, afterStall := false, afterRev := false, afterSheet := false } }
  let s := ((s.statCount n false).linePulse).schedStrobes n s.plan p
  (s, { line := n, grid := p, t := s.now, flush := false, held := s.lineRec n p false, plan := s.plan, len := s.sequenceLen })

/-- Lines, codes and settings that nothing needs any more are forgotten. -/
def State.pruneLines (s : State) (n : Nat) : State :=
  let keep (l : LineRec) : Bool := l.srcs.any (·.src = srcW) || n ≤ l.line + 160 || s.asmHolds l.key
    || l.srcs.any fun x => !x.segs.isEmpty
  let lines := s.pipe.lines.filter keep
  { s.trimRuns n with pipe := { s.pipe with
    lines, pix := s.pipe.pix.filter fun p => p.src = srcW || n ≤ p.line + 160
    past := s.pipe.past.filter fun p => n ≤ p.upto + 160 || lines.any fun l => l.line < p.upto } }

/-- SKIPPED lines between the line last started and line `n` have substituted reads (R127). -/
def State.fillSkipped (s : State) (n : Nat) : State :=
  match s.arr.cur with
  | none => s
  | some c =>
    let ms := ((s.pipe.lines.filter fun l => l.skipped && c.line < l.line && l.line < n).map (·.line)).insertionSort (· ≤ ·)
    ms.foldl (fun (s : State) m =>
      [0x0A, 0x0B, 0x0C, 0x0D].foldl (fun (s : State) f => if (s.lineOf f m).isSome then s.substitute f m else s) s) s

/-- An accepted line starts now: row transfer, phases, strobes, conversion (R68, R72). `waited` says that its trigger waited
in the queue. -/
def State.startLine (s : State) (q : QTrig) (waited : Bool) : State :=
  let n := q.line
  let start := s.now
  let s := ((s.fillSkipped n).refillStart n).pruneLines n
  let tline := match s.pos.lastStart with
    | some t0 => min (start - t0) tickMs
    | none => tickMs
  let extra := flagIf waited fOverspeed ||| flagIf (s.is 0x152005 1) fHoldup
  let r := { q.held with start := start, tline := tline, srcs := q.held.srcs.map fun x => { x with flags := x.flags ||| extra } }
  let c : CurLine := { line := n, start := start, plan := q.plan }
  let s := { s with
    pipe := { s.pipe with lines := s.pipe.lines ++ [r] }
    arr := { s.arr with cur := some c }
    pos := { s.pos with convEnd := start + q.len, lastStart := some start } }
  let s := (s.dropSched fun e => e.typ = 7 && e.tag ≠ n % 2 ^ 32).strobeLineStart
  if s.is 0x287004 1 && s.conv.rawLine.isNone then { s with conv := { s.conv with rawLine := some n, raw := [] } } else s

/-- A line reported as SKIPPED (R49, R51). -/
def State.skipLine (s : State) (n : Nat) (p : Int) : State :=
  let r := s.lineRec n p true
  let s := { s with pipe := { s.pipe with lines := s.pipe.lines ++ [r] } }.statCount n true
  r.srcs.foldl (fun (s : State) x => if x.src < 0x40 then s.statLine r.sect x.src x.flags false else s) s

/-- Sources whose streams follow the lines. -/
def lineStreamSources : List Nat := lineSources ++ (List.range 8).map (0x40 + ·)

/-- Lines `a` to `b` have been triggered: stream groups that end with them are complete (R234). -/
def State.streamLines (s : State) (a b : Nat) : State :=
  (List.range (b + 1 - a)).foldl (fun (s : State) i =>
    lineStreamSources.foldl (fun (s : State) f => s.streamLine f (a + i)) s) s

/-- The last accepted line is fixed: groups it leaves unfinished are complete (R81). -/
def State.settleRun (s : State) : State :=
  let ns := (s.pipe.lines.filter fun l => !l.srcs.any (·.src = srcW)).map (·.line)
  match ns.max? with
  | some n => if s.pos.trigQ.isNone then lineStreamSources.foldl (fun (s : State) f => s.settleGroups f n) s else s
  | none => s

/-! ### A line trigger (R32, R50 to R52) -/

/-- A conversion sequence or a flush transfer is in progress. -/
def State.lineBusy (s : State) : Bool := decide (s.now < s.pos.convEnd) || s.flushing

/-- A trigger of line `n` meets the queue (R50 to R52). -/
def State.acceptLine (s : State) (n : Nat) (p : Int) : State :=
  if s.pos.trigQ.isSome then ((s.linePulse.bump 0x203002).raiseFirst 0x010C 0 n).skipLine n p
  else if s.lineBusy then
    let flush := decide (s.pos.convEnd ≤ s.now)
    let r := s.procMotion.takeLine n p
    let s := if flush then r.1 else (r.1.bump 0x203001).raiseFirst 0x010B 0 n
    { s with pos := { s.pos with trigQ := some { r.2 with flush := flush } } }
  else
    let r := s.procMotion.takeLine n p
    (r.1.startLine r.2 false).streamLines n n

/-- Line `n` is triggered at position `p`: the counter, its boundary, and the line if the run accepts it (R32, R33). -/
def State.triggerLine (s : State) (n : Nat) (p : Int) : State :=
  let s := { s.put 0x202003 n with pos := { s.pos with counted := true, lastLine := some n } }
  let was := s.pos.stopAt
  let s := if n % max 1 (s.n 0x202002) = 0 then s.boundary n p else s
  let s := if was && !s.pos.stopAt then s.cutWindows.settleRun.procWatch else s
  if s.accepting then s.acceptLine n p else if s.pos.trigQ.isNone then s.streamLines n n else s

/-- The next multiple of the section length at or above a line number. -/
def State.nextMultiple (s : State) (n : Nat) : Nat := ceilDiv n (max 1 (s.n 0x202002)) * max 1 (s.n 0x202002)

/-- Motion resumes after a stall (R54). -/
def State.resumeMotion (s : State) : State :=
  if !s.pos.stalled then s
  else
    let s := { s with pos := { s.pos with stalled := false, afterStall := true, motionT := s.now } }
    let s := if s.run = rsStalled then s.put 0x204002 rsRunning else s
    (s.put 0x201005 0).raise 0x0109

/-! ### Sheets (R47 to R49) -/

/-- A sheet starts with its first line at a position. -/
def State.sheetStart (s : State) (first : Int) (anchor : Bool) : State :=
  let s := s.bump 0x20280A
  let s := match s.pos.pendPitch with
    | some q => s.put 0x202005 q
    | none => s
  let sh : Sheet := {
    running := true, first := first, left := s.n 0x202805, fresh := true, queued := none, seen := false, policy := s.n 0x202806 }
  let s := { s with pos := { s.pos with sheet := sh, motionT := s.now, pendPitch := none, afterSheet := true } }
  if anchor then { s with pos := { s.pos with gridA := first * 65536, gridJ := 0 } } else s

/-- Start position of the sheet that a trigger at a position requests (R47). -/
def State.sheetPos (s : State) (p : Int) : Int :=
  if s.rev then p - s.o 0x202807 * 65536 else p + s.o 0x202807 * 65536

/-- The last line of a sheet has been triggered: the queued sheet starts (R49). -/
def State.sheetEnd (s : State) : State :=
  let q := s.pos.sheet.queued
  let s := { s with pos := { s.pos with sheet := { s.pos.sheet with running := false, queued := none } } }
  match q with
  | some p =>
    let first := s.sheetPos p
    if reached s.rev s.livePos first then s.sheetStart s.nextGrid false else s.sheetStart first true
  | none => s

/-- The line at a grid point triggers under its number; align takes the first line of a sheet to a multiple of L (R48). -/
def State.gridNumber (s : State) : Nat :=
  if s.tmode = 4 && s.pos.sheet.fresh && s.b 0x202808 then s.nextMultiple s.nextLine else s.nextLine

/-- One line of a sheet has been triggered. -/
def State.sheetLine (s : State) : State :=
  let left := s.pos.sheet.left - 1
  let s := { s with pos := { s.pos with sheet := { s.pos.sheet with left := left, fresh := false } } }
  if left = 0 then s.sheetEnd else s

/-- The pitch after line `n` at the grid point in units of 2^-32 count: a new one takes its anchor there (R30, R34). -/
def State.pitchAfter (s : State) (n : Nat) (exact : Int) : State :=
  let step : Int := if s.rev then -1 else 1
  let eff := if n % max 1 (s.n 0x202002) = 0 then s.effPitch else (s.pos.pendPitch.getD s.pitch)
  if eff ≠ s.pitch then
    { s.put 0x202005 eff with pos := { s.pos with gridA := exact, gridJ := step, pendPitch := none } }
  else { s with pos := { s.pos with gridJ := s.pos.gridJ + step, pendPitch := none } }

/-- The untriggered lines of a sheet that ends at once are skipped, their boundaries processed (R34, R49). -/
def State.sheetCut : Nat → State → State
  | 0, s => s
  | k + 1, s =>
    let n := s.gridNumber
    let p := s.nextGrid
    let exact := s.pos.gridA + s.pos.gridJ * s.pitch
    let s := { s.put 0x202003 n with pos := { s.pos with counted := true, lastLine := some n } }
    let s := if n % max 1 (s.n 0x202002) = 0 then s.boundary n p else s
    let s := if s.accepting then s.skipLine n p else s
    let s := if s.pos.trigQ.isNone then s.streamLines n n else s
    State.sheetCut k { s.pitchAfter n exact with pos := { (s.pitchAfter n exact).pos with
      sheet := { s.pos.sheet with fresh := false } } }

/-- A trigger requests a sheet at a position (R47, R49). A first line that lies behind already is anchored there all the same, and
the lines passed trigger at once (DESIGN CHOICE, log entry 93). The policy in force is the one at the sheet's start. -/
def State.sheetRequest (s : State) (p : Int) : State :=
  if !s.epochSet then s.bump 0x20280B
  else if !s.pos.sheet.running then s.sheetStart (s.sheetPos p) true
  else
    let s := if s.pos.sheet.seen then s else s.raise 0x010E
    let s := { s with pos := { s.pos with sheet := { s.pos.sheet with seen := true } } }
    if s.pos.sheet.policy = 2 then (State.sheetCut s.pos.sheet.left s).sheetStart (s.sheetPos p) true
    else if s.pos.sheet.policy = 1 && s.pos.sheet.queued.isNone then
      { s with pos := { s.pos with sheet := { s.pos.sheet with queued := some p } } }
    else s.bump 0x20280B

/-! ### Grid points and external triggers (R30, R31, R44) -/

/-- Grid points are triggered in the present state. -/
def State.gridOpen (s : State) : Bool :=
  s.epochSet && s.gridMode && !s.pos.stalled && (s.tmode ≠ 4 || s.pos.sheet.running)

/-- The line at the next grid point is triggered. -/
def State.gridLine (s : State) : State :=
  let p := s.nextGrid
  let exact := s.pos.gridA + s.pos.gridJ * s.pitch
  let n := s.gridNumber
  let s := (s.triggerLine n p).pitchAfter n exact
  if s.tmode = 4 then s.sheetLine else s

/-- The next grid point has been reached. -/
def State.gridDue (s : State) : Bool := s.gridOpen && reached s.rev s.livePos s.nextGrid

/-- A user entry that fires before the next grid point (R39). -/
def State.entryBefore (s : State) : Bool :=
  match s.entryNext with
  | some e => before s.rev e.pos s.nextGrid
  | none => false

/-- POS64 reaches the next grid point at tick `t` (R30, R31); a user entry that lies before it comes first (R39). A virtual
source, which has no edges, resumes a stalled run at the first grid point it reaches (DESIGN CHOICE, log entry 94). -/
def State.gridTrigger (s : State) (t : Nat) : State :=
  let s1 := s.atTick t
  let s1 := if s1.tmode = 1 && s1.o 0x202804 ≠ 0 then s1.resumeMotion else s1
  if s1.gridDue && !s1.entryBefore then s1.gridLine else s

/-- The user entry `n` of a type fires now: it is the next of the reached ones, and no due grid line comes first (R39, R40). -/
def State.entryFires (s : State) (n typ : Nat) : Option Armed :=
  match s.entryNext with
  | some e =>
    if e.no = n && e.typ = typ && !(s.gridDue && !before s.rev e.pos s.nextGrid) then some e else none
  | none => none

/-- External and software triggers are accepted in the present run state (R44, R46). -/
def State.triggerOpen (s : State) : Bool :=
  s.run = rsStarting || s.run = rsRunning || s.run = rsStalled || (s.run = rsStopping && s.pos.stopAt)

/-- The last accepted line of a STOP_AT_SECTION is fixed: no boundary is awaited any more (R41). -/
def State.fixLast (s : State) : State :=
  ({ s with pos := { s.pos with stopAt := false, stalled := false } }).cutWindows.settleRun.procWatch

/-- A trigger of the modes EXTERNAL and SOFTWARE (R41, R44). In STARTING the line counter moves to a multiple of L. A
STOP_AT_SECTION has its last line when the line before a boundary is taken: a later trigger is not accepted and does not move
the counter (DEDUCED, log entry 77). -/
def State.externalLine (s : State) : State :=
  if !s.triggerOpen then s
  else
    let n := if s.run = rsStarting then s.nextMultiple s.nextLine else s.nextLine
    let s := s.resumeMotion
    let s := { s with pos := { s.pos with motionT := s.now } }
    let s := s.triggerLine n s.livePos
    let s := if s.pos.stopAt && (n + 1) % max 1 (s.n 0x202002) = 0 then s.fixLast else s
    if n % max 1 (s.n 0x202002) = 0 then s.put 0x202005 s.effPitch else s

/-- A filtered edge on TRIG_IN to a level, stamped with tick `t` and accepted after its filter time (R46, R47). -/
def State.trigInEdge (s : State) (level : Bool) (t : Nat) : State :=
  if !s.pdOn 14 || s.pos.trigIn = level then s
  else
    let s := { s.atTick (t + s.n 0x202803) with pos := { s.pos with trigIn := level } }
    let active := level = !s.b 0x202802
    if !active then s
    else if s.tmode = 2 then s.externalLine
    else if s.tmode = 4 then s.sheetRequest (s.posAt t)
    else s

/-- A software line (R46): status and state. -/
def State.softwareLine (s : State) : Nat × State :=
  if s.tmode ≠ 3 || !s.triggerOpen then (stState, s) else (stOk, s.externalLine)

/-- The previous conversion sequence or flush has ended: the queued line starts (R50, R52). -/
def State.queuedStart (s : State) : State :=
  match s.pos.trigQ with
  | none => s
  | some q =>
    let s := s.atTick (max s.pos.convEnd (s.pos.flushEnd.getD 0))
    let s := { s with pos := { s.pos with trigQ := none } }
    let s := (s.startLine q (!q.flush)).streamLines q.line (s.pos.lastLine.getD q.line)
    if s.accepting then s else s.settleRun

/-! ### Stalls (R53) -/

/-- A flush transfer runs. -/
def State.flushTransfer (s : State) : State :=
  let s := s.bump 0x203004
  { s with pos := { s.pos with flushEnd := some (s.now + s.flushLen), nextFlush := s.now + tickMs } }

/-- The stall condition of the trigger mode holds (R44). -/
def State.stallCondition (s : State) : Bool :=
  s.accepting && !s.pos.stalled && (s.tmode ≠ 1 || s.is 0x202804 0) && (s.tmode ≠ 4 || s.pos.sheet.running)

/-- The stall condition has lasted the stall time: the run stalls. The estimator begins anew with the edges after it (R25), and
windows wait no longer for lines that have not arrived (R188). -/
def State.stallTimeout (s : State) : State :=
  if !s.stallCondition then s
  else
    let s := s.atTick (s.pos.motionT + s.n 0x201004 * tickUs)
    let s := if s.run = rsRunning then s.put 0x204002 rsStalled else s
    let s := { s with pos := { s.pos with stalled := true, ivals := [], ivT := none } }
    let s := ((s.put 0x201005 2).put 0x201002 0).bump 0x203003
    (s.raise 0x0108).cutWindows.slipHold.flushTransfer.procWatch

/-- A counted edge of stamp `t` moves the position, and may declare a reversal: the estimator then has no interval yet in the new
direction (R25, R55). -/
def State.edgeMoves (s : State) (t : Nat) (rev : Bool) : State :=
  let r := (s.countPos t rev).hysteresis
  if r.2 then ((r.1.declareReversal r.1.pos.cnt).standSnap r.1.pos.cnt t).put 0x201002 0 else r.1

/-- The stall timer of 1 ms expires. -/
def State.flushDue (s : State) : State := if s.pos.stalled then (s.atTick s.pos.nextFlush).flushTransfer else s

/-- A flush transfer ends. -/
def State.flushDone (s : State) : State :=
  match s.pos.flushEnd with
  | some e => { s.atTick e with pos := { s.pos with flushEnd := none } }
  | none => s

/-! ### The epoch (R29) -/

/-- Lines are renumbered from 0: what was kept under the old numbers is forgotten, and what starts with a line starts with
the first. Rows of W keep their numbers. -/
def State.renumber (s : State) : State :=
  let eng (p : Nat × Engine) : Nat × Engine :=
    let e := { p.2 with psect := none, chg := p.2.chg.map fun b => if isRow b then b else 0 }
    (p.1, if isRow e.first then e else { e with first := 0, cur := none, ready := none })
  { s with
    pipe := { s.pipe with past := [], cuts := [], lines := s.pipe.lines.filter fun l => l.srcs.any (·.src = srcW)
                          pix := s.pipe.pix.filter (·.src = srcW), outs := s.pipe.outs.filter fun o => isRow o.line
                          dark := s.pipe.dark.map fun d => { d with due := none }
                          haloErrs := s.pipe.haloErrs.filter fun x => x.2.1 = srcW }
    rcb := { s.rcb with reads := [], refill := [], refillDue := [], pendOff := [], pendTrim := [], trims := [], closed := none }
    arr := { s.arr with runs := s.arr.runs.filter (·.src = srcW) }
    conv := { s.conv with unrep := s.conv.unrep.map fun u => { u with fromLine := 0 } }
    eng := { s.eng with kerns := (s.eng.kerns.take 1).map fun k => { k with start := 0 }, engs := s.eng.engs.map eng
                        outs := s.eng.outs.filter fun o => isRow o.line }
    pos := { s.pos with lastLine := none } }

/-- The epoch is set by an edge or a command of stamp `t` (R29): line 0 is triggered at the epoch in the modes ENCODER and
VIRTUAL. Counted edges of later stamps, accepted before the epoch's own edge passed its filter, count on from the preset. -/
def State.epochEdge (s : State) (t : Nat) : State :=
  let later := (s.pos.recent.filter fun p => t < p.1).reverse
  let s := (s.setEpoch t).renumber.streamEpoch
  let s := s.put 0x202005 s.effPitch
  let s := if s.run = rsWaitEpoch then s.enterRunning else s
  let s := if s.tmode = 0 || s.tmode = 1 then s.gridLine else s
  if s.tmode = 1 then s else later.foldl (fun (s : State) p => s.edgeMoves p.1 p.2) s

/-- A qualifying edge of stamp `t` of the selected epoch source: sets an armed epoch, or is counted. -/
def State.epochSource (s : State) (t : Nat) : State := if s.is 0x201804 1 then s.epochEdge t else s.bump 0x201805

/-- A filtered edge on the EPOCH input (R29, R46). -/
def State.epochInEdge (s : State) (level : Bool) (t : Nat) : State :=
  if !s.pdOn 14 || s.pos.epochIn = level then s
  else
    let s := { s.atTick (t + s.n 0x201806) with pos := { s.pos with epochIn := level } }
    if level && s.is 0x201801 2 then s.epochSource t else s

/-- Arm epoch (R29): status and state. A new arming clears a failed position verification (R442). -/
def State.armEpoch (s : State) : Nat × State :=
  if s.run ≠ rsIdle then (stState, s)
  else if s.is 0x201804 1 then (stOk, s)
  else
    let v : Int := if s.n 0x15200B % 16 = 2 then 0 else s.o 0x15200B
    (stOk, { (s.put 0x201804 1).put 0x15200B v with pos := { s.pos with sheet := { s.pos.sheet with running := false, queued := none } } })

/-! ### Encoder edges (R19 to R25, R55) -/

/-- A counted edge of an encoder with stamp `t`. An edge of the position source stamped no later than the epoch counts in the raw
count alone: POS64 was loaded after it (R29). -/
def State.countEdge (s : State) (i t : Nat) (rev : Bool) : State :=
  let s := s.countRaw i t rev
  let old := match s.pos.epochT with | some e => decide (t ≤ e) | none => false
  if !s.isSource i || old then s
  else
    let s := { s with pos := { s.pos with recent := (t, rev) :: s.pos.recent.filter fun p => s.now < p.1 + 1024 } }
    let enc := s.tmode = 0 || s.tmode = 4
    let s := if enc then s.resumeMotion else s
    let s := if enc then { s with pos := { s.pos with motionT := t } } else s
    let stall := s.pos.stalled
    let s := s.edgeMoves t rev
    if stall then s.put 0x201005 2 else s

/-- The open step of an encoder closes and is judged (R21). -/
def State.stepClose (s : State) (i : Nat) : State :=
  let e := s.enc i
  match e.step with
  | none => s
  | some st =>
    let s := (s.atTick (st.t + s.stepLen i)).setEnc i { e with step := none }
    match judgeStep st with
    | none => s.illegalStep i
    | some onA =>
      let rev := edgeForward onA e.a e.b = s.b (encCfg i + 5)
      if edgeCounted (s.o (encCfg i + 3)) onA e.a rev then s.countEdge i st.t rev else s

/-- An accepted edge of A or B enters a step (R21). -/
def State.stepEdge (s : State) (i : Nat) (onA level : Bool) (t : Nat) : State :=
  let expired := match (s.enc i).step with
    | some st => decide (st.t + s.stepLen i ≤ t)
    | none => false
  let s := if expired then s.stepClose i else s
  let e := s.enc i
  let st := e.step.getD { t := t, a := e.a, b := e.b, nA := 0, nB := 0 }
  let st := if onA then { st with nA := st.nA + 1 } else { st with nB := st.nB + 1 }
  s.setEnc i { e with a := if onA then level else e.a, b := if onA then e.b else level, step := some st }

/-- A rising edge of Z with stamp `t` (R29). -/
def State.zRise (s : State) (i t : Nat) : State :=
  if !s.zQualifies i then s
  else
    let s := s.bump (encSt i + 5)
    if i = 0 && s.is 0x201801 1 then s.epochSource t else s

/-- A filtered edge on channel 0 A, 1 B or 2 Z of an encoder to a level, stamped with tick `t` (R19, R22). -/
def State.encoderEdge (s : State) (i ch : Nat) (level : Bool) (t : Nat) : State :=
  let e := s.enc i
  let now := if ch = 0 then e.a else if ch = 1 then e.b else e.z
  if !s.encOn i || e.lost.testBit ch || now = level then s
  else
    let s := s.atTick (t + s.n (encCfg i + 4))
    if ch < 2 then s.stepEdge i (ch = 0) level t
    else
      let s := s.setEnc i { e with z := level }
      if level then s.zRise i t else s

/-- A receiver declares loss of a channel (R22). -/
def State.encoderLoss (s : State) (i ch : Nat) : State :=
  let e := s.enc i
  if !s.encOn i || s.o (encCfg i + 2) ≠ 0 || !s.b (encCfg i + 7) || 3 ≤ ch || e.lost.testBit ch then s
  else
    let s := (s.setEnc i { e with lost := e.lost ||| 2 ^ ch }).put (encSt i + 3) 1
    let s := if i = 0 && (s.is 0x152005 1 || s.is 0x152005 2) then { s with pow := { s.pow with lossSeen := true } } else s
    if e.lost = 0 then s.raise (0x0104 + i) ch else s

/-- The differential voltage of a lost channel is back (R22). -/
def State.encoderBack (s : State) (i ch : Nat) : State :=
  let e := s.enc i
  if 3 ≤ ch || !e.lost.testBit ch then s
  else
    let left := e.lost ^^^ 2 ^ ch
    let s := s.setEnc i { e with lost := left }
    if left = 0 then (s.put (encSt i + 3) 2).raise (0x0106 + i) else s

/-- The estimator horizon passes without an edge (R26). -/
def State.horizonExpiry (s : State) : State :=
  match s.pos.enc0.lastT with
  | some t0 => if s.is 0x201005 0 && s.tmode ≠ 1 then (s.atTick (t0 + s.horizon)).coast else s
  | none => s

/-! ### Run control (R41, R42) -/

/-- The status with which START in IDLE is refused; 0 when it is not (R42, R103, R442). -/
def State.startRefusal (s : State) : Nat :=
  if s.is 0x102001 dsHoldup || s.is 0x102001 dsShutdown || s.n 0x15200B % 16 = 2 then stState
  else if s.is 0x281003 1 && s.conv.calLeft.any (fun b => s.bankSlots b ≠ 0) then stState
  else if s.imagingDomains.all s.pdOn then stOk else stState

/-- START in IDLE, which nothing refuses (R41). -/
def State.startRun (s : State) : State :=
  let s := (s.holdImaging true).slipRunStart
  let s := { s with pos := { s.pos with stopAt := false, stalled := false } }
  if s.epochSet then s.put 0x204002 rsStarting
  else if s.is 0x201801 0 then
    let s := (s.put 0x201804 1).put 0x204002 rsWaitEpoch
    s.epochEdge s.now
  else (s.put 0x201804 1).put 0x204002 rsWaitEpoch

/-- The run state becomes IDLE: pending commits and a pending margin plan apply, the section cut short ends, what acquisition
holds is released; a latched START proceeds or is refused (R41, R43, R172, R262, R402, R430). -/
def State.enterIdle (s : State) : State :=
  let latched := s.run = rsPendingStart
  let s := (s.put 0x204002 rsIdle).emit (.ltr 0)
  let s := { s with pos := { s.pos with stopAt := false, stalled := false }, arr := { s.arr with cur := none, gate := none } }
  let s := s.dropSched fun e => e.typ = 7
  let s := if s.pipe.cur.isSome then (s.statClose (s.nextLine % max 1 (s.n 0x202002) ≠ 0)).statSend.slipClose (s.n 0x202004) else s
  let s := s.procWatch.applyIdle.planIdle
  if !latched then s.holdImaging false
  else if s.startRefusal = stOk then s.startRun
  else (s.holdImaging false).raise 0x0114 s.startRefusal

/-- START (R41): status and state. -/
def State.runStart (s : State) : Nat × State :=
  if s.run = rsIdle then (if s.startRefusal = stOk then (stOk, s.startRun) else (s.startRefusal, s))
  else if s.run = rsStopping then
    let s := if s.pos.stopAt then s.cutWindows else s
    (stOk, ({ s with pos := { s.pos with stopAt := false, stalled := false } }.put 0x204002 rsPendingStart).settleRun)
  else if s.run = rsPendingStart then (stOk, s)
  else (stState, s)

/-- STOP_AT_SECTION (R41). -/
def State.stopAtSection (s : State) : State :=
  let cmd := s.put 0x204003 1
  if s.run = rsRunning || s.run = rsStalled then
    let t := { cmd with pos := { s.pos with stopAt := true } }.put 0x204002 rsStopping
    if (s.tmode = 2 || s.tmode = 3) && s.nextLine % max 1 (s.n 0x202002) = 0 then t.fixLast else t.procWatch
  else if s.run = rsStarting || s.run = rsWaitEpoch then cmd.enterIdle
  else if s.run = rsPendingStart then s.put 0x204002 rsStopping
  else s

/-- STOP_NOW with a stop cause: 1 command, 2 hold-up, 3 thermal, 4 fault (R41). -/
def State.stopNow (s : State) (cause : Nat) : State :=
  let cmd := s.put 0x204003 cause
  if s.run = rsRunning || s.run = rsStalled || (s.run = rsStopping && s.pos.stopAt) then
    ({ cmd with pos := { s.pos with stopAt := false, stalled := false } }.put 0x204002 rsStopping).cutWindows.settleRun.procWatch
  else if s.run = rsStarting || s.run = rsWaitEpoch then cmd.enterIdle
  else if s.run = rsPendingStart then s.put 0x204002 rsStopping
  else s

/-- A stream's records of line sources are all delivered or reported. -/
def State.streamsDone (s : State) : Bool :=
  s.conf.streams.all fun st =>
    st.asm.all (fun a => !sameLines a.line 0) && st.waiting.all fun r => !sameLines r.line 0

/-- Every in-flight line has been delivered or reported. -/
def State.linesDone (s : State) : Bool :=
  s.pos.trigQ.isNone && s.streamsDone
    && s.pipe.lines.all fun l => l.srcs.any (·.src = srcW) || l.srcs.all fun x => x.segs.isEmpty

/-- STOPPING ends in IDLE (R41). -/
def State.runStopped (s : State) : State :=
  if (s.run = rsStopping && !s.pos.stopAt || s.run = rsPendingStart) && s.linesDone then
    let s := s.atTick s.pos.convEnd
    let s := if s.run = rsStopping then s.raise 0x0113 else s
    s.enterIdle
  else s

/-- At the first boundary after a return from hold-up the device issues START when it was told to (R442). `old` is the
state before the trigger. -/
def State.rearmAfter (old s : State) : State :=
  if s.pow.rearm && s.run = rsIdle && (old.o 0x202004 ≠ s.o 0x202004 || (!old.pos.counted && s.pos.counted)) then
    { s with pow := { s.pow with rearm := false } }.runStart.2
  else s

end Sys2Proof.Machine
end

