-- ==== Sys2Proof/Machine/Checks.lean ====
section
/-!
DEFINITION. The rules that concern several objects (R75, R195, R239) and the unnumbered rules that a commit or a
plain write is checked against (R26, R84, R114, R137, R163, R173, R176, R267 and the thresholds of R446), on settings
given as a state (R312 check 4). Each check lists the failing keys with the row number of its table.
-/
namespace Sys2Proof.Machine

/-- The settings a list of staged values leaves, none of their effects carried out. -/
def State.withSettings (s : State) (kvs : List (Nat × List Nat)) : State :=
  kvs.foldl (fun (s : State) p =>
    match findRow p.1 with
    | some r => if r.acc = .wo then s else if r.ty.isBlob then s.putBlob p.1 p.2 else s.put p.1 (decodeVal r.ty p.2)
    | none => s) s

/-- A key listed with a row number when a condition fails. -/
def failIf (c : Bool) (k row : Nat) : List (Nat × Nat) := if c then [(k, row)] else []

/-! ### The phase plan (R75) -/

/-- The failing objects under R75. A field named twice fails in the later phase. -/
def State.planFails (s : State) : List (Nat × Nat) :=
  let plan := s.plan
  let fields := (plan.map (·.field)).filter (· ≠ 0xFF)
  let key (p j : Nat) := (0x2421 + p) * 256 + j
  let input := s.n 0x280401
  let phases := (List.range plan.length).flatMap fun i =>
    match plan[i]? with
    | some ph =>
      failIf (ph.field ≠ 0xFF && ((plan.take i).any fun q => q.field = ph.field)) (key i 1) 1
        ++ failIf ((ph.field = 0x0D && input ≠ 0) || (ph.field = srcM && input ≠ 1)) (key i 1) 2
        ++ (ph.strobes.flatMap fun x => failIf (ph.len < x.2.1 + x.2.2) (key i (4 + x.1)) 3)
    | none => []
  let windows := [(0x0A, 0x241006), (0x0B, 0x241106), (0x0C, 0x241206), (0x0D, 0x241306), (srcM, 0x241405), (srcW, 0x241803)].flatMap
    fun p => failIf ((s.window p.1).2 < (s.window p.1).1) p.2 4
  let bins := fields.flatMap fun f =>
    failIf (s.n 0x202002 % max 1 (s.binning f).2.1 ≠ 0) (if isField f then fieldBase f + 4 else 0x241403) 5
  let unnamed (f : Nat) : Bool := (isField f || f = srcM) && !fields.contains f
  let streams := (List.range 8).flatMap fun i => failIf (s.b (strCfg i 1) && unnamed (s.n (strCfg i 2))) (strCfg i 2) 6
  let stats := (List.range 5).any fun i => s.bit 0x340001 i && unnamed (if i < 4 then 0x0A + i else srcM)
  phases ++ windows ++ bins ++ streams ++ failIf stats 0x340001 6

/-- A staged object brings the checks of R75 about. -/
def planTrigger (k : Nat) : Bool :=
  (0x240000 ≤ k && k ≤ 0x27FFFF) || k = 0x280401 || k = 0x202002 || k = 0x340001
    || (0x381000 ≤ k && k ≤ 0x3817FF && (k % 256 = 1 || k % 256 = 2))

/-! ### The engine stage (R195) -/

/-- A header's own faults: engines, mask, check word, lengths, and the staged parts' check words. -/
def State.headerBad (s : State) (hdr : List Nat) (code data : Option (List Nat)) : Bool :=
  let dlen := fieldAt hdr 20 4
  decide (fieldAt hdr 2 2 ≠ s.n 0x10100C) || decide (fieldAt hdr 4 4 ≠ s.n 0x10100D)
    || decide (fieldAt hdr 124 4 ≠ crc32c (hdr.take 124))
    || fieldAt hdr 12 4 = 0 || 8192 < fieldAt hdr 12 4 || 130816 < dlen
    || (match code with | some c => decide (crc32c c ≠ fieldAt hdr 16 4) | none => false)
    || (match data with
        | some d => d.length ≠ dlen || (0 < dlen && crc32c d ≠ fieldAt hdr 24 4)
        | none => false)

/-- The failing objects under R195. `kvs` is what the commit stages, `all` everything that will have been applied with it, `inForce`
the engine enable in force at the apply boundary. -/
def State.engineFails (s : State) (kvs all : List (Nat × List Nat)) (inForce : Bool) : List (Nat × Nat) :=
  let val (k : Nat) : Option (List Nat) := (kvs.find? (·.1 = k)).map (·.2)
  let img := [0x400800, 0x400900, 0x400A00, 0x400B00].filter fun k => (val k).isSome
  let on := s.b 0x400001
  let r1 := if on || inForce then img.map fun k => (k, 1) else []
  let r2 := if (val 0x400800).isSome then [] else img.map fun k => (k, 2)
  let data := match val 0x400A00, val 0x400B00 with
    | none, none => none
    | x, y => some ((x.getD []) ++ (y.getD []))
  let r3 := match val 0x400800 with
    | some h => failIf (s.headerBad h (val 0x400900) data) 0x400800 3
    | none => []
  let coming := (all.reverse.find? (·.1 = 0x400800)).map (·.2)
  let hdr := match coming, s.eng.store with
    | some h, _ => some h
    | none, some st => if s.n 0x40000B = 0 then none else some st.1
    | none, none => none
  let r4 := failIf (on && hdr.isNone) 0x400001 4
  let sel := s.n 0x400003
  let r56 := match hdr with
    | some h =>
      let e := fieldAt h (28 + 4 * sel) 4
      let hh := fieldAt h (92 + sel) 1
      failIf (e = 0xFFFFFFFF || fieldAt h 12 4 ≤ e) 0x400003 5 ++ failIf (hh ≠ 0 && hh ≠ s.n 0x400004) 0x400004 6
    | none => []
  let p := s.n 0x400005
  let q := s.n 0x400007
  let named (f : Nat) : Bool := s.plan.any fun ph => ph.field = f
  let nameless (f : Nat) : Bool := (isField f || f = srcM) && !named f
  let r7 := failIf ((p = srcW && (q ≠ 0xFF || s.n 0x280401 ≠ 2)) || nameless p) 0x400005 7
    ++ failIf (q = srcW || (q = p && (p ≠ srcM || s.n 0x400006 = s.n 0x400008)) || nameless q) 0x400007 7
  let a := s.n 0x400009
  let b := s.n 0x40000A
  let r8 := failIf (a = 2 && q = 0xFF) 0x400009 8 ++ failIf ((b = 2 && q = 0xFF) || (a ≠ 0 && a = b)) 0x40000A 8
  r1 ++ r2 ++ r3 ++ r4 ++ r56 ++ r7 ++ r8

/-- A staged object brings the checks of R195 about. -/
def engineTrigger (p : Nat × List Nat) : Bool :=
  let k := p.1
  (k = 0x400001 && leNat p.2 = 1) || (0x400003 ≤ k && k ≤ 0x40000A) || (0x400800 ≤ k && k ≤ 0x400B00) || k = 0x401000
    || (0x402001 ≤ k && k ≤ 0x402701 && k % 256 = 1) || (0x410000 ≤ k && k ≤ 0x41BFFF)

/-! ### Streams (R239, R163, R267) -/

/-- Columns a source offers, by first and last active column, or pixel column (R237). -/
def State.sourceSpan (s : State) (src : Nat) : Nat × Nat :=
  if isAux src then (0, s.n (auxCfg (src - 0x20) 3) - 1)
  else
    let w := s.window (if 0x40 ≤ src then s.n 0x400005 else src)
    (1024 * w.1, 1024 * w.2 + 1023)

/-- The source is a colour one: M, or an auxiliary channel with a mosaic. -/
def State.colourSource (s : State) (src : Nat) : Bool :=
  src = srcM || (isAux src && s.n (auxCfg (src - 0x20) 5) ≠ 0)

/-- Columns grouped in an input column under the settings (R237). -/
def State.groupOf (s : State) (src : Nat) : Nat :=
  if isField src || src = srcM then max 1 (s.binning src).1
  else if src = srcW then (if s.b 0x241805 then 2 else 1)
  else if 0x40 ≤ src then max 1 (s.n ((0x4020 + (src - 0x40)) * 256 + 1))
  else 1

/-- Bytes of the records of a stream under the settings. -/
def State.streamBytes (s : State) (i : Nat) : Nat :=
  let w := (s.n (strCfg i 5) + 1 - s.n (strCfg i 4)) / s.groupOf (s.n (strCfg i 2))
  recordBytes (payloadBytes (s.n (strCfg i 9)) (64 * w / max 64 (s.n (strCfg i 6))))

/-- The failing objects of one enabled stream under rows 2 to 6 of R239. -/
def State.streamFail (s : State) (i : Nat) : List (Nat × Nat) :=
  let c (j : Nat) : Nat := s.n (strCfg i j)
  let src := c 2
  let g := s.groupOf src
  let sp := s.sourceSpan src
  let w := (c 5 + 1 - c 4) / g
  let crop := failIf (c 5 < c 4 || c 4 % g ≠ 0 || c 4 < sp.1) (strCfg i 4) 2
    ++ failIf ((c 5 + 1) % g ≠ 0 || sp.2 < c 5 || 64 * w / max 64 (c 6) = 0) (strCfg i 5) 2
  let colour := s.colourSource src
  let rgb := c 9 = 0x30
  let form := failIf (colour && rgb && c 3 ≠ 4 || colour && !rgb && c 3 = 4) (strCfg i 3) 3
    ++ failIf (!colour && rgb) (strCfg i 9) 3
  let a := max 1 (c 7)
  let vert := failIf (s.n 0x202002 % a ≠ 0 || (isAux src && s.n (auxCfg (src - 0x20) 4) % a ≠ 0)) (strCfg i 7) 4
  let named := s.plan.any fun ph => ph.field = src
  let bad := ((isField src || src = srcM) && !named) || (src = srcW && s.n 0x280401 ≠ 2)
    || (0x40 ≤ src && s.n 0x400009 ≠ src && s.n 0x40000A ≠ src)
  let dest := if c 0x0B = 1 then s.n 0x50400D = 0 else s.n (ringKey i 9) = 0
  crop ++ form ++ vert ++ failIf bad (strCfg i 2) 5 ++ failIf dest (strCfg i 0x0B) 6

/-- The failing objects under R239, R163 and R267. `kvs` is what the commit stages. -/
def State.streamFails (s : State) (kvs : List (Nat × List Nat)) : List (Nat × Nat) :=
  let on := (List.range 8).filter fun i => s.b (strCfg i 1)
  let reach := (on.filter fun i => s.n (strCfg i 0x0B) = 1).drop 1
  (reach.map fun i => (strCfg i 0x0B, 1)) ++ (on.flatMap s.streamFail)
    ++ ((List.range 8).flatMap fun i =>
        failIf (!on.contains i && (kvs.any fun p => p.1 = strCfg i 7) && s.n 0x202002 % max 1 (s.n (strCfg i 7)) ≠ 0) (strCfg i 7) 0)
    ++ (on.flatMap fun i =>
        failIf ((kvs.any fun p => p.1 = strCfg i 1) && s.n (strCfg i 0x0B) = 0 && s.n (ringKey i 3) < s.streamBytes i) (strCfg i 1) 0)

/-! ### Rules without a table -/

/-- The horizon exceeds the stall time (R26). -/
def State.horizonFails (s : State) : Bool := s.n 0x201004 < s.n 0x201003

/-- The interval of W is too short for its rows, or its rows lie beyond the array (R84). The failing key is given. -/
def State.wFails (s : State) : Option Nat :=
  if 256 < s.n 0x241801 + s.n 0x241802 then some 0x241801
  else if s.n 0x241807 < 250 * s.n 0x241802 + 2700 then some 0x241807 else none

/-- The thresholds of the power path are out of order (R446). The failing key is given. -/
def State.powerFails (s : State) : Option Nat :=
  if s.n 0x152002 < s.n 0x152001 + 100 then some 0x152002
  else if s.n 0x152003 < s.n 0x152002 then some 0x152003 else none

/-- The failing objects of the rules that are no row of a table (R26, R84, R114, R137, R173, R176). `now` is the state at
the commit, `s` the settings that will be in force. -/
def State.ruleFails (s : State) (now : State) (kvs : List (Nat × List Nat)) : List (Nat × Nat) :=
  let has (lo hi : Nat) : Bool := kvs.any fun p => lo ≤ p.1 && p.1 ≤ hi
  let opt (c : Bool) (o : Option Nat) : List (Nat × Nat) := match o with
    | some k => failIf c k 0
    | none => []
  failIf (has 0x201003 0x201004 && s.horizonFails) 0x201003 0
    ++ opt (has 0x241801 0x241807) s.wFails
    ++ opt (has 0x152001 0x152003) s.powerFails
    ++ ((List.range 24).flatMap fun g => match kvs.find? (·.1 = mapKey g) with
        | some p => failIf (!now.mapAllowed g p.2) (mapKey g) 0
        | none => [])
    ++ failIf (has 0x2C1801 0x2C1801 && s.b 0x2C1801 && (!s.is 0x2C1001 2 || s.tmode = 2 || s.tmode = 3)) 0x2C1801 0
    ++ (expSources.flatMap fun f =>
        failIf (has (expKey f + 1) (expKey f + 1) && !s.is (expKey f + 1) 2
          && !s.bit 0x340001 (if f = srcM then 4 else f - 0x0A)) (expKey f + 1) 0)
    ++ (if has 0x348000 0x3484FF then
          expSources.flatMap fun f => [4, 6, 8].flatMap fun j =>
            failIf (s.o (expKey f + j + 1) < s.o (expKey f + j)) (expKey f + j) 0
        else [])

/-- The first failing object, in ascending index and sub-index order, of what a commit stages (R312 check 4). `s` holds the
settings that will be in force, `all` what is applied before and with the commit. -/
def State.commitFails (s : State) (now : State) (kvs all : List (Nat × List Nat)) : Option (Nat × Nat) :=
  let before := all.take (all.length - kvs.length)
  let on := match before.reverse.find? (·.1 = 0x400001) with
    | some p => decide (leNat p.2 = 1)
    | none => now.b 0x400001
  let l := (if kvs.any fun p => planTrigger p.1 then s.planFails else [])
    ++ (if kvs.any engineTrigger then s.engineFails kvs all on else [])
    ++ (if kvs.any fun p => 0x381000 ≤ p.1 && p.1 ≤ 0x3817FF then s.streamFails kvs else [])
    ++ s.ruleFails now kvs
  (l.insertionSort fun a b => a.1 * 16 + a.2 ≤ b.1 * 16 + b.2).head?

end Sys2Proof.Machine
end

