-- ==== Sys2Proof/Machine/Access.lean ====
section
/-!
DEFINITION. What a request on an object is checked against, step by step (R9, R10, R12, R77, R159, R300 to R303): the
object exists, its unit is present, its access right, type and range, the rules of its own write, the controls that lock
it, and the state that permits it. Also the bytes of the profile and of UTF-8 text.
-/
namespace Sys2Proof.Machine

/-! ### Existence and presence (R8 to R12, R300) -/

/-- The index and sub-index exist: a row lists them, or sub-index 0 of a composite. -/
def keyExists (k : Nat) : Bool := (findRow k).isSome || (k % 256 = 0 && 0 < subCount (k / 256))

/-- The greatest of a list of ranges holds an index. -/
def inRanges (i : Nat) (l : List (Nat × Nat)) : Bool := l.any fun p => p.1 ≤ i && i ≤ p.2

/-- Indices whose objects are absent as a whole on a variant. -/
def absentRanges : Int → List (Nat × Nat)
  | 2 => [(0x2412, 0x2414), (0x2418, 0x2418), (0x2804, 0x2804), (0x280A, 0x280B), (0x2C0A, 0x2C0B), (0x3002, 0x3005),
          (0x3012, 0x3015), (0x3022, 0x3025), (0x3030, 0x3030), (0x3412, 0x3415), (0x3482, 0x3484), (0x3488, 0x3488),
          (0x3212, 0x3216), (0x321A, 0x321D), (0x3222, 0x3226), (0x322A, 0x322E), (0x3232, 0x3236), (0x3242, 0x3243),
          (0x3246, 0x3247)]
  | 3 => [(0x4000, 0x4BFF)]
  | 4 => [(0x2830, 0x2837), (0x2850, 0x2857), (0x2C50, 0x2C57), (0x3340, 0x335F), (0x4180, 0x41BF), (0x4280, 0x42BF),
          (0x7020, 0x7027), (0x6030, 0x6037), (0x603C, 0x603D)]
  | _ => []

/-- The object belongs to an absent unit. -/
def State.keyAbsent (s : State) (k : Nat) : Bool :=
  let i := k / 256
  let j := k % 256
  let v := s.variant
  inRanges i (absentRanges v)
    || (0x1410 ≤ i && i ≤ 0x145F && j ≠ 2 && s.domainAbsent (i - 0x1410))
    || (v = 2 && (
        (i = 0x2408 && [2, 3, 4, 6, 7, 8].contains j)
        || (i = 0x2868 && [3, 4, 7, 8].contains j)
        || (0x2820 ≤ i && i ≤ 0x2837 && [3, 4, 7, 8, 0x0B, 0x0C].contains j)
        || (i = 0x2C14 && [3, 4, 7, 8, 0x0B, 0x0C].contains j)
        || (0x3300 ≤ i && i ≤ 0x335F && 2 ≤ i % 4)
        || (0x4100 ≤ i && i ≤ 0x42BF && 4 ≤ i % 8)))
    || (v = 4 && 0x11 ≤ j && j ≤ 0x18 && [0x2C20, 0x4004, 0x4019, 0x401A, 0x50C8].contains i)

/-- A value names an absent source, field or bank (R12 and the variant notes of the chapters). -/
def State.valueAbsent (s : State) (k : Nat) (v : Nat) : Bool :=
  let i := k / 256
  let j := k % 256
  if 0x3810 ≤ i && i ≤ 0x3817 && j = 2 then !s.srcPresent v
  else if 0x2421 ≤ i && i ≤ 0x2424 && j = 1 then v ≠ 0xFF && !s.srcPresent v
  else if k = 0x400005 || k = 0x400007 then v ≠ 0xFF && !s.srcPresent v
  else if k = 0x340001 then (List.range 6).any fun b => v.testBit b && !s.srcPresent (if b < 4 then 0x0A + b else 0x0C + b)
  else if k = 0x281002 || k = 0x2C1002 then (List.range 4).any fun b => v.testBit b && !s.fieldPresent (0x0A + b)
  else if k = 0x328002 then (List.range 5).any fun b => v.testBit b && !s.srcPresent (if b < 4 then 0x0A + b else srcM)
  else if k = 0x287002 then 0x0A ≤ v && v ≤ 0x0D && !s.fieldPresent v
  else if k = 0x243802 then s.variant = 2 && (List.range 30).any fun b => v.testBit b && 2 ≤ b % 5
  else false

/-! ### Rights (R303) -/

/-- The device is in restricted mode (R460). -/
def State.restricted (s : State) : Bool := s.is 0x102001 dsRestricted

/-- The access right in force: the target slot of an image write is writable in restricted mode alone (R462). -/
def State.accessOf (s : State) (k : Nat) (r : ObjRow) : OAcc :=
  if k = 0x684006 && s.restricted then .rw else r.acc

/-- The status of the access check of a write: inside a transaction or outside. Bits that a RWS object holds may not be
written back to 0. -/
def State.writeRight (s : State) (k : Nat) (r : ObjRow) (txn : Bool) (bs : List Nat) : Nat :=
  match s.accessOf k r with
  | .ro => stAccess
  | .rw => stOk
  | .rwi => stOk
  | .wo => if txn && r.app = .now then stAccess else stOk
  | .rwt => if txn then stOk else stNotInTxn
  | .rws => if bs.length = r.ty.bytes && s.n k &&& leNat bs ≠ s.n k then stAccess else stOk

/-! ### Encodings and ranges (R301) -/

/-- The bytes are well-formed UTF-8: `need` continuation bytes outstanding, the next in `lo` to `hi`. -/
def utf8 : Nat → Nat → Nat → List Nat → Bool
  | 0, _, _, [] => true
  | _ + 1, _, _, [] => false
  | 0, _, _, b :: t =>
    if b < 0x80 then utf8 0 0 0 t
    else if 0xC2 ≤ b && b ≤ 0xDF then utf8 1 0x80 0xBF t
    else if b = 0xE0 then utf8 2 0xA0 0xBF t
    else if b = 0xED then utf8 2 0x80 0x9F t
    else if 0xE1 ≤ b && b ≤ 0xEF then utf8 2 0x80 0xBF t
    else if b = 0xF0 then utf8 3 0x90 0xBF t
    else if 0xF1 ≤ b && b ≤ 0xF3 then utf8 3 0x80 0xBF t
    else if b = 0xF4 then utf8 3 0x80 0x8F t
    else false
  | n + 1, lo, hi, b :: t => if lo ≤ b && b ≤ hi then utf8 n 0x80 0xBF t else false

/-- The length and the encoding fit the type. -/
def typeFits (r : ObjRow) (bs : List Nat) : Bool :=
  match r.ty with
  | .text => utf8 0 0 0 bs
  | .blob => true
  | ty => bs.length = ty.bytes

/-- A value lies in the range of its row. -/
def State.inRange (s : State) (k : Nat) (r : ObjRow) (v : Int) : Bool :=
  (match r.rng with
    | .full => true
    | .span lo hi => lo ≤ v && v ≤ hi
    | .spanV lo hi hi16 => lo ≤ v && v ≤ (if s.variant = 4 then hi16 else hi)
    | .alt lo hi x => (lo ≤ v && v ≤ hi) || v = x
    | .oneOf xs => xs.contains v
    | .bits m => v.toNat &&& m = v.toNat
    | .multOf lo hi m => lo ≤ v && v ≤ hi && v % m = 0
    | .pow2 lo hi => lo ≤ v && v ≤ hi && v.toNat &&& (v.toNat - 1) = 0
    | .lenMax _ => true
    | .lenEq _ => true)
    && (k ≠ 0x241806 || v ≤ s.o 0x241807)

/-! ### BLOB layouts -/

/-- The U16 entries of a string rise strictly and it holds whole ones. -/
def risingU16 (bs : List Nat) : Bool :=
  bs.length % 2 = 0 && ((List.range (bs.length / 2 - 1)).all fun i => fieldAt bs (2 * i) 2 < fieldAt bs (2 * i + 2) 2)

/-- Every gain ratio of an array lies in 7.0 to 9.0, Q4.12 (R121, R404; DEDUCED, log entry 79). -/
def gainRatiosOk : List Nat → Bool
  | lo :: hi :: rest => 28672 ≤ lo + 256 * hi && lo + 256 * hi ≤ 36864 && gainRatiosOk rest
  | _ => true

/-- One entry of a startup profile (R322). -/
structure ProfEntry where
  key : Nat
  val : List Nat
  deriving DecidableEq, Repr

/-- The entries of a profile, or none where the layout breaks; `n` are left and `bs` holds the bytes from the entry on. -/
def profEntries : Nat → List Nat → Option (List ProfEntry)
  | 0, bs => if bs.isEmpty then some [] else none
  | n + 1, bs =>
    let len := fieldAt bs 3 1
    let whole := 4 * ceilDiv (4 + len) 4
    if bs.length < whole || ((bs.take whole).drop (4 + len)).any (· ≠ 0) then none
    else (profEntries n (bs.drop whole)).map fun l => ⟨fieldAt bs 0 2 * 256 + fieldAt bs 2 1, (bs.drop 4).take len⟩ :: l

/-- A WO NOW object: a command. -/
def isCommand (k : Nat) : Bool :=
  match findRow k with
  | some r => r.acc = .wo && r.app = .now
  | none => false

/-- The entries of a startup profile whose layout holds (R322): magic, version, zero bytes, length, check word, at most 512
entries that are no commands. -/
def profileOf (bs : List Nat) : Option (List ProfEntry) :=
  if bs.length < 16 || fieldAt bs 0 2 ≠ 0x5046 || fieldAt bs 2 2 ≠ 1 || 1024 < fieldAt bs 4 2 || fieldAt bs 6 2 ≠ 0
      || fieldAt bs 8 4 ≠ bs.length || fieldAt bs 12 4 ≠ crc32c (bs.drop 16) then none
  else
    match profEntries (fieldAt bs 4 2) (bs.drop 16) with
    | some l => if 512 < (l.filter fun e => !isCommand e.key).length then none else some l
    | none => none

/-- A map with the entries of banks C and D free, as LNV-24T2 stores it. -/
def mapTwoBanks (bs : List Nat) : List Nat := bs.take 64 ++ List.replicate (bs.length - 64) 0xFF

/-- The entries a variant ignores are written as they read there (the variant notes of the chapters). -/
def State.normalBytes (s : State) (k : Nat) (bs : List Nat) : List Nat :=
  let i := k / 256
  if s.variant = 2 && 0x2840 ≤ i && i ≤ 0x2857 then mapTwoBanks bs
  else if s.variant = 2 && 0x2C40 ≤ i && i ≤ 0x2C57 then
    (List.range bs.length).map fun x => if x % 2 = 1 then 0 else bs.getD x 0
  else if s.variant = 4 && bs.length = 49152 && 0x3210 ≤ i && i ≤ 0x3247 then bs.take 32768 ++ (blobDefault k).drop 32768
  else bs

/-- The rules of an object's own write, step 5 of R302: status, `OK` when they hold. `txn` says that the value is staged; the
rules over several objects are then checked at the commit. -/
def State.valueStatus (s : State) (k : Nat) (r : ObjRow) (bs : List Nat) (txn : Bool) : Nat :=
  let i := k / 256
  let long : Bool := match r.rng with
    | .lenMax n => n < bs.length
    | .lenEq n => n < bs.length
    | _ => false
  let short : Bool := match r.rng with
    | .lenEq n => bs.length < n
    | _ => false
  if long then stRange
  else if short then stConstraint
  else if r.ty.isBlob then
    if 0x2840 ≤ i && i ≤ 0x2857 then (if s.mapAllowed (i - 0x2840) (s.normalBytes k bs) then stOk else stConstraint)
    else if 0x3230 ≤ i && i ≤ 0x3236 then (if risingU16 bs then stOk else stConstraint)
    else if 0x3240 ≤ i && i ≤ 0x3243 then (if gainRatiosOk (s.normalBytes k bs) then stOk else stConstraint)
    else if k = 0x581000 then (if (List.range 256).all fun w => bs.getD (4 * w + 3) 0 = 0 then stOk else stConstraint)
    else if k = 0x110000 then (if (profileOf bs).isSome then stOk else stConstraint)
    else stOk
  else
    let v := decodeVal r.ty bs
    let s' := s.put k v
    if !s.inRange k r v then stRange
    else if txn then stOk
    else if (k = 0x201003 || k = 0x201004) && s'.horizonFails then stRange
    else if 0x241801 ≤ k && k ≤ 0x241807 && s'.wFails.isSome then stConstraint
    else if 0x152001 ≤ k && k ≤ 0x152003 && s'.powerFails.isSome then stConstraint
    else stOk

/-! ### Locks and states (R302 steps 6 and 7) -/

/-- A device control holds the object (R77, R159). -/
def State.keyLocked (s : State) (k : Nat) : Bool :=
  (expSources.any fun f => s.is (expKey f + 1) 0 && (
    (isField f && (k = fieldBase f + 1 || k = fieldBase f + 2)) || (f = srcM && k = 0x241401)
    || (match s.phaseOf f with
        | some q => (0x2421 + q.1) * 256 + 0x0A ≤ k && k ≤ (0x2421 + q.1) * 256 + 0x0F
        | none => false)))
  || (s.is 0x348801 0 && 0x303002 ≤ k && k ≤ 0x303004)

/-- The unit state forbids the write, beyond what taking the value itself refuses: bases of rings and queues, the receiver's
settings, a job's settings, the bus speed, the estimator mode (R133, R267, R247, R374). -/
def State.unitState (s : State) (k : Nat) (bs : List Nat) : Bool :=
  let i := k / 256
  let j := k % 256
  (0x5020 ≤ i && i ≤ 0x5029 && j = 1 && s.b (i * 256 + 5))
    || (k = 0x503001 && s.b 0x503003) || (k = 0x503101 && s.b 0x503103)
    || (0x390002 ≤ k && k ≤ 0x390004 && s.b 0x390001)
    || (0x5880 ≤ i && i ≤ 0x588F && 3 ≤ j && j ≤ 8 && s.job (i - 0x5880) ≠ jbIdle)
    || (k = 0x584002 && s.two.running.isSome)
    || (k = 0x2C1001 && leNat bs ≠ 0 && !s.pdOn 73)

/-- Step 7 of R302 for the value of an object: the run state for RWI, and the unit state. -/
def State.stateStatus (s : State) (k : Nat) (r : ObjRow) (bs : List Nat) : Nat :=
  if (r.acc = .rwi || r.app = .idle) && s.run ≠ rsIdle then stState
  else if s.unitState k bs then stState
  else if r.ty.isBlob || r.app ≠ .now || r.acc = .wo then stOk
  else if (s.setScalar k (decodeVal r.ty bs)).1 = stState then stState
  else stOk

/-- Steps 1 to 6 of R302 for a write: the status and the row. A value that names an absent unit is `ABSENT` where it lies in
the object's range (R236, R257). -/
def State.writeStatus (s : State) (k : Nat) (bs : List Nat) (txn : Bool) : Nat :=
  if !keyExists k then stNoObject
  else if s.keyAbsent k then stAbsent
  else
    match findRow k with
    | none => stAccess
    | some r =>
      let right := s.writeRight k r txn bs
      let v := decodeVal r.ty bs
      if typeFits r bs && !r.ty.isBlob && s.inRange k r v && s.valueAbsent k (leNat bs) then stAbsent
      else if right ≠ stOk then right
      else if !typeFits r bs then stType
      else
        let v := s.valueStatus k r bs txn
        if v ≠ stOk then v
        else if s.keyLocked k then stLocked
        else stOk

end Sys2Proof.Machine
end

