-- ==== Sys2Proof/Machine/Txn.lean ====
section
/-!
DEFINITION. Transactions (R305, R309 to R319): BEGIN, staging, COMMIT with its checks, ROLLBACK, the device's own
rollbacks, implicit transactions, and the conflict history.
-/
namespace Sys2Proof.Machine

/-! ### The transaction of a port (R309, R317) -/

/-- A sub-index of a port's transaction objects. -/
def txnKey (p j : Nat) : Nat := (0x7C10 + p) * 256 + j

/-- The transaction of a port. -/
def State.txn (s : State) (p : Nat) : Txn := (s.dict.txns[p]?).getD { staged := [], last := 0, since := 0, rolled := [] }

/-- Replace the transaction of a port. -/
def State.setTxn (s : State) (p : Nat) (x : Txn) : State :=
  { s with dict := { s.dict with txns := s.dict.txns.set p x } }

/-- The port has an open transaction. -/
def State.txnOpen (s : State) (p : Nat) : Bool := s.is (txnKey p 1) 1

/-- Id of the port's transaction, 0 for none. -/
def State.txnId (s : State) (p : Nat) : Nat := if s.txnOpen p then s.n (txnKey p 2) else 0

/-- Commits an open transaction could still conflict with are kept. -/
def State.pruneHist (s : State) : State :=
  let since := ([0, 1, 2, 3].filter s.txnOpen).map fun p => (s.txn p).since
  let keep (h : Nat × List Nat) : Bool := since.any fun x => x < h.1
  { s with dict := { s.dict with hist := s.dict.hist.filter keep } }

/-- A commit of keys, or a plain write accepted as a commit of one object, is noted (R313). -/
def State.noteCommit (s : State) (ks : List Nat) : State :=
  let n := s.dict.serial + 1
  { s with dict := { s.dict with serial := n, hist := s.dict.hist ++ [(n, ks)] } }.pruneHist

/-- BEGIN: status, transaction id, state. -/
def State.txnBegin (s : State) (p : Nat) : Nat × Nat × State :=
  if !s.is (txnKey p 1) 0 then (stTxnLimit, 0, s)
  else
    let id := s.dict.nextId
    let s := { s with dict := { s.dict with nextId := if id = 2 ^ 32 - 1 then 1 else id + 1 } }
    let s := s.setTxn p { staged := [], last := s.now, since := s.dict.serial, rolled := (s.txn p).rolled }
    (stOk, id, s.puts [(txnKey p 1, 1), (txnKey p 2, id)])

/-- The status of a request that names a transaction id: the port's open one, one the device rolled back and has not
reported, or none. Each rolled-back id is reported once (R318). -/
def State.txnNamed (s : State) (p id : Nat) : Nat × State :=
  if s.txnId p = id && s.txnOpen p then (stOk, s.setTxn p { s.txn p with last := s.now })
  else if (s.txn p).rolled.contains id then
    (stRolledBack, s.setTxn p { s.txn p with rolled := (s.txn p).rolled.filter (· ≠ id) })
  else (stNotInTxn, s)

/-- The entries and bytes of a port's transaction are freed, and the port has none. -/
def State.txnFree (s : State) (p : Nat) : State :=
  let s := s.setTxn p { s.txn p with staged := [] }
  ((s.puts [(txnKey p 1, 0), (txnKey p 2, 0)]).pruneHist).showStaging

/-- A transaction is rolled back (R317, R318). -/
def State.txnRollback (s : State) (p : Nat) : State := (s.txnFree p).bump 0x7C0009

/-- The device rolls back an open transaction; the first later request that names it is told so (R318). -/
def State.txnDrop (s : State) (p : Nat) : State :=
  let id := s.txnId p
  let s := s.txnRollback p
  s.setTxn p { s.txn p with rolled := id :: (s.txn p).rolled }

/-- An open transaction has not been named for the inactivity timeout: event 0x0801 with port and id (R318). -/
def State.txnTimeout (s : State) (p : Nat) : State :=
  if s.txnOpen p then
    let id := s.txnId p
    ((s.atTick ((s.txn p).last + s.n 0x7C0001 * tickS)).txnDrop p).raise 0x0801 (p + shl id 8 : Nat)
  else s

/-- An open transaction is abandoned with a cause of event 0x0802, and the port's assembly buffer with it (R318). -/
def State.txnAbandon (s : State) (p cause : Nat) : State :=
  let s := { s with dict := { s.dict with asm := s.dict.asm.set p none } }
  if s.txnOpen p then (s.txnDrop p).raise 0x0802 cause else s

/-! ### Staging (R310) -/

/-- A checked write is staged: status and state. The first refusal by a device-wide limit in a section raises event
0x0809. -/
def State.txnStage (s : State) (p k : Nat) (bs : List Nat) : Nat × State :=
  let x := s.txn p
  let old := mapGet x.staged k
  let new := mapPut x.staged k bs
  let s' := s.setTxn p { x with staged := new }
  if old.isNone && 512 ≤ x.staged.length then (stTxnLimit, s)
  else if 1024 < s'.entriesUsed || 4194304 < s'.bytesUsed then (stTxnLimit, s.raiseFirst 0x0809)
  else (stOk, s'.showStaging)

/-! ### COMMIT (R311 to R316) -/

/-- The apply section of a commit accepted now (R314, R43). -/
def State.applySection (s : State) : Nat :=
  if s.atOnce then s.sectionAtOnce else (s.n 0x202004 + s.n 0x7C0002) % 2 ^ 32

/-- A section lies from the apply section to that section + 2^31 - 1. -/
def State.sectionOk (s : State) (n : Nat) : Bool := s.atOnce || (n + 2 ^ 32 - s.applySection) % 2 ^ 32 < 2 ^ 31

/-- Check 1 of R312: status and the apply section, none while it is open. -/
def State.commitTarget (s : State) (arg : Nat) (data : List Nat) : Nat × Option Nat :=
  if arg = 0 then (stOk, some s.applySection)
  else if arg = 1 then
    if data.length ≠ 4 then (stType, none)
    else if !s.sectionOk (leNat data) then (stRange, none)
    else (stOk, some (if s.atOnce then s.applySection else leNat data))
  else if arg = 2 then
    if s.sluice ≠ 1 || s.n 0x7C0002 < 2 then (stConstraint, none) else (stOk, none)
  else (stRange, none)

/-- Check 2 of R312: no state condition of a staged write fails. -/
def State.commitState (s : State) (kvs : List (Nat × List Nat)) : Bool :=
  kvs.all fun p => match findRow p.1 with
    | some r => s.stateStatus p.1 r p.2 = stOk
    | none => true

/-- Check 3 of R312: a commit since the transaction began staged one of its objects (R313). -/
def State.commitConflict (s : State) (since : Nat) (kvs : List (Nat × List Nat)) : Bool :=
  s.dict.hist.any fun h => since < h.1 && kvs.any fun p => h.2.contains p.1

/-- The pending commits that apply no later than a section; all with a section while commits apply at once. Controls stand in
no check of other commits (R173). -/
def State.pendingBefore (s : State) (at_ : Option Nat) : List (Nat × List Nat) :=
  let take (c : Commit) : Bool := c.rank ≠ 2 && (match c.at_, at_ with
    | some a, some b => decide ((b + 2 ^ 32 - a) % 2 ^ 32 < 2 ^ 31)
    | some _, none => true
    | none, _ => false)
  (s.dict.commits.filter take).flatMap (·.entries)

/-- Check 4 of R312: the first failing object with its row. -/
def State.commitRules (s : State) (at_ : Option Nat) (kvs : List (Nat × List Nat)) : Option (Nat × Nat) :=
  let before := s.pendingBefore at_
  ((s.withSettings before).withSettings kvs).commitFails s kvs (before ++ kvs)

/-- A commit is accepted: it takes the next epoch and waits for its boundary, or applies at once (R43, R314, R315). -/
def State.commitAccept (s : State) (origin : Origin) (at_ : Option Nat) (kvs : List (Nat × List Nat)) : State :=
  let ep := s.nextEpoch
  let c : Commit := { epoch := ep, at_ := at_, origin := origin, entries := kvs }
  let s := ((s.put 0x7C0006 ep).bump 0x7C0008).noteCommit (kvs.map (·.1))
  let s := { s with dict := { s.dict with commits := s.dict.commits ++ [c] } }.showStaging
  s.applyIdle

/-- The four data bytes that name a failing object and its row. -/
def failBytes (f : Nat × Nat) : List Nat := leBytes 2 (f.1 / 256) ++ [f.1 % 256, f.2 % 256]

/-- Checks 2, 4 and 5 of R312: status and data. -/
def State.commitChecks (s : State) (at_ : Option Nat) (kvs : List (Nat × List Nat)) (since : Nat) : Nat × List Nat :=
  if !s.commitState kvs then (stState, [])
  else if s.commitConflict since kvs then (stConflict, [])
  else
    match s.commitRules at_ kvs with
    | some f => (stConstraint, failBytes f)
    | none => if 16 ≤ (s.dict.commits.filter Commit.isHost).length then (stTxnLimit, []) else (stOk, [])

/-- COMMIT of a port's open transaction: status, TXN, ARG, data and state. Event 0x0803 carries port and id. -/
def State.txnCommit (s : State) (p arg : Nat) (data : List Nat) : Nat × Nat × Nat × List Nat × State :=
  let id := s.txnId p
  let x := s.txn p
  let (st, at_) := s.commitTarget arg data
  let (st, out) := if st ≠ stOk then (st, []) else s.commitChecks at_ x.staged x.since
  let s := s.put (txnKey p 6) st
  if st = stConflict then
    (st, id, 0, [], ((s.txnRollback p).bump 0x7C000A).raise 0x0803 (p + shl id 8 : Nat))
  else if st ≠ stOk then (st, id, 0, out, s)
  else
    let ep := s.nextEpoch
    let s := s.setTxn p { x with staged := [] }
    let s := s.puts [(txnKey p 1, if arg = 2 then 2 else 0), (txnKey p 2, if arg = 2 then id else 0)]
    let s := s.commitAccept (.port p) at_ x.staged
    let s := if arg = 2 then s.barrierRelease p ep else s
    (stOk, ep, at_.getD 0xFFFFFFFF, [], s)

/-- A plain write of class SECTION is a transaction of its own with target NEXT (R319). -/
def State.implicitCommit (s : State) (origin : Origin) (kvs : List (Nat × List Nat)) : Nat × Nat × Nat × List Nat × State :=
  let at_ := s.applySection
  let (st, out) := s.commitChecks (some at_) kvs s.dict.serial
  if st ≠ stOk then (st, 0, 0, out, s)
  else (stOk, s.nextEpoch, at_, [], s.commitAccept origin (some at_) kvs)

/-! ### Barriers and aborts -/

/-- The section fixed at a pass: that of the edge tick plus the lead, or of a boundary within the guard of the edge; at once,
that of R43 (R342). `edge` is the section in force at the edge tick, and `near` the section that begins at the boundary
nearest to it, with the distance in ticks. A timer that has expired by this tick is taken first (R346). -/
def State.sluicePassed (s : State) (edge : Nat) (near : Option (Nat × Nat)) : State :=
  match s.net.barrier with
  | none => s
  | some b =>
    if s.sluice ≠ 2 then s
    else if b.deadline ≤ s.now then s.barrierExpiry
    else
      let c := ((near.filter (·.2 ≤ s.n 0x545004 * tickUs)).map (·.1)).getD edge
      let sect := if s.atOnce then s.sectionAtOnce else (c + s.n 0x7C0002) % 2 ^ 32
      (s.barrierPass sect).applyIdle

/-- The repeat of a request that has been executed is not executed again: its response is sent once more (R336). -/
def State.netAgain (s : State) (dest seq op : Nat) : Option State :=
  (s.net.cache.find? fun (c : Nat × Nat × List Nat) => c.1 = seq && c.2.1 = op).map fun c =>
    (s.queueFrame ⟨2, dest, c.2.2⟩).sat 0x540008

end Sys2Proof.Machine
end

