-- ==== Sys2Proof/Machine/Thermal.lean ====
section
/-!
DEFINITION. Temperature sensors, protection levels, throttle steps, thermal shutdown and restart, and failed sensors
(14_thermal_and_monitor_adc.md, R406 to R416).
-/
namespace Sys2Proof.Machine

/-! ### Sensors (R406, R407) -/

/-- A sensor's record. -/
def State.sensor (s : State) (n : Nat) : Sensor :=
  (s.therm.sensors.find? (·.no = n)).getD
    { no := n, convs := [], zero := 0, oor := 0, dis := 0, subst := false, fresh := false, valued := false }

/-- Replace a sensor's record. -/
def State.setSensor (s : State) (x : Sensor) : State :=
  let l := s.therm.sensors
  let l' := if l.any (·.no = x.no) then l.map fun (y : Sensor) => if y.no = x.no then x else y else l ++ [x]
  { s with therm := { s.therm with sensors := l' } }

/-- Neighbours of a sensor, present ones only. -/
def State.neighbours (s : State) (n : Nat) : List Nat :=
  let l := if n < 24 then (if n = 0 then [] else [n - 1]) ++ (if n = 23 then [] else [n + 1]) ++ [24 + n / 4]
    else if n < 30 then [4 * (n - 24), 4 * (n - 24) + 1, 4 * (n - 24) + 2, 4 * (n - 24) + 3]
    else [if n = 30 then 31 else 30, 11, 12]
  l.filter s.sensors.contains

/-- A signed field of a sensor's 40-bit trim record in region 2 (R449): first bit and width. -/
def State.trimField (s : State) (n bit width : Nat) : Int :=
  let word (w : Nat) : Nat := s.shadow (128 + w)
  let at_ : Nat := 40 * n + bit
  let pair : Nat := word (at_ / 32) + 2 ^ 32 * word (at_ / 32 + 1)
  wrapS width ((pair / 2 ^ (at_ % 32) : Nat) : Int)

/-- A trim: the boot ROM's nominal constant and the part's steps from it. -/
def State.trim (s : State) (n i : Nat) : Int :=
  let f := if i = 0 then s.trimField n 0 10 else if i = 1 then s.trimField n 10 10 else if i = 2 then s.trimField n 20 6
    else if i = 3 then s.trimField n 26 6 else s.trimField n 32 8
  Config.trimNominal i + Config.trimStep i * f

/-- Core voltage in µV as the conversion takes it. -/
def State.vcore (s : State) : Int :=
  if s.pdOn 12 then (s.latestResult 26).getD 850000 else 850000

/-- Offset trim of a sensor in part 0x0C, 1/64 °C. -/
def State.sensorOffset (s : State) (n : Nat) : Int := sfieldAt (s.blob 0x325000) (16 * n) 2

/-- A frequency in kHz converted to 1/64 °C (R407); f' is carried with 16 fraction bits (log entry 50). -/
def State.convertSensor (s : State) (n : Nat) (f : Int) : Int :=
  let num := f * (1000000000 + s.trim n 3 * (s.vcore - 850000)) * 65536
  let den := 1000000000 * s.trim n 4
  let x := (2 * num + den) / (2 * den)
  s.trim n 0 + roundDiv (s.trim n 1 * x) 65536 + roundDiv (s.trim n 2 * x * x) (2 ^ 32) + s.sensorOffset n

/-- One reading of a sensor: the count of edges over 25 µs. Two empty or two out-of-range readings in succession stay noted
until the value period judges them (R413). An empty reading is not converted. -/
def State.sensorReading (s : State) (n count : Nat) : State :=
  let x := s.sensor n
  let f := 40 * count
  let s := s.put (sensorKey n 2) f
  let more (bad : Bool) (c : Nat) : Nat := if bad then min 2 (c + 1) else if c = 2 then 2 else 0
  if count = 0 then s.setSensor { x with zero := more true x.zero, oor := more false x.oor }
  else
    let v := s.convertSensor n f
    s.setSensor { x with zero := more false x.zero, oor := more (v < -3520 || 11200 < v) x.oor, convs := (v :: x.convs).take 8 }

/-- The mean of the last converted readings, rounded to 1/64 °C. -/
def Sensor.value (x : Sensor) : Int := roundDiv x.convs.sum (max 1 x.convs.length)

/-! ### Failures and what stands in (R413 to R415) -/

/-- Lower median of a list. -/
def lowerMedian (l : List Int) : Int := (l.insertionSort (· ≤ ·)).getD ((l.length - 1) / 2) 0

/-- Values of a sensor's valid neighbours. -/
def State.nearValues (s : State) (n : Nat) : List Int :=
  ((s.neighbours n).filter s.validSensors.contains).map fun m => s.o (sensorKey m 1)

/-- The cause for which a sensor fails at this value period, 0 for none, and its count of disagreeing values. -/
def State.sensorCheck (s : State) (n : Nat) : Nat × Nat :=
  let x := s.sensor n
  let near := s.nearValues n
  let off := !near.isEmpty && 960 < (s.o (sensorKey n 1) - lowerMedian near).natAbs
  let dis := if off then x.dis + 1 else 0
  (if 2 ≤ x.zero then 2 else if 2 ≤ x.oor then 1 else if 4 ≤ dis then 3 else 0, dis)

/-- A sensor fails with a cause: its substitution is decided by the period before. -/
def State.sensorFails (s : State) (n cause : Nat) : State :=
  let subst := s.n 0x600802 = n || s.bit 0x600803 1
  let s := s.setSensor { s.sensor n with subst, fresh := false, dis := 0, zero := 0, oor := 0 }
  let s := (s.setBits 0x600806 (2 ^ n)).puts [(sensorKey n 3, 1), (sensorKey n 4, cause)]
  s.raise 0x0C08 (n + shl cause 8 : Nat)

/-- A cleared sensor passes its checks. -/
def State.sensorBack (s : State) (n : Nat) : State :=
  let s := s.setSensor { s.sensor n with subst := false, fresh := false, dis := 0, zero := 0, oor := 0 }
  let s := (s.clrBits 0x600807 (2 ^ n)).puts [(sensorKey n 3, 0), (sensorKey n 4, 0), (sensorKey n 5, 0)]
  s.raise 0x0C09 n

/-- Every sensor is checked on the values of the period; neighbours count as valid when they were before it. -/
def State.sensorChecks (s : State) : State :=
  let found := (s.sensors.filter fun n => s.is (sensorKey n 3) 0 || (s.sensor n).fresh).map fun n => (n, s.sensorCheck n)
  found.foldl (fun (s : State) f =>
    let n := f.1
    let x := s.sensor n
    if f.2.1 ≠ 0 then s.sensorFails n f.2.1
    else if x.fresh && f.2.2 = 0 then s.sensorBack n
    else s.setSensor { x with dis := f.2.2, zero := if x.zero = 2 then 0 else x.zero, oor := if x.oor = 2 then 0 else x.oor }) s

/-- Substituted values of the failed sensors (R414); `tp` is Tp of the period before. -/
def State.substitute_ (s : State) (tp : Int) : State :=
  (s.sensors.filter fun n => s.is (sensorKey n 3) 1 && (s.sensor n).subst).foldl (fun (s : State) n =>
    let near := s.nearValues n
    let v := (if near.isEmpty then tp else near.foldl max (-32768)) + 640
    (s.setBits 0x600807 (2 ^ n)).put (sensorKey n 5) (clampI (-32768) 32767 v)) s

/-- Compensation values: a valid sensor's own, else the mean of its valid neighbours, else Tp (R414). -/
def State.compensate (s : State) : State :=
  s.sensors.foldl (fun (s : State) n =>
    let near := s.nearValues n
    s.put (sensorKey n 6) (if s.is (sensorKey n 3) 0 then s.o (sensorKey n 1)
      else if near.isEmpty then s.o 0x600801 else roundDiv near.sum near.length)) s

/-- The protection temperature and its source: the lowest sensor of the greatest value. -/
def State.protection (s : State) : State :=
  let part (n : Nat) : Option Int :=
    if s.is (sensorKey n 3) 0 then some (s.o (sensorKey n 1))
    else if (s.sensor n).subst then some (s.o (sensorKey n 5)) else none
  let best := s.sensors.foldl (fun (b : Option (Nat × Int)) n =>
    match b, part n with
    | none, some v => some (n, v)
    | some (m, w), some v => if w < v then some (n, v) else some (m, w)
    | _, none => b) none
  match best with
  | some (n, v) => s.puts [(0x600801, clampI (-3520) 11200 v), (0x600802, n)]
  | none => s

/-! ### Levels and steps (R409, R410) -/

/-- The counts of a level after one value: at or above the threshold, at or below the release point, or between. -/
def Level.next (l : Level) (tp hi lo : Int) : Level :=
  if hi ≤ tp then ⟨min 4 (l.on + 1), 0⟩ else if tp ≤ lo then ⟨0, min 4 (l.off + 1)⟩ else ⟨0, 0⟩

/-- A throttle step is entered. -/
def State.throttleStep (s : State) (n : Nat) : State :=
  if s.is 0x600804 n then s else ((s.put 0x600804 n).raise 0x0C04 n).refreshClock

/-- A step whose time since the assertion has come is entered: step 2 after 200 ms, step 3 after 2,200 ms. -/
def State.throttleTimers (s : State) : State :=
  match s.therm.thrT with
  | none => s
  | some t =>
    let s := if t + 200 * tickMs ≤ s.now && s.n 0x600804 < 2 then s.throttleStep 2 else s
    if t + 2200 * tickMs ≤ s.now && s.n 0x600804 < 3 then s.throttleStep 3 else s

/-- The next step timer expires: the clock reaches its time. -/
def State.throttleTimer (s : State) : State :=
  match s.therm.thrT with
  | none => s
  | some t =>
    if s.n 0x600804 < 2 then (s.atTick (t + 200 * tickMs)).throttleTimers
    else if s.n 0x600804 = 2 then (s.atTick (t + 2200 * tickMs)).throttleTimers
    else s

/-! ### Shutdown and restart (R411, R412) -/

/-- The domains of a thermal shutdown are shed. -/
def State.thermalShed (s : State) : State :=
  { s with therm := { s.therm with shedT := none } }.shed thermalDomains |>.refreshClock

/-- Domains wait for the run to end, at most 5 ms. -/
def State.thermalSettle (s : State) : State :=
  match s.therm.shedT with
  | some t => if s.run = rsIdle || t + 5 * tickMs ≤ s.now then s.thermalShed else s
  | none => s

/-- The device shuts down: cause 1 the level, 2 the count of sensors. -/
def State.thermalShutdown (s : State) (cause : Nat) : State :=
  if s.is 0x102001 dsShutdown || s.is 0x102001 dsHoldup then s
  else
    let before := thermalDomains.filter fun n => s.pdOn n
    let s := (s.stopNow 3).calAbort.procAbort
    let s := { s with therm := { s.therm with before, shedT := some s.now } }
    let s := ((s.bump 0x60080A).puts [(0x60080D, cause), (0x102001, dsShutdown)]).raise 0x0C06 (cause - 1 : Nat)
    s.thermalSettle

/-- Fewer valid sensors remain than the forced-shutdown rule needs. -/
def State.sensorsShort (s : State) : Bool := 2 * s.validSensors.length < s.sensors.length

/-- A restart (R412): status and state. -/
def State.thermalRestart (s : State) : Nat × State :=
  if !s.is 0x102001 dsShutdown || s.bit 0x600803 2 || s.sensorsShort then (stState, s)
  else
    let l := s.therm.before
    let s := { s with therm := { s.therm with before := [], shedT := none } }
    let host := l.filter fun n => !isDeviceDomain n
    let s := (host.foldl (fun (s : State) n => s.put (domKey n 1) 1) s).hold 1 true host
    (stOk, ((s.put 0x102001 dsReady).raise 0x0C07 1).refreshClock)

/-- A level asserts or releases by its counts: bit of `0x6008.03`, asserted before, counts. -/
def State.levelOf (s : State) (bit : Nat) (l : Level) : Option Bool :=
  if !s.bit 0x600803 bit && l.on = 4 then some true
  else if s.bit 0x600803 bit && l.off = 4 then some false
  else none

/-- The three levels judge Tp: shutdown, then throttle, then warning (R408). -/
def State.levels (s : State) : State :=
  let tp := s.o 0x600801
  let lim (j : Nat) : Int × Int := (64 * s.o (0x600000 + j), 64 * (s.o (0x600000 + j) - s.o (0x600000 + j + 1)))
  let t := s.therm
  let s := { s with therm := { t with
    shut := t.shut.next tp (lim 5).1 (lim 5).2, thr := t.thr.next tp (lim 3).1 (lim 3).2, warn := t.warn.next tp (lim 1).1 (lim 1).2 } }
  let s := match s.levelOf 2 s.therm.shut with
    | some true => (s.setBits 0x600803 4).thermalShutdown 1
    | some false => (s.clrBits 0x600803 4).raise 0x0C07
    | none => s
  let s := match s.levelOf 1 s.therm.thr with
    | some true =>
      let s := (((s.setBits 0x600803 2).bump 0x60080C).raise 0x0C03).throttleStep 1
      { s with therm := { s.therm with thrT := some s.now } }
    | some false =>
      let s := ((s.clrBits 0x600803 2).raise 0x0C05)
      { s with therm := { s.therm with thrT := none } }.throttleStep (if s.bit 0x600803 3 then 1 else 0)
    | none => s
  match s.levelOf 0 s.therm.warn with
  | some true => (s.setBits 0x600803 1).raise 0x0C01
  | some false => (s.clrBits 0x600803 1).raise 0x0C02
  | none => s

/-- The count of valid sensors decides the degraded state, and a forced shutdown (R415). -/
def State.sensorCount (s : State) : State :=
  let v := s.validSensors.length
  let p := s.sensors.length
  let s := s.put 0x600805 v
  let low := 4 * v < 3 * p
  let s := if low && !s.bit 0x600803 3 then
      let s := (s.setBits 0x600803 8).raise 0x0C0A
      if s.is 0x600804 0 then s.throttleStep 1 else s
    else if !low && s.bit 0x600803 3 then
      let s := (s.clrBits 0x600803 8).raise 0x0C0B
      if s.bit 0x600803 1 then s else s.throttleStep 0
    else s
  if 2 * v < p then s.thermalShutdown 2 else s

/-- One value period (R408). -/
def State.valuePeriod (s : State) : State :=
  let tp := s.o 0x600801
  let s := s.sensors.foldl (fun (s : State) n =>
    let x := s.sensor n
    if x.convs.isEmpty then s
    else
      let v := clampI (-3520) 11200 x.value
      (s.setSensor { x with valued := true }).puts
        [(sensorKey n 1, v), (sensorKey n 7, if x.valued then max v (s.o (sensorKey n 7)) else v)]) s
  let s := ((((s.sensorChecks.substitute_ tp).sensorCount).protection).levels).throttleTimers
  (s.compensate.refreshClock.recalByTemp).thermalSettle

/-- A write of the bits to clear: latches of the named sensors fall, and the sensors are tested afresh (R413). -/
def State.clearSensors (s : State) (m : Nat) : State :=
  (s.sensors.filter fun n => m.testBit n && s.bit 0x600806 n).foldl (fun (s : State) n =>
    let s := s.setSensor { s.sensor n with fresh := true, subst := false, dis := 0, zero := 0, oor := 0 }
    ((s.clrBits 0x600806 (2 ^ n)).clrBits 0x600807 (2 ^ n)).put (sensorKey n 5) 0) s

/-- Milliseconds since the throttle level asserted (`0x6008.09`). -/
def State.throttleMs (s : State) : Nat :=
  match s.therm.thrT with
  | some t => (s.now - t) / tickMs
  | none => 0

end Sys2Proof.Machine
end

