-- ==== Sys2Proof/Machine/Power.lean ====
section
/-!
DEFINITION. The power path (R432, R439 to R446): rails, hand-over, the loss record, the entry into hold-up, and
standby; and the end of a debug session (R472), which a hand-over brings about. Return and start-up are in Boot.lean.
-/
namespace Sys2Proof.Machine

/-! ### The end of a debug session (R472) -/

/-- The part is open: region 6 is not sealed or DEBUG_OPEN is 1 (R470). -/
def State.openPart (s : State) : Bool := s.n 0x680007 ≠ rgSealed || (s.shadow 400).testBit 0

/-- The debug state without a session (`0x6820.01`). -/
def State.debugRest (s : State) : Int := if s.openPart then 0 else 1

/-- A session ends: halted targets resume, breakpoints clear, port 0 is lost, PD15 turns off. -/
def State.sessionEnd (s : State) : State :=
  if !s.session then s
  else
    let engs := s.eng.engs.map fun (p : Nat × Engine) => (p.1, { p.2 with bps := [] })
    let s := { s with eng := { s.eng with engs } }
    let halted := (engs.filter fun p => p.2.st = esBreak).map (·.1)
    let s := halted.foldl State.gResume s
    let s := { s with
      boot := { s.boot with beat := if s.dbg.sup1 then s.now else s.boot.beat }
      dbg := { s.dbg with sup1 := false, bps := [], put := [], get := [] } }
    let s := (s.txnAbandon 0 4).puts [(0x682003, 0), (0x682001, s.debugRest)]
    s.settleDomains.raise 0x0E0E

/-! ### Rails (R432) -/

/-- A rail other than VAON18 has stayed below its limit for 10 µs. -/
def State.railFault (s : State) (rail : Nat) : State :=
  if 7 < rail || !s.bit 0x148001 rail || s.is 0x152005 2 || s.is 0x152005 4 then s
  else
    let s := s.clrBits 0x148001 (2 ^ rail)
    if !s.is 0x152005 0 then s
    else
      let s := (s.setBits 0x148002 (2 ^ rail)).stopNow 4
      ((s.shed (s.withDependents (railDomains rail))).refreshClock).raise 0x0D0B rail

/-- A rail is within its limit again. -/
def State.railGood (s : State) (rail : Nat) : State := if 7 < rail then s else s.setBits 0x148001 (2 ^ rail)

/-- Latches of rails that are good again clear; others stand. -/
def State.clearRails (s : State) (m : Nat) : State := s.clrBits 0x148002 (m &&& s.n 0x148001)

/-! ### Items in flight (R294, R440) -/

/-- Records being assembled that a test names are given up: reported with cause DETACHED (DEDUCED, log entry 63). -/
def State.dropAsm (s : State) (k : Nat) (f : Asm → Bool) : State :=
  ((s.stream k).asm.filter f).foldl (fun (s : State) a =>
    let st := s.stream k
    let sect := match s.memberLine (st.shapeAt a.line).src a.line with | some l => l.sect | none => s.n 0x202004
    let s := s.setStream { st with asm := st.asm.filter (·.line ≠ a.line) }
    let s := if a.admitted then s.freeTokens a.tokens else s
    if a.decided && !a.admitted then s else s.dropRecord k a.line a.last a.lines sect 4) s

/-- A line's parts are given up. -/
def LineRec.dead (l : LineRec) : LineRec := { l with srcs := l.srcs.map fun x => { x with slots := 0, segs := [] } }

/-- Lines not converted by the deadline are reported failed: the line in conversion and one still queued (step 4 of R440). -/
def State.failLines (s : State) : State :=
  let s := match s.pos.trigQ with
    | some q =>
      let s := { s with pos := { s.pos with trigQ := none }, pipe := { s.pipe with lines := s.pipe.lines ++ [q.held] } }
      (s.streamLines q.line q.line).settleRun
    | none => s
  let late (l : LineRec) : Bool := l.srcs.any fun x => x.slots ≠ 0
  let bad := (s.pipe.lines.filter late).map LineRec.key
  let fails (a : Asm) : Bool :=
    sameLines a.line 0 && bad.any fun n => decide (a.line ≤ n) && decide (n ≤ a.last)
  let s := (List.range 8).foldl (fun (s : State) k => s.dropAsm k fails) s
  { s with
    pipe := { s.pipe with lines := s.pipe.lines.map fun l => if late l then l.dead else l }
    arr := { s.arr with cur := none, gate := none, strobes := 0 }
    pos := { s.pos with convEnd := min s.pos.convEnd s.now, flushEnd := none } }

/-- A complete record that is not written is reported: a gap of the Reach, or a run of drops. -/
def State.dropWaiting (s : State) (k : Nat) : State :=
  (s.stream k).waiting.foldl (fun (s : State) r =>
    let st := s.stream k
    let s := (s.setStream { st with waiting := st.waiting.drop 1 }).freeTokens r.tokens
    if (st.shapeAt r.line).reach then (s.gapAdd r.forHost 4).book k r.sect 0 r.lines
    else s.dropRecord k r.line r.last r.lines r.sect 4) s

/-- Items in flight are completed or reported: records, buffers, the open page, statistics (step 5 of R440, R294). -/
def State.finishItems (s : State) : State :=
  let s := s.failLines
  let s := (List.range 8).foldl (fun (s : State) k => ((s.dropAsm k fun _ => true).dropWaiting k).runEnd k) s
  let s := { s with pipe := { s.pipe with lines := s.pipe.lines.map LineRec.dead } }
  let s := (s.closePage true false).gapReport 0xFFFFFFFF
  let s := (List.range 10).foldl (fun (s : State) r =>
    if (s.ring r).buf.isNone then s else if s.cqOn && s.mayComplete then s.bufDone r else s.detachBuffer r) s
  let lost := s.host.statq
  lost.foldl (fun (s : State) x => s.statLost x 2) { s with host := { s.host with statq := [] } }

/-! ### Hand-over (R440) -/

/-- A hand-over can begin: a store is fitted and charged, and PD13 switches the path (R429, R440). -/
def State.storeReady (s : State) (mv : Nat) : Bool := s.o 0x150001 ≠ 0 && s.pdOn 13 && s.n 0x15000D ≤ mv

/-- A transaction as the loss record lists it. -/
def State.txnRecord (s : State) (p : Nat) : List Nat :=
  let l := (s.txn p).staged
  [p, 0] ++ leBytes 2 l.length ++ leBytes 4 (s.txnId p) ++ leBytes 4 (blobBytes l)

/-- Lines in conversion carry HOLDUP. -/
def State.flagConverting (s : State) : State :=
  let one (x : SrcLine) : SrcLine := if x.slots = 0 then x else { x with flags := x.flags ||| 2 ^ fHoldup }
  { s with pipe := { s.pipe with lines := s.pipe.lines.map fun l => { l with srcs := l.srcs.map one } } }

/-- Steps 1 to 3: the path switches, and the device stops. -/
def State.handoverBegin (s : State) : State :=
  let s := s.finishFuse
  let line := s.n 0x202003
  let open_ := (List.range 4).filter s.txnOpen
  let s := { s with pow := { s.pow with
    t0 := s.now, goodT := none, returnDue := false, lossSeen := (s.enc 0).lost ≠ 0, illegal0 := s.n (encSt 0 + 2)
    raw0 := (s.o (encSt 0 + 1), s.o (encSt 1 + 1)), rearm := false
    snap := (line, s.livePos, s.n 0x202004, s.n 0x7C0007, s.run.toNat)
    txns := open_.map s.txnRecord } }
  let s := (s.puts [(0x152005, 1), (0x102001, dsHoldup), (0x151001, chDischarging), (0x152007, line)]).bump 0x152006
  let s := (s.raise 0x0D01).flagConverting
  let s := ((s.stopNow 2).calAbort).procAbort
  let s := (List.range 4).foldl (fun (s : State) p => s.txnAbandon p 5) s
  let s := (s.barrierAbort 2).sessionEnd
  { s with
    boot := { s.boot with step := 4 }
    otp := { s.otp with queue := match s.otp.queue with
      | [] => []
      | b :: t => b :: t.filter fun q => q.origin ≠ BurnOrigin.security } }

/-- The domains the entry into hold-up sheds: all but PD0 and PD13, and but those a calibration-set store needs (R388). -/
def State.holdupShed (s : State) : State :=
  let kept := if s.cal.store.isSome then [2, 11, 76] else []
  let s := { s with pow := { s.pow with minimal := true } }
  let s := kept.foldl (fun (s : State) n => (s.put (domKey n 1) 0).put (domKey n 3) (s.n (domKey n 3) &&& 12 : Nat)) s
  s.shed ((List.range 80).filter fun n => n ≠ 0 && n ≠ 13 && !kept.contains n)

/-- VIN_SNS has stayed below the undervoltage threshold for 20 µs with the store at `mv` mV. Without a usable store nothing
happens: the loss that follows is a plain loss of power. -/
def State.handover (s : State) (mv : Nat) : State :=
  if !s.storeReady mv then s
  else if s.is 0x152005 0 then s.handoverBegin
  else if s.is 0x152005 3 then
    if s.pdOn 2 then s.handoverBegin
    else
      let s := { s with pow := { s.pow with goodT := none }, boot := { s.boot with step := 4 } }
      (s.puts [(0x152005, 2), (0x102001, dsHoldup)]).holdupShed
  else if s.is 0x152005 4 then { s with pow := { s.pow with onStore := true } }.chargerTo chDischarging
  else s

/-- 2 ms after the hand-over: lines not converted are reported failed. -/
def State.handoverDeadline (s : State) : State :=
  if s.is 0x152005 1 then (s.atTick (s.pow.t0 + 2 * tickMs)).failLines else s

/-! ### The loss record (R443) -/

/-- Completion entries as the record holds them: at most 56, later ones merged by ring and kind. -/
def lossEntries (l : List CqEntry) : List CqEntry :=
  l.foldl (fun (acc : List CqEntry) e => if acc.length < 56 then acc ++ [e] else mergeInto acc e) []

/-- The bytes of the loss record but for its RESUME field, which stays erased. -/
def State.lossBytes (s : State) : List Nat :=
  let es := lossEntries (s.host.backlog ++ s.host.detached)
  let (line, pos, sect, epoch, run) := s.pow.snap
  let body := es.flatMap (·.bytes_ false)
  let body := body ++ List.replicate (1792 - body.length) 0
  let txns := (s.pow.txns.take 14).flatten
  let txns := txns ++ List.replicate (168 - txns.length) 0
  let head := leBytes 2 0x4C52 ++ leBytes 2 es.length ++ leBytes 4 (s.pow.lossSeq + 1) ++ leBytes 8 (s.n 0x100003)
    ++ leBytes 8 line ++ leBytes 8 (wrapU 64 pos) ++ leBytes 4 sect ++ leBytes 4 epoch ++ leBytes 4 (s.n 0x700001)
    ++ leBytes 4 (s.n 0x700002) ++ [run, min 14 s.pow.txns.length] ++ List.replicate 10 0
  head ++ leBytes 4 (crc32c (body ++ txns ++ head)) ++ body ++ txns ++ List.replicate 8 0 ++ List.replicate 16 0xFF

/-- The loss record has been programmed and read back, or has failed: the domains shed and hold-up begins (steps 5 to 7). -/
def State.lossRecordDone (s : State) (ok : Bool) : State :=
  if !s.is 0x152005 1 then s
  else
    let s := s.finishItems.runStopped
    let s := if ok then
        let r : LossRecord := { seq := s.pow.lossSeq + 1, bytes := s.lossBytes, resumed := false }
        ({ s with pow := { s.pow with ring := r :: s.pow.ring.take 15, lossSeq := r.seq } }.put 0x152009 1).raise 0x0D05
      else (s.put 0x152009 2).raise 0x0D06
    let s := (s.engClear.holdupShed.put 0x152005 2).refreshClock
    s.raise 0x0D02

/-- VIN_SNS meets the good threshold, rising or falling (R441). -/
def State.goodCrossing (s : State) (up : Bool) : State :=
  { s with pow := { s.pow with goodT := if up then some s.now else none } }

/-! ### Standby (R444) -/

/-- STANDBY: status and state. -/
def State.standby (s : State) : Nat × State :=
  if s.run ≠ rsIdle || !s.is 0x152005 0 || (List.range 4).any s.txnOpen || s.cal.store.isSome then (stState, s)
  else
    let s := (s.raise 0x0D0C).put 0x152005 4
    let s := { s with pow := { s.pow with minimal := true, onStore := false } }
    let s := s.shed ((List.range 80).filter fun n => n ≠ 0 && n ≠ 13)
    (stOk, ((s.engClear).put 0x201804 0).refreshClock.chargerEval)

/-- A TWT address match wakes the device (R360, R444). -/
def State.wake (s : State) : State :=
  if !s.is 0x152005 4 || s.pow.onStore then s
  else ((((s.put 0x152005 0).chargerEval.bump 0x58000B).raise 0x0A05).raise 0x0D0D)

end Sys2Proof.Machine
end

