-- ==== Sys2Proof/Machine/Boot.lean ====
section
/-!
DEFINITION. Reset and start-up (R449 to R468): what each reset keeps, the integrity check, the firmware slots and their
verification, writing a new image, and what a return from hold-up finds. The last steps of start-up, which execute the
startup profile, are in Startup.lean.
-/
namespace Sys2Proof.Machine

/-! ### Firmware slots (R459, R462) -/

/-- A page of 256 bytes of a firmware slot; an erased one reads 0xFF. -/
def State.fwPage (s : State) (slot i : Nat) : List Nat := (mapGet s.boot.fw (16384 * slot + i)).getD (List.replicate 256 0xFF)

/-- The body of a slot: its first `n` bytes. -/
def State.fwBody (s : State) (slot n : Nat) : List Nat :=
  ((List.range ((n + 255) / 256)).flatMap fun i => s.fwPage slot (i + 1)).take n

/-- MAGIC, FORMAT, LENGTH and the zero fields of a header are as stated. -/
def headerGood (h : List Nat) : Bool :=
  fieldAt h 0 2 = 0x4657 && fieldAt h 2 2 = 1 && fieldAt h 10 2 = 0 && 1 ≤ fieldAt h 12 4 && fieldAt h 12 4 ≤ 4194048
    && (h.drop 180).all (· = 0)

/-- The bytes of words of region 6, as the shadows hold them. -/
def State.keyHash (s : State) (first : Nat) : List Nat :=
  (List.range 8).flatMap fun i => leBytes 4 (s.shadow (384 + first + i))

/-- The tests of an image in their order: the cause of the first that fails, 0 for a valid one (R459). -/
def State.fwCause (s : State) (flashOk : Bool) (slot : Nat) : Nat :=
  let h := s.fwPage slot 0
  let key := (h.drop 52).take 64
  if !flashOk then 1
  else if !headerGood h then 2
  else if s.n 0x100008 < fieldAt h 16 4 then 6
  else if Config.sha256 key ≠ s.keyHash 0
      || !Config.ecdsaVerify key (Config.sha256 (h.take 116)) ((h.drop 116).take 64) then 3
  else if Config.sha256 (s.fwBody slot (fieldAt h 12 4)) ≠ (h.drop 20).take 32 then 4
  else if fieldAt h 8 2 < s.counter .security then 5
  else 0

/-- VERSION of a slot, 0 where its header is none. -/
def State.fwVersion (s : State) (flashOk : Bool) (slot : Nat) : Nat :=
  if flashOk && headerGood (s.fwPage slot 0) then fieldAt (s.fwPage slot 0) 4 4 else 0

/-- Pages of a slot are erased. -/
def State.fwErase (s : State) (slot : Nat) (headerOnly : Bool) : State :=
  { s with boot := { s.boot with fw := s.boot.fw.filter fun p => p.1 / 16384 ≠ slot || (headerOnly && p.1 % 16384 ≠ 0) } }

/-- An erase or a write in progress is abandoned: the slot is then invalid (R462). -/
def State.fwAbandon (s : State) : State :=
  if s.is 0x684004 1 || s.is 0x684004 2 then (s.fwErase (s.n 0x684006) true).put 0x684004 0
  else if s.is 0x684004 3 then s.put 0x684004 0 else s

/-- Programming can only clear bits of the flash. -/
def flashProgram (old new : List Nat) : List Nat := List.zipWith (fun (a b : Nat) => a &&& b) old new

/-- ERASE: status and state. -/
def State.fwEraseCmd (s : State) : Nat × State :=
  if s.is 0x684004 0 then (stOk, s.put 0x684004 1) else (stBusy, s)

/-- The erase completes. -/
def State.fwErased (s : State) : State :=
  if s.is 0x684004 1 then (s.fwErase (s.n 0x684006) false).put 0x684004 0 else s

/-- A write of image data at the offset: status and state. -/
def State.fwWrite (s : State) (bs : List Nat) : Nat × State :=
  let off := s.n 0x684001
  if 4194304 < off + bs.length then (stRange, s)
  else if !s.is 0x684004 0 then (stBusy, s)
  else
    let n := (bs.length + 255) / 256
    let data := bs ++ List.replicate (256 * n - bs.length) 0xFF
    let slot := s.n 0x684006
    let fw := (List.range n).foldl (fun (m : List (Nat × List Nat)) i =>
      mapPut m (16384 * slot + off / 256 + i) (flashProgram (s.fwPage slot (off / 256 + i)) ((data.drop (256 * i)).take 256))) s.boot.fw
    (stOk, { s.put 0x684004 2 with boot := { s.boot with fw } })

/-- Programming of the data completes. -/
def State.fwProgrammed (s : State) : State := if s.is 0x684004 2 then s.put 0x684004 0 else s

/-- VERIFY: status and state. -/
def State.fwVerifyCmd (s : State) : Nat × State :=
  if s.is 0x684004 0 then (stOk, s.put 0x684004 3) else (stBusy, s)

/-- The verification ends and its cause is shown. -/
def State.fwVerified (s : State) (flashOk : Bool) : State :=
  if s.is 0x684004 3 then (s.put 0x684004 0).put 0x684005 (s.fwCause flashOk (s.n 0x684006)) else s

/-! ### What resets keep (R467) -/

/-- Index ranges of the objects that PD0 keeps over a warm reset: identity, domains and power, position keeping, the two-wire
target, thermal levels (R467). -/
def keptRanges : List (Nat × Nat) :=
  [(0x1000, 0x1020), (0x1400, 0x15FF), (0x1800, 0x23FF), (0x5800, 0x583F), (0x6000, 0x63FF)]

/-- Single objects kept over a warm reset: OTP states and the re-burn list, counters that last, trims and hours. -/
def keptKeys : List Nat :=
  (List.range 11).map (0x680001 + ·) ++ [0x681001, 0x681802, 0x682001, 0x682002, 0x682005, 0x682006, 0x320008, 0x32000A, 0x700001,
    0x700002, 0x700003, 0x700004]

/-- An object survives a warm reset. -/
def keptKey (k : Nat) : Bool := keptRanges.any (fun r => r.1 ≤ k / 256 && k / 256 ≤ r.2) || keptKeys.contains k

/-- A store in progress is lost: its target slot is invalid (R388). -/
def State.storeLost (s : State) : State :=
  if s.cal.store.isNone then s
  else
    let s := s.setSlot (s.targetSlot) { CalSlot.erased with st := 1 }
    { s with cal := { s.cal with store := none, planWait := false } }

/-- What is in flash and in fuses, and what the model itself keeps; all else begins as at a cold reset. -/
def State.coldState (s : State) : State :=
  let s := s.storeLost.fwAbandon
  let r := State.reset
  { r with
    pending := s.pending, fresh := s.fresh, out := s.out
    otp := { r.otp with fuses := s.otp.fuses }
    boot := { r.boot with fw := s.boot.fw }
    cal := { r.cal with
      slots := s.cal.slots, hoursRec := s.cal.hoursRec, calHours := s.cal.calHours, plans := s.cal.plans, grown := s.cal.grown
      drifts := s.cal.drifts, trains := s.cal.trains }
    dict := { r.dict with profile := s.dict.profile, intFlash := s.dict.intFlash }
    pow := { r.pow with ring := s.pow.ring, lossSeq := s.pow.lossSeq } }

/-- Power-on reset on VAON18, with the levels of ADDR[1:0] (R355, R467). -/
def State.coldReset (s : State) (straps : Nat) : State :=
  let s := s.coldState
  { s with boot := { s.boot with straps := straps % 4 } }.put 0x580001 (0x36 + straps % 4)

/-- Power is lost: nothing runs until the next cold reset. -/
def State.powerLoss (s : State) : State :=
  let s := s.coldState
  { s with
    objs := [(0x140002, 0)]
    boot := { s.boot with step := 0 } }

/-- VSTORE_SNS falls below the cutoff: ST_GATE turns off (R440, R445). -/
def State.storeCutoff (s : State) : State :=
  if s.is 0x152005 1 || s.is 0x152005 2 || (s.is 0x152005 4 && s.pow.onStore) then s.powerLoss else s

/-! ### Start-up (R463) -/

/-- A domain has the host's request, as start-up sets it (R447). -/
def State.bootRequest (s : State) (ns : List Nat) : State :=
  (ns.foldl (fun (s : State) n => s.put (domKey n 1) 1) s).hold 1 true ns

/-- The domains start-up turns on. -/
def bootDomains : List Nat := [76, 8, 9, 2, 11, 12, 13]

/-- Step 3: the SUP0 boot ROM starts its domains. -/
def State.bootStart (s : State) : State := { s with boot := { s.boot with step := 2 } }.bootRequest bootDomains

/-- Domains of absent units read ABSENT (R12). -/
def State.absentDomains (s : State) : State :=
  ((List.range 80).filter s.domainAbsent).foldl (fun (s : State) n => s.put (domKey n 2) pdAbsent) s

/-- Identity and capability from the shadows (R8, R449). -/
def State.identityLoad (s : State) : State :=
  let w (i : Nat) : Nat := s.shadow i
  let v := w 64 % 256
  let s := (s.put 0x101001 v).variantInit
  let present (i : Nat) : Int := if (w 67).testBit i then 1 else 0
  let s := s.puts [(0x100003, (w 0 + shl (w 1) 32 : Nat)), (0x100004, (w 2 + shl (w 3 % 65536) 32 : Nat)), (0x100005, (w 4 / 65536 % 256 : Nat)),
    (0x10100E, (w 65 % 2 ^ 24 : Nat)), (0x10100D, (w 66 % 256 : Nat)), (0x101007, present 0), (0x101008, present 1), (0x101009, present 2),
    (0x10100A, present 3), (0x10100B, present 4), (0x10100F, present 5), (0x101010, present 6), (0x101011, present 7)]
  let name : List Nat := if v = 2 then [50, 52, 84, 50] else if v = 3 then [50, 52, 83, 52] else if v = 4 then [49, 54, 84, 52] else [50, 52, 84, 52]
  (s.putBlob 0x100002 ([76, 78, 86, 45] ++ name)).absentDomains

/-- Counters and states that follow from the fuses. -/
def State.showFuses (s : State) : State :=
  let s := ((((s.showCounter .security).showCounter .age).showCounter .hot).showCounter .overwrite).showCounter .unlock
  s.put 0x682001 s.debugRest

/-- The causes of an integrity failure, ascending (R457). -/
def State.integrityCauses (s : State) (vaonOk : Bool) : List Nat :=
  let st (r : Nat) : Nat := s.n (0x680001 + r)
  ((List.range 7).filter fun r => st r = rgFailed).map (0x10 + ·) ++ ((List.range 7).filter fun r => st r ≠ rgFailed && st r ≠ rgSealed).map (0x20 + ·)
    ++ (if vaonOk then [] else [0x31])

/-- The integrity hold: the device stays in reset until the next cold reset. -/
def State.integrityHold (s : State) (cause : Nat) : State :=
  { s with otp := { s.otp with cause }, boot := { s.boot with step := 5 } }

/-- The region check ends (R457): what the array reads at the two strict margins, whether the controller answered, and
whether VAON18 stayed within its limits. -/
def State.integrityDone (s : State) (reads : List (Nat × Nat × Nat)) (answered vaonOk : Bool) : State :=
  if s.boot.step ≠ 1 then s
  else
    let s := s.atTick (s.boot.resetT + 480000)
    if !answered then s.integrityHold 0x30
    else
      let s := (List.range 8).foldl State.judgeRegion (s.readArray reads)
      match s.integrityCauses vaonOk with
      | c :: _ => s.integrityHold c
      | [] =>
        let s := s.identityLoad.showFuses
        let s := if s.is 0x680008 rgFailed then (s.putBlob 0x683005 (List.replicate 248 0)).raise 0x0E07 else s.showRegion7
        s.bootStart

/-- A cold start that finds the newest loss record without its resume mark: the hold-up ended by loss of power (R443). -/
def State.exhaustedCheck (s : State) : State :=
  if !s.is 0x102003 0 || s.is 0x152005 3 then s
  else
    match s.pow.ring with
    | r :: _ => if r.resumed then s else (s.put 0x15200A 2).raise 0x0D03
    | [] => s

/-- No slot boots: restricted mode with a cause (R460). -/
def State.restrictedMode (s : State) (bootsel cause other : Nat) : State :=
  let s := [76, 8, 9, 2, 11].foldl State.domainStarted s
  let s := { s with boot := { s.boot with step := 6, bootsel } }.releaseHeld
  let s := s.puts [(0x102001, dsRestricted), (0x681004, cause), (0x681005, 0xFF), (0x681007, other), (0x681008, bootsel),
    (0x684006, if bootsel = 2 then 1 else 0)]
  (s.raise 0x0E09 cause).exhaustedCheck

/-- Firmware verification ends with the levels of BOOTSEL1:BOOTSEL0; `flashOk` says that the flash answers (R459, R460). -/
def State.imageDone (s : State) (bootsel : Nat) (flashOk : Bool) : State :=
  let bs := bootsel % 4
  if s.boot.step ≠ 2 then s
  else if bs = 3 then s.restrictedMode 3 7 0
  else
    let ver (i : Nat) : Nat := s.fwVersion flashOk i
    let first := if bs = 1 then 0 else if bs = 2 then 1 else if ver 1 ≤ ver 0 then 0 else 1
    let c (i : Nat) : Nat := s.fwCause flashOk i
    let pick : Option Nat := if c first = 0 then some first else if bs = 0 && c (1 - first) = 0 then some (1 - first) else none
    match pick with
    | some x =>
      let s := { s with boot := { s.boot with step := 3, bootsel := bs, beat := s.now } }.releaseHeld
      let s := s.puts [(0x681002, fieldAt (s.fwPage x 0) 8 2), (0x681004, 0), (0x681005, x), (0x681006, ver (1 - x)), (0x681007, c (1 - x)),
        (0x681008, bs), (0x100006, ver x), (0x684006, 1 - x)]
      (s.raise 0x0E08 (x + shl (ver x) 8 : Nat)).exhaustedCheck
    | none => if bs = 0 then s.restrictedMode bs (c (1 - first)) (c first) else s.restrictedMode bs (c first) (c (1 - first))

/-! ### Warm scope (R467) -/

/-- The position keeper, the scheduler and its sheet go on; what belongs to the run ends. -/
def PosState.warm (p : PosState) : PosState :=
  { p with stopAt := false, trigQ := none, convEnd := 0, flushEnd := none, stalled := false, runFirst := false,
           afterStall := false, afterRev := false }

/-- A reset with the warm scope: start-up begins at step 3. -/
def State.warmScope (s : State) : State :=
  let calibrating := s.is 0x281003 1
  let s := (s.sessionEnd.finishFuse.storeLost.fwAbandon)
  let r := State.reset
  let objs := s.objs.filter fun p => keptKey p.1
  let blobs := s.blobs.filter fun p => keptKey p.1
  let cut := s.two.running.isSome
  let s := { s with
    objs, blobs
    pos := s.pos.warm, arr := r.arr, conv := r.conv, rcb := r.rcb, pipe := r.pipe, eng := r.eng, conf := r.conf
    dict := { r.dict with
      profile := s.dict.profile, intFlash := s.dict.intFlash, seen := s.dict.seen.filter fun x => x.1 / 256 = 1 }
    host := { r.host with perst := s.host.perst, perstT := s.host.perstT }
    net := r.net
    two := { r.two with pointer := s.two.pointer, errSec := s.two.errSec, chkSec := s.two.chkSec, interrupted := s.two.interrupted || cut }
    cal := { s.cal with kind := 0, start := 0, accs := [], missing := [], results := [], cause := 0, adds := false }
    therm := { r.therm with
      sensors := s.therm.sensors, warn := s.therm.warn, thr := s.therm.thr, shut := s.therm.shut, thrT := s.therm.thrT }
    pow := { s.pow with minimal := false, rearm := false }
    otp := { s.otp with queue := if s.otp.finishing then s.otp.queue.take 1 else [], reading := none }
    boot := { s.boot with resetT := s.now }
    dbg := { r.dbg with
      ir := s.dbg.ir, chain := s.dbg.chain, delayEnd := s.dbg.delayEnd, delay := s.dbg.delay, status := s.dbg.status } }
  let s := s.variantInit
  let off := (List.range 80).filter fun n => n ≠ 0 && n ≠ 13 && s.pd n ≠ pdAbsent
  let s := off.foldl (fun (s : State) n => s.puts [(domKey n 1, 0), (domKey n 2, pdOff), (domKey n 3, 0)]) s
  let s := s.puts [(0x102001, dsBooting), (0x204002, rsIdle)]
  let s := if calibrating then (s.put 0x281003 3).raise 0x0303 else s
  s.bootStart

/-- A warm or watchdog reset with its cause (`0x1020.03`): 1 RESETn, 2 software, 3 watchdog. During a hand-over and in
hold-up it is absorbed into the return; in standby it wakes the device (R444, R473). -/
def State.warmReset (s : State) (cause : Nat) : State :=
  if s.boot.step ≤ 1 || s.boot.step = 5 || s.is 0x152005 1 || s.is 0x152005 2 || (s.is 0x152005 4 && s.pow.onStore) then s
  else
    let woken := s.is 0x152005 4
    let s := (s.warmScope).put 0x102003 (if s.is 0x152005 3 then s.o 0x102003 else cause)
    if woken then (s.put 0x152005 0).chargerEval.raise 0x0D0D else s

/-- The watchdog expires: no heartbeat for 1,000 ms while PD2 is on and SUP1 is not halted (R468). -/
def State.watchdog (s : State) : State :=
  if s.boot.step = 4 && s.pdOn 2 && !s.dbg.sup1 && !s.is 0x152005 1 then
    (((s.atTick (s.boot.beat + 1000 * tickMs)).warmReset 3).bump 0x681802).raise 0x0E0B
  else s

/-- A heartbeat of the SUP1 firmware. -/
def State.heartbeat (s : State) : State :=
  if s.pdOn 2 && s.boot.step = 4 then { s with boot := { s.boot with beat := s.now } } else s

/-! ### Return from hold-up (R441, R442) -/

/-- The device returns to its input: start-up runs with the warm scope. -/
def State.returnBegin (s : State) : State :=
  let s := { s with pow := { s.pow with goodT := none, returnDue := false } }
  (s.put 0x152005 3).warmScope

/-- The good timer completes (R441, R445). In standby on the store the path switches back (log entry 64). -/
def State.goodExpiry (s : State) : State :=
  match s.pow.goodT with
  | none => s
  | some t =>
    let s := s.atTick (t + s.n 0x152004 * tickMs)
    if s.is 0x152005 2 then s.returnBegin
    else if s.is 0x152005 1 then { s with pow := { s.pow with returnDue := true, goodT := none } }
    else if s.is 0x152005 4 then
      let t := { s with pow := { s.pow with onStore := false, goodT := none } }
      if s.pow.onStore then (t.chargerTo chOff).chargerEval else t
    else { s with pow := { s.pow with goodT := none } }

/-- Why the position is not verified, 0 when it is. -/
def State.verifyCause (s : State) : Nat :=
  let d0 := s.o (encSt 0 + 1) - s.pow.raw0.1
  let d1 := s.o (encSt 1 + 1) - s.pow.raw0.2
  let x := d0 * 2 ^ 32 - s.o 0x203802 * d1
  if !s.epochSet then 1
  else if s.pow.lossSeen then 2
  else if s.n 0x15200D < s.n (encSt 0 + 2) - s.pow.illegal0 then 3
  else if s.is 0x203801 2 && s.o 0x203804 * 2 ^ 32 < |x| then 4
  else 0

/-- Restoration is complete: the resume mark, the verification, the re-arm, the power state (R441, R442). -/
def State.returnEnd (s : State) : State :=
  if !s.is 0x152005 3 then s
  else
    let mark (r : LossRecord) : LossRecord :=
      { r with resumed := true
               bytes := setBytes r.bytes 2032 (leBytes 8 (s.n 0x202003) ++ leBytes 8 (wrapU 64 s.livePos)) }
    let s := if s.is 0x152009 1 then
        match s.pow.ring with
        | r :: t => { s with pow := { s.pow with ring := mark r :: t } }
        | [] => s
      else s
    let c := s.verifyCause
    let s := s.puts [(0x152005, 0), (0x15200A, 1), (0x15200B, if c = 0 then 1 else 2 + 16 * c), (0x152008, ((s.now - s.pow.t0) / tickS : Nat)),
      (0x151001, chOff)]
    let s := { s with pow := { s.pow with rearm := s.b 0x15200C && c = 0 } }
    (s.raise 0x0D04).chargerEval

/-- Operating hours at start-up: the flash record, or the newest loss record where it is ahead (R398). -/
def State.hoursLoad (s : State) : State :=
  let rec_ := match s.pow.ring with
    | r :: _ => (fieldAt r.bytes 40 4, fieldAt r.bytes 44 4)
    | [] => (0, 0)
  let h := max (s.n 0x700001) (max s.cal.hoursRec.1 rec_.1)
  let g := max (s.n 0x700002) (max s.cal.hoursRec.2 rec_.2)
  s.puts [(0x700001, h), (0x700002, g)]

end Sys2Proof.Machine
end

