-- ==== Sys2Proof/Machine/Dict.lean ====
section
/-!
DEFINITION. The dictionary at work (R300 to R308, R319, R322, R324, R326): what a read returns, commands, plain and staged
writes, segments, and one request of a port from its arrival to its response. The framing of ports 0 and 3 is in Ports.lean.
-/
namespace Sys2Proof.Machine

/-! ### Values that follow from the state (R300, R326) -/

/-- The entries that the scheduler derives for the next grid point, the boundaries ahead and the pending commits (R37, R38):
position, type, qualifier, parameter, line. Listed are the next line, the next section and statistics boundary and one entry
for each pending commit, at the positions that the present grid, a pending pitch and align give them; without a grid, or in a
sheet mode that runs no sheet, only the commits, whose position is then open (DESIGN CHOICE, log entry 71). -/
def State.derivedSched (s : State) : List (Int × Nat × Nat × Nat × Nat) :=
  let n := s.gridNumber
  let len := max 1 (s.n 0x202002)
  let b := ceilDiv n len * len
  let dir := if s.rev then 2 else 1
  let commits : List (Nat × Nat) := s.dict.commits.filterMap fun (c : Commit) => c.at_.map fun sect =>
    let ahead := (sect + 2 ^ 32 - b / len % 2 ^ 32) % 2 ^ 32
    (if ahead < 2 ^ 31 then b + ahead * len else b, c.param)
  if !(s.epochSet && s.gridMode && (s.tmode ≠ 4 || s.pos.sheet.running)) then
    commits.map fun p => (Config.entryPos p.1, 4, dir, p.2, p.1)
  else
    let step : Int := if s.rev then -1 else 1
    let q := if n % len = 0 then s.effPitch else s.pos.pendPitch.getD s.pitch
    let exact := s.pos.gridA + s.pos.gridJ * s.pitch
    let posOfLine (m : Nat) : Int := if m ≤ n then s.nextGrid else (exact + step * (m - n : Nat) * q + 32768) / 65536
    let inReach (m : Nat) : Bool := s.tmode ≠ 4 || m < n + s.pos.sheet.left
    let l := [(s.nextGrid, 6, dir, 0, n), (posOfLine b, 3, dir, 0, b), (posOfLine b, 5, dir, 0, b)].filter fun e => inReach e.2.2.2.2
    l ++ commits.map fun p => (if inReach p.1 then posOfLine p.1 else Config.entryPos p.1, 4, dir, p.2, p.1)

/-- The scheduler's entries: those held and the derived ones, which take the lowest free numbers. -/
def State.schedTable (s : State) : List SchedEntry :=
  let used := s.pos.sched.map (·.no)
  let free := (List.range 192).filter fun i => !used.contains i
  s.pos.sched ++ (List.zip free s.derivedSched).map fun p =>
    { no := p.1, pos := p.2.1, typ := p.2.2.1, dir := p.2.2.2.1, param := p.2.2.2.2.1, tag := p.2.2.2.2.2 % 2 ^ 32 }

/-- Field `j` of scheduler entry `no`. -/
def State.schedField (s : State) (no j : Nat) : Int :=
  match s.schedTable.find? fun e => e.no = no with
  | none => 0
  | some e => if j = 1 then e.pos else if j = 2 then e.typ else if j = 3 then e.dir else if j = 4 then e.param else e.tag

/-- State of a dictionary port (R308). -/
def State.portUp (s : State) (p : Nat) : Bool :=
  match p with
  | 0 => s.session
  | 1 => !s.is 0x500001 0 && !s.restricted
  | 2 => s.b 0x540001 && s.is 0x540002 2
  | _ => !([0, 1, 5] : List Nat).contains s.boot.step

/-- Microseconds since the last counted edge of the position source. -/
def State.sinceEdge (s : State) : Nat :=
  let t := [0, 1].findSome? fun i => if s.isSource i then (s.enc i).lastT else none
  min ((s.now - t.getD 0) / tickUs) (2 ^ 32 - 1)

/-- The value a scalar object reads: what it holds, or what follows from the state at this moment. -/
def State.live (s : State) (k : Nat) : Int :=
  let i := k / 256
  let j := k % 256
  if k = 0x201001 then s.livePos
  else if k = 0x201009 then s.sinceEdge
  else if k = 0x202006 then (if s.epochSet && s.gridMode then s.nextGrid else 0)
  else if k = 0x203803 then (if s.is 0x203801 0 then 0 else wrapS 64 (s.o (encSt 1 + 1) * s.o 0x203802 / 65536))
  else if 0x2100 ≤ i && i ≤ 0x21BF then s.schedField (i - 0x2100) j
  else if k = 0x220001 then s.schedTable.length
  else if k = 0x481801 then (s.n k / 2 * 2 : Nat)
  else if k = 0x481808 then (s.n k % 2 ^ 31 : Nat)
  else if k = 0x244003 then Int.ofNat <|
    (s.segs.filter fun g => s.pdOn (16 + 2 * g) && s.pdOn (17 + 2 * g)).foldl (fun (m : Nat) g => m ||| 2 ^ g) 0
  else if 0x2808 ≤ i && i ≤ 0x280B && j = 4 then s.bankState (i - 0x2808 + 0x0A)
  else if 0x4200 ≤ i && i ≤ 0x42BF && j = 1 then (s.engine (i - 0x4200)).st
  else if 0x4200 ≤ i && i ≤ 0x42BF && j = 6 then (s.engine (i - 0x4200)).haltAt
  else if 0x4200 ≤ i && i ≤ 0x42BF && j = 7 then (s.engine (i - 0x4200)).cause
  else if 0x4200 ≤ i && i ≤ 0x42BF && j = 0x0A then (s.engine (i - 0x4200)).crumbs.length
  else if k = 0x480003 then s.eng.queue.length
  else if k = 0x509801 then boolI s.host.ptm
  else if k = 0x102002 then ((s.now - s.boot.resetT) / tickS : Nat)
  else if k = 0x102005 then boolI (s.is 0x102001 dsReady)
  else if 0x103001 ≤ k && k ≤ 0x103004 then boolI (s.portUp (k - 0x103001))
  else if k = 0x580004 then (if s.twtStandby then 0 else 1)
  else if 0x7C10 ≤ i && i ≤ 0x7C13 && j = 3 then (s.txn (i - 0x7C10)).staged.length
  else if 0x7C10 ≤ i && i ≤ 0x7C13 && j = 4 then blobBytes (s.txn (i - 0x7C10)).staged
  else if 0x7C10 ≤ i && i ≤ 0x7C13 && j = 5 then
    (if s.txnOpen (i - 0x7C10) then ((s.txn (i - 0x7C10)).last + s.n 0x7C0001 * tickS - s.now) / tickMs else 0 : Nat)
  else if k = 0x780006 then s.o 0x780002 - s.dict.log.length
  else if k = 0x600809 then s.throttleMs
  else s.o k

/-- The log window (R325): up to 64 entries from the wanted number, or from the oldest held. -/
def State.logWindow (s : State) : List Nat :=
  let first := (s.live 0x780006).toNat
  let l := s.dict.log.drop (s.n 0x780004 - first)
  (l.take 64).flatMap fun (e : LogEntry) => e.bytes 0 (e.seq % 2 ^ 32)

/-- A pending commit as `0x7C20` lists it. -/
def Commit.listing (c : Commit) : List Nat :=
  leBytes 4 c.epoch ++ leBytes 4 (c.at_.getD 0xFFFFFFFF) ++ [c.param % 256, 0] ++ leBytes 2 c.entries.length
    ++ leBytes 4 (blobBytes c.entries)

/-- The bytes a BLOB or TEXT object reads. -/
def State.liveBlob (s : State) (k : Nat) : List Nat :=
  if k = 0x286002 then (s.conv.unrep.take 4096).flatMap fun u => leBytes 4 (u.col * 65536 + u.bank * 256 + u.cause)
  else if k = 0x154000 then (s.pow.ring.head?.map (·.bytes)).getD []
  else if k = 0x7C2000 then (s.dict.commits.filter (·.isHost)).flatMap Commit.listing
  else if k = 0x780005 then s.logWindow
  else s.blob k

/-- The bytes of the value of a key; sub-index 0 of a composite reads the count of its sub-indices (R300). -/
def State.valueBytes (s : State) (k : Nat) : List Nat :=
  match findRow k with
  | none => [subCount (k / 256)]
  | some r => if r.ty.isBlob then s.liveBlob k else encodeVal r.ty (s.live k)

/-- What a read does to the object it reads: charger faults and the buffer peak clear (R438, R247). -/
def State.readEffect (s : State) (k : Nat) : State :=
  if k = 0x151008 then s.faultsRead else if k = 0x39000B then s.put k 0 else s

/-! ### Commands: WO objects of class NOW (R304) -/

/-- The results of a procedure are entered for application (R397): a commit of the device, with its epoch. -/
def State.procAccept (s : State) : Nat × State :=
  if s.proc ≠ prPending then (stState, s)
  else
    let at_ := s.applySection
    let kvs := s.cal.results
    let accepted := s.o 0x7C0008
    let s := (s.procClear).puts [(0x328012, prApplying), (0x32801A, at_)]
    (stOk, (s.commitAccept .calib (some at_) kvs).put 0x7C0008 accepted)

/-- A procedure command (R397). ABORT where no procedure runs or waits is refused (log entry 57). -/
def State.procCommand (s : State) (v : Nat) : Nat × State :=
  match v with
  | 1 => s.procStart 1
  | 2 => s.procStart 2
  | 3 => if s.proc = prIdle || s.proc = prApplying then (stState, s) else (stOk, s.procAbort)
  | 4 => s.procAccept
  | _ => s.procDiscard

/-- A command of the converter calibration (R101 to R107). -/
def State.calCommand (s : State) (v : Nat) : Nat × State :=
  match v with
  | 1 => if s.calRefusal = stOk then (stOk, s.calStart) else (s.calRefusal, s)
  | 2 => s.calAbortCmd
  | _ => if s.o 0x281003 = 1 || s.o 0x281003 = 4 || s.cal.store.isSome then (stBusy, s) else (stOk, s.calSaveStore)

/-- A run command (R41). -/
def State.runCommand (s : State) (v : Nat) : Nat × State :=
  match v with
  | 1 => s.runStart
  | 2 => (stOk, s.stopAtSection)
  | _ => (stOk, s.stopNow 1)

/-- A command of the monitor ADC (R419, R423). -/
def State.adcCommand (s : State) (v : Nat) : Nat × State :=
  match v with
  | 1 => s.adcStart
  | 2 => s.adcStop
  | _ => s.adcCalibrate

/-- A command of region 7 (R455). -/
def State.r7Command (s : State) (v : Nat) : Nat × State :=
  match v with
  | 1 => s.r7Program
  | 2 => s.r7Check
  | _ => s.r7Seal

/-- A hold command of slot `h` (R282). -/
def State.holdCommand (s : State) (h v : Nat) : Nat × State :=
  if v = 1 then s.holdPlace h else (stOk, if s.holdOn h then s.holdEnd h else s)

/-- A write of a WO object of class NOW is executed: status and state. -/
def State.command (s : State) (k v : Nat) (bs : List Nat) : Nat × State :=
  let i := k / 256
  let j := k % 256
  if k = 0x201802 then s.armEpoch
  else if k = 0x202809 then (let r := s.softwareLine; (r.1, s.rearmAfter r.2))
  else if k = 0x203807 then (stOk, s.put 0x203806 0)
  else if k = 0x204001 then s.runCommand v
  else if k = 0x241809 then (stOk, s.wSingle)
  else if k = 0x243005 then (stOk, s.clearStrobe v)
  else if k = 0x243802 then
    (stOk, { s with arr := { s.arr with rowReen := s.arr.rowReen ||| (v &&& s.n 0x243801) } })
  else if k = 0x281001 then s.calCommand v
  else if k = 0x287003 then (stOk, s.rawArm)
  else if k = 0x504101 then s.reachCommand v
  else if k = 0x504803 then s.lookup
  else if 0x5050 ≤ i && i ≤ 0x508F && j = 4 then s.holdCommand (i - 0x5050) v
  else if k = 0x102004 then (stOk, s)
  else if k = 0x544008 then (stOk, s.put 0x544006 0)
  else if k = 0x54500C then (if s.net.barrier.isNone then (stState, s) else (stOk, s.barrierAbort 3))
  else if k = 0x584006 then (stOk, s.clearFailure)
  else if 0x5880 ≤ i && i ≤ 0x588F && j = 1 then s.jobCommand (i - 0x5880) v
  else if k = 0x320001 then s.calStore
  else if k = 0x328001 then s.procCommand v
  else if k = 0x700007 then s.replanRequest
  else if k = 0x60080B then s.thermalRestart
  else if k = 0x60080E then (stOk, s.clearSensors v)
  else if k = 0x640002 then s.adcCommand v
  else if 0x6480 ≤ i && i ≤ 0x64A7 && j = 7 then (stOk, s.clearLatch (i - 0x6480) v)
  else if k = 0x140005 then s.standby
  else if k = 0x148003 then (stOk, s.clearRails v)
  else if k = 0x15100A then s.recharge
  else if k = 0x680803 then s.otpRead
  else if k = 0x681003 then s.advanceSecurity
  else if k = 0x682004 then (if s.session then (stOk, s.sessionEnd) else (stState, s))
  else if k = 0x683003 then s.r7Command v
  else if k = 0x684002 then s.fwWrite bs
  else if k = 0x684003 then (if v = 1 then s.fwEraseCmd else s.fwVerifyCmd)
  else (stOk, s)

/-! ### Writes (R302 to R304, R319, R322, R324) -/

/-- A plain write of class NOW or IDLE takes effect: status and state. -/
def State.writeNow (s : State) (p k : Nat) (r : ObjRow) (bs : List Nat) : Nat × State :=
  let st := s.stateStatus k r bs
  if st ≠ stOk then (st, s)
  else if r.acc = .wo then s.command k (leNat bs) bs
  else if p = 2 && k = 0x540001 && leNat bs = 0 then (stOk, { s with net := { s.net with txOff := true } })
  else s.applyNow k bs

/-- A plain WRITE of port `p`: status, TXN and ARG of an implicit transaction, data, state. Port 4 is the internal port of
the startup profile. -/
def State.plainWrite (s : State) (p k : Nat) (bs : List Nat) : Nat × Option (Nat × Nat) × List Nat × State :=
  let st := s.writeStatus k bs false
  if st ≠ stOk then (st, none, [], s)
  else match findRow k with
    | none => (stAccess, none, [], s)
    | some r =>
      let bs := s.normalBytes k bs
      match r.app with
      | .atSection =>
        let x := s.implicitCommit (.port p) [(k, bs)]
        (x.1, if x.1 = stOk then some (x.2.1, x.2.2.1) else none, x.2.2.2.1, x.2.2.2.2)
      | .reset =>
        let s := { s with dict := { s.dict with profStore := some bs } }
        (stOk, none, [], s.noteCommit [k])
      | _ =>
        let x := s.writeNow p k r bs
        (x.1, none, [], if x.1 = stOk && r.acc ≠ .wo then x.2.noteCommit [k] else x.2)

/-- A WRITE that names the port's open transaction: the value is staged. RWS objects are written as outside. -/
def State.txnWrite (s : State) (p k : Nat) (bs : List Nat) : Nat × Option (Nat × Nat) × List Nat × State :=
  match findRow k with
  | some r =>
    if r.acc = .rws then s.plainWrite p k bs
    else
      let st := s.writeStatus k bs true
      if st ≠ stOk then (st, none, [], s)
      else
        let x := s.txnStage p k (s.normalBytes k bs)
        (x.1, none, [], x.2)
  | none => (s.writeStatus k bs true, none, [], s)

/-! ### Requests (R265, R305 to R307, R317) -/

/-- Data bytes a port carries in one request or response (R306). -/
def portLimit (p : Nat) : Nat := if p = 2 then 1472 else if p = 3 then 243 else 65520

/-- The result of an operation: status, TXN and ARG where they are not the request's, data, state. -/
structure OpRes where
  status : Nat
  ids : Option (Nat × Nat)
  data : List Nat
  next : State

/-- Existence and presence come first, then the transaction a request names (R302, R303). -/
def State.named (s : State) (p : Nat) (r : DReq) (dataOp : Bool) : Nat × State :=
  if r.txn = 0 then (stOk, s)
  else
    let x := s.txnNamed p r.txn
    if x.1 = stRolledBack then x
    else if dataOp && !keyExists r.key then (stNoObject, s)
    else if dataOp && s.keyAbsent r.key then (stAbsent, s)
    else x

/-- READ and READ_SEGMENT (R305, R306). -/
def State.opRead (s : State) (p : Nat) (r : DReq) : OpRes :=
  let k := r.key
  let x := s.named p r true
  let wo : Bool := match findRow k with
    | some w => w.acc = .wo
    | none => false
  if x.1 ≠ stOk then ⟨x.1, none, [], x.2⟩
  else if !keyExists k then ⟨stNoObject, none, [], x.2⟩
  else if s.keyAbsent k then ⟨stAbsent, none, [], x.2⟩
  else if wo then ⟨stAccess, none, [], x.2⟩
  else
    let s := x.2
    let v := if r.txn = 0 then s.valueBytes k else (mapGet (s.txn p).staged k).getD (s.valueBytes k)
    let lim := portLimit p
    if r.op = 6 then ⟨stOk, some (r.txn, v.length), (v.drop r.arg).take (min r.len lim), s.readEffect k⟩
    else if lim < v.length then ⟨stRange, some (r.txn, v.length), [], s⟩
    else ⟨stOk, none, v, s.readEffect k⟩

/-- A whole value is written, plainly or into the transaction named. -/
def State.opWriteValue (s : State) (p : Nat) (r : DReq) (bs : List Nat) : OpRes :=
  let x := s.named p r true
  if x.1 ≠ stOk then ⟨x.1, none, [], x.2⟩
  else
    let y := if r.txn = 0 then x.2.plainWrite p r.key bs else x.2.txnWrite p r.key bs
    ⟨y.1, y.2.1, y.2.2.1, y.2.2.2⟩

/-- Drop a port's assembly buffer. -/
def State.dropAsmBuf (s : State) (p : Nat) : State := { s with dict := { s.dict with asm := s.dict.asm.set p none } }

/-- WRITE_SEGMENT (R306): the object is checked first (R9, R302); the assembly is checked and written as one value at its last
segment. -/
def State.opSegment (s : State) (p : Nat) (r : DReq) : OpRes :=
  let off := r.arg % 2 ^ 24
  let last := r.arg.testBit 31
  let old : Option (List Nat) := match (s.dict.asm[p]?).getD none with
    | some (k, bs) => if k = r.key && bs.length = off then some bs else none
    | none => none
  let base : Option (List Nat) := if off = 0 then some [] else old
  let x := s.named p r true
  if x.1 ≠ stOk then ⟨x.1, none, [], x.2⟩
  else if !keyExists r.key then ⟨stNoObject, none, [], x.2⟩
  else if s.keyAbsent r.key then ⟨stAbsent, none, [], x.2⟩
  else match base with
  | none => ⟨stRange, none, [], x.2.dropAsmBuf p⟩
  | some bs =>
    let whole := bs ++ r.data
    if r.arg / 2 ^ 24 % 128 ≠ 0 || 65536 < whole.length then ⟨stRange, none, [], x.2.dropAsmBuf p⟩
    else if last then (s.dropAsmBuf p).opWriteValue p r whole
    else ⟨stOk, none, [], { x.2 with dict := { x.2.dict with asm := x.2.dict.asm.set p (some (r.key, whole)) } }⟩

/-- COMMIT and ROLLBACK name the port's open transaction (R311, R317, R318). -/
def State.opTxn (s : State) (p : Nat) (r : DReq) : OpRes :=
  let x := s.txnNamed p r.txn
  if x.1 ≠ stOk then ⟨x.1, none, [], x.2⟩
  else if r.op = 4 then
    let y := x.2.txnCommit p r.arg r.data
    ⟨y.1, if y.1 = stOk then some (y.2.1, y.2.2.1) else none, y.2.2.2.1, y.2.2.2.2⟩
  else ⟨stOk, none, [], x.2.txnRollback p⟩

/-- One operation of a port. An operation code the spec does not list has no effect; its status is a free value. -/
def State.operate (s : State) (p : Nat) (r : DReq) : OpRes :=
  let s := if r.op = 1 || r.op = 6 || r.op = 7 then s else s.dropAsmBuf p
  if r.op ≠ 1 && r.op ≠ 6 && portLimit p < max r.len r.data.length then ⟨stRange, none, [], s⟩
  else match r.op with
    | 1 => s.opRead p r
    | 2 => s.opWriteValue p r r.data
    | 3 =>
      let x := s.txnBegin p
      ⟨x.1, if x.1 = stOk then some (x.2.1, r.arg) else none, [], x.2.2⟩
    | 4 => s.opTxn p r
    | 5 => s.opTxn p r
    | 6 => s.opRead p r
    | 7 => s.opSegment p r
    | _ =>
      let f := s.free 1 15
      ⟨f.1, none, [], f.2⟩

/-- What each condition of the device lets a port be served (R370, R415, R460): the others get `STATE`. -/
def State.gate (s : State) (p : Nat) (r : DReq) : Bool :=
  let i := r.key / 256
  let readOp : Bool := r.op = 1 || r.op = 6
  if s.restricted then
    (p = 0 || p = 3) && (readOp || r.op = 2 || r.op = 7)
      && (i = 0x1000 || i = 0x1010 || i = 0x1020 || (0x6800 ≤ i && i ≤ 0x6840))
  else if p = 4 then true
  else if s.validSensors.isEmpty then
    p = 3 && readOp && ((0x1000 ≤ i && i ≤ 0x13FF) || (0x6000 ≤ i && i ≤ 0x67FF))
  else if !s.pdOn 2 then
    p = 3 && ((readOp && i ≠ 0x1100 && !(0x8000 ≤ i && i ≤ 0x80FF))
      || (s.pow.minimal && s.is 0x152005 0 && r.op = 2 && r.key = 0x102004))
  else true

/-- An operation has its result: the response is kept, and the request is counted. TXN and ARG are the request's unless the
operation has its own. -/
def OpRes.respond (x : OpRes) (p : Nat) (r : DReq) : State :=
  let ids := x.ids.getD (r.txn, r.arg)
  let s := x.next.bump (0x103005 + p)
  { s with resp := some { port := p, status := x.status, txn := ids.1, arg := ids.2, data := x.data } }

/-- The dictionary serves one request of a port. -/
def State.serve (s : State) (p : Nat) (r : DReq) : State :=
  (if s.gate p r then s.operate p r else ⟨stState, none, [], s⟩ : OpRes).respond p r

/-- A request was an accepted warm reset command: the reset follows its response (R467). -/
def State.afterResponse (s : State) (r : DReq) : State :=
  match s.resp with
  | some x => if r.key = 0x102004 && (r.op = 2 || r.op = 7) && r.txn = 0 && x.status = stOk
      && (r.op = 2 || r.arg.testBit 31) then s.warmReset 2 else s
  | none => s

/-! ### Ports 1 and 2 -/

/-- The response of a mailbox: header and data (R265). -/
def Resp.mailbox (x : Resp) : List Nat :=
  [x.status, 0, 0, 0] ++ leBytes 4 x.data.length ++ leBytes 4 x.txn ++ leBytes 4 x.arg ++ x.data

/-- The request in a mailbox buffer. -/
def mailboxReq (bs : List Nat) : DReq :=
  { op := fieldAt bs 0 1, key := fieldAt bs 2 2 * 256 + fieldAt bs 1 1, len := fieldAt bs 4 4, txn := fieldAt bs 8 4,
    arg := fieldAt bs 12 4
    data := if fieldAt bs 0 1 = 6 || fieldAt bs 0 1 = 1 then [] else (bs.drop 16).take (fieldAt bs 4 4) }

/-- The bytes of a request as a mailbox buffer holds it. -/
def DReq.mailbox (r : DReq) : List Nat :=
  [r.op % 256, r.key % 256] ++ leBytes 2 (r.key / 256) ++ leBytes 4 (if r.data.isEmpty then r.len else r.data.length)
    ++ leBytes 4 r.txn ++ leBytes 4 r.arg ++ r.data

/-- The response has been written into the mailbox: `DONE`, and its vector is signalled (R265). -/
def State.mailboxDone (s : State) : State :=
  let bytes := (s.resp.map Resp.mailbox).getD []
  { s with host := { s.host with mbState := 2, mbResp := bytes } }.signal s.host.mbVec

/-- The message that answers a request of port 2 (R332 to R334). -/
def State.pehelResp (s : State) (x : Resp) (typ seq : Nat) : List Nat :=
  pehel (typ + 0x80) seq x.txn (s.n 0x100003) ++ [0, 0, 0, x.status] ++ leBytes 2 x.data.length ++ [0, 0]
    ++ leBytes 4 x.arg ++ x.data

/-- The response block of port 3, count byte first (R364). -/
def Resp.twt (x : Resp) : List Nat :=
  (12 + x.data.length) :: [x.status, 0, 0, 0] ++ leBytes 4 x.txn ++ leBytes 4 x.arg ++ x.data

/-- The response to a request is framed on its port. On port 3, SEQ 1 marks a write of pointer mode (R369). -/
def State.framed (s : State) (w : Waiter) : State :=
  let s := match s.resp with
    | none => s
    | some x =>
      if w.port = 1 then s.mailboxDone
      else if w.port = 2 then s.netRespond w.req.op w.seq (s.pehelResp x w.req.op w.seq)
      else if w.port = 3 && w.seq = 1 then s.put 0x580009 x.status
      else if w.port = 3 then { s with two := { s.two with twState := 2, twResp := x.twt } }
      else { s with dbg := { s.dbg with get := x.mailbox } }
  s.afterResponse w.req

/-- A request is served and answered. One of port 2 that was executed while it waited is not executed again (R336). -/
def State.answer (s : State) (w : Waiter) : State :=
  if w.port = 2 then (s.netAgain (s.n 0x540005) w.seq w.req.op).getD ((s.serve w.port w.req).framed w)
  else (s.serve w.port w.req).framed w

/-- SUP1 runs again: what waited is served in port order (R320). -/
def State.serveWaiting (s : State) : State :=
  if s.dbg.sup1 then s
  else
    let l := s.dict.waiting
    let s := { s with dict := { s.dict with waiting := [] } }
    (l.filter (·.port = 1) ++ l.filter (·.port = 2) ++ l.filter (·.port = 3)).foldl State.answer s

/-- A request has arrived whole: it is served, or waits while SUP1 is halted (R471). Port 2 holds one in service and one
waiting (R335). -/
def State.arrive (s : State) (w : Waiter) : State :=
  if s.dbg.sup1 && w.port ≠ 0 then
    if w.port = 2 && 2 ≤ (s.dict.waiting.filter fun (x : Waiter) => x.port = 2).length then s.bump 0x54000A
    else { s with dict := { s.dict with waiting := s.dict.waiting ++ [w] } }
  else (s.answer w).serveWaiting

/-- A port is lost: what waits on it is not served, and its open transaction is abandoned (R318, R320). -/
def State.portLost (s : State) (p cause : Nat) : State :=
  let s := { s with dict := { s.dict with waiting := s.dict.waiting.filter fun (x : Waiter) => x.port ≠ p } }
  s.txnAbandon p cause

/-- GO of the mailbox (R265). A GO while `BUSY` is ignored and counted. -/
def State.mailboxStart (s : State) : State :=
  if s.host.mbState = 1 then s.bump 0x500801
  else
    let s := { s with host := { s.host with mbState := 1 } }.bump 0x500802
    s.arrive { port := 1, seq := 0, req := mailboxReq s.host.mbReq }

/-- The host writes a request into the request buffer and then GO. -/
def State.mailboxGo (s : State) (bs : List Nat) : State :=
  if !s.pcieOn || s.is 0x500001 0 then s else { s with host := { s.host with mbReq := bs } }.mailboxStart

/-- A request of types 0x01 to 0x07 on the field network (R331, R333 to R336): from `src` to the serial number `serial`. One that
completes in the tick of a link loss is discarded (R346). -/
def State.netRequest (s : State) (src serial seq : Nat) (r : DReq) : State :=
  if s.is 0x540002 0 then s
  else if s.is 0x540002 3 && s.net.lostT = some s.now then s
  else if serial ≠ s.n 0x100003 || src ≠ s.n 0x540005 || !s.b 0x540001 || s.net.txOff then s.netIgnored true
  else (s.netRx.netAgain src seq r.op).getD (s.netRx.arrive { port := 2, seq := seq, req := r })

/-- A request of a port: 0 debug, 1 PCIe, 2 field network with the source address and SEQ of its message, 3 two-wire. -/
def State.hostRequest (s : State) (p src seq : Nat) (r : DReq) : State :=
  match p with
  | 0 => if s.session && s.bit 0x682003 0 then s.arrive ⟨0, 0, r⟩ else s
  | 1 => s.mailboxGo r.mailbox
  | 2 => s.netRequest src (s.n 0x100003) seq r
  | 3 => if ([0, 1, 5] : List Nat).contains s.boot.step || s.two.twState = 1 then s
      else { s with two := { s.two with twState := 1, twResp := [] } }.arrive ⟨3, 0, r⟩
  | _ => s

/-! ### Stores of the profile and of integrator objects (R322, R324) -/

/-- The profile's store to flash ends (R322). -/
def State.profileStored (s : State) (ok : Bool) : State :=
  match s.dict.profStore with
  | none => s
  | some bs =>
    let s := { s with dict := { s.dict with profStore := none } }
    if ok then ({ s with dict := { s.dict with profile := bs } }.bump 0x110105).put 0x110106 1
    else s.put 0x110106 2

/-- A store of integrator objects ends (R324); one that was written meanwhile begins the next store. -/
def State.integratorStored (s : State) (ok : Bool) : State :=
  match s.dict.intStore with
  | none => s
  | some l =>
    let again := s.dict.intAgain
    let s := { s with dict := { s.dict with intStore := none, intAgain := false, intFlash := if ok then l else s.dict.intFlash } }
    let s := if ok then (s.put 0x80F001 0).bump 0x80F002 else ((s.put 0x80F001 2).bump 0x80F003).raise 0x0808
    if again then s.integratorWritten else s

end Sys2Proof.Machine
end

