-- ==== Sys2Proof/Machine/Startup.lean ====
section
/-!
DEFINITION. The end of start-up (steps 6 to 9 of R463): the calibration set, the lock register, the integrator objects, the
startup profile on its internal port (R323), and READY. Also a domain that finishes starting, with what its units load.
-/
namespace Sys2Proof.Machine

/-! ### The startup profile (R322, R323) -/

/-- The profile ends at entry `ix` with a status. -/
def State.profileFailed (s : State) (done ix status : Nat) : State :=
  (s.puts [(0x110101, 2), (0x110102, done), (0x110103, ix), (0x110104, status)]).raise 0x0807

/-- The first entry of a list, with its place in the profile, for which a status is not `OK`. -/
def firstBad (f : ProfEntry → Nat) (l : List (Nat × ProfEntry)) : Option (Nat × Nat) :=
  l.findSome? fun p => if f p.2 = stOk then none else some (p.1, f p.2)

/-- Execute the commands of a profile in order, until one fails: entries applied, and the one that failed. -/
def State.profileCommands (s : State) (done : Nat) : List (Nat × ProfEntry) → State
  | [] => (s.puts [(0x110101, 1), (0x110102, done)]).raise 0x0806
  | (ix, e) :: t =>
    let x := s.plainWrite 4 e.key e.val
    if x.1 = stOk then State.profileCommands x.2.2.2 (done + 1) t else s.profileFailed done ix x.1

/-- SUP1 applies the profile: the values in one commit with target NEXT, then the commands. -/
def State.profileApply (s : State) (l : List ProfEntry) : State :=
  let all := List.zip (List.range l.length) l
  let values := all.filter fun p => !isCommand p.2.key
  let commands := all.filter fun p => isCommand p.2.key
  match firstBad (fun e => s.writeStatus e.key e.val true) values with
  | some f => s.profileFailed 0 f.1 f.2
  | none =>
    let kvs := values.foldl (fun (m : List (Nat × List Nat)) p => mapPut m p.2.key (s.normalBytes p.2.key p.2.val)) []
    let at_ := s.applySection
    let c := s.commitChecks (some at_) kvs s.dict.serial
    if c.1 = stOk then (s.commitAccept .profile (some at_) kvs).profileCommands values.length commands
    else
      let stateBad (e : ProfEntry) : Nat := match findRow e.key with
        | some r => s.stateStatus e.key r e.val
        | none => stOk
      let ruleBad (e : ProfEntry) : Nat :=
        if c.2.take 3 = leBytes 2 (e.key / 256) ++ [e.key % 256] then c.1 else stOk
      let f := ((firstBad stateBad values).orElse fun _ => firstBad ruleBad values).map (·.1)
      s.profileFailed 0 (f.getD 0xFFFF) c.1

/-- The profile in flash at start-up: none, damaged in both slots, or applied (R323). -/
def State.profileStart (s : State) (intact : Bool) : State :=
  let s := s.putBlob 0x110000 (if intact then s.dict.profile else [])
  if s.dict.profile.isEmpty then s.put 0x110101 0
  else match profileOf s.dict.profile with
    | some l => if intact then s.profileApply l else s.put 0x110101 3
    | none => s.put 0x110101 3

/-- The profile holds a warm reset command that was executed (R467). -/
def State.profileResets (s : State) : Bool :=
  match profileOf (s.blob 0x110000) with
  | some l => (List.zip (List.range l.length) l).any fun p =>
      p.2.key = 0x102004 && (s.is 0x110101 1 || (s.is 0x110101 2 && (p.1 : Int) < s.o 0x110103 && s.o 0x110103 ≠ 0xFFFF
        && 0 < s.o 0x110102))
  | none => false

/-! ### Steps 6 to 9 (R463, R465) -/

/-- The integrator objects take their flash contents (R324). -/
def State.integratorLoad (s : State) : State :=
  s.dict.intFlash.foldl (fun (s : State) p =>
    match findRow p.1 with
    | some r => if r.ty.isBlob then s.putBlob p.1 p.2 else s.put p.1 (decodeVal r.ty p.2)
    | none => s) s

/-- The set has loaded (R386): every domain of R447 is on by now, the lock register is set, the profile is applied, and
READY rises. A shutdown level still asserted keeps the device in `SHUTDOWN` (log entry 65). -/
def State.calsetLoaded (s : State) (profileIntact : Bool) : State :=
  if s.boot.step ≠ 3 then s
  else
    let s := bootDomains.foldl State.domainStarted s
    let s := bootDomains.foldl State.domainStarted s
    let s := (s.calLoad.hoursLoad).put 0x68000C (0x7F + if s.is 0x680008 (rgSealed : Nat) then 0x80 else 0)
    let s := s.integratorLoad.profileStart profileIntact
    let resets := s.profileResets
    let hot := s.bit 0x600803 2 || s.sensorsShort
    let s := { s with boot := { s.boot with step := 4 } }.put 0x102001 (if hot then dsShutdown else dsReady)
    let s := s.returnEnd.refreshClock
    if resets then s.warmReset 2 else s

/-- A domain finishes starting (R431); `pads` are the levels of TRIG_IN (bit 0) and EPOCH (bit 1), which PD14 takes as
PD14 turns on (R46). During start-up PD2 runs only when the set has loaded. -/
def State.domainComplete (s : State) (n pads : Nat) : State :=
  if n = 2 && (s.boot.step = 2 || s.boot.step = 3) then s
  else
    let t := s.domainStarted n
    if !(t.pdOn n) || s.pdOn n then t
    else
      let t := if n = 2 then t.calLoad else t
      let t := if n = 14 then { t with pos := { t.pos with trigIn := pads.testBit 0, epochIn := pads.testBit 1 } } else t
      t.refreshClock

/-- A hand-over begins (R440): a firmware erase or write in progress is abandoned with it (R462). -/
def State.handoverTaken (s : State) (mv : Nat) : State :=
  let t := s.handover mv
  if t.is 0x152005 1 && !s.is 0x152005 1 then t.fwAbandon else t

/-- The loss record is done; a return that became due meanwhile begins (R441, R443). -/
def State.lossDone (s : State) (ok : Bool) : State :=
  let t := s.lossRecordDone ok
  if t.is 0x152005 2 && t.pow.returnDue then t.returnBegin else t

end Sys2Proof.Machine
end

