-- ==== Sys2Proof/Machine/TwtPort.lean ====
section
/-!
DEFINITION. The two-wire target port as port 3 of the dictionary (R358 to R370): command mode and pointer mode. One command
is one transaction on the bus, up to the STOP or the condition that ends it.
-/
namespace Sys2Proof.Machine

/-- The port answers its address: power is on, no integrity hold, and not in standby (R357, R360). -/
def State.twtLive (s : State) : Bool := !([0, 1, 5] : List Nat).contains s.boot.step && !s.twtStandby

/-- A write ends in another way than a STOP (R358): 1 a START where none was due, 2 a STOP inside a byte, 3 a repeated START
after block bytes. -/
def State.twtBroken (s : State) (ending : Nat) : State := (if ending = 1 then s.twtBusError else s).twtDiscard

/-- The request of a block (R363). The block has no LENGTH: a READ_SEGMENT asks for as much as the port carries (log
entry 66). -/
def twtReq (code : Nat) (block : List Nat) : DReq :=
  { op := code, key := fieldAt block 0 2 * 256 + fieldAt block 2 1, len := if code = 6 then 243 else block.length - 12
    txn := fieldAt block 4 4, arg := fieldAt block 8 4, data := if code = 1 || code = 6 then [] else block.drop 12 }

/-- A write of command mode: code, the bytes after it, and how it ended, 0 for a STOP (R358, R362, R363, R365, R366). A code
alone has no effect at a STOP or a repeated START. -/
def State.twtRequest (s : State) (code : Nat) (bytes : List Nat) (ending : Nat) : State :=
  if !s.twtLive || !s.is 0x580002 0 then s
  else if ending = 1 then s.twtBroken 1
  else if s.two.twState = 1 || code < 1 || 7 < code || (bytes.isEmpty && ending ≠ 2) then s
  else
    let n := bytes.headD 0
    let rest := bytes.drop 1
    let block := rest.take n
    if ending ≠ 0 then s.twtBroken ending
    else if n < 12 || rest.length < n then s.twtDiscard
    else if s.b 0x580003 && rest[n]? ≠ some (crc8 ([s.twtAddr, code, n] ++ block)) then s.twtCheckError
    else { s with two := { s.two with twState := 1, twResp := [] } }.arrive ⟨3, 0, twtReq code block⟩

/-- STATE: `n` bytes are read (R364). -/
def State.twtState (s : State) (n : Nat) : State :=
  if s.twtLive && s.is 0x580002 0 then s.twtRead 0x10 [s.two.twState] n else s

/-- RESPONSE (R364): a count of zero while STATE is not `DONE`. -/
def State.twtResponse (s : State) (n : Nat) : State :=
  if s.twtLive && s.is 0x580002 0 then s.twtRead 0x11 (if s.two.twState = 2 then s.two.twResp else [0]) n else s

/-- IDENT (R362). -/
def State.twtIdent (s : State) (n : Nat) : State :=
  if s.twtLive && s.is 0x580002 0 then s.twtRead 0x12 (leBytes 8 (s.n 0x100003)) n else s

/-! ### Pointer mode (R367 to R369) -/

/-- The key that a window shows; none for an unmapped one. -/
def State.windowKey? (s : State) (w : Nat) : Option Nat :=
  let m := s.blob 0x581000
  if fieldAt m (4 * w) 2 = 0xFFFF then none else some (fieldAt m (4 * w) 2 * 256 + fieldAt m (4 * w + 2) 1)

/-- The first byte of a window is read: its value is fetched, and its status kept. The port's own state reads `ACTIVE` then. -/
def State.windowFetch (s : State) (w : Nat) : List Nat × State :=
  match s.windowKey? w with
  | none => ([], s.put 0x580009 stNoObject)
  | some k =>
    let r : DReq := { op := 1, key := k, len := 0, txn := 0, arg := 0, data := [] }
    if !s.gate 3 r then ([], s.put 0x580009 stState)
    else
      let x := s.opRead 0 r
      let v := if k = 0x580004 then [2] else x.data
      (if x.status = stOk then v else [], x.next.put 0x580009 x.status)

/-- Read `n` bytes from the pointer: the bytes, with the copies of the windows met. -/
def State.pointerBytes (s : State) : Nat → List (Nat × List Nat) → List Nat × State
  | 0, _ => ([], s)
  | n + 1, seen =>
    let w := s.two.pointer / 256
    let x := match mapGet seen w with
      | some v => (v, s)
      | none => s.windowFetch w
    let b := (x.1[s.two.pointer % 256]?).getD 0xFF
    let t := { x.2 with two := { x.2.two with pointer := (s.two.pointer + 1) % 65536 } }
    let y := State.pointerBytes t n (mapPut seen w x.1)
    (b :: y.1, y.2)

/-- A read of pointer mode of `n` bytes (R368). While SUP1 is halted the stretch ends under R359. -/
def State.twtPointerRead (s : State) (n : Nat) : State :=
  if !s.twtLive || !s.is 0x580002 1 then s
  else if s.dbg.sup1 then s.twtAbandon
  else
    let x := s.pointerBytes n []
    x.2.emit (.twt x.1)

/-- The data of a pointer-mode write are written at STOP (R369): the value in force with the bytes replaced, as a plain WRITE
of port 3. -/
def State.windowWrite (s : State) (ptr : Nat) (data : List Nat) : State :=
  let ats := (List.range data.length).map fun i => ptr % 256 / 32 * 32 + (ptr + i) % 32
  let after := ptr / 32 * 32 + (ptr + data.length) % 32
  let blob (k : Nat) : Bool := match findRow k with
    | some r => r.ty.isBlob
    | none => false
  match s.windowKey? (ptr / 256) with
  | none => (s.twtDiscard).put 0x580009 stNoObject
  | some k =>
    if blob k then (s.twtDiscard).put 0x580009 stType
    else
      let old := s.valueBytes k
      let new := (List.zip ats data).foldl (fun (v : List Nat) p => if p.1 < v.length then v.set p.1 p.2 else v) old
      let s := { s with two := { s.two with pointer := after } }
      s.arrive ⟨3, 1, { op := 2, key := k, len := new.length, txn := 0, arg := 0, data := new }⟩

/-- A write of pointer mode: the pointer, the bytes after it (the check byte last while it is enabled), and how it ended
(R369). A pointer alone only sets the pointer. -/
def State.twtPointerWrite (s : State) (ptr : Nat) (bytes : List Nat) (ending : Nat) : State :=
  let ptr := ptr % 65536
  if !s.twtLive || !s.is 0x580002 1 then s
  else if bytes.isEmpty then
    if ending = 0 || ending = 3 then { s with two := { s.two with pointer := ptr } } else s.twtBroken ending
  else if ending ≠ 0 then s.twtBroken ending
  else
    let check := s.b 0x580003
    let data := if check then bytes.dropLast else bytes
    if 32 < data.length then s.twtDiscard
    else if check && bytes.getLast? ≠ some (crc8 ([s.twtAddr, ptr / 256, ptr % 256] ++ data)) then s.twtCheckError
    else
      let s := { s with two := { s.two with pointer := ptr } }
      if data.isEmpty then s else s.windowWrite ptr data

/-- SCL has been low for 35 ms: the port state is reset and port 3 is lost (R359). -/
def State.twtTimeout (s : State) : State :=
  if !s.twtLive then s else ((s.twtClear.portLost 3 3).bump 0x580008).raise 0x0A04

/-- A stretch has lasted 25 ms (R359). -/
def State.twtStretch (s : State) : State := if s.twtLive then s.twtAbandon else s

end Sys2Proof.Machine
end

