-- ==== Sys2Proof/Machine/Debug.lean ====
section
/-!
DEFINITION. The TAP and the debug port (R469 to R472): instructions, challenge and response, sessions, and the debug
operations with the debug address space. Also BAR0 as the debug port reaches it (R264).
-/
namespace Sys2Proof.Machine

/-! ### TAP instructions (R469) -/

/-- The TAP has power. -/
def State.tapOn (s : State) : Bool := s.boot.step ≠ 0

/-- An instruction is selected, or BYPASS in its place where it is not available. -/
def State.tapSelect (s : State) (code : Nat) (available : Bool) : State :=
  if s.tapOn then { s with dbg := { s.dbg with ir := if available then code else 0xFF } } else s

/-- IDCODE's value (R469). -/
def State.idcode (s : State) : Nat :=
  shl (s.n 0x100005 % 16) 28 + shl s.deviceId 12 + shl (s.region0 5 % 2 ^ 11) 1 + 1

/-- IDCODE is selected and shifted out. -/
def State.tapIdcode (s : State) : State :=
  if s.tapOn then (s.tapSelect 0x02 true).emit (.tdo s.idcode) else s

/-- SAMPLE/PRELOAD: the boundary chain takes pad levels (R469). -/
def State.tapSample (s : State) (pads : List (Nat × Nat)) : State :=
  let on : Bool := s.boot.step ≠ 5
  let s := s.tapSelect 0x01 on
  if on && s.tapOn then { s with dbg := { s.dbg with chain := pads } } else s

/-- OTP_CAUSE: the integrity cause (R457). -/
def State.tapCause (s : State) : State :=
  if s.tapOn then (s.tapSelect 0x10 true).emit (.tdo s.otp.cause) else s

/-! ### Unlocking (R470) -/

/-- The challenge instructions are available. -/
def State.challengeOn (s : State) : Bool := s.tapOn && s.boot.step ≠ 5

/-- DBG_CHALLENGE with a fresh nonce: the old challenge is void; none is made while the retry delay runs. -/
def State.dbgChallenge (s : State) (nonce : List Nat) : State :=
  if !s.challengeOn then s.tapSelect 0xFF true
  else
    let s := s.tapSelect 0x20 true
    if s.now < s.dbg.delayEnd then { s with dbg := { s.dbg with challenge := none, status := 3 } }
    else
      let c := leBytes 8 (s.n 0x100003) ++ leBytes 2 (s.counter .unlock) ++ [0, 0] ++ (nonce ++ List.replicate 20 0).take 20
      { s with dbg := { s.dbg with challenge := some c } }.emit (.tdo (leNat c))

/-- A failed unlock: status, event, and the delay of the next challenge. -/
def State.unlockFailed (s : State) (status : Nat) : State :=
  let d := if s.dbg.delay = 0 then 1 else min 64 (2 * s.dbg.delay)
  let s := { s with dbg := { s.dbg with status := status, challenge := none, opening := none, delay := d, delayEnd := s.now + d * tickS } }
  ((s.bump 0x682005).put 0x682006 d).raise 0x0E0D

/-- A session opens with a scope. -/
def State.sessionOpen (s : State) (scope : Nat) : State :=
  let s := { s with dbg := { s.dbg with status := 0, opening := none } }
  (((s.put 0x682003 (scope % 16 : Nat)).put 0x682001 (if s.openPart then 0 else 2)).settleDomains).raise 0x0E0C

/-- DBG_RESPONSE at Update-DR: scope, key and signature. What is captured is the status before. -/
def State.dbgResponse (s : State) (scope : Nat) (key sig : List Nat) : State :=
  if !s.challengeOn then s.tapSelect 0xFF true
  else
    let s := (s.tapSelect 0x21 true).emit (.tdo s.dbg.status)
    let status (s : State) (n : Nat) : State := { s with dbg := { s.dbg with status := n } }
    if s.now < s.dbg.delayEnd then status s 3
    else match s.dbg.challenge with
      | none => status s 4
      | some c =>
        if 256 ≤ s.counter .unlock then status { s with dbg := { s.dbg with challenge := none } } 2
        else if Config.sha256 key ≠ s.keyHash 8 || !Config.ecdsaVerify key (Config.sha256 (c ++ leBytes 4 scope)) sig then s.unlockFailed 1
        else { s with dbg := { s.dbg with challenge := none, opening := some scope } }.burnCounter .unlock

/-- The counter burn of an unlock has ended: the session opens, or the unlock fails. -/
def State.unlockBurned (s : State) (ok : Bool) : State :=
  match s.dbg.opening with
  | none => s
  | some scope => if ok then s.sessionOpen scope else s.unlockFailed 5

/-- The retry delay has passed: a challenge may be issued again. -/
def State.retryExpiry (s : State) : State :=
  if s.n 0x682006 = 0 then s else (s.atTick s.dbg.delayEnd).put 0x682006 0

/-! ### BAR0 (R264) -/

/-- Bytes of a string brought to a length with zeros. -/
def padTo (n : Nat) (bs : List Nat) : List Nat := bs ++ List.replicate (n - bs.length) 0

/-- The status block. -/
def State.statusBlock (s : State) : List Nat :=
  leBytes 4 ((if s.is 0x102001 dsReady then 1 else 0) + 256 * s.n 0x681004) ++ [0, 0, 0, 0] ++ leBytes 8 (s.n 0x202003)
    ++ leBytes 8 (wrapU 64 s.livePos) ++ leBytes 4 (s.n 0x202004) ++ leBytes 4 (s.n 0x204002 % 256)
    ++ leBytes 4 (s.n 0x7C0007) ++ leBytes 4 (s.n 0x380004)

/-- In the restricted mode BAR0 provides the status block and, since it answers requests there, the mailbox (R260; DEDUCED, log entry
110). -/
def State.bar0Holds (s : State) (off : Nat) : Bool :=
  !s.is 0x102001 dsRestricted || off < 0x1000 || (0x2000 ≤ off && off < 0x3000) || (0x10000 ≤ off && off < 0x30000)

/-- A word of BAR0. -/
def State.bar0Read (s : State) (off : Nat) : Nat :=
  if !s.bar0Holds off then 0
  else if off < 0x1000 then fieldAt s.statusBlock off 4
  else if off = 0x2004 then s.host.mbState
  else if off = 0x200C then s.host.mbVec
  else if 0x10000 ≤ off && off < 0x20000 then fieldAt s.host.mbReq (off - 0x10000) 4
  else if 0x20000 ≤ off && off < 0x30000 then fieldAt s.host.mbResp (off - 0x20000) 4
  else if 0xF00000 ≤ off && off < 0xF00400 then (mapGet s.host.msixTab ((off - 0xF00000) / 4)).getD 0
  else 0

/-- Write a word of BAR0. -/
def State.bar0Write (s : State) (off v : Nat) : State :=
  if !s.bar0Holds off then s
  else if 0x1000 ≤ off && off < 0x2000 then s.doorbell (off - 0x1000) v
  else if off = 0x2000 then (if v = 1 then s.mailboxStart else s)
  else if off = 0x200C then { s with host := { s.host with mbVec := v % 64 } }
  else if 0x10000 ≤ off && off < 0x20000 then
    { s with host := { s.host with mbReq := setBytes (padTo (off - 0x10000 + 4) s.host.mbReq) (off - 0x10000) (leBytes 4 v) } }
  else if 0xF00000 ≤ off && off < 0xF00400 then
    { s with host := { s.host with msixTab := mapPut s.host.msixTab ((off - 0xF00000) / 4) v } }
  else s

/-! ### The debug address space (R471) -/

/-- A position-index entry (R280). -/
def Page.indexBytes (p : Page) : List Nat :=
  match p.span with
  | some x => leBytes 6 (wrapU 48 x.1) ++ leBytes 6 (wrapU 48 x.2) ++ leBytes 4 p.seq
  | none => List.replicate 16 0

/-- An index entry that a write has changed. -/
def Page.withIndex (p : Page) (bs : List Nat) : Page :=
  { p with span := some (sfieldAt bs 0 6, sfieldAt bs 6 6), seq := fieldAt bs 12 4 }

/-- A word of the debug address space; none outside it. A page-table word has no layout in the spec and a word of SUP1 memory
that nobody wrote no value: free values (log entries 47 and 67). -/
def State.dbgLoad (s : State) (a : Nat) : Option Nat × State :=
  let a := a / 4 * 4
  if a < 0x1000000 then (some (s.bar0Read a), s)
  else if 0x100000000 ≤ a && a < 0x104000000 then (some (s.bar2Read (a - 0x100000000)), s)
  else if 0x200000000 ≤ a && a < 0x200400000 then
    match mapGet s.dbg.mem ((a - 0x200000000) / 4) with
    | some v => (some v, s)
    | none =>
      let f := s.free 0 (2 ^ 32)
      (some f.1, f.2)
  else if 0x300000000 ≤ a && a < 0x300100000 then
    let f := s.free 0 (2 ^ 32)
    (some f.1, f.2)
  else if 0x300100000 ≤ a && a < 0x300300000 then
    let off := a - 0x300100000
    match s.page? (off / 16) with
    | some p => (some (fieldAt p.indexBytes (off % 16) 4), s)
    | none => (some 0, s)
  else (none, s)

/-- Store a word in the debug address space; none outside it. -/
def State.dbgStore (s : State) (a v : Nat) : Option State :=
  let a := a / 4 * 4
  if a < 0x1000000 then some (s.bar0Write a v)
  else if 0x100000000 ≤ a && a < 0x104000000 then some (s.bar2Write (a - 0x100000000) (leBytes 4 v) 0)
  else if 0x200000000 ≤ a && a < 0x200400000 then
    some { s with dbg := { s.dbg with mem := mapPut s.dbg.mem ((a - 0x200000000) / 4) v } }
  else if 0x300000000 ≤ a && a < 0x300100000 then
    let f := s.free 0 (2 ^ 43)
    some (f.2.setPage ((a - 0x300000000) / 8) fun (p : Page) => { p with addr := f.1 * pageBytes })
  else if 0x300100000 ≤ a && a < 0x300300000 then
    let off := a - 0x300100000
    some (s.setPage (off / 16) fun (p : Page) => p.withIndex (setBytes p.indexBytes (off % 16) (leBytes 4 v)))
  else none

/-! ### Debug operations (R471) -/

/-- The result of an operation: status and 64-bit value. -/
def State.dbgEnd (s : State) (status result : Nat) : State :=
  { s with dbg := { s.dbg with last := status, result := result } }

/-- DBG_ACCESS: the last status and result are captured, and the operation runs in its scope. On an open part the first
access opens a session with every scope. Without a session the TAP bypasses. -/
def State.dbgAccess (s : State) (scope : State → Bool) (f : State → State) : State :=
  if !s.tapOn then s
  else if !s.session && (!s.openPart || s.boot.step = 5 || s.boot.step = 1) then s.tapSelect 0xFF true
  else
    let s := if s.session then s else s.sessionOpen 0xF
    let s := (s.tapSelect 0x22 true).emit (.tdo (shl s.dbg.last 64 + s.dbg.result))
    if scope s then f s else s.dbgEnd stAccess 0

/-- The session's scope holds a bit. -/
def scopeBit (i : Nat) (s : State) : Bool := s.bit 0x682003 i

/-- The scope a target needs: 1 for an engine, 2 for SUP1. -/
def targetScope (t : Nat) (s : State) : Bool := s.bit 0x682003 (if t = 0xFFFF then 2 else 1)

/-- SET_ADDR. -/
def State.dbgSetAddr (s : State) (a : Nat) : State :=
  s.dbgAccess (scopeBit 3) fun s => { s with dbg := { s.dbg with addr := a % 2 ^ 64 } }.dbgEnd stOk 0

/-- The debug address steps by one word. -/
def State.dbgStep4 (s : State) : State := { s with dbg := { s.dbg with addr := (s.dbg.addr + 4) % 2 ^ 64 } }

/-- READ: the word at the debug address. -/
def State.dbgRead (s : State) : State :=
  s.dbgAccess (scopeBit 3) fun s =>
    let x := s.dbgLoad s.dbg.addr
    match x.1 with
    | some v => x.2.dbgStep4.dbgEnd stOk v
    | none => x.2.dbgStep4.dbgEnd stRange 0

/-- WRITE: a word to the debug address. -/
def State.dbgWrite (s : State) (v : Nat) : State :=
  s.dbgAccess (scopeBit 3) fun s =>
    let a := s.dbg.addr
    match s.dbgStep4.dbgStore a (v % 2 ^ 32) with
    | some t => t.dbgEnd stOk 0
    | none => s.dbgStep4.dbgEnd stRange 0

/-- The status with which a target is refused: `RANGE` for none, `ABSENT` for an absent engine. -/
def State.targetStatus (s : State) (t : Nat) : Nat :=
  if t = 0xFFFF then stOk else if 192 ≤ t then stRange else if !s.engPresent t then stAbsent else stOk

/-- HALT of an engine (R231): one that executes halts before its next instruction, one that waits at its WAITLINE. -/
def State.gHalt (s : State) (e : Nat) : Nat × State :=
  let en := s.engine e
  let stop (pc : Nat) : State := (s.setEngine e { en with st := esBreak, pc := pc, haltAt := pc }).raiseAt 0x0508 (e / 8) (e % 8) pc
  if !s.takesPart e then (stState, s)
  else if en.st = esExecuting then (stOk, stop en.pc)
  else if en.st = esWaiting && en.resume = en.pc && 0 < en.pc then (stOk, stop (en.pc - 1))
  else (stState, s)

/-- HALT. -/
def State.dbgHalt (s : State) (t : Nat) : State :=
  s.dbgAccess (targetScope t) fun s =>
    if s.targetStatus t ≠ stOk then s.dbgEnd (s.targetStatus t) 0
    else if t = 0xFFFF then { s with dbg := { s.dbg with sup1 := true } }.dbgEnd stOk 0
    else
      let x := s.gHalt t
      x.2.dbgEnd x.1 0

/-- RESUME. -/
def State.dbgResume (s : State) (t : Nat) : State :=
  s.dbgAccess (targetScope t) fun s =>
    if s.targetStatus t ≠ stOk then s.dbgEnd (s.targetStatus t) 0
    else if t = 0xFFFF then
      if s.dbg.sup1 then
        ({ s with dbg := { s.dbg with sup1 := false }, boot := { s.boot with beat := s.now } }.dbgEnd stOk 0).serveWaiting
      else s.dbgEnd stState 0
    else if (s.engine t).st = esBreak then (s.gResume t).dbgEnd stOk 0
    else s.dbgEnd stState 0

/-- STEP: one instruction of a halted target. What SUP1 executes is its firmware's. -/
def State.dbgStep (s : State) (t : Nat) : State :=
  s.dbgAccess (targetScope t) fun s =>
    if s.targetStatus t ≠ stOk then s.dbgEnd (s.targetStatus t) 0
    else if t = 0xFFFF then s.dbgEnd (if s.dbg.sup1 then stOk else stState) 0
    else if (s.engine t).st = esBreak then (s.gStep t).dbgEnd stOk 0
    else s.dbgEnd stState 0

/-- SET_BP: breakpoint `i` of a target at a word address. -/
def State.dbgSetBp (s : State) (t i a : Nat) : State :=
  s.dbgAccess (targetScope t) fun s =>
    if s.targetStatus t ≠ stOk then s.dbgEnd (s.targetStatus t) 0
    else if t = 0xFFFF then { s with dbg := { s.dbg with bps := mapPut s.dbg.bps (i % 8) a } }.dbgEnd stOk 0
    else if 8192 ≤ a then s.dbgEnd stRange 0
    else
      let en := s.engine t
      (s.setEngine t { en with bps := mapPut en.bps (i % 8) a }).dbgEnd stOk 0

/-- CLR_BP. -/
def State.dbgClrBp (s : State) (t i : Nat) : State :=
  s.dbgAccess (targetScope t) fun s =>
    if s.targetStatus t ≠ stOk then s.dbgEnd (s.targetStatus t) 0
    else if t = 0xFFFF then { s with dbg := { s.dbg with bps := mapDel s.dbg.bps (i % 8) } }.dbgEnd stOk 0
    else
      let en := s.engine t
      (s.setEngine t { en with bps := mapDel en.bps (i % 8) }).dbgEnd stOk 0

/-- Bytes of a port 0 request still to come: header and data, in whole 8-byte pieces. -/
def putLength (bs : List Nat) : Nat :=
  if bs.length < 16 then 16
  else
    let op := fieldAt bs 0 1
    let len := fieldAt bs 4 4
    if op = 1 || op = 6 || portLimit 0 < len then 16 else 16 + 8 * ceilDiv len 8

/-- DICT_PUT: eight bytes of a port 0 request, which is served when it is whole. -/
def State.dictPut (s : State) (v : Nat) : State :=
  s.dbgAccess (scopeBit 0) fun s =>
    let bs := s.dbg.put ++ leBytes 8 v
    let s := { s with dbg := { s.dbg with put := bs, get := if s.dbg.put.isEmpty then [] else s.dbg.get } }
    let s := s.dbgEnd stOk 0
    if putLength bs ≤ bs.length then { s with dbg := { s.dbg with put := [] } }.arrive ⟨0, 0, mailboxReq bs⟩ else s

/-- DICT_GET: eight bytes of the response. -/
def State.dictGet (s : State) : State :=
  s.dbgAccess (scopeBit 0) fun s =>
    { s with dbg := { s.dbg with get := s.dbg.get.drop 8 } }.dbgEnd stOk (fieldAt s.dbg.get 0 8)

/-- TRSTn low or Test-Logic-Reset: IDCODE is selected and the session ends (R472). -/
def State.tapReset (s : State) : State :=
  if s.tapOn then ({ s with dbg := { s.dbg with ir := 0x02 } }.sessionEnd).serveWaiting else s

/-- A programming pulse has ended (R454): an unlock that waited for its counter goes on. -/
def State.pulseDone (s : State) (ok : Bool) : State :=
  let x := s.fusePulse ok
  match x.2 with
  | some (b, good) => if b.origin = .unlock then x.1.unlockBurned good else x.1
  | none => x.1

end Sys2Proof.Machine
end

