-- ==== Sys2Proof/Machine/Slots.lean ====
section
/-!
DEFINITION. Conversion slots of accepted lines and rows of array W (02_arrays_and_exposure.md R82 to R84,
03_column_converters.md R95 to R100, 04_retimed_tdi.md R120 to R129): node levels become sample words, store entries and
the codes of a line as they enter stage 2.
-/
namespace Sys2Proof.Machine

/-- The level of a node in electrons: its column key and the charge that its packet holds (keys as in LinePix). -/
abbrev Levels := List (Nat × Nat)

/-- The sample of a column in a bank: low gain, and the 12-bit code. -/
def State.sampleOf (s : State) (bank : Nat) (lv : Levels) (c : Nat) : Bool × Nat :=
  s.convert bank ((mapGet lv c).getD 0)

/-- Samples in store form, those that are not zero (R121). -/
def State.storeForms (s : State) (bank : Nat) (lv : Levels) : List (Nat × Nat) :=
  (lv.map fun p =>
    let x := s.sampleOf bank lv p.1
    (p.1, s.storeForm bank p.1 x.1 x.2)).filter fun p => p.2 ≠ 0

/-- Low-gain samples of a slot of a bank are counted for the section of their line: every sample in mode LOW; a slot that ends after
the section's boundary joins the count just published (R100). `v` holds the settings in force for the line. -/
def State.countLow (s v : State) (bank sect : Nat) (w : Nat × Nat) (lv : Levels) : State :=
  let n := if v.is (bankBase bank + 1) 2 then s.convertedCount w else (lv.filter fun p => (v.sampleOf bank lv p.1).1).length
  if sect ≠ s.n 0x202004 then s.bump (bankBase bank + 5) n
  else { s with conv := { s.conv with lowGain := mapPut s.conv.lowGain bank (((mapGet s.conv.lowGain bank).getD 0) + n) } }

/-- The 16-bit code of a read of M or W (R87), with its saturation mark. -/
def State.directCode (s : State) (bank fs : Nat) (c v : Nat) : Nat :=
  if v % 2 = 1 then 131071
  else
    let x := (clampI 0 65535 (roundDiv ((v / 2 * s.ePerCode bank c * 16 : Nat) : Int) (max 1 fs))).toNat
    2 * x + if x = 65535 then 1 else 0

/-- A key moved to row 321 of M. -/
def row321 (c : Nat) : Nat := 50000 + c

/-- The codes of an M line: the trailing row's read of this line and the leading row's read of the line before (R67). -/
def State.joinM (s : State) (rev : Bool) (fs n : Nat) : List (Nat × Nat) :=
  let vals (g : Nat) (m : Int) : List (Nat × Nat) := if m < 0 then [] else match s.read? srcM g m.toNat with
    | some r => r.vals
    | none => []
  let code (p : Nat × Nat) : Nat := s.directCode 0x0D fs p.1 p.2
  let lead := vals 0 ((n : Int) - 1)
  let trail := vals 1 n
  let r320 := if rev then trail else lead
  let r321 := if rev then lead else trail
  ((r320.map fun p => (p.1, code p)) ++ r321.map fun p => (row321 p.1, code p)).filter fun p => p.2 ≠ 0

/-- The codes of a line enter stage 2, with the levels and temperatures that hold for it. -/
def State.pushPix (s : State) (p : LinePix) : State :=
  let p := { p with lev := s.levelFor p, temps := (List.range 24).map s.segTemp }
  let s := { s with pipe := { s.pipe with pix := (s.pipe.pix.filter fun (x : LinePix) => !(x.src = p.src && x.line = p.line)) ++ [p] } }
  (s.darkLine p).darkSettle p.src

/-- Flags that recombination adds to a line: the fallback to nominal delays, and substituted reads (R127, R128). -/
def State.recombFlags (s : State) (f n add : Nat) : State :=
  let k := (0x2C08 + bankIx f) * 256
  let s := if add.testBit fSlip then (s.bump (k + 5)).flagLine f n fSlip else s
  if add.testBit fOverspeed then (s.bump (k + 6)).flagLine f n fOverspeed else s

/-- The last slot of a source in a line has ended: its codes leave recombination, with the settings in force for the line. -/
def State.lineConverted (s : State) (l : LineRec) (x : SrcLine) : State :=
  let v := s.asOf l.line
  if x.src = srcM then
    let p : LinePix := {
      src := srcM, line := l.line, vals := v.joinM l.rev x.fs l.line, bad := [], run := l.run, flags := x.flags, fs := x.fs,
      stages := 1, rev := l.rev, tline := l.tline, lev := (0, 0), temps := [], gov := l.line }
    s.pushPix p
  else
    let r := v.recombine x.src x.stages x.fs l.rev l.line l.off
    let s := s.recombFlags x.src l.line r.2
    let s := if r.1.bad.isEmpty then s else s.bump (defectBase x.src + 7)
    let fl := x.flags ||| r.2
    (s.pushPix { r.1 with run := l.run, flags := fl, tline := l.tline }).slipAccumulate x.src x.stages l.rev l.line l.sect fl

/-- A slot of a source is done. -/
def State.slotDone (s : State) (src line : Nat) : State :=
  { s with pipe := { s.pipe with lines := s.pipe.lines.map fun l =>
      if l.line = line && !l.skipped then
        { l with srcs := l.srcs.map fun x => if x.src = src then { x with slots := x.slots - 1 } else x }
      else l } }

/-- Store errors of one slot (R121, R129): corrected single-bit errors, and the words (four columns each) that cannot be
corrected. -/
def State.storeErrors (s : State) (f line singles : Nat) (words : List Nat) : State :=
  let s := if singles = 0 then s else s.bump 0x2C0008 singles
  words.foldl (fun (s : State) w => (s.sat 0x2C0009).raiseAt 0x0406 (4 * w / 1024) 0xFF
    (line % 2 ^ 32 + shl f 32 + shl (4 * w) 40 : Nat)) s

/-- Slot `k` of a bank ends in the line that is converting (R96, R98). `diffs` are the code differences of the shadow
checks by segment, `second` those of the second spares by suspect column. A bank in calibration does not convert: the slot passes
no sample, and its read is invalid. -/
def State.slotEnd (s : State) (bank k : Nat) (lv : Levels) (diffs : List (Nat × Nat)) (second : List (Nat × Nat))
    (singles : Nat) (words : List Nat) : State :=
  match s.arr.cur with
  | none => s
  | some c =>
    match s.pipe.lines.find? fun l => l.line = c.line && !l.skipped && !l.srcs.any (·.src = srcW) with
    | none => s
    | some l =>
      match l.srcs.find? fun x => x.src < 0x40 && bankOf x.src = bank && 0 < x.slots with
      | none => s
      | some x =>
        let total := if x.src = srcM then 2 else x.stages / 16
        if k + x.slots ≠ total then s
        else
          let s := s.atTick (c.start + 280 + 240 * k)
          let off := s.calibrating bank
          let v := s.asOf c.line
          let lv := if off then [] else lv.filter fun p => s.converts (x.segA, x.segB) p.1
          let s := if off then s
            else
              let s := if k = 0 then s.secondCheck c.line bank second else s
              let s := (s.shadowCheck c.line bank diffs).countLow v bank l.sect (x.segA, x.segB) lv
              s.rawSlot c.line bank k (v.sampleOf bank lv)
          let g := if x.src = srcM then k else 4 - total + k
          let tag := if off || (x.src ≠ srcM && c.line < s.refillLine x.src + 15) then 1 else 0
          let bad := words.flatMap fun w => [4 * w, 4 * w + 1, 4 * w + 2, 4 * w + 3]
          let s := s.storeErrors x.src c.line singles words
          let s := s.storeRead { field := x.src, line := c.line, group := g, tag := tag, vals := v.storeForms bank lv, bad := bad }
          let s := s.slotDone x.src c.line
          if x.slots = 1 then s.lineConverted l x else s

/-! ### Array W -/

/-- Flags of a row of W. -/
def State.wFlags (s : State) (f : WFrame) (n : Nat) : Nat :=
  flagIf (f.isPartial || s.inRun srcW fPartial n) fPartial ||| flagIf (s.inRun srcW fSettle n) fSettle
    ||| flagIf (s.inRun srcW fHistory n) fHistory
    ||| flagIf (s.is 0x152005 1) fHoldup ||| flagIf (s.repairedOver srcW (f.segA, f.segB)) fRepaired
    ||| flagIf ((s.rowFailedSegs srcW).any fun g => f.segA ≤ g && g ≤ f.segB) fSegFail

/-- The last row of a frame is being read (R83): a single frame that waits starts at the end of this one. -/
def State.wFrameEnd (s : State) (f : WFrame) : State :=
  let s := s.bump 0x24180A
  if s.arr.wPend && s.bankD = 2 && s.is 0x241808 2 then s.wBegin f.endT else s

/-- The W row timer reads the next row: it becomes a line of source W (R82, R83), without samples while
bank D calibrates (R98). -/
def State.wRow (s : State) (lv : Levels) : State :=
  match s.wReading with
  | none => s
  | some f =>
    if s.bankD ≠ 2 then s
    else
      let t := f.start + 250 * f.next
      let s := s.atTick t
      let off := s.calibrating 0x0D
      let lv := if off then [] else lv.filter fun p => s.converts (f.segA, f.segB) p.1
      let n := 256 * f.no + f.first + f.next
      let pos := s.posAt (t - f.expo + f.expo / 2)
      let fl := s.wFlags f n
      let run := 2 ^ 32 + f.no
      let x : SrcLine := { src := srcW, stages := 1, fs := f.fs, pos := pos, flags := fl, segA := f.segA, segB := f.segB, slots := 0,
                           segs := (segRange (f.segA, f.segB)).filter s.segPresent, rowFail := s.rowFailedSegs srcW }
      let l : LineRec := { line := n, sect := s.n 0x202004, epoch := s.n 0x7C0007, grid := pos, start := t, tline := f.expo,
                           rev := s.xferRev, skipped := false, run := run, off := 0, srcs := x :: s.derivedParts (rowKey n) [x] }
      let vals := ((s.storeForms 0x0D lv).map fun p => (p.1, s.directCode 0x0D f.fs p.1 p.2)).filter fun p => p.2 ≠ 0
      let p : LinePix := { src := srcW, line := n, vals := vals, bad := [], run := run, flags := fl, fs := f.fs, stages := 1,
                           rev := s.xferRev, tline := f.expo, lev := (0, 0), temps := [], gov := s.nextLine - 1 }
      let prev := ((s.pipe.lines.filter fun z => z.srcs.any (·.src = srcW) && z.line < n).map (·.line)).max?
      let s := if off then s else s.countLow s 0x0D (s.n 0x202004) (f.segA, f.segB) lv
      let done (z : LineRec) : Bool := z.srcs.any (·.src = srcW) && z.line + 160 < n && z.srcs.all (·.segs.isEmpty)
        && !s.asmHolds z.key
      let s := { s with pipe := { s.pipe with
        lines := s.pipe.lines.filter (fun z => !done z) ++ [l]
        pix := s.pipe.pix.filter fun z => z.src ≠ srcW || n ≤ z.line + 160 } }
      let read (z : WFrame) : WFrame := if z.no = f.no then { z with next := z.next + 1 } else z
      let s := { s with arr := { s.arr with wFrames := s.arr.wFrames.map read } }
      let s := (s.pushPix p).streamRow prev n
      if f.next + 1 = f.rows then (s.streamFrameEnd f.no n).wFrameEnd f else s

/-- In FREE_RUN the frame interval expires and the next frame starts, at every interval (R83). -/
def State.wFrameStart (s : State) : State :=
  if s.bankD = 2 && s.is 0x241808 1 then (s.atTick s.arr.wNextT).wBegin s.arr.wNextT else s

end Sys2Proof.Machine
end

