-- ==== Sys2Proof/Machine/Compose.lean ====
section
/-!
DEFINITION. What a command sets going in several units: a line that passes a segment, a section that closes, a user entry
that fires, a link that comes up or is lost, a result that several units take. Also the frame around every command: the queue
is the step's alone, the clock never runs back, and without power or in the integrity hold nothing happens (R457, R463).
-/
namespace Sys2Proof.Machine

/-! ### The frame of a command -/

/-- What a command leaves: its effect, with the queue as it stood, and a clock that has not run back. -/
def State.settle (s t : State) : State := { t with pending := s.pending, now := max s.now t.now }

/-- The device runs: it has power, and the integrity check has not failed (R457). -/
def State.alive (s : State) : Bool := s.boot.step ≠ 0 && s.boot.step ≠ 5

/-- A command takes effect while the device runs; otherwise nothing happens. -/
def State.act (s : State) (f : State → State) : Host.Outcome State Fault Refusal :=
  .next (s.settle (if s.alive then f s else s))

/-- A command of a unit that the always-on or the timing clock drives: standby stops both clocks (R444). -/
def State.actClocked (s : State) (f : State → State) : Host.Outcome State Fault Refusal :=
  s.act fun s => if s.is 0x152005 4 then s else f s

/-- A command of the TAP takes effect in an integrity hold too (R469). -/
def State.actTap (s : State) (f : State → State) : Host.Outcome State Fault Refusal :=
  .next (s.settle (if s.boot.step = 0 then s else f s))

/-! ### Position keeper and run -/

/-- A `MARK` entry reaches its position (R40): event 0x0110 with its tag; the entry is free again. -/
def State.markFires (s : State) (n : Nat) : State :=
  match s.entryFires n 0x11 with
  | some e => (s.setUserType n 0).raise 0x0110 e.tag
  | none => s

/-- A `TRIG_OUT_PULSE` entry reaches its position (R40, R58): a pulse where TRIG_OUT follows the event table. -/
def State.pulseFires (s : State) (n : Nat) : State :=
  match s.entryFires n 0x10 with
  | some e =>
    let s := s.setUserType n 0
    if s.is 0x204801 2 then s.pulse e.param else s
  | none => s

/-- L1 entry may be requested: L1 is enabled in Link Control, the run state is IDLE, and nothing is written or waits to be written by a
ring, a queue or the Reach (R262; DEDUCED, log entry 111). -/
def State.mayEnterL1 (s : State) : Bool :=
  s.alive && s.pcieOn && !s.is 0x500001 0 && (s.cfgWord 0x80).testBit 1 && s.run = rsIdle
    && s.host.rings.all (fun x => x.buf.isNone && x.fetching.isNone) && s.host.statq.isEmpty && s.host.backlog.isEmpty
    && s.host.vecs.isEmpty && s.eng.queue.isEmpty && s.conf.streams.all (fun st => st.asm.isEmpty && st.waiting.isEmpty)
    && s.host.open_.isNone && s.host.reachCmd.isNone && s.host.look.isNone

/-- One tick of the timing clock passes with no command: L1 entry is requested when it comes to be allowed. Without power and in
standby the clock stands (R444). -/
def State.idleTick (s : State) : State :=
  if s.boot.step = 0 || s.is 0x152005 4 then s
  else
    let l1 := s.mayEnterL1
    let t := { s with now := s.now + 1, host := { s.host with l1 } }
    if l1 && !s.host.l1 then t.emit .l1Request else t

/-- The width of a TRIG_OUT pulse has passed (R58). -/
def State.pulseEnds (s : State) : State :=
  if s.pos.trigOut then
    let s := s.atTick s.pos.trigOutEnd
    { s with pos := { s.pos with trigOut := false } }
  else s

/-- STOPPING ends (R41); a thermal shutdown that waited for it sheds its domains (R411). -/
def State.runEnds (s : State) : State := s.runStopped.thermalSettle

/-! ### Pipeline -/

/-- A line of a source passes a segment (R142): the procedures' sums, stages 2 to 7, and the contributions to the records of
its streams and of the sources derived from it. -/
def State.segmentProcess (s : State) (seg src n : Nat) (errs : List HaloErr) : State :=
  if !s.segmentReady seg src n then s
  else
    let key := lineKey src n
    let s := ((s.procLine seg src n).segmentStages seg src n errs).segContrib seg src key
    let s := match s.kernAt key with
      | some k => if k.on && src = k.psrc then k.derived.foldl (fun (s : State) d => s.segContrib seg d key) s else s
      | none => s
    s.statSend

/-- The records of the oldest closed section are completed (R172); a procedure sums the section (R397), and what the controls
decided applies at once where commits do (R43). -/
def State.recordsClose (s : State) : State :=
  match s.pipe.closing with
  | [] => s
  | c :: _ =>
    let t := s.statsClose
    if t.pipe.closing.length < s.pipe.closing.length then (t.procSection c.sect).applyIdle else t

/-- The crumbs of a line are merged (R207) and meet the hold rules (R283). -/
def State.crumbsMerge (s : State) (n : Nat) : State :=
  let x := s.crumbMerge n
  x.1.crumbRules x.2

/-- A hold's expiry line has passed (R282). -/
def State.holdExpires (s : State) (h : Nat) : State := if s.holdOn h && s.holdExpired h then s.holdEnd h else s

/-! ### Links -/

/-- Link training has ended (R261, R399). -/
def State.linkTrained (s : State) (speed width : Nat) (margins : List Nat) : State :=
  if s.pcieOn then (s.linkUp speed width margins).trainingDone (min speed (s.n 0x500003)) width margins else s

/-- An event of R295: the host side is cleared and port 1 is lost. -/
def State.hostReset (s : State) (cause : Nat) : State :=
  if s.host.perst && cause ≠ frPerst then s else (s.functionReset cause).portLost 1 1

/-- The field-network link is lost for want of a BEACON (R330): port 2 is lost. -/
def State.beaconTimeout (s : State) : State :=
  if s.beaconLoss then ((s.atTick (s.net.beaconT + s.n 0x541008 * tickMs)).netLost).portLost 2 2 else s

/-- The field-network link is lost by silence (R330). -/
def State.silenceTimeout (s : State) : State :=
  if s.silenceLoss then ((s.atTick (s.net.frameT + s.n 0x540006 * tickMs)).netLost).portLost 2 2 else s

/-- Lock step is evaluated (R349); a fault stops the run under policy `STOP_NOW` (R350). -/
def State.lockstepDone (s : State) : State :=
  let x := s.lockstep
  if x.2 && s.is 0x544005 1 then x.1.stopNow 4 else x.1

/-! ### Calibration and power -/

/-- A procedure's evaluation ends (R396, R397): the results apply without ACCEPT under auto-apply; growth of hot groups may
start a re-plan (R401). -/
def State.procedureDone (s : State) : State :=
  let was := s.proc
  let s := s.procEvaluate
  let s := if was = prEval && s.proc = prPending && s.b 0x328018 then s.procAccept.2 else s
  s.growthCheck

/-- A sequencer slot completes (R421): the result, and what the charger takes from it (R434, R436). -/
def State.adcDone (s : State) (codes : List Nat) : State :=
  match s.adcSlot with
  | none => s
  | some x =>
    let s := s.adcResult codes
    let s := match s.latestResult x.1 with
      | some v => if 28 ≤ x.1 && x.1 ≤ 30 then s.chargerResult x.1 v else s
      | none => s
    if s.adcSlot.isNone then s.passEnd else s

end Sys2Proof.Machine
end

