-- ==== Sys2Proof/Machine/Write.lean ====
section
/-!
DEFINITION. A dictionary request as a command row carries it: the request of a sender, and a plain write of one object (R265,
R302, R304).
-/
namespace Sys2Proof.Machine

/-- A request of a sender arrives on its port. -/
def State.request (s : State) (w : Sender) (r : DReq) : State := s.hostRequest w.port w.src w.seq r

/-- A sender writes the value of an object, outside a transaction. -/
def State.write (s : State) (w : Sender) (k : Nat) (bs : List Nat) : State :=
  s.request w { op := 2, key := k, len := bs.length, txn := 0, arg := 0, data := bs }

/-- The byte of a BOOL. -/
def boolByte (b : Bool) : Nat := if b then 1 else 0

end Sys2Proof.Machine
end

