-- ==== Sys2Proof/Machine/RowsArrays.lean ====
section
/-!
DEFINITION. The meaning of each command of phases, strobes, array W and the row drivers (R68 to R90).
-/
namespace Sys2Proof.Machine

/-- PHASE_START (R70): The time of a phase start is reached, so the phase's field opens its gates and closes its drains. -/
def execPhaseStart (p : Fin 4) (s : State) : Host.Outcome State Fault Refusal :=
  s.act fun s => s.phaseBegin p

/-- PHASE_END (R70): A phase's length expires and its field returns to draining. -/
def execPhaseEnd (p : Fin 4) (s : State) : Host.Outcome State Fault Refusal :=
  s.act fun s => s.phaseFinish p

/-- STROBE_ON (R71): A strobe's delay from its phase start expires and the strobe goes active. -/
def execStrobeOn (k : Fin 6) (p : Fin 4) (s : State) : Host.Outcome State Fault Refusal :=
  s.act fun s => s.strobeRise k p

/-- STROBE_OFF (R71): A strobe's width expires and the strobe returns inactive. -/
def execStrobeOff (k : Fin 6) (p : Fin 4) (s : State) : Host.Outcome State Fault Refusal :=
  s.act fun s => s.strobeFall k p

/-- W_FRAME_START (R83): In FREE_RUN the frame interval expires and a new W frame starts. -/
def execWFrameStart (s : State) : Host.Outcome State Fault Refusal :=
  s.act fun s => s.wFrameStart

/-- W_SINGLE_FRAME (R83): A write of 0x01 to 0x2418.09 starts a W frame, or defers it to the end of the frame being read. -/
def execWSingleFrame (w : Sender) (s : State) : Host.Outcome State Fault Refusal :=
  s.act fun s => s.write w 0x241809 [1]

/-- W_ROW_READ (R82): The 625 ns W row timer reads the next row and delivers it as a line record. -/
def execWRowRead (levels : List (Nat × Nat)) (s : State) : Host.Outcome State Fault Refusal :=
  s.act fun s => s.wRow levels

/-- STROBE_READBACK_FAULT (R89): A strobe pad has differed from its driven level for 100 ns, so the output goes high
impedance and the fault latches. -/
def execStrobeReadbackFault (k : Fin 6) (s : State) : Host.Outcome State Fault Refusal :=
  s.act fun s => s.strobeFault k

/-- CLEAR_STROBE_FAULT (R89): A write to 0x2430.05 clears a strobe fault latch and re-enables the output from the next line.
-/
def execClearStrobeFault (w : Sender) (m : Nat) (s : State) : Host.Outcome State Fault Refusal :=
  s.act fun s => s.write w 0x243005 (leBytes 4 m)

/-- ROW_DRIVER_FAULT (R90): A row driver's clock current has left its window in three consecutive lines, so the fault
latches and the array's records carry SEGMENT_FAIL. -/
def execRowDriverFault (bit : Fin 30) (s : State) : Host.Outcome State Fault Refusal :=
  s.act fun s => s.rowFault bit

/-- CLEAR_ROW_DRIVER_FAULT (R90): A write to 0x2438.02 schedules the re-enable of a row driver at the next section boundary.
-/
def execClearRowDriverFault (w : Sender) (m : Nat) (s : State) : Host.Outcome State Fault Refusal :=
  s.act fun s => s.write w 0x243802 (leBytes 4 m)

end Sys2Proof.Machine
end

