-- ==== Sys2Proof/Machine/RowsBoot.lean ====
section
/-!
DEFINITION. The meaning of each command of resets, start-up, the OTP controller and firmware (R449 to R468).
-/
namespace Sys2Proof.Machine

/-- COLD_RESET (R467): Power-on reset on VAON18 clears everything and starts start-up from step 1. -/
def execColdReset (straps : Nat) (s : State) : Host.Outcome State Fault Refusal :=
  .next { s.coldReset straps with pending := s.pending }

/-- WARM_RESET (R467): RESETn held low at least 1 µs causes a warm reset from step 3. -/
def execWarmReset (s : State) : Host.Outcome State Fault Refusal :=
  s.act fun s => s.warmReset 1

/-- WARM_RESET_COMMAND (R467): A write of 0x1020.04 causes a warm reset after its response. -/
def execWarmResetCommand (w : Sender) (s : State) : Host.Outcome State Fault Refusal :=
  s.act fun s => s.write w 0x102004 [1]

/-- SUP1_HEARTBEAT (R468): SUP1 firmware gives its heartbeat and restarts the watchdog. -/
def execSup1Heartbeat (s : State) : Host.Outcome State Fault Refusal :=
  s.act fun s => s.heartbeat

/-- WATCHDOG_EXPIRY (R468): No heartbeat for 1,000 ms causes a watchdog reset. -/
def execWatchdogExpiry (s : State) : Host.Outcome State Fault Refusal :=
  s.act fun s => s.watchdog

/-- OTP_INTEGRITY_CHECK_DONE (R457): The 1.2 ms region check ends, releasing FAULTn or holding the device in reset. -/
def execOtpIntegrityCheckDone (reads : List (Nat × Nat × Nat)) (answered : Bool) (vaonOk : Bool)
    (s : State) : Host.Outcome State Fault Refusal :=
  s.act fun s => s.integrityDone reads answered vaonOk

/-- IMAGE_VERIFICATION_DONE (R460): Firmware verification ends and SUP1 runs the image, or restricted mode is entered. -/
def execImageVerificationDone (bootsel : Nat) (flashOk : Bool) (s : State) : Host.Outcome State Fault Refusal :=
  s.act fun s => s.imageDone bootsel flashOk

/-- CALSET_LOAD_DONE (R386): The calibration set loads at start-up, and the lock register, startup profile and READY follow.
-/
def execCalsetLoadDone (profileIntact : Bool) (s : State) : Host.Outcome State Fault Refusal :=
  s.act fun s => s.calsetLoaded profileIntact

/-- OTP_READ (R451): A write of 0x6808.03 reads one fuse word at the chosen margin. -/
def execOtpRead (w : Sender) (s : State) : Host.Outcome State Fault Refusal :=
  s.act fun s => s.write w 0x680803 [1]

/-- OTP_READ_DONE (R451): The 8 µs fuse read completes and its data is available. -/
def execOtpReadDone (s : State) : Host.Outcome State Fault Refusal :=
  s.act fun s => s.otpReadDone

/-- REGION7_PROGRAM (R455): The PROGRAM command blows the 1 bits into a region 7 word. -/
def execRegion7Program (w : Sender) (s : State) : Host.Outcome State Fault Refusal :=
  s.act fun s => s.write w 0x683003 [1]

/-- REGION7_WRITE_CHECK (R455): The WRITE_CHECK command programs region 7's check word. -/
def execRegion7WriteCheck (w : Sender) (s : State) : Host.Outcome State Fault Refusal :=
  s.act fun s => s.write w 0x683003 [2]

/-- REGION7_SEAL (R455): The SEAL command verifies the check word, blows the seal and sets lock bit 7. -/
def execRegion7Seal (w : Sender) (s : State) : Host.Outcome State Fault Refusal :=
  s.act fun s => s.write w 0x683003 [3]

/-- FUSE_PULSE_DONE (R454): A 20 µs programming pulse ends and the fuse is verified at strict-high. -/
def execFusePulseDone (ok : Bool) (s : State) : Host.Outcome State Fault Refusal :=
  s.act fun s => s.pulseDone ok

/-- REBURN (R456): Re-burning of the weak-bit list begins when permitted or every 24 operating hours. -/
def execReburn (s : State) : Host.Outcome State Fault Refusal :=
  s.act fun s => s.reburnStart

/-- LOCK_REGISTER_WRITE (R455): A write of 1 bits to the RWS lock register locks regions. -/
def execLockRegisterWrite (w : Sender) (v : Nat) (s : State) : Host.Outcome State Fault Refusal :=
  s.act fun s => s.write w 0x68000C (leBytes 4 v)

/-- ADVANCE_SECURITY_VERSION (R461): A write of 0x6810.03 burns counter bits up to the running image's SECVER. -/
def execAdvanceSecurityVersion (w : Sender) (s : State) : Host.Outcome State Fault Refusal :=
  s.act fun s => s.write w 0x681003 [1]

/-- FIRMWARE_ERASE (R462): The ERASE command erases the target firmware slot. -/
def execFirmwareErase (w : Sender) (s : State) : Host.Outcome State Fault Refusal :=
  s.act fun s => s.write w 0x684003 [1]

/-- FIRMWARE_ERASE_DONE (R462): The target slot's erase completes. -/
def execFirmwareEraseDone (s : State) : Host.Outcome State Fault Refusal :=
  s.act fun s => s.fwErased

/-- FIRMWARE_DATA_WRITE (R462): A write of 0x6840.02 programs image data at the offset. -/
def execFirmwareDataWrite (w : Sender) (data : List Nat) (s : State) : Host.Outcome State Fault Refusal :=
  s.act fun s => s.write w 0x684002 data

/-- FIRMWARE_PROGRAM_DONE (R462): Programming of a firmware data write into the target slot completes and the slot state
returns from PROGRAMMING to IDLE. -/
def execFirmwareProgramDone (s : State) : Host.Outcome State Fault Refusal :=
  s.act fun s => s.fwProgrammed

/-- FIRMWARE_VERIFY (R462): The VERIFY command applies the image tests to the target slot. -/
def execFirmwareVerify (w : Sender) (s : State) : Host.Outcome State Fault Refusal :=
  s.act fun s => s.write w 0x684003 [2]

/-- FIRMWARE_VERIFY_DONE (R462): The verification ends and its cause is shown. -/
def execFirmwareVerifyDone (flashOk : Bool) (s : State) : Host.Outcome State Fault Refusal :=
  s.act fun s => s.fwVerified flashOk

end Sys2Proof.Machine
end

