-- ==== Sys2Proof/Machine/RowsCalibration.lean ====
section
/-!
DEFINITION. The meaning of each command of calibration sets, procedures and ageing (R387 to R401).
-/
namespace Sys2Proof.Machine

/-- CALSET_STORE (R387): The store command snapshots the selected parts and erases the slot not in force. -/
def execCalsetStore (w : Sender) (s : State) : Host.Outcome State Fault Refusal :=
  s.act fun s => s.write w 0x320001 [1]

/-- CALSET_ERASE_DONE (R387): The target slot's erase completes and programming begins. -/
def execCalsetEraseDone (ok : Bool) (s : State) : Host.Outcome State Fault Refusal :=
  s.act fun s => s.calErased ok

/-- CALSET_PROGRAM_DONE (R387): The directory and parts are programmed and read back, and for a USER store an overwrite bit
is burned. -/
def execCalsetProgramDone (ok : Bool) (s : State) : Host.Outcome State Fault Refusal :=
  s.act fun s => s.calProgrammed ok

/-- CALSET_HEADER_DONE (R387): The header is programmed and verified, so the slot in force switches. -/
def execCalsetHeaderDone (ok : Bool) (s : State) : Host.Outcome State Fault Refusal :=
  s.act fun s => s.calHeader ok

/-- START_DARK (R392): The START_DARK command begins dark accumulation from the next boundary. -/
def execStartDark (w : Sender) (s : State) : Host.Outcome State Fault Refusal :=
  s.act fun s => s.write w 0x328001 [1]

/-- START_FLAT (R394): The START_FLAT command begins flat-field accumulation from the next boundary. -/
def execStartFlat (w : Sender) (s : State) : Host.Outcome State Fault Refusal :=
  s.act fun s => s.write w 0x328001 [2]

/-- PROCEDURE_ABORT (R396): The ABORT procedure command ends a calibration procedure. -/
def execProcedureAbort (w : Sender) (s : State) : Host.Outcome State Fault Refusal :=
  s.act fun s => s.write w 0x328001 [3]

/-- ACCEPT (R397): The ACCEPT command enters held results for application at section c + K. -/
def execAccept (w : Sender) (s : State) : Host.Outcome State Fault Refusal :=
  s.act fun s => s.write w 0x328001 [4]

/-- DISCARD (R397): The DISCARD command drops held results. -/
def execDiscard (w : Sender) (s : State) : Host.Outcome State Fault Refusal :=
  s.act fun s => s.write w 0x328001 [5]

/-- PROCEDURE_EVALUATION_DONE (R397): The fit and checks finish and the results are held as PENDING or discarded. -/
def execProcedureEvaluationDone (s : State) : Host.Outcome State Fault Refusal :=
  s.act fun s => s.procedureDone

/-- OPERATING_HOUR (R398): An operating hour completes and the age and hot counters advance. -/
def execOperatingHour (hot : Bool) (s : State) : Host.Outcome State Fault Refusal :=
  s.act fun s => s.operatingHour hot

/-- HOURS_RECORD (R398): Every 10 operating hours the hours record is written to flash. -/
def execHoursRecord (s : State) : Host.Outcome State Fault Refusal :=
  s.act fun s => s.hoursRecord

/-- AGEING_SAMPLE (R399): The 10 s ring-oscillator measurement updates each segment's degradation. -/
def execAgeingSample (ms : List (Nat × Nat × Nat)) (s : State) : Host.Outcome State Fault Refusal :=
  s.act fun s => s.ageingSample ms

/-- SENSOR_DRIFT_PERIOD (R399): A quiet period of at least 10 min records each thermal sensor's drift against PTAT. -/
def execSensorDriftPeriod (s : State) : Host.Outcome State Fault Refusal :=
  s.act fun s => s.driftPeriod

/-- SCHEDULED_REPLAN (R401): 500 operating hours since the last plan start a re-plan. -/
def execScheduledReplan (s : State) : Host.Outcome State Fault Refusal :=
  s.act fun s => s.scheduledReplan

/-- REPLAN_REQUEST (R401): A host write of 0x7000.07 starts a re-plan. -/
def execReplanRequest (w : Sender) (s : State) : Host.Outcome State Fault Refusal :=
  s.act fun s => s.write w 0x700007 [1]

/-- REPLAN_DONE (R401): A re-plan completes and is stored with origin PLAN. -/
def execReplanDone (s : State) : Host.Outcome State Fault Refusal :=
  s.act fun s => s.replanDone

end Sys2Proof.Machine
end

