-- ==== Sys2Proof/Machine/RowsConfluence.lean ====
section
/-!
DEFINITION. The meaning of each command of Millrace, failed segments and the auxiliary input (R248 to R255, R288 to R290).
-/
namespace Sys2Proof.Machine

/-- MILLRACE_BLOCK_RECEIVED (R288): A Confluence port checks a Millrace block and acknowledges or refuses it, then places
its contribution. -/
def execMillraceBlockReceived (seg : Fin 24) (rx : BlockRx) (s : State) : Host.Outcome State Fault Refusal :=
  s.act fun s => s.blockReceived seg rx

/-- MILLRACE_RETRY_TIMEOUT (R288): No answer to a block within 1 µs counts as a negative acknowledgement and the block is
resent. -/
def execMillraceRetryTimeout (seg : Fin 24) (s : State) : Host.Outcome State Fault Refusal :=
  s.act fun s => s.blockNak seg 0

/-- SEGMENT_FAILURE (R289): A block has failed 8 resends, so its segment is failed and its columns are padded. -/
def execSegmentFailure (seg : Fin 24) (s : State) : Host.Outcome State Fault Refusal :=
  s.act fun s => s.segmentFailure seg

/-- RESTORE_SEGMENT (R290): A write to 0x50C0.05 restores failed segments at its apply boundary. -/
def execRestoreSegment (w : Sender) (m : Nat) (s : State) : Host.Outcome State Fault Refusal :=
  s.act fun s => s.write w 0x50C005 (leBytes 4 m)

/-- CSI_RECEIVER_ENABLE (R249): A write of 0x3900.01 starts or stops the CSI-2 receiver. -/
def execCsiReceiverEnable (w : Sender) (on : Bool) (s : State) : Host.Outcome State Fault Refusal :=
  s.act fun s => s.write w 0x390001 [boolByte on]

/-- CSI_RECEIVER_ON (R249): The CSI-2 receiver finishes starting and reads ON. -/
def execCsiReceiverOn (s : State) : Host.Outcome State Fault Refusal :=
  s.act fun s => s.csiStarted

/-- CSI_RECEIVER_STOPPED (R249): A stopping CSI-2 receiver finishes its stop and reads OFF, or starts a latched pending
enable. -/
def execCsiReceiverStopped (s : State) : Host.Outcome State Fault Refusal :=
  s.act fun s => s.csiStopped

/-- CSI_FRAME_START (R250): A frame-start packet opens a frame of an enabled channel. -/
def execCsiFrameStart (v : Fin 16) (num : Nat) (ecc : Nat) (s : State) : Host.Outcome State Fault Refusal :=
  s.act fun s => s.auxFrameStart v num ecc

/-- CSI_FRAME_END (R252): A frame-end packet closes the frame and pads any missing lines. -/
def execCsiFrameEnd (v : Fin 16) (ecc : Nat) (s : State) : Host.Outcome State Fault Refusal :=
  s.act fun s => s.auxFrameEnd v ecc

/-- CSI_LONG_PACKET (R248): A long packet carries one line, which is checked, indexed and buffered or discarded. -/
def execCsiLongPacket (v : Fin 16) (dtype : Nat) (ecc : Nat) (crcOk : Bool) (samples : List Nat)
    (s : State) : Host.Outcome State Fault Refusal :=
  s.act fun s => s.auxLong v dtype ecc crcOk samples

/-- CSI_EMBEDDED_DATA (R248): An embedded-data packet keeps the first 256 bytes of the frame. -/
def execCsiEmbeddedData (v : Fin 16) (ecc : Nat) (pkt : Embedded) (s : State) : Host.Outcome State Fault Refusal :=
  s.act fun s => s.auxEmbedded v ecc pkt

/-- CSI_LINE_SHORT_PACKET (R248): A line start, line end or generic short packet is ignored. -/
def execCsiLineShortPacket (v : Fin 16) (ecc : Nat) (s : State) : Host.Outcome State Fault Refusal :=
  s.act fun s => s.auxShort v ecc

/-- AUX_FRAME_TIMEOUT (R252): No packet of a channel has arrived for the frame timeout, so its frame closes and is padded.
-/
def execAuxFrameTimeout (v : Fin 4) (s : State) : Host.Outcome State Fault Refusal :=
  s.act fun s => s.auxTimeout v

/-- AUX_STRIPE_COMPLETE (R255): The auxiliary pipeline finishes a stripe and takes the next ready stripe in channel order.
-/
def execAuxStripeComplete (waited : Nat) (s : State) : Host.Outcome State Fault Refusal :=
  s.act fun s => s.auxStripe waited

end Sys2Proof.Machine
end

