-- ==== Sys2Proof/Machine/RowsConverters.lean ====
section
/-!
DEFINITION. The meaning of each command of the column converters, recombination and the slip estimator (R98 to R132).
-/
namespace Sys2Proof.Machine

/-- SLOT_END (R98): A 600 ns conversion slot ends and its samples pass to recombination. -/
def execSlotEnd (bank : Nat) (k : Nat) (levels : List (Nat × Nat)) (diffs : List (Nat × Nat)) (second : List (Nat × Nat)) (singles : Nat) (words : List Nat)
    (s : State) : Host.Outcome State Fault Refusal :=
  s.act fun s => s.slotEnd bank k levels diffs second singles words

/-- CAL_START (R101): The START calibration command begins self-calibration of the masked banks, or is refused. -/
def execCalStart (w : Sender) (s : State) : Host.Outcome State Fault Refusal :=
  s.act fun s => s.write w 0x281001 [1]

/-- CAL_ABORT (R106): The ABORT calibration command ends a running calibration, keeping the old factors of the bank in
progress. -/
def execCalAbort (w : Sender) (s : State) : Host.Outcome State Fault Refusal :=
  s.act fun s => s.write w 0x281001 [2]

/-- CAL_SAVE (R107): The SAVE calibration command stores the factors and repair maps into the calibration set. -/
def execCalSave (w : Sender) (s : State) : Host.Outcome State Fault Refusal :=
  s.act fun s => s.write w 0x281001 [3]

/-- BANK_CAL_COMPLETE (R105): A bank's 12 ms calibration completes: its factors switch, failures are repaired and the next
masked bank begins. -/
def execBankCalComplete (cols : List (Nat × Nat × Int)) (spares : List (Nat × Nat × Nat × Int))
    (blacks : List (Bool × Nat × Nat × Int)) (factors : List (Nat × List Nat)) (change : Nat)
    (s : State) : Host.Outcome State Fault Refusal :=
  s.act fun s => s.bankCalComplete cols spares blacks factors change

/-- RECALIBRATION_DUE (R108): The hours since the last calibration reach the interval, so the recalibration flag sets and
0x030D is raised. -/
def execRecalibrationDue (s : State) : Host.Outcome State Fault Refusal :=
  s.act fun s => s.recalByHours

/-- COLUMN_SUSPECT (R110): A column's count of consecutive mismatches reaches the limit and the column becomes suspect. -/
def execColumnSuspect (seg : Fin 24) (bank : Nat) (col : Nat) (s : State) : Host.Outcome State Fault Refusal :=
  s.act fun s => s.markSuspect seg bank col

/-- RAW_CAPTURE_ARM (R118): A write of 0x01 to 0x2870.03 arms the capture of the next accepted line's raw sample words. -/
def execRawCaptureArm (w : Sender) (s : State) : Host.Outcome State Fault Refusal :=
  s.act fun s => s.write w 0x287003 [1]

/-- SLIP_ESTIMATE (R132): The slip estimate of a section completes within 40 µs of its last line and is stored. -/
def execSlipEstimate (s : State) : Host.Outcome State Fault Refusal :=
  s.act fun s => s.slipEstimate

end Sys2Proof.Machine
end

