-- ==== Sys2Proof/Machine/RowsDebug.lean ====
section
/-!
DEFINITION. The meaning of each command of the TAP and the debug port (R457, R469 to R472).
-/
namespace Sys2Proof.Machine

/-- EXTEST (R469): The EXTEST instruction drives the boundary chain while RESETn is low. -/
def execExtest (resetLow : Bool) (s : State) : Host.Outcome State Fault Refusal :=
  s.actTap fun s => s.tapSelect 0x00 (resetLow && s.boot.step ≠ 5)

/-- SAMPLE_PRELOAD (R469): The SAMPLE/PRELOAD instruction samples or preloads the boundary chain. -/
def execSamplePreload (pads : List (Nat × Nat)) (s : State) : Host.Outcome State Fault Refusal :=
  s.actTap fun s => s.tapSample pads

/-- IDCODE (R469): The IDCODE instruction selects the 32-bit identity register. -/
def execIdcode (s : State) : Host.Outcome State Fault Refusal :=
  s.actTap fun s => s.tapIdcode

/-- HIGHZ (R469): The HIGHZ instruction floats the outputs while RESETn is low. -/
def execHighz (resetLow : Bool) (s : State) : Host.Outcome State Fault Refusal :=
  s.actTap fun s => s.tapSelect 0x03 (resetLow && s.boot.step ≠ 5)

/-- CLAMP (R469): The CLAMP instruction holds the boundary values while RESETn is low. -/
def execClamp (resetLow : Bool) (s : State) : Host.Outcome State Fault Refusal :=
  s.actTap fun s => s.tapSelect 0x04 (resetLow && s.boot.step ≠ 5)

/-- OTP_CAUSE (R457): The OTP_CAUSE instruction returns the integrity cause. -/
def execOtpCause (s : State) : Host.Outcome State Fault Refusal :=
  s.actTap fun s => s.tapCause

/-- BYPASS (R469): The BYPASS instruction, or any unlisted code, selects the 1-bit bypass. -/
def execBypass (s : State) : Host.Outcome State Fault Refusal :=
  s.actTap fun s => s.tapSelect 0xFF true

/-- DBG_CHALLENGE (R470): Selecting DBG_CHALLENGE makes a fresh challenge with a new nonce. -/
def execDbgChallenge (nonce : List Nat) (s : State) : Host.Outcome State Fault Refusal :=
  s.actTap fun s => s.dbgChallenge nonce

/-- DBG_RESPONSE (R470): At Update-DR the response is checked, an unlock bit burned and a session opened, or refused. -/
def execDbgResponse (scope : Nat) (key : List Nat) (sig : List Nat) (s : State) : Host.Outcome State Fault Refusal :=
  s.actTap fun s => s.dbgResponse scope key sig

/-- UNLOCK_RETRY_DELAY_EXPIRY (R470): The retry delay after a failed unlock expires and a challenge may be issued again. -/
def execUnlockRetryDelayExpiry (s : State) : Host.Outcome State Fault Refusal :=
  s.act fun s => s.retryExpiry

/-- DBG_SET_ADDR (R471): The SET_ADDR debug operation sets the memory address. -/
def execDbgSetAddr (a : Nat) (s : State) : Host.Outcome State Fault Refusal :=
  s.actTap fun s => s.dbgSetAddr a

/-- DBG_READ (R471): The READ debug operation reads a word and steps the address. -/
def execDbgRead (s : State) : Host.Outcome State Fault Refusal :=
  s.actTap fun s => s.dbgRead

/-- DBG_WRITE (R471): The WRITE debug operation writes a word and steps the address. -/
def execDbgWrite (v : Nat) (s : State) : Host.Outcome State Fault Refusal :=
  s.actTap fun s => s.dbgWrite v

/-- DBG_HALT (R471): The HALT debug operation halts an engine or SUP1. -/
def execDbgHalt (target : Nat) (s : State) : Host.Outcome State Fault Refusal :=
  s.actTap fun s => s.dbgHalt target

/-- DBG_RESUME (R471): The RESUME debug operation resumes a halted target. -/
def execDbgResume (target : Nat) (s : State) : Host.Outcome State Fault Refusal :=
  s.actTap fun s => s.dbgResume target

/-- DBG_STEP (R471): The STEP debug operation executes one instruction of a target. -/
def execDbgStep (target : Nat) (s : State) : Host.Outcome State Fault Refusal :=
  s.actTap fun s => s.dbgStep target

/-- DBG_SET_BP (R471): The SET_BP debug operation sets a hardware breakpoint. -/
def execDbgSetBp (target : Nat) (i : Fin 8) (a : Nat) (s : State) : Host.Outcome State Fault Refusal :=
  s.actTap fun s => s.dbgSetBp target i a

/-- DBG_CLR_BP (R471): The CLR_BP debug operation clears a hardware breakpoint. -/
def execDbgClrBp (target : Nat) (i : Fin 8) (s : State) : Host.Outcome State Fault Refusal :=
  s.actTap fun s => s.dbgClrBp target i

/-- DICT_PUT (R471): The DICT_PUT debug operation passes 8 bytes of a port 0 request. -/
def execDictPut (v : Nat) (s : State) : Host.Outcome State Fault Refusal :=
  s.actTap fun s => s.dictPut v

/-- DICT_GET (R471): The DICT_GET debug operation returns 8 bytes of the port 0 response. -/
def execDictGet (s : State) : Host.Outcome State Fault Refusal :=
  s.actTap fun s => s.dictGet

/-- TAP_RESET (R472): TRSTn low or Test-Logic-Reset ends the debug session. -/
def execTapReset (s : State) : Host.Outcome State Fault Refusal :=
  s.actTap fun s => s.tapReset

/-- END_SESSION (R472): A write of 0x6820.04 ends the debug session. -/
def execEndSession (w : Sender) (s : State) : Host.Outcome State Fault Refusal :=
  s.act fun s => s.write w 0x682004 [1]

end Sys2Proof.Machine
end

