-- ==== Sys2Proof/Machine/RowsDictionary.lean ====
section
/-!
DEFINITION. The meaning of each command of the dictionary and its transactions (R304 to R324).
-/
namespace Sys2Proof.Machine

/-- READ (R305): The READ dictionary operation returns a value in force or staged. -/
def execRead (w : Sender) (idx : Nat) (sub : Nat) (txn : Nat) (s : State) : Host.Outcome State Fault Refusal :=
  s.act fun s => s.request w { op := 1, key := idx * 256 + sub, len := 0, txn := txn, arg := 0, data := [] }

/-- WRITE (R304): The WRITE dictionary operation checks a value and applies, stages or schedules it under its apply class.
-/
def execWrite (w : Sender) (idx : Nat) (sub : Nat) (txn : Nat) (data : List Nat)
    (s : State) : Host.Outcome State Fault Refusal :=
  s.act fun s => s.request w { op := 2, key := idx * 256 + sub, len := data.length, txn := txn, arg := 0, data := data }

/-- BEGIN (R309): The BEGIN operation opens a transaction on the port. -/
def execBegin (w : Sender) (s : State) : Host.Outcome State Fault Refusal :=
  s.act fun s => s.request w { op := 3, key := 0, len := 0, txn := 0, arg := 0, data := [] }

/-- COMMIT (R312): The COMMIT operation checks a transaction and accepts it with an epoch and apply section. -/
def execCommit (w : Sender) (txn : Nat) (target : Nat) (data : List Nat) (s : State) : Host.Outcome State Fault Refusal :=
  s.act fun s => s.request w { op := 4, key := 0, len := data.length, txn := txn, arg := target, data := data }

/-- ROLLBACK (R318): The ROLLBACK operation frees an open transaction. -/
def execRollback (w : Sender) (txn : Nat) (s : State) : Host.Outcome State Fault Refusal :=
  s.act fun s => s.request w { op := 5, key := 0, len := 0, txn := txn, arg := 0, data := [] }

/-- READ_SEGMENT (R306): The READ_SEGMENT operation returns part of a BLOB. -/
def execReadSegment (w : Sender) (idx : Nat) (sub : Nat) (txn : Nat) (off : Nat) (len : Nat)
    (s : State) : Host.Outcome State Fault Refusal :=
  s.act fun s => s.request w { op := 6, key := idx * 256 + sub, len := len, txn := txn, arg := off, data := [] }

/-- WRITE_SEGMENT (R306): The WRITE_SEGMENT operation assembles a BLOB and writes it at the last segment. -/
def execWriteSegment (w : Sender) (idx : Nat) (sub : Nat) (txn : Nat) (arg : Nat) (data : List Nat)
    (s : State) : Host.Outcome State Fault Refusal :=
  s.act fun s => s.request w { op := 7, key := idx * 256 + sub, len := data.length, txn := txn, arg := arg, data := data }

/-- TXN_INACTIVITY_TIMEOUT (R318): An open transaction not named for the inactivity timeout rolls back. -/
def execTxnInactivityTimeout (p : Fin 4) (s : State) : Host.Outcome State Fault Refusal :=
  s.act fun s => s.txnTimeout p

/-- PROFILE_WRITE (R322): A write of the startup profile is checked and queued for flash. -/
def execProfileWrite (w : Sender) (data : List Nat) (s : State) : Host.Outcome State Fault Refusal :=
  s.act fun s => s.write w 0x110000 data

/-- PROFILE_STORE_DONE (R322): The startup profile's flash store ends and its status is reported. -/
def execProfileStoreDone (ok : Bool) (s : State) : Host.Outcome State Fault Refusal :=
  s.act fun s => s.profileStored ok

/-- INTEGRATOR_STORE_DONE (R324): A flash store of integrator objects ends, or fails with 0x0808. -/
def execIntegratorStoreDone (ok : Bool) (s : State) : Host.Outcome State Fault Refusal :=
  s.act fun s => s.integratorStored ok

end Sys2Proof.Machine
end

