-- ==== Sys2Proof/Machine/RowsEngines.lean ====
section
/-!
DEFINITION. The meaning of each command of the engine stage, BAR2, crumbs, breakpoints and illegal words (R188 to R214,
R231).
-/
namespace Sys2Proof.Machine

/-- WINDOW_READY (R188): The line window of a segment's engines becomes ready, releasing waiting engines and cutting off
late ones. -/
def execWindowReady (seg : Fin 24) (line : Nat) (errs : List HaloErr) (s : State) : Host.Outcome State Fault Refusal :=
  s.act fun s => s.windowReady seg line errs

/-- IMAGE_LOAD_COMPLETE (R197): An image load ends, installing the generation or failing its check. -/
def execImageLoadComplete (s : State) : Host.Outcome State Fault Refusal :=
  s.act fun s => s.imageLoaded s.nextLine

/-- ENGINE_RESTART (R201): A write to 0x4004 restarts halted engines at its apply boundary as a kernel change. -/
def execEngineRestart (w : Sender) (seg : Fin 24) (m : Nat) (s : State) : Host.Outcome State Fault Refusal :=
  s.act fun s => s.write w (0x400401 + seg) (leBytes 4 m)

/-- BAR2_WRITE (R202): A PCIe write to BAR2 stores into engine memories, or is discarded. -/
def execBar2Write (off : Nat) (data : List Nat) (stall : Nat) (s : State) : Host.Outcome State Fault Refusal :=
  s.act fun s => if s.pcieOn then s.bar2Write off data stall else s

/-- BAR2_READ (R203): A PCIe read of BAR2 returns engine memory, arbitrated against the engine. -/
def execBar2Read (r : BarRead) (s : State) : Host.Outcome State Fault Refusal :=
  s.act fun s => if s.pcieOn then (s.emit (.completion (s.bar2Read r.off))).bar2ReadStall r.off r.stall else s

/-- CRUMB_DRAIN (R206): A segment's Millrace stop takes one crumb every 32 ns round-robin from its engines' buffers. -/
def execCrumbDrain (seg : Fin 24) (s : State) : Host.Outcome State Fault Refusal :=
  s.act fun s => s.crumbDrain seg

/-- CRUMB_MERGE (R207): Every engine has ended a line, so the merger joins and filters that line's crumbs and queues them.
-/
def execCrumbMerge (line : Nat) (s : State) : Host.Outcome State Fault Refusal :=
  s.act fun s => s.crumbsMerge line

/-- BREAKPOINT_MATCH (R231): An engine's PC matches a hardware breakpoint, so the engine enters BREAK before the
instruction. -/
def execBreakpointMatch (e : Fin 192) (s : State) : Host.Outcome State Fault Refusal :=
  s.act fun s => s.breakMatch e

/-- ILLEGAL_INSTRUCTION (R214): An engine fetches a word with an unlisted opcode or function, a non-zero reserved field or a
scalar field with bit 4 set, and takes the ILLEGAL exception. -/
def execIllegalInstruction (e : Fin 192) (x : BitVec 32) (s : State) : Host.Outcome State Fault Refusal :=
  s.act fun s => s.illegalInstr e x

end Sys2Proof.Machine
end

