-- ==== Sys2Proof/Machine/RowsHost.lean ====
section
/-!
DEFINITION. The meaning of each command of the PCIe function, the mailbox, rings and queues (R260 to R274, R295 to R297).
-/
namespace Sys2Proof.Machine

/-- PERST_RELEASE (R260): PERSTn is released and the function begins answering configuration requests. -/
def execPerstRelease (s : State) : Host.Outcome State Fault Refusal :=
  s.act fun s => s.perstRelease

/-- CONFIG_REQUEST (R260): A PCIe configuration request is answered with retry status or a completion. -/
def execConfigRequest (isWrite : Bool) (off : Nat) (value : Nat) (be : Nat) (s : State) : Host.Outcome State Fault Refusal :=
  s.act fun s => s.configRequest isWrite off value be

/-- LINK_UP (R261): Link training ends, the margins are recorded, and a degraded link is reported. -/
def execLinkUp (speed : Nat) (width : Nat) (margins : List Nat) (s : State) : Host.Outcome State Fault Refusal :=
  s.act fun s => s.linkTrained speed width margins

/-- FUNCTION_RESET (R295): An FLR, hot reset, link disable, data-link down, PERSTn assertion or D3hot return clears the host
side and detaches delivery. -/
def execFunctionReset (cause : Nat) (s : State) : Host.Outcome State Fault Refusal :=
  s.act fun s => s.hostReset cause

/-- D3HOT_ENTRY (R262): Entering D3hot stops all DMA. -/
def execD3hotEntry (s : State) : Host.Outcome State Fault Refusal :=
  s.act fun s => s.d3Entry

/-- AER_ERROR (R297): The PCIe function detects a correctable or uncorrectable error, counts it, and raises 0x0705 for the
first uncorrectable error in a section. -/
def execAerError (uncorrectable : Bool) (s : State) : Host.Outcome State Fault Refusal :=
  s.act fun s => s.aerError uncorrectable

/-- MAILBOX_GO (R265): A GO write to the mailbox starts the request held in the request buffer. -/
def execMailboxGo (req : List Nat) (s : State) : Host.Outcome State Fault Refusal :=
  s.act fun s => s.mailboxGo req

/-- DOORBELL (R268): A doorbell write sets a ring producer index or a queue consumer index. -/
def execDoorbell (off : Nat) (value : Nat) (s : State) : Host.Outcome State Fault Refusal :=
  s.act fun s => if s.pcieOn then s.doorbell off value else s

/-- MSIX_MODERATION_TIMER (R266): The moderation time since a vector's first unsignalled entry expires and the MSI-X message
is sent. -/
def execMsixModerationTimer (v : Fin 64) (s : State) : Host.Outcome State Fault Refusal :=
  s.act fun s => s.moderation v

/-- RING_ENABLE (R267): A write of a data ring's enable starts or stops the ring, or is refused. -/
def execRingEnable (w : Sender) (r : Fin 10) (on : Bool) (s : State) : Host.Outcome State Fault Refusal :=
  s.act fun s => s.write w (ringKey r 5) [boolByte on]

/-- COMPLETION_QUEUE_ENABLE (R295): Enabling the completion queue writes the detached log first. -/
def execCompletionQueueEnable (w : Sender) (on : Bool) (s : State) : Host.Outcome State Fault Refusal :=
  s.act fun s => s.write w 0x503003 [boolByte on]

/-- DESCRIPTOR_FETCH_DONE (R267): A descriptor fetch completes and the descriptor is checked and used, or the ring enters
ERROR. -/
def execDescriptorFetchDone (r : Fin 10) (ok : Bool) (ds : List (Nat × Nat × Nat × Nat))
    (s : State) : Host.Outcome State Fault Refusal :=
  s.act fun s => s.fetchDone r ok ds

/-- DESCRIPTOR_FETCH_TIMEOUT (R268): A descriptor fetch has no completion within 50 ms and the ring enters ERROR. -/
def execDescriptorFetchTimeout (r : Fin 10) (s : State) : Host.Outcome State Fault Refusal :=
  s.act fun s => s.fetchTimeout r

/-- BUFFER_FLUSH_TIME (R269): The flush time since a buffer's first record expires and the buffer completes. -/
def execBufferFlushTime (r : Fin 10) (s : State) : Host.Outcome State Fault Refusal :=
  s.act fun s => s.bufFlush r

/-- RECORD_WRITTEN (R274): The last byte of a record is issued on the link and its stripe-buffer tokens return. -/
def execRecordWritten (s : State) : Host.Outcome State Fault Refusal :=
  s.act fun s => s.recordWritten

end Sys2Proof.Machine
end

