-- ==== Sys2Proof/Machine/RowsLine.lean ====
section
/-!
DEFINITION. The meaning of each command of line-window, reduction, permutation, output and system instructions of the Grixis
engines (R212, R224 to R229).
-/
namespace Sys2Proof.Machine

/-- WLD (R224): Load a vector from the line window. -/
def execWld (e : Fin 192) (vd : Fin 32) (ra : Fin 16) (sec : Bool) (off : BitVec 4) (sh : BitVec 5)
    (s : State) : Host.Outcome State Fault Refusal :=
  s.act fun s => s.gExec e (.wld vd ra sec off sh)

/-- VRSUM (R225): Unsigned sum of active lanes. -/
def execVrsum (e : Fin 192) (rd : Fin 16) (va : Fin 32) (p : Fin 8) (s : State) : Host.Outcome State Fault Refusal :=
  s.act fun s => s.gExec e (.red .sum rd va p)

/-- VRSUMS (R225): Signed sum of active lanes. -/
def execVrsums (e : Fin 192) (rd : Fin 16) (va : Fin 32) (p : Fin 8) (s : State) : Host.Outcome State Fault Refusal :=
  s.act fun s => s.gExec e (.red .sums rd va p)

/-- VRMAXU (R225): Largest active lane, unsigned. -/
def execVrmaxu (e : Fin 192) (rd : Fin 16) (va : Fin 32) (p : Fin 8) (s : State) : Host.Outcome State Fault Refusal :=
  s.act fun s => s.gExec e (.red .maxu rd va p)

/-- VRMINU (R225): Smallest active lane, unsigned. -/
def execVrminu (e : Fin 192) (rd : Fin 16) (va : Fin 32) (p : Fin 8) (s : State) : Host.Outcome State Fault Refusal :=
  s.act fun s => s.gExec e (.red .minu rd va p)

/-- VRMAXIX (R225): Lowest index of the largest active lane. -/
def execVrmaxix (e : Fin 192) (rd : Fin 16) (va : Fin 32) (p : Fin 8) (s : State) : Host.Outcome State Fault Refusal :=
  s.act fun s => s.gExec e (.red .maxix rd va p)

/-- VRMINIX (R225): Lowest index of the smallest active lane. -/
def execVrminix (e : Fin 192) (rd : Fin 16) (va : Fin 32) (p : Fin 8) (s : State) : Host.Outcome State Fault Refusal :=
  s.act fun s => s.gExec e (.red .minix rd va p)

/-- VRSUMA (R225): Limited sum of accumulator lanes. -/
def execVrsuma (e : Fin 192) (rd : Fin 16) (ad : Fin 4) (p : Fin 8) (s : State) : Host.Outcome State Fault Refusal :=
  s.act fun s => s.gExec e (.vrsuma rd ad p)

/-- VPERM (R226): Permute lanes by an index vector. -/
def execVperm (e : Fin 192) (vd : Fin 32) (va : Fin 32) (vb : Fin 32) (p : Fin 8)
    (s : State) : Host.Outcome State Fault Refusal :=
  s.act fun s => s.gExec e (.vperm vd va vb p)

/-- VSLIDE (R226): Slide lanes across two vectors. -/
def execVslide (e : Fin 192) (vd : Fin 32) (va : Fin 32) (vb : Fin 32) (k : Fin 16) (p : Fin 8)
    (s : State) : Host.Outcome State Fault Refusal :=
  s.act fun s => s.gExec e (.vslide vd va vb k p)

/-- VEXT (R226): Extract a lane into a scalar. -/
def execVext (e : Fin 192) (rd : Fin 16) (va : Fin 32) (k : Fin 16) (s : State) : Host.Outcome State Fault Refusal :=
  s.act fun s => s.gExec e (.vext rd va k)

/-- VINS (R226): Insert a limited scalar into a lane. -/
def execVins (e : Fin 192) (vd : Fin 32) (ra : Fin 16) (k : Fin 16) (s : State) : Host.Outcome State Fault Refusal :=
  s.act fun s => s.gExec e (.vins vd ra k)

/-- VSPLAT (R226): Broadcast a scalar to the lanes. -/
def execVsplat (e : Fin 192) (vd : Fin 32) (ra : Fin 16) (p : Fin 8) (s : State) : Host.Outcome State Fault Refusal :=
  s.act fun s => s.gExec e (.vsplat vd ra p)

/-- VREV (R226): Reverse the lane order. -/
def execVrev (e : Fin 192) (vd : Fin 32) (va : Fin 32) (p : Fin 8) (s : State) : Host.Outcome State Fault Refusal :=
  s.act fun s => s.gExec e (.vrev vd va p)

/-- VSPLATI (R226): Broadcast a 16-bit immediate to the lanes. -/
def execVsplati (e : Fin 192) (vd : Fin 32) (imm : BitVec 16) (p : Fin 8) (s : State) : Host.Outcome State Fault Refusal :=
  s.act fun s => s.gExec e (.vsplati vd imm p)

/-- VPUT (R227): Write vector lanes into an output buffer. -/
def execVput (e : Fin 192) (vs : Fin 32) (rq : Fin 16) (second : Bool) (p : Fin 8)
    (s : State) : Host.Outcome State Fault Refusal :=
  s.act fun s => s.gExec e (.vput vs rq second p)

/-- CEMIT (R228): Emit a crumb record into the crumb buffer. -/
def execCemit (e : Fin 192) (vf : Fin 32) (ra : Fin 16) (rb : Fin 16) (s : State) : Host.Outcome State Fault Refusal :=
  s.act fun s => s.gExec e (.cemit vf ra rb)

/-- NOP (R229): No operation. -/
def execNop (e : Fin 192) (s : State) : Host.Outcome State Fault Refusal :=
  s.act fun s => s.gExec e (.nop)

/-- WAITLINE (R229): End line n: buffers take effect, the line leaves stage 6 and the engine waits for its next release. -/
def execWaitline (e : Fin 192) (s : State) : Host.Outcome State Fault Refusal :=
  s.act fun s => s.gExec e (.waitline)

/-- HALT (R229): Halt the engine in state HALTED. -/
def execHalt (e : Fin 192) (s : State) : Host.Outcome State Fault Refusal :=
  s.act fun s => s.gExec e (.halt)

/-- BREAK (R229): Stop the engine in state BREAK. -/
def execBreak (e : Fin 192) (s : State) : Host.Outcome State Fault Refusal :=
  s.act fun s => s.gExec e (.brk)

/-- FENCE (R229): Wait until earlier stores and crumbs are visible. -/
def execFence (e : Fin 192) (s : State) : Host.Outcome State Fault Refusal :=
  s.act fun s => s.gExec e (.fence)

/-- MFS (R212): Read a special register. -/
def execMfs (e : Fin 192) (rd : Fin 16) (n : BitVec 5) (s : State) : Host.Outcome State Fault Refusal :=
  s.act fun s => s.gExec e (.mfs rd n)

/-- MTS (R212): Write the STAT special register. -/
def execMts (e : Fin 192) (n : BitVec 5) (ra : Fin 16) (s : State) : Host.Outcome State Fault Refusal :=
  s.act fun s => s.gExec e (.mts n ra)

end Sys2Proof.Machine
end

