-- ==== Sys2Proof/Machine/RowsNetwork.lean ====
section
/-!
DEFINITION. The meaning of each command of the field network, the Sluice barrier and lock step (R329 to R350).
-/
namespace Sys2Proof.Machine

/-- PLCA_BEACON (R329): A PLCA BEACON is received, or sent by the coordinator, ending SYNCING and restarting the beacon
timeout. -/
def execPlcaBeacon (s : State) : Host.Outcome State Fault Refusal :=
  s.act fun s => s.plcaBeacon

/-- FRAME_IGNORED (R331): A received frame that is not for this device, has a wrong EtherType, version or source, or a bad
FCS is counted and ignored, while any valid FCS restarts the silence time and restores a lost link. -/
def execFrameIgnored (fcsOk : Bool) (s : State) : Host.Outcome State Fault Refusal :=
  s.act fun s => s.netIgnored fcsOk

/-- ENABLE_TX (R337): An ENABLE_TX frame with the device serial enables transmit and sets the partner. -/
def execEnableTx (serial : Nat) (src : Nat) (seq : Nat) (s : State) : Host.Outcome State Fault Refusal :=
  s.act fun s => s.enableTx serial src seq

/-- POSREPORT_RECEIVED (R349): A POSREPORT of the same system updates the peer table. -/
def execPosreportReceived (serial : Nat) (body : List Nat) (s : State) : Host.Outcome State Fault Refusal :=
  s.act fun s => s.reportReceived serial body

/-- NOTIFY_RECEIVED (R333): A received NOTIFY or response frame is ignored. -/
def execNotifyReceived (s : State) : Host.Outcome State Fault Refusal :=
  s.act fun s => s.netIgnored true

/-- BARRIER_ABORT_RECEIVED (R344): A BARRIER_ABORT of the system withdraws a waiting barrier commit, or is ignored. -/
def execBarrierAbortReceived (serial : Nat) (seq : Nat) (system : Nat) (s : State) : Host.Outcome State Fault Refusal :=
  s.act fun s => s.abortReceived serial seq system

/-- BEACON_TIMEOUT (R330): No PLCA BEACON for the beacon timeout declares the link lost. -/
def execBeaconTimeout (s : State) : Host.Outcome State Fault Refusal :=
  s.act fun s => s.beaconTimeout

/-- SILENCE_TIMEOUT (R330): No valid frame for the silence time declares the link lost. -/
def execSilenceTimeout (s : State) : Host.Outcome State Fault Refusal :=
  s.act fun s => s.silenceTimeout

/-- FRAME_TRANSMIT (R338): At a transmit opportunity the next queued frame leaves in kind order. -/
def execFrameTransmit (collisions : Nat) (s : State) : Host.Outcome State Fault Refusal :=
  s.act fun s => s.frameTransmit collisions

/-- SLUICE_PARTICIPATION (R345): A write of 0x5450.01 starts or ends participation on SLUICE. -/
def execSluiceParticipation (w : Sender) (on : Bool) (s : State) : Host.Outcome State Fault Refusal :=
  s.act fun s => s.write w 0x545001 [boolByte on]

/-- BARRIER_PASS (R342): SLUICE has been high for 2 µs, so the barrier passes and the apply section is fixed. -/
def execBarrierPass (edge : Nat) (near : Option (Nat × Nat)) (s : State) : Host.Outcome State Fault Refusal :=
  s.act fun s => s.sluicePassed edge near

/-- SLUICE_PULL_LOW (R342): 10 µs after the pass the head pulls SLUICE low again. -/
def execSluicePullLow (s : State) : Host.Outcome State Fault Refusal :=
  s.act fun s => s.sluicePull

/-- BARRIER_TIMER_EXPIRY (R343): The barrier timer expires before the pass and the head aborts its barrier. -/
def execBarrierTimerExpiry (s : State) : Host.Outcome State Fault Refusal :=
  s.act fun s => s.barrierExpiry

/-- ABORT_BARRIER (R343): A host write of 0x5450.0C aborts a waiting or passed barrier. -/
def execAbortBarrier (w : Sender) (s : State) : Host.Outcome State Fault Refusal :=
  s.act fun s => s.write w 0x54500C [1]

/-- ABORT_REPEAT (R343): The 0.5 ms abort timer sends the next copy of BARRIER_ABORT. -/
def execAbortRepeat (s : State) : Host.Outcome State Fault Refusal :=
  s.act fun s => s.abortRepeat

/-- LOCKSTEP_EVALUATION (R349): The collection window after a boundary expires and lock step is evaluated against the peers.
-/
def execLockstepEvaluation (s : State) : Host.Outcome State Fault Refusal :=
  s.act fun s => s.lockstepDone

/-- CLEAR_LOCKSTEP_FAULT (R350): A write of 0x5440.08 clears the lock-step fault latch. -/
def execClearLockstepFault (w : Sender) (s : State) : Host.Outcome State Fault Refusal :=
  s.act fun s => s.write w 0x544008 [1]

end Sys2Proof.Machine
end

