-- ==== Sys2Proof/Machine/RowsPipeline.lean ====
section
/-!
DEFINITION. The meaning of each command of the segment pipeline and statistics (R142 to R172).
-/
namespace Sys2Proof.Machine

/-- SEGMENT_LINE_PROCESS (R142): A line whose look-ahead lines have arrived passes a segment's correction, engine,
statistics and shaping stages. -/
def execSegmentLineProcess (seg : Fin 24) (src : Nat) (line : Nat) (errs : List HaloErr)
    (s : State) : Host.Outcome State Fault Refusal :=
  s.act fun s => s.segmentProcess seg src line errs

/-- SIDE_LINK_FAILED (R148): Sixteen consecutive erroneous transfers mark a side link failed and raise 0x040A. -/
def execSideLinkFailed (link : Fin 24) (s : State) : Host.Outcome State Fault Refusal :=
  s.act fun s => s.linkFailed link

/-- STATS_RECORD_CLOSE (R172): The last line of a section has left stage 7 everywhere, so its image and summary records are
completed. -/
def execStatsRecordClose (s : State) : Host.Outcome State Fault Refusal :=
  s.act fun s => s.recordsClose

end Sys2Proof.Machine
end

