-- ==== Sys2Proof/Machine/RowsPosition.lean ====
section
/-!
DEFINITION. The meaning of each command of the position keeper, the line grid, the event table and run control (R18 to R58).
-/
namespace Sys2Proof.Machine

/-- ENCODER_EDGE (R19): A level change on channel A, B or Z of ENC0 or ENC1 has stayed stable for F ticks, so the glitch
filter accepts it and stamps it with the tick of its first raw transition. -/
def execEncoderEdge (i : Fin 2) (ch : Fin 3) (level : Bool) (t : Nat) (s : State) : Host.Outcome State Fault Refusal :=
  s.actClocked fun s => s.rearmAfter (s.encoderEdge i ch level t)

/-- DECODER_STEP_CLOSE (R21): A decoder step closes W ticks after it opened, and the edges it holds are judged as one legal
transition or as an illegal transition. -/
def execDecoderStepClose (i : Fin 2) (s : State) : Host.Outcome State Fault Refusal :=
  s.actClocked fun s => s.rearmAfter (s.stepClose i)

/-- ENCODER_LOSS (R22): The differential voltage has stayed below 50 mV for more than 1 µs, so the encoder state becomes
LOSS and an event is raised once. -/
def execEncoderLoss (i : Fin 2) (ch : Fin 3) (s : State) : Host.Outcome State Fault Refusal :=
  s.actClocked fun s => s.encoderLoss i ch

/-- ENCODER_RESTORED (R22): The differential voltage has stayed above 100 mV for 10 µs, so the encoder state returns to
ACTIVE and an event is raised. -/
def execEncoderRestored (i : Fin 2) (ch : Fin 3) (s : State) : Host.Outcome State Fault Refusal :=
  s.actClocked fun s => s.encoderBack i ch

/-- HORIZON_EXPIRY (R26): No edge has arrived within the estimator horizon, so extrapolation stops and the motion state
becomes COASTING. -/
def execHorizonExpiry (s : State) : Host.Outcome State Fault Refusal :=
  s.actClocked fun s => s.horizonExpiry

/-- EPOCH_INPUT_EDGE (R29): A filtered rising edge on the EPOCH input sets an armed EPOCH_IN epoch, or is counted as
unarmed. -/
def execEpochInputEdge (level : Bool) (t : Nat) (s : State) : Host.Outcome State Fault Refusal :=
  s.actClocked fun s => s.rearmAfter (s.epochInEdge level t)

/-- ARM_EPOCH (R29): A write to 0x2018.02 in IDLE arms the epoch and ends the old grid. -/
def execArmEpoch (w : Sender) (s : State) : Host.Outcome State Fault Refusal :=
  s.act fun s => s.write w 0x201802 [1]

/-- LINE_TRIGGER (R30): POS64 reaches the next grid point, so the line counter advances and, in RUNNING, the line is
accepted, transferred and started. -/
def execLineTrigger (t : Nat) (s : State) : Host.Outcome State Fault Refusal :=
  s.actClocked fun s => s.rearmAfter (s.gridTrigger t)

/-- QUEUED_LINE_START (R50): The previous conversion sequence or flush ends, so the queued line starts and is flagged
OVERSPEED where due. -/
def execQueuedLineStart (s : State) : Host.Outcome State Fault Refusal :=
  s.actClocked fun s => s.queuedStart

/-- RUN_START (R41): The START run command moves the run state on, or is refused or latched, under the run machine. -/
def execRunStart (w : Sender) (s : State) : Host.Outcome State Fault Refusal :=
  s.act fun s => s.write w 0x204001 [1]

/-- STOP_AT_SECTION (R41): The STOP_AT_SECTION command fixes the last accepted line as the one before the next boundary. -/
def execStopAtSection (w : Sender) (s : State) : Host.Outcome State Fault Refusal :=
  s.act fun s => s.write w 0x204001 [2]

/-- STOP_NOW (R41): The STOP_NOW command fixes the line in conversion, or a queued one, as the last accepted line. -/
def execStopNow (w : Sender) (s : State) : Host.Outcome State Fault Refusal :=
  s.act fun s => s.write w 0x204001 [3]

/-- RUN_STOPPED (R41): Every in-flight line has been delivered or reported, so STOPPING ends in IDLE with event 0x0113. -/
def execRunStopped (s : State) : Host.Outcome State Fault Refusal :=
  s.act fun s => s.runEnds

/-- STALL_TIMEOUT (R53): The stall condition has lasted the stall time, so the run becomes STALLED and the first flush
transfer runs. -/
def execStallTimeout (s : State) : Host.Outcome State Fault Refusal :=
  s.actClocked fun s => s.stallTimeout

/-- FLUSH_TRANSFER (R53): The 1 ms stall timer expires and the enabled TDI registers are clocked through one discarded line.
-/
def execFlushTransfer (s : State) : Host.Outcome State Fault Refusal :=
  s.actClocked fun s => s.flushDue

/-- FLUSH_TRANSFER_END (R53): A flush transfer ends, releasing any trigger that waited for it. -/
def execFlushTransferEnd (s : State) : Host.Outcome State Fault Refusal :=
  s.actClocked fun s => s.flushDone

/-- SOFTWARE_LINE (R46): A write of 0x01 to 0x2028.09 produces a line trigger in SOFTWARE mode, or is refused. -/
def execSoftwareLine (w : Sender) (s : State) : Host.Outcome State Fault Refusal :=
  s.act fun s => s.write w 0x202809 [1]

/-- TRIG_IN_EDGE (R46): A filtered active edge on TRIG_IN triggers a line in EXTERNAL mode or requests a sheet in SHEET
mode. -/
def execTrigInEdge (level : Bool) (t : Nat) (s : State) : Host.Outcome State Fault Refusal :=
  s.actClocked fun s => s.rearmAfter (s.trigInEdge level t)

/-- CLEAR_CROSSCHECK_FAULT (R57): A write of 0x01 to 0x2038.07 clears the cross-check fault latch. -/
def execClearCrosscheckFault (w : Sender) (s : State) : Host.Outcome State Fault Refusal :=
  s.act fun s => s.write w 0x203807 [1]

/-- ARM_USER_ENTRY (R40): A write of a user entry's type arms, disarms or refuses that entry of the event table. -/
def execArmUserEntry (w : Sender) (n : Fin 64) (typ : Nat) (s : State) : Host.Outcome State Fault Refusal :=
  s.act fun s => s.write w (userKey (192 + n) 2) [typ]

/-- MARK (R40): A MARK user entry reaches its position and raises event 0x0110 with its tag. -/
def execMark (n : Fin 64) (s : State) : Host.Outcome State Fault Refusal :=
  s.actClocked fun s => s.markFires (192 + n)

/-- TRIG_OUT_PULSE (R40): A TRIG_OUT_PULSE user entry reaches its position and drives TRIG_OUT high in TABLE mode. -/
def execTrigOutPulse (n : Fin 64) (s : State) : Host.Outcome State Fault Refusal :=
  s.actClocked fun s => s.pulseFires (192 + n)

/-- TRIG_OUT_PULSE_END (R58): The width of a TRIG_OUT pulse expires and the output falls. -/
def execTrigOutPulseEnd (s : State) : Host.Outcome State Fault Refusal :=
  s.actClocked fun s => s.pulseEnds

end Sys2Proof.Machine
end

