-- ==== Sys2Proof/Machine/RowsPower.lean ====
section
/-!
DEFINITION. The meaning of each command of power domains, rails, the charger and the hold-up store (R430 to R446).
-/
namespace Sys2Proof.Machine

/-- DOMAIN_REQUEST (R430): A host write of a domain's request adds or removes the host holder, or is refused. -/
def execDomainRequest (w : Sender) (n : Fin 80) (v : Nat) (s : State) : Host.Outcome State Fault Refusal :=
  s.act fun s => s.write w (domKey n 1) [v]

/-- DOMAIN_START_COMPLETE (R431): A domain finishes starting, releases reset and removes its clamps. -/
def execDomainStartComplete (n : Fin 80) (pads : Nat) (s : State) : Host.Outcome State Fault Refusal :=
  s.act fun s => s.domainComplete n pads

/-- DOMAIN_START_TIMEOUT (R431): A domain misses its start max and is powered down with 0x0D0A. -/
def execDomainStartTimeout (n : Fin 80) (s : State) : Host.Outcome State Fault Refusal :=
  s.act fun s => s.domainTimeout n

/-- DOMAIN_STOP_COMPLETE (R431): A stopping domain's power is removed. -/
def execDomainStopComplete (n : Fin 80) (s : State) : Host.Outcome State Fault Refusal :=
  s.act fun s => s.domainStopped n

/-- RAIL_UNDERVOLTAGE (R432): A rail has stayed below its limit for 10 µs, so its domains shed and the run stops. -/
def execRailUndervoltage (rail : Nat) (s : State) : Host.Outcome State Fault Refusal :=
  s.act fun s => s.railFault rail

/-- RAIL_GOOD (R432): A monitored rail returns within its limit and its bit in 0x1480.01 reads good again, allowing its
domains to be requested once the latch is cleared. -/
def execRailGood (rail : Nat) (s : State) : Host.Outcome State Fault Refusal :=
  s.act fun s => s.railGood rail

/-- CLEAR_RAIL_FAULTS (R432): A write of 0x1480.03 clears rail fault latches. -/
def execClearRailFaults (w : Sender) (m : Nat) (s : State) : Host.Outcome State Fault Refusal :=
  s.act fun s => s.write w 0x148003 (leBytes 4 m)

/-- CHARGER_CURRENT_STEP (R435): Every 100 µs the charge current moves by 1/16 of the programmed current toward the priority
limit. -/
def execChargerCurrentStep (s : State) : Host.Outcome State Fault Refusal :=
  s.act fun s => s.currentStep

/-- CHARGER_SAFETY_TIMER (R438): The safety timer reaches its limit, so charging stops and TIMER latches. -/
def execChargerSafetyTimer (s : State) : Host.Outcome State Fault Refusal :=
  s.act fun s => s.safetyExpiry

/-- CHARGE_TERMINATION (R437): Li-ion current has been below 1/10 for 1 s, so the charger enters FULL. -/
def execChargeTermination (s : State) : Host.Outcome State Fault Refusal :=
  s.act fun s => s.chargeTermination

/-- CHARGER_FAULT_TIMER (R438): An overvoltage, short or sense condition lasts its time, so the fault latches. -/
def execChargerFaultTimer (bit : Nat) (s : State) : Host.Outcome State Fault Refusal :=
  s.act fun s => s.faultTimer bit

/-- CHARGER_FAULT_READ (R438): A read of 0x1510.08 returns and clears the latched charger faults. -/
def execChargerFaultRead (w : Sender) (s : State) : Host.Outcome State Fault Refusal :=
  s.act fun s => s.request w { op := 1, key := 0x151008, len := 0, txn := 0, arg := 0, data := [] }

/-- RECHARGE (R438): The RECHARGE command clears the faults and starts a new charge cycle. -/
def execRecharge (w : Sender) (s : State) : Host.Outcome State Fault Refusal :=
  s.act fun s => s.write w 0x15100A [1]

/-- STORE_BELOW_RESERVE (R446): The store has been below the hand-over reserve for 1 s in FULL or OFF. -/
def execStoreBelowReserve (s : State) : Host.Outcome State Fault Refusal :=
  s.act fun s => s.belowReserve

/-- HANDOVER (R440): VIN_SNS has been below the undervoltage threshold for 20 µs, so the path switches to the store and the
device stops. -/
def execHandover (mv : Nat) (s : State) : Host.Outcome State Fault Refusal :=
  s.act fun s => s.handoverTaken mv

/-- HANDOVER_LINE_DEADLINE (R440): 2 ms after the hand-over, a line not yet converted is reported failed. -/
def execHandoverLineDeadline (s : State) : Host.Outcome State Fault Refusal :=
  s.act fun s => s.handoverDeadline

/-- LOSS_RECORD_PROGRAMMED (R443): The loss record is programmed and read back, and the domains shed into HOLDUP. -/
def execLossRecordProgrammed (ok : Bool) (s : State) : Host.Outcome State Fault Refusal :=
  s.act fun s => s.lossDone ok

/-- STORE_CUTOFF (R440): VSTORE_SNS falls below the cutoff, so ST_GATE turns off and power is lost. -/
def execStoreCutoff (s : State) : Host.Outcome State Fault Refusal :=
  s.act fun s => s.storeCutoff

/-- GOOD_TIMER_EXPIRY (R441): The input has been good for the good time in HOLDUP, so the device returns to the input and
restarts with warm scope. -/
def execGoodTimerExpiry (s : State) : Host.Outcome State Fault Refusal :=
  s.act fun s => s.goodExpiry

/-- GOOD_THRESHOLD_CROSSING (R441): VIN_SNS rises to the good threshold, starting the good timer, or falls below it,
restarting the timer. -/
def execGoodThresholdCrossing (up : Bool) (s : State) : Host.Outcome State Fault Refusal :=
  s.act fun s => s.goodCrossing up

/-- STANDBY (R444): The STANDBY command sheds all but PD0 and PD13 and stops the clocks. -/
def execStandby (w : Sender) (s : State) : Host.Outcome State Fault Refusal :=
  s.act fun s => s.write w 0x140005 [1]

end Sys2Proof.Machine
end

