-- ==== Sys2Proof/Machine/RowsReach.lean ====
section
/-!
DEFINITION. The meaning of each command of the Reach: pages, lookups and holds (R275 to R285).
-/
namespace Sys2Proof.Machine

/-- REACH_GRANT (R276): The GRANT command reads the host's page list into the page table. -/
def execReachGrant (w : Sender) (s : State) : Host.Outcome State Fault Refusal :=
  s.act fun s => s.write w 0x504101 [1]

/-- REACH_EXTEND (R276): The EXTEND command adds pages into empty slots. -/
def execReachExtend (w : Sender) (s : State) : Host.Outcome State Fault Refusal :=
  s.act fun s => s.write w 0x504101 [2]

/-- REACH_REVOKE (R276): The REVOKE command sends a slot range to RETURNING. -/
def execReachRevoke (w : Sender) (s : State) : Host.Outcome State Fault Refusal :=
  s.act fun s => s.write w 0x504101 [3]

/-- REACH_WITHDRAW (R276): The WITHDRAW command returns every page. -/
def execReachWithdraw (w : Sender) (s : State) : Host.Outcome State Fault Refusal :=
  s.act fun s => s.write w 0x504101 [4]

/-- REACH_FLUSH (R276): The FLUSH command closes the open page as SHORT. -/
def execReachFlush (w : Sender) (s : State) : Host.Outcome State Fault Refusal :=
  s.act fun s => s.write w 0x504101 [5]

/-- REACH_RELEASE (R276): The RELEASE command frees a CLOSED page. -/
def execReachRelease (w : Sender) (s : State) : Host.Outcome State Fault Refusal :=
  s.act fun s => s.write w 0x504101 [6]

/-- PAGE_LIST_READ_DONE (R276): The page-list read of a GRANT or EXTEND completes and the command finishes. -/
def execPageListReadDone (ok : Bool) (addrs : List Nat) (s : State) : Host.Outcome State Fault Refusal :=
  s.act fun s => s.pageList ok addrs

/-- PAGE_RETURN_DONE (R277): A RETURNING page has nothing outstanding, so its slot empties with PAGE_RETURNED. -/
def execPageReturnDone (slot : Nat) (s : State) : Host.Outcome State Fault Refusal :=
  s.act fun s => s.pageReturned slot

/-- LOOKUP (R281): The lookup command searches the position index and reads the page found. -/
def execLookup (w : Sender) (s : State) : Host.Outcome State Fault Refusal :=
  s.act fun s => s.write w 0x504803 [1]

/-- LOOKUP_READ_DONE (R281): The lookup's page read completes with FOUND, NOT_FOUND or ERROR. -/
def execLookupReadDone (ok : Bool) (data : List Nat) (s : State) : Host.Outcome State Fault Refusal :=
  s.act fun s => s.lookupRead ok data

/-- HOLD_PLACE (R282): The PLACE command activates a host hold over a position range within the limit. -/
def execHoldPlace (w : Sender) (h : Fin 64) (s : State) : Host.Outcome State Fault Refusal :=
  s.act fun s => s.write w (holdKey h 4) [1]

/-- HOLD_RELEASE (R282): The RELEASE command ends a host hold. -/
def execHoldRelease (w : Sender) (h : Fin 64) (s : State) : Host.Outcome State Fault Refusal :=
  s.act fun s => s.write w (holdKey h 4) [2]

/-- HOLD_EXPIRY (R282): The line counter passes a hold's expiry line and the hold ends. -/
def execHoldExpiry (h : Fin 64) (s : State) : Host.Outcome State Fault Refusal :=
  s.act fun s => s.holdExpires h

end Sys2Proof.Machine
end

