-- ==== Sys2Proof/Machine/RowsScalar.lean ====
section
/-!
DEFINITION. The meaning of each command of scalar instructions of the Grixis engines: arithmetic, branches, loops, loads and
stores (R215 to R219).
-/
namespace Sys2Proof.Machine

/-- ADD (R215): Scalar add. -/
def execAdd (e : Fin 192) (rd : Fin 16) (ra : Fin 16) (rb : Fin 16) (s : State) : Host.Outcome State Fault Refusal :=
  s.act fun s => s.gExec e (.alu .add rd ra rb)

/-- SUB (R215): Scalar subtract. -/
def execSub (e : Fin 192) (rd : Fin 16) (ra : Fin 16) (rb : Fin 16) (s : State) : Host.Outcome State Fault Refusal :=
  s.act fun s => s.gExec e (.alu .sub rd ra rb)

/-- AND (R215): Scalar bitwise AND. -/
def execAnd (e : Fin 192) (rd : Fin 16) (ra : Fin 16) (rb : Fin 16) (s : State) : Host.Outcome State Fault Refusal :=
  s.act fun s => s.gExec e (.alu .and rd ra rb)

/-- OR (R215): Scalar bitwise OR. -/
def execOr (e : Fin 192) (rd : Fin 16) (ra : Fin 16) (rb : Fin 16) (s : State) : Host.Outcome State Fault Refusal :=
  s.act fun s => s.gExec e (.alu .or rd ra rb)

/-- XOR (R215): Scalar bitwise XOR. -/
def execXor (e : Fin 192) (rd : Fin 16) (ra : Fin 16) (rb : Fin 16) (s : State) : Host.Outcome State Fault Refusal :=
  s.act fun s => s.gExec e (.alu .xor rd ra rb)

/-- SLL (R215): Scalar logical shift left. -/
def execSll (e : Fin 192) (rd : Fin 16) (ra : Fin 16) (rb : Fin 16) (s : State) : Host.Outcome State Fault Refusal :=
  s.act fun s => s.gExec e (.alu .sll rd ra rb)

/-- SRL (R215): Scalar logical shift right. -/
def execSrl (e : Fin 192) (rd : Fin 16) (ra : Fin 16) (rb : Fin 16) (s : State) : Host.Outcome State Fault Refusal :=
  s.act fun s => s.gExec e (.alu .srl rd ra rb)

/-- SRA (R215): Scalar arithmetic shift right. -/
def execSra (e : Fin 192) (rd : Fin 16) (ra : Fin 16) (rb : Fin 16) (s : State) : Host.Outcome State Fault Refusal :=
  s.act fun s => s.gExec e (.alu .sra rd ra rb)

/-- SLT (R215): Scalar set if less than, signed. -/
def execSlt (e : Fin 192) (rd : Fin 16) (ra : Fin 16) (rb : Fin 16) (s : State) : Host.Outcome State Fault Refusal :=
  s.act fun s => s.gExec e (.alu .slt rd ra rb)

/-- SLTU (R215): Scalar set if less than, unsigned. -/
def execSltu (e : Fin 192) (rd : Fin 16) (ra : Fin 16) (rb : Fin 16) (s : State) : Host.Outcome State Fault Refusal :=
  s.act fun s => s.gExec e (.alu .sltu rd ra rb)

/-- MIN (R215): Scalar signed minimum. -/
def execMin (e : Fin 192) (rd : Fin 16) (ra : Fin 16) (rb : Fin 16) (s : State) : Host.Outcome State Fault Refusal :=
  s.act fun s => s.gExec e (.alu .min rd ra rb)

/-- MAX (R215): Scalar signed maximum. -/
def execMax (e : Fin 192) (rd : Fin 16) (ra : Fin 16) (rb : Fin 16) (s : State) : Host.Outcome State Fault Refusal :=
  s.act fun s => s.gExec e (.alu .max rd ra rb)

/-- MINU (R215): Scalar unsigned minimum. -/
def execMinu (e : Fin 192) (rd : Fin 16) (ra : Fin 16) (rb : Fin 16) (s : State) : Host.Outcome State Fault Refusal :=
  s.act fun s => s.gExec e (.alu .minu rd ra rb)

/-- MAXU (R215): Scalar unsigned maximum. -/
def execMaxu (e : Fin 192) (rd : Fin 16) (ra : Fin 16) (rb : Fin 16) (s : State) : Host.Outcome State Fault Refusal :=
  s.act fun s => s.gExec e (.alu .maxu rd ra rb)

/-- MUL (R215): Scalar multiply, low 32 bits. -/
def execMul (e : Fin 192) (rd : Fin 16) (ra : Fin 16) (rb : Fin 16) (s : State) : Host.Outcome State Fault Refusal :=
  s.act fun s => s.gExec e (.alu .mul rd ra rb)

/-- MULH (R215): Scalar multiply, high 32 bits, signed. -/
def execMulh (e : Fin 192) (rd : Fin 16) (ra : Fin 16) (rb : Fin 16) (s : State) : Host.Outcome State Fault Refusal :=
  s.act fun s => s.gExec e (.alu .mulh rd ra rb)

/-- MULHU (R215): Scalar multiply, high 32 bits, unsigned. -/
def execMulhu (e : Fin 192) (rd : Fin 16) (ra : Fin 16) (rb : Fin 16) (s : State) : Host.Outcome State Fault Refusal :=
  s.act fun s => s.gExec e (.alu .mulhu rd ra rb)

/-- ADDI (R216): Scalar add of a sign-extended immediate. -/
def execAddi (e : Fin 192) (rd : Fin 16) (ra : Fin 16) (imm : BitVec 11) (s : State) : Host.Outcome State Fault Refusal :=
  s.act fun s => s.gExec e (.imm .add rd ra imm)

/-- ANDI (R216): Scalar AND with a zero-extended immediate. -/
def execAndi (e : Fin 192) (rd : Fin 16) (ra : Fin 16) (imm : BitVec 11) (s : State) : Host.Outcome State Fault Refusal :=
  s.act fun s => s.gExec e (.imm .and rd ra imm)

/-- ORI (R216): Scalar OR with a zero-extended immediate. -/
def execOri (e : Fin 192) (rd : Fin 16) (ra : Fin 16) (imm : BitVec 11) (s : State) : Host.Outcome State Fault Refusal :=
  s.act fun s => s.gExec e (.imm .or rd ra imm)

/-- XORI (R216): Scalar XOR with a zero-extended immediate. -/
def execXori (e : Fin 192) (rd : Fin 16) (ra : Fin 16) (imm : BitVec 11) (s : State) : Host.Outcome State Fault Refusal :=
  s.act fun s => s.gExec e (.imm .xor rd ra imm)

/-- SLTI (R216): Set if less than an immediate, signed. -/
def execSlti (e : Fin 192) (rd : Fin 16) (ra : Fin 16) (imm : BitVec 11) (s : State) : Host.Outcome State Fault Refusal :=
  s.act fun s => s.gExec e (.imm .slt rd ra imm)

/-- SLTIU (R216): Set if less than an immediate, unsigned. -/
def execSltiu (e : Fin 192) (rd : Fin 16) (ra : Fin 16) (imm : BitVec 11) (s : State) : Host.Outcome State Fault Refusal :=
  s.act fun s => s.gExec e (.imm .sltu rd ra imm)

/-- SLLI (R216): Logical shift left by an immediate. -/
def execSlli (e : Fin 192) (rd : Fin 16) (ra : Fin 16) (sh : BitVec 5) (s : State) : Host.Outcome State Fault Refusal :=
  s.act fun s => s.gExec e (.shift .sll rd ra sh)

/-- SRLI (R216): Logical shift right by an immediate. -/
def execSrli (e : Fin 192) (rd : Fin 16) (ra : Fin 16) (sh : BitVec 5) (s : State) : Host.Outcome State Fault Refusal :=
  s.act fun s => s.gExec e (.shift .srl rd ra sh)

/-- SRAI (R216): Arithmetic shift right by an immediate. -/
def execSrai (e : Fin 192) (rd : Fin 16) (ra : Fin 16) (sh : BitVec 5) (s : State) : Host.Outcome State Fault Refusal :=
  s.act fun s => s.gExec e (.shift .sra rd ra sh)

/-- LUI (R216): Load a 21-bit immediate shifted left by 11. -/
def execLui (e : Fin 192) (rd : Fin 16) (imm : BitVec 21) (s : State) : Host.Outcome State Fault Refusal :=
  s.act fun s => s.gExec e (.lui rd imm)

/-- BEQ (R217): Branch if equal. -/
def execBeq (e : Fin 192) (ra : Fin 16) (rb : Fin 16) (imm : BitVec 11) (s : State) : Host.Outcome State Fault Refusal :=
  s.act fun s => s.gExec e (.branch .eq ra rb imm)

/-- BNE (R217): Branch if not equal. -/
def execBne (e : Fin 192) (ra : Fin 16) (rb : Fin 16) (imm : BitVec 11) (s : State) : Host.Outcome State Fault Refusal :=
  s.act fun s => s.gExec e (.branch .ne ra rb imm)

/-- BLT (R217): Branch if less than, signed. -/
def execBlt (e : Fin 192) (ra : Fin 16) (rb : Fin 16) (imm : BitVec 11) (s : State) : Host.Outcome State Fault Refusal :=
  s.act fun s => s.gExec e (.branch .lt ra rb imm)

/-- BGE (R217): Branch if greater or equal, signed. -/
def execBge (e : Fin 192) (ra : Fin 16) (rb : Fin 16) (imm : BitVec 11) (s : State) : Host.Outcome State Fault Refusal :=
  s.act fun s => s.gExec e (.branch .ge ra rb imm)

/-- BLTU (R217): Branch if less than, unsigned. -/
def execBltu (e : Fin 192) (ra : Fin 16) (rb : Fin 16) (imm : BitVec 11) (s : State) : Host.Outcome State Fault Refusal :=
  s.act fun s => s.gExec e (.branch .ltu ra rb imm)

/-- BGEU (R217): Branch if greater or equal, unsigned. -/
def execBgeu (e : Fin 192) (ra : Fin 16) (rb : Fin 16) (imm : BitVec 11) (s : State) : Host.Outcome State Fault Refusal :=
  s.act fun s => s.gExec e (.branch .geu ra rb imm)

/-- JAL (R217): Jump to a PC-relative target and link. -/
def execJal (e : Fin 192) (rd : Fin 16) (imm : BitVec 21) (s : State) : Host.Outcome State Fault Refusal :=
  s.act fun s => s.gExec e (.jal rd imm)

/-- JALR (R217): Jump to a register target and link. -/
def execJalr (e : Fin 192) (rd : Fin 16) (ra : Fin 16) (imm : BitVec 11) (s : State) : Host.Outcome State Fault Refusal :=
  s.act fun s => s.gExec e (.jalr rd ra imm)

/-- LOOP (R218): Push a zero-overhead loop counted by a register. -/
def execLoop (e : Fin 192) (ra : Fin 16) (words : BitVec 11) (s : State) : Host.Outcome State Fault Refusal :=
  s.act fun s => s.gExec e (.loop ra words)

/-- LOOPI (R218): Push a zero-overhead loop with an immediate count. -/
def execLoopi (e : Fin 192) (count : BitVec 10) (words : BitVec 11) (s : State) : Host.Outcome State Fault Refusal :=
  s.act fun s => s.gExec e (.loopi count words)

/-- LW (R219): Load a word from data memory. -/
def execLw (e : Fin 192) (rd : Fin 16) (ra : Fin 16) (imm : BitVec 11) (s : State) : Host.Outcome State Fault Refusal :=
  s.act fun s => s.gExec e (.load .w rd ra imm)

/-- LH (R219): Load a sign-extended halfword. -/
def execLh (e : Fin 192) (rd : Fin 16) (ra : Fin 16) (imm : BitVec 11) (s : State) : Host.Outcome State Fault Refusal :=
  s.act fun s => s.gExec e (.load .h rd ra imm)

/-- LHU (R219): Load a zero-extended halfword. -/
def execLhu (e : Fin 192) (rd : Fin 16) (ra : Fin 16) (imm : BitVec 11) (s : State) : Host.Outcome State Fault Refusal :=
  s.act fun s => s.gExec e (.load .hu rd ra imm)

/-- LB (R219): Load a sign-extended byte. -/
def execLb (e : Fin 192) (rd : Fin 16) (ra : Fin 16) (imm : BitVec 11) (s : State) : Host.Outcome State Fault Refusal :=
  s.act fun s => s.gExec e (.load .b rd ra imm)

/-- LBU (R219): Load a zero-extended byte. -/
def execLbu (e : Fin 192) (rd : Fin 16) (ra : Fin 16) (imm : BitVec 11) (s : State) : Host.Outcome State Fault Refusal :=
  s.act fun s => s.gExec e (.load .bu rd ra imm)

/-- SW (R219): Store a word to data memory. -/
def execSw (e : Fin 192) (rs : Fin 16) (ra : Fin 16) (imm : BitVec 11) (s : State) : Host.Outcome State Fault Refusal :=
  s.act fun s => s.gExec e (.store .w rs ra imm)

/-- SH (R219): Store a halfword. -/
def execSh (e : Fin 192) (rs : Fin 16) (ra : Fin 16) (imm : BitVec 11) (s : State) : Host.Outcome State Fault Refusal :=
  s.act fun s => s.gExec e (.store .h rs ra imm)

/-- SB (R219): Store a byte. -/
def execSb (e : Fin 192) (rs : Fin 16) (ra : Fin 16) (imm : BitVec 11) (s : State) : Host.Outcome State Fault Refusal :=
  s.act fun s => s.gExec e (.store .b rs ra imm)

/-- VLD (R219): Load a 16-lane vector from data memory. -/
def execVld (e : Fin 192) (vd : Fin 32) (ra : Fin 16) (imm : BitVec 11) (s : State) : Host.Outcome State Fault Refusal :=
  s.act fun s => s.gExec e (.vld vd ra imm)

/-- VST (R219): Store a 16-lane vector to data memory. -/
def execVst (e : Fin 192) (vs : Fin 32) (ra : Fin 16) (imm : BitVec 11) (s : State) : Host.Outcome State Fault Refusal :=
  s.act fun s => s.gExec e (.vst vs ra imm)

end Sys2Proof.Machine
end

