-- ==== Sys2Proof/Machine/RowsThermal.lean ====
section
/-!
DEFINITION. The meaning of each command of temperature sensors, protection levels and the monitor ADC (R407 to R423).
-/
namespace Sys2Proof.Machine

/-- SENSOR_READING (R407): Every 100 µs each oscillator is counted over a 25 µs gate and converted. -/
def execSensorReading (n : Fin 32) (count : Nat) (s : State) : Host.Outcome State Fault Refusal :=
  s.actClocked fun s => s.sensorReading n count

/-- VALUE_PERIOD (R408): Every 800 µs the sensor values, failures, Tp and the protection levels are evaluated. -/
def execValuePeriod (s : State) : Host.Outcome State Fault Refusal :=
  s.actClocked fun s => s.valuePeriod

/-- THROTTLE_STEP_TIMER (R410): The throttle has been asserted 200 ms or 2,200 ms, so step 2 or 3 is entered. -/
def execThrottleStepTimer (s : State) : Host.Outcome State Fault Refusal :=
  s.actClocked fun s => s.throttleTimer

/-- THERMAL_RESTART (R412): A write of 0x6008.0B leaves SHUTDOWN and restores the shed domains, or is refused. -/
def execThermalRestart (w : Sender) (s : State) : Host.Outcome State Fault Refusal :=
  s.act fun s => s.write w 0x60080B [1]

/-- CLEAR_SENSOR_FAILURES (R413): A write of 0x6008.0E clears sensor failure latches. -/
def execClearSensorFailures (w : Sender) (m : Nat) (s : State) : Host.Outcome State Fault Refusal :=
  s.act fun s => s.write w 0x60080E (leBytes 4 m)

/-- ADC_START (R419): The START command begins monitor ADC passes. -/
def execAdcStart (w : Sender) (s : State) : Host.Outcome State Fault Refusal :=
  s.act fun s => s.write w 0x640002 [1]

/-- ADC_STOP (R419): The STOP command ends passes after the current one. -/
def execAdcStop (w : Sender) (s : State) : Host.Outcome State Fault Refusal :=
  s.act fun s => s.write w 0x640002 [2]

/-- ADC_CALIBRATE (R423): The CALIBRATE command suspends the sequencer at the pass end and calibrates. -/
def execAdcCalibrate (w : Sender) (s : State) : Host.Outcome State Fault Refusal :=
  s.act fun s => s.write w 0x640002 [3]

/-- ADC_CAL_COMPLETE (R423): The 2.1 ms ADC calibration ends, applying or rejecting the new factors. -/
def execAdcCalComplete (offset : Int) (gain : Int) (s : State) : Host.Outcome State Fault Refusal :=
  s.act fun s => s.adcCalDone offset gain

/-- ADC_SLOT_COMPLETE (R421): A sequencer slot finishes its conversions and its result is written. -/
def execAdcSlotComplete (codes : List Nat) (s : State) : Host.Outcome State Fault Refusal :=
  s.act fun s => s.adcDone codes

/-- ADC_CLEAR_LATCH (R422): A write of a channel's .07 clears its latched alarms. -/
def execAdcClearLatch (w : Sender) (ch : Nat) (m : Nat) (s : State) : Host.Outcome State Fault Refusal :=
  s.act fun s => s.write w (windowKey ch 7) (leBytes 4 m)

end Sys2Proof.Machine
end

