-- ==== Sys2Proof/Machine/RowsTwoWire.lean ====
section
/-!
DEFINITION. The meaning of each command of the two-wire target and controller ports (R358 to R379).
-/
namespace Sys2Proof.Machine

/-- TWT_REQUEST (R363): A command-mode request block completed at STOP is handed to the dictionary on port 3. -/
def execTwtRequest (code : Nat) (data : List Nat) (ending : Nat) (s : State) : Host.Outcome State Fault Refusal :=
  s.act fun s => s.twtRequest code data ending

/-- TWT_STATE_READ (R364): The STATE command returns the port's request state. -/
def execTwtStateRead (n : Nat) (s : State) : Host.Outcome State Fault Refusal :=
  s.act fun s => s.twtState n

/-- TWT_RESPONSE_READ (R364): The RESPONSE command returns the response block. -/
def execTwtResponseRead (n : Nat) (s : State) : Host.Outcome State Fault Refusal :=
  s.act fun s => s.twtResponse n

/-- TWT_IDENT_READ (R362): The IDENT command returns the serial number. -/
def execTwtIdentRead (n : Nat) (s : State) : Host.Outcome State Fault Refusal :=
  s.act fun s => s.twtIdent n

/-- TWT_POINTER_READ (R368): A pointer-mode read returns bytes of the mapped objects from the pointer. -/
def execTwtPointerRead (n : Nat) (s : State) : Host.Outcome State Fault Refusal :=
  s.act fun s => s.twtPointerRead n

/-- TWT_POINTER_WRITE (R369): A pointer-mode write sets the pointer and writes the window's object at STOP. -/
def execTwtPointerWrite (ptr : Nat) (data : List Nat) (ending : Nat) (s : State) : Host.Outcome State Fault Refusal :=
  s.act fun s => s.twtPointerWrite ptr data ending

/-- TWT_STRETCH_ABANDON (R359): A stretch lasting 25 ms is abandoned and SCL released. -/
def execTwtStretchAbandon (s : State) : Host.Outcome State Fault Refusal :=
  s.act fun s => s.twtStretch

/-- TWT_BUS_TIMEOUT (R359): SCL low for 35 ms resets the port and loses port 3. -/
def execTwtBusTimeout (s : State) : Host.Outcome State Fault Refusal :=
  s.act fun s => s.twtTimeout

/-- TWT_WAKE (R360): An address match in standby wakes the device and restarts the always-on clock. -/
def execTwtWake (s : State) : Host.Outcome State Fault Refusal :=
  s.act fun s => s.wake

/-- TWC_ENABLE (R373): A write of 0x5840.01 enables or disables the controller port. -/
def execTwcEnable (w : Sender) (on : Bool) (s : State) : Host.Outcome State Fault Refusal :=
  s.act fun s => s.write w 0x584001 [boolByte on]

/-- TWC_BUS_READY (R373): Both TWC lines have been high for 50 µs after enable, so the port is ready. -/
def execTwcBusReady (s : State) : Host.Outcome State Fault Refusal :=
  s.act fun s => s.twcReady

/-- TWC_RUN (R375): The RUN command arms a job under its trigger. -/
def execTwcRun (w : Sender) (j : Fin 16) (s : State) : Host.Outcome State Fault Refusal :=
  s.act fun s => s.write w (jobKey j 1) [1]

/-- TWC_CANCEL (R375): The CANCEL command returns a job to IDLE. -/
def execTwcCancel (w : Sender) (j : Fin 16) (s : State) : Host.Outcome State Fault Refusal :=
  s.act fun s => s.write w (jobKey j 1) [2]

/-- TWC_PERIODIC_TRIGGER (R375): A periodic job's period expires and the job becomes READY. -/
def execTwcPeriodicTrigger (j : Fin 16) (s : State) : Host.Outcome State Fault Refusal :=
  s.act fun s => s.jobPeriodic j

/-- TWC_JOB_START (R375): The bus is free after its bus-free time and the lowest READY job starts its transaction. -/
def execTwcJobStart (s : State) : Host.Outcome State Fault Refusal :=
  s.act fun s => s.jobStart

/-- TWC_JOB_COMPLETE (R376): A job's transaction ends with a status and its results. -/
def execTwcJobComplete (result : Nat) (data : List Nat) (s : State) : Host.Outcome State Fault Refusal :=
  s.act fun s => s.jobComplete result data

/-- TWC_ARBITRATION_LOST (R377): SDA reads low where the port sent high, so the transaction aborts and the job stays READY.
-/
def execTwcArbitrationLost (s : State) : Host.Outcome State Fault Refusal :=
  s.act fun s => s.jobArbLost

/-- TWC_STRETCH_TIMEOUT (R378): A target holds SCL for more than 25 ms, so the job ends TIMEOUT and the bus is cleared. -/
def execTwcStretchTimeout (s : State) : Host.Outcome State Fault Refusal :=
  s.act fun s => s.jobStretch

/-- TWC_BUS_CLEAR (R379): A clear attempt of up to nine pulses ends with SDA high, or latches BUS_STUCK. -/
def execTwcBusClear (high : Bool) (s : State) : Host.Outcome State Fault Refusal :=
  s.act fun s => s.busClear high

/-- TWC_STUCK_WAIT_EXPIRY (R379): The 10 ms wait between clear attempts expires and the next attempt begins. -/
def execTwcStuckWaitExpiry (s : State) : Host.Outcome State Fault Refusal :=
  s.act fun s => s.stuckWaitEnd

/-- TWC_CLEAR_FAILURE (R379): A write of 0x5840.06 clears FAILED and starts a new bus clear. -/
def execTwcClearFailure (w : Sender) (s : State) : Host.Outcome State Fault Refusal :=
  s.act fun s => s.write w 0x584006 [1]

/-- SDA_LOW_WHILE_IDLE (R379): The controller port finds TWC_SDA held low while the bus should be idle and begins a bus
clear. -/
def execSdaLowWhileIdle (s : State) : Host.Outcome State Fault Refusal :=
  s.act fun s => s.sdaLow

end Sys2Proof.Machine
end

