-- ==== Sys2Proof/Machine/RowsVector.lean ====
section
/-!
DEFINITION. The meaning of each command of vector instructions of the Grixis engines: arithmetic, compares, predicates and
accumulators (R220 to R223).
-/
namespace Sys2Proof.Machine

/-- VADD (R220): Vector add modulo 2^16. -/
def execVadd (e : Fin 192) (vd : Fin 32) (va : Fin 32) (b : VSrc) (p : Fin 8)
    (s : State) : Host.Outcome State Fault Refusal :=
  s.act fun s => s.gExec e (.valu .add vd va b p)

/-- VSUB (R220): Vector subtract modulo 2^16. -/
def execVsub (e : Fin 192) (vd : Fin 32) (va : Fin 32) (b : VSrc) (p : Fin 8)
    (s : State) : Host.Outcome State Fault Refusal :=
  s.act fun s => s.gExec e (.valu .sub vd va b p)

/-- VADDS (R220): Vector unsigned saturating add. -/
def execVadds (e : Fin 192) (vd : Fin 32) (va : Fin 32) (b : VSrc) (p : Fin 8)
    (s : State) : Host.Outcome State Fault Refusal :=
  s.act fun s => s.gExec e (.valu .adds vd va b p)

/-- VSUBS (R220): Vector unsigned saturating subtract. -/
def execVsubs (e : Fin 192) (vd : Fin 32) (va : Fin 32) (b : VSrc) (p : Fin 8)
    (s : State) : Host.Outcome State Fault Refusal :=
  s.act fun s => s.gExec e (.valu .subs vd va b p)

/-- VADDSS (R220): Vector signed saturating add. -/
def execVaddss (e : Fin 192) (vd : Fin 32) (va : Fin 32) (b : VSrc) (p : Fin 8)
    (s : State) : Host.Outcome State Fault Refusal :=
  s.act fun s => s.gExec e (.valu .addss vd va b p)

/-- VSUBSS (R220): Vector signed saturating subtract. -/
def execVsubss (e : Fin 192) (vd : Fin 32) (va : Fin 32) (b : VSrc) (p : Fin 8)
    (s : State) : Host.Outcome State Fault Refusal :=
  s.act fun s => s.gExec e (.valu .subss vd va b p)

/-- VABSD (R220): Vector unsigned absolute difference. -/
def execVabsd (e : Fin 192) (vd : Fin 32) (va : Fin 32) (b : VSrc) (p : Fin 8)
    (s : State) : Host.Outcome State Fault Refusal :=
  s.act fun s => s.gExec e (.valu .absd vd va b p)

/-- VAVG (R220): Vector rounded average. -/
def execVavg (e : Fin 192) (vd : Fin 32) (va : Fin 32) (b : VSrc) (p : Fin 8)
    (s : State) : Host.Outcome State Fault Refusal :=
  s.act fun s => s.gExec e (.valu .avg vd va b p)

/-- VMINU (R220): Vector unsigned minimum. -/
def execVminu (e : Fin 192) (vd : Fin 32) (va : Fin 32) (b : VSrc) (p : Fin 8)
    (s : State) : Host.Outcome State Fault Refusal :=
  s.act fun s => s.gExec e (.valu .minu vd va b p)

/-- VMAXU (R220): Vector unsigned maximum. -/
def execVmaxu (e : Fin 192) (vd : Fin 32) (va : Fin 32) (b : VSrc) (p : Fin 8)
    (s : State) : Host.Outcome State Fault Refusal :=
  s.act fun s => s.gExec e (.valu .maxu vd va b p)

/-- VMIN (R220): Vector signed minimum. -/
def execVmin (e : Fin 192) (vd : Fin 32) (va : Fin 32) (b : VSrc) (p : Fin 8)
    (s : State) : Host.Outcome State Fault Refusal :=
  s.act fun s => s.gExec e (.valu .min vd va b p)

/-- VMAX (R220): Vector signed maximum. -/
def execVmax (e : Fin 192) (vd : Fin 32) (va : Fin 32) (b : VSrc) (p : Fin 8)
    (s : State) : Host.Outcome State Fault Refusal :=
  s.act fun s => s.gExec e (.valu .max vd va b p)

/-- VAND (R220): Vector bitwise AND. -/
def execVand (e : Fin 192) (vd : Fin 32) (va : Fin 32) (b : VSrc) (p : Fin 8)
    (s : State) : Host.Outcome State Fault Refusal :=
  s.act fun s => s.gExec e (.valu .and vd va b p)

/-- VOR (R220): Vector bitwise OR. -/
def execVor (e : Fin 192) (vd : Fin 32) (va : Fin 32) (b : VSrc) (p : Fin 8) (s : State) : Host.Outcome State Fault Refusal :=
  s.act fun s => s.gExec e (.valu .or vd va b p)

/-- VXOR (R220): Vector bitwise XOR. -/
def execVxor (e : Fin 192) (vd : Fin 32) (va : Fin 32) (b : VSrc) (p : Fin 8)
    (s : State) : Host.Outcome State Fault Refusal :=
  s.act fun s => s.gExec e (.valu .xor vd va b p)

/-- VANDN (R220): Vector AND with complement. -/
def execVandn (e : Fin 192) (vd : Fin 32) (va : Fin 32) (b : VSrc) (p : Fin 8)
    (s : State) : Host.Outcome State Fault Refusal :=
  s.act fun s => s.gExec e (.valu .andn vd va b p)

/-- VSHL (R220): Vector shift left. -/
def execVshl (e : Fin 192) (vd : Fin 32) (va : Fin 32) (b : VSrc) (p : Fin 8)
    (s : State) : Host.Outcome State Fault Refusal :=
  s.act fun s => s.gExec e (.valu .shl vd va b p)

/-- VSHR (R220): Vector logical shift right. -/
def execVshr (e : Fin 192) (vd : Fin 32) (va : Fin 32) (b : VSrc) (p : Fin 8)
    (s : State) : Host.Outcome State Fault Refusal :=
  s.act fun s => s.gExec e (.valu .shr vd va b p)

/-- VSRA (R220): Vector arithmetic shift right. -/
def execVsra (e : Fin 192) (vd : Fin 32) (va : Fin 32) (b : VSrc) (p : Fin 8)
    (s : State) : Host.Outcome State Fault Refusal :=
  s.act fun s => s.gExec e (.valu .sra vd va b p)

/-- VMUL (R220): Vector multiply, low 16 bits. -/
def execVmul (e : Fin 192) (vd : Fin 32) (va : Fin 32) (b : VSrc) (p : Fin 8)
    (s : State) : Host.Outcome State Fault Refusal :=
  s.act fun s => s.gExec e (.valu .mul vd va b p)

/-- VMULHU (R220): Vector multiply, high 16 bits, unsigned. -/
def execVmulhu (e : Fin 192) (vd : Fin 32) (va : Fin 32) (b : VSrc) (p : Fin 8)
    (s : State) : Host.Outcome State Fault Refusal :=
  s.act fun s => s.gExec e (.valu .mulhu vd va b p)

/-- VMULHS (R220): Vector multiply, high 16 bits, signed. -/
def execVmulhs (e : Fin 192) (vd : Fin 32) (va : Fin 32) (b : VSrc) (p : Fin 8)
    (s : State) : Host.Outcome State Fault Refusal :=
  s.act fun s => s.gExec e (.valu .mulhs vd va b p)

/-- VSEL (R220): Vector select per lane by predicate. -/
def execVsel (e : Fin 192) (vd : Fin 32) (va : Fin 32) (b : VSrc) (p : Fin 8)
    (s : State) : Host.Outcome State Fault Refusal :=
  s.act fun s => s.gExec e (.valu .sel vd va b p)

/-- VMOV (R220): Vector move. -/
def execVmov (e : Fin 192) (vd : Fin 32) (va : Fin 32) (b : VSrc) (p : Fin 8)
    (s : State) : Host.Outcome State Fault Refusal :=
  s.act fun s => s.gExec e (.valu .mov vd va b p)

/-- VCMP_EQ (R221): Vector compare equal into a predicate. -/
def execVcmpEq (e : Fin 192) (pd : Fin 8) (va : Fin 32) (b : VSrc) (p : Fin 8)
    (s : State) : Host.Outcome State Fault Refusal :=
  s.act fun s => s.gExec e (.vcmp .eq pd va b p)

/-- VCMP_NE (R221): Vector compare not equal into a predicate. -/
def execVcmpNe (e : Fin 192) (pd : Fin 8) (va : Fin 32) (b : VSrc) (p : Fin 8)
    (s : State) : Host.Outcome State Fault Refusal :=
  s.act fun s => s.gExec e (.vcmp .ne pd va b p)

/-- VCMP_LTU (R221): Vector compare less than, unsigned. -/
def execVcmpLtu (e : Fin 192) (pd : Fin 8) (va : Fin 32) (b : VSrc) (p : Fin 8)
    (s : State) : Host.Outcome State Fault Refusal :=
  s.act fun s => s.gExec e (.vcmp .ltu pd va b p)

/-- VCMP_LEU (R221): Vector compare less or equal, unsigned. -/
def execVcmpLeu (e : Fin 192) (pd : Fin 8) (va : Fin 32) (b : VSrc) (p : Fin 8)
    (s : State) : Host.Outcome State Fault Refusal :=
  s.act fun s => s.gExec e (.vcmp .leu pd va b p)

/-- VCMP_GTU (R221): Vector compare greater than, unsigned. -/
def execVcmpGtu (e : Fin 192) (pd : Fin 8) (va : Fin 32) (b : VSrc) (p : Fin 8)
    (s : State) : Host.Outcome State Fault Refusal :=
  s.act fun s => s.gExec e (.vcmp .gtu pd va b p)

/-- VCMP_GEU (R221): Vector compare greater or equal, unsigned. -/
def execVcmpGeu (e : Fin 192) (pd : Fin 8) (va : Fin 32) (b : VSrc) (p : Fin 8)
    (s : State) : Host.Outcome State Fault Refusal :=
  s.act fun s => s.gExec e (.vcmp .geu pd va b p)

/-- VCMP_LT (R221): Vector compare less than, signed. -/
def execVcmpLt (e : Fin 192) (pd : Fin 8) (va : Fin 32) (b : VSrc) (p : Fin 8)
    (s : State) : Host.Outcome State Fault Refusal :=
  s.act fun s => s.gExec e (.vcmp .lt pd va b p)

/-- VCMP_LE (R221): Vector compare less or equal, signed. -/
def execVcmpLe (e : Fin 192) (pd : Fin 8) (va : Fin 32) (b : VSrc) (p : Fin 8)
    (s : State) : Host.Outcome State Fault Refusal :=
  s.act fun s => s.gExec e (.vcmp .le pd va b p)

/-- VCMP_GT (R221): Vector compare greater than, signed. -/
def execVcmpGt (e : Fin 192) (pd : Fin 8) (va : Fin 32) (b : VSrc) (p : Fin 8)
    (s : State) : Host.Outcome State Fault Refusal :=
  s.act fun s => s.gExec e (.vcmp .gt pd va b p)

/-- VCMP_GE (R221): Vector compare greater or equal, signed. -/
def execVcmpGe (e : Fin 192) (pd : Fin 8) (va : Fin 32) (b : VSrc) (p : Fin 8)
    (s : State) : Host.Outcome State Fault Refusal :=
  s.act fun s => s.gExec e (.vcmp .ge pd va b p)

/-- PAND (R222): Predicate AND. -/
def execPand (e : Fin 192) (pd : Fin 8) (pa : Fin 8) (pb : Fin 8) (s : State) : Host.Outcome State Fault Refusal :=
  s.act fun s => s.gExec e (.pred .and pd pa pb)

/-- POR (R222): Predicate OR. -/
def execPor (e : Fin 192) (pd : Fin 8) (pa : Fin 8) (pb : Fin 8) (s : State) : Host.Outcome State Fault Refusal :=
  s.act fun s => s.gExec e (.pred .or pd pa pb)

/-- PXOR (R222): Predicate XOR. -/
def execPxor (e : Fin 192) (pd : Fin 8) (pa : Fin 8) (pb : Fin 8) (s : State) : Host.Outcome State Fault Refusal :=
  s.act fun s => s.gExec e (.pred .xor pd pa pb)

/-- PANDN (R222): Predicate AND with complement. -/
def execPandn (e : Fin 192) (pd : Fin 8) (pa : Fin 8) (pb : Fin 8) (s : State) : Host.Outcome State Fault Refusal :=
  s.act fun s => s.gExec e (.pred .andn pd pa pb)

/-- PNOT (R222): Predicate complement. -/
def execPnot (e : Fin 192) (pd : Fin 8) (pa : Fin 8) (s : State) : Host.Outcome State Fault Refusal :=
  s.act fun s => s.gExec e (.pnot pd pa)

/-- MTP (R222): Move a scalar into a predicate. -/
def execMtp (e : Fin 192) (pd : Fin 8) (ra : Fin 16) (s : State) : Host.Outcome State Fault Refusal :=
  s.act fun s => s.gExec e (.mtp pd ra)

/-- MFP (R222): Move a predicate into a scalar. -/
def execMfp (e : Fin 192) (rd : Fin 16) (pa : Fin 8) (s : State) : Host.Outcome State Fault Refusal :=
  s.act fun s => s.gExec e (.mfp rd pa)

/-- PCNT (R222): Count the set bits of a predicate. -/
def execPcnt (e : Fin 192) (rd : Fin 16) (pa : Fin 8) (s : State) : Host.Outcome State Fault Refusal :=
  s.act fun s => s.gExec e (.pcnt rd pa)

/-- PFIRST (R222): Index of the lowest set predicate bit. -/
def execPfirst (e : Fin 192) (rd : Fin 16) (pa : Fin 8) (s : State) : Host.Outcome State Fault Refusal :=
  s.act fun s => s.gExec e (.pfirst rd pa)

/-- PLAST (R222): Index of the highest set predicate bit. -/
def execPlast (e : Fin 192) (rd : Fin 16) (pa : Fin 8) (s : State) : Host.Outcome State Fault Refusal :=
  s.act fun s => s.gExec e (.plast rd pa)

/-- VMACU (R223): Unsigned multiply-accumulate. -/
def execVmacu (e : Fin 192) (ad : Fin 4) (va : Fin 32) (b : VSrc) (p : Fin 8)
    (s : State) : Host.Outcome State Fault Refusal :=
  s.act fun s => s.gExec e (.mac .macu ad va b p)

/-- VMACS (R223): Signed multiply-accumulate. -/
def execVmacs (e : Fin 192) (ad : Fin 4) (va : Fin 32) (b : VSrc) (p : Fin 8)
    (s : State) : Host.Outcome State Fault Refusal :=
  s.act fun s => s.gExec e (.mac .macs ad va b p)

/-- VMACSU (R223): Signed-by-unsigned multiply-accumulate. -/
def execVmacsu (e : Fin 192) (ad : Fin 4) (va : Fin 32) (b : VSrc) (p : Fin 8)
    (s : State) : Host.Outcome State Fault Refusal :=
  s.act fun s => s.gExec e (.mac .macsu ad va b p)

/-- VMSUU (R223): Unsigned multiply-subtract. -/
def execVmsuu (e : Fin 192) (ad : Fin 4) (va : Fin 32) (b : VSrc) (p : Fin 8)
    (s : State) : Host.Outcome State Fault Refusal :=
  s.act fun s => s.gExec e (.mac .msuu ad va b p)

/-- VMSUS (R223): Signed multiply-subtract. -/
def execVmsus (e : Fin 192) (ad : Fin 4) (va : Fin 32) (b : VSrc) (p : Fin 8)
    (s : State) : Host.Outcome State Fault Refusal :=
  s.act fun s => s.gExec e (.mac .msus ad va b p)

/-- VMULU (R223): Unsigned multiply into an accumulator. -/
def execVmulu (e : Fin 192) (ad : Fin 4) (va : Fin 32) (b : VSrc) (p : Fin 8)
    (s : State) : Host.Outcome State Fault Refusal :=
  s.act fun s => s.gExec e (.mac .mulu ad va b p)

/-- VMULSU (R223): Signed-by-unsigned multiply into an accumulator. -/
def execVmulsu (e : Fin 192) (ad : Fin 4) (va : Fin 32) (b : VSrc) (p : Fin 8)
    (s : State) : Host.Outcome State Fault Refusal :=
  s.act fun s => s.gExec e (.mac .mulsu ad va b p)

/-- ACLR (R223): Clear an accumulator. -/
def execAclr (e : Fin 192) (ad : Fin 4) (p : Fin 8) (s : State) : Host.Outcome State Fault Refusal :=
  s.act fun s => s.gExec e (.aclr ad p)

/-- VRNDU (R223): Round an accumulator into an unsigned vector. -/
def execVrndu (e : Fin 192) (vd : Fin 32) (ad : Fin 4) (sh : BitVec 5) (p : Fin 8)
    (s : State) : Host.Outcome State Fault Refusal :=
  s.act fun s => s.gExec e (.vrnd false vd ad sh p)

/-- VRNDS (R223): Round an accumulator into a signed vector. -/
def execVrnds (e : Fin 192) (vd : Fin 32) (ad : Fin 4) (sh : BitVec 5) (p : Fin 8)
    (s : State) : Host.Outcome State Fault Refusal :=
  s.act fun s => s.gExec e (.vrnd true vd ad sh p)

/-- VTOA (R223): Zero-extend a vector into an accumulator. -/
def execVtoa (e : Fin 192) (ad : Fin 4) (va : Fin 32) (p : Fin 8) (s : State) : Host.Outcome State Fault Refusal :=
  s.act fun s => s.gExec e (.vtoa false ad va p)

/-- VTOAS (R223): Sign-extend a vector into an accumulator. -/
def execVtoas (e : Fin 192) (ad : Fin 4) (va : Fin 32) (p : Fin 8) (s : State) : Host.Outcome State Fault Refusal :=
  s.act fun s => s.gExec e (.vtoa true ad va p)

end Sys2Proof.Machine
end

