-- ==== Sys2Proof/Machine/Dispatch.lean ====
section
/-!
DEFINITION. Every command has its meaning: one arm per constructor, one direct call each.
-/
namespace Sys2Proof.Machine

def exec (i : Instr) (s : State) : Host.Outcome State Fault Refusal :=
  match i with
  | .encoderEdge n ch level t => Sys2Proof.Machine.execEncoderEdge n ch level t s
  | .decoderStepClose n => Sys2Proof.Machine.execDecoderStepClose n s
  | .encoderLoss n ch => Sys2Proof.Machine.execEncoderLoss n ch s
  | .encoderRestored n ch => Sys2Proof.Machine.execEncoderRestored n ch s
  | .horizonExpiry => Sys2Proof.Machine.execHorizonExpiry s
  | .epochInputEdge level t => Sys2Proof.Machine.execEpochInputEdge level t s
  | .armEpoch w => Sys2Proof.Machine.execArmEpoch w s
  | .lineTrigger t => Sys2Proof.Machine.execLineTrigger t s
  | .queuedLineStart => Sys2Proof.Machine.execQueuedLineStart s
  | .runStart w => Sys2Proof.Machine.execRunStart w s
  | .stopAtSection w => Sys2Proof.Machine.execStopAtSection w s
  | .stopNow w => Sys2Proof.Machine.execStopNow w s
  | .runStopped => Sys2Proof.Machine.execRunStopped s
  | .stallTimeout => Sys2Proof.Machine.execStallTimeout s
  | .flushTransfer => Sys2Proof.Machine.execFlushTransfer s
  | .flushTransferEnd => Sys2Proof.Machine.execFlushTransferEnd s
  | .softwareLine w => Sys2Proof.Machine.execSoftwareLine w s
  | .trigInEdge level t => Sys2Proof.Machine.execTrigInEdge level t s
  | .clearCrosscheckFault w => Sys2Proof.Machine.execClearCrosscheckFault w s
  | .armUserEntry w n typ => Sys2Proof.Machine.execArmUserEntry w n typ s
  | .mark n => Sys2Proof.Machine.execMark n s
  | .trigOutPulse n => Sys2Proof.Machine.execTrigOutPulse n s
  | .trigOutPulseEnd => Sys2Proof.Machine.execTrigOutPulseEnd s
  | .phaseStart p => Sys2Proof.Machine.execPhaseStart p s
  | .phaseEnd p => Sys2Proof.Machine.execPhaseEnd p s
  | .strobeOn k p => Sys2Proof.Machine.execStrobeOn k p s
  | .strobeOff k p => Sys2Proof.Machine.execStrobeOff k p s
  | .wFrameStart => Sys2Proof.Machine.execWFrameStart s
  | .wSingleFrame w => Sys2Proof.Machine.execWSingleFrame w s
  | .wRowRead levels => Sys2Proof.Machine.execWRowRead levels s
  | .strobeReadbackFault k => Sys2Proof.Machine.execStrobeReadbackFault k s
  | .clearStrobeFault w m => Sys2Proof.Machine.execClearStrobeFault w m s
  | .rowDriverFault bit => Sys2Proof.Machine.execRowDriverFault bit s
  | .clearRowDriverFault w m => Sys2Proof.Machine.execClearRowDriverFault w m s
  | .slotEnd bank k levels diffs second singles words => Sys2Proof.Machine.execSlotEnd bank k levels diffs second singles words s
  | .calStart w => Sys2Proof.Machine.execCalStart w s
  | .calAbort w => Sys2Proof.Machine.execCalAbort w s
  | .calSave w => Sys2Proof.Machine.execCalSave w s
  | .bankCalComplete cols spares blacks factors change => Sys2Proof.Machine.execBankCalComplete cols spares blacks factors change s
  | .recalibrationDue => Sys2Proof.Machine.execRecalibrationDue s
  | .columnSuspect seg bank col => Sys2Proof.Machine.execColumnSuspect seg bank col s
  | .rawCaptureArm w => Sys2Proof.Machine.execRawCaptureArm w s
  | .slipEstimate => Sys2Proof.Machine.execSlipEstimate s
  | .segmentLineProcess seg src line errs => Sys2Proof.Machine.execSegmentLineProcess seg src line errs s
  | .sideLinkFailed link => Sys2Proof.Machine.execSideLinkFailed link s
  | .statsRecordClose => Sys2Proof.Machine.execStatsRecordClose s
  | .windowReady seg line errs => Sys2Proof.Machine.execWindowReady seg line errs s
  | .imageLoadComplete => Sys2Proof.Machine.execImageLoadComplete s
  | .engineRestart w seg m => Sys2Proof.Machine.execEngineRestart w seg m s
  | .bar2Write off data stall => Sys2Proof.Machine.execBar2Write off data stall s
  | .bar2Read r => Sys2Proof.Machine.execBar2Read r s
  | .crumbDrain seg => Sys2Proof.Machine.execCrumbDrain seg s
  | .crumbMerge line => Sys2Proof.Machine.execCrumbMerge line s
  | .breakpointMatch e => Sys2Proof.Machine.execBreakpointMatch e s
  | .add_ e rd ra rb => Sys2Proof.Machine.execAdd e rd ra rb s
  | .sub_ e rd ra rb => Sys2Proof.Machine.execSub e rd ra rb s
  | .and_ e rd ra rb => Sys2Proof.Machine.execAnd e rd ra rb s
  | .or_ e rd ra rb => Sys2Proof.Machine.execOr e rd ra rb s
  | .xor_ e rd ra rb => Sys2Proof.Machine.execXor e rd ra rb s
  | .sll e rd ra rb => Sys2Proof.Machine.execSll e rd ra rb s
  | .srl e rd ra rb => Sys2Proof.Machine.execSrl e rd ra rb s
  | .sra e rd ra rb => Sys2Proof.Machine.execSra e rd ra rb s
  | .slt e rd ra rb => Sys2Proof.Machine.execSlt e rd ra rb s
  | .sltu e rd ra rb => Sys2Proof.Machine.execSltu e rd ra rb s
  | .min_ e rd ra rb => Sys2Proof.Machine.execMin e rd ra rb s
  | .max_ e rd ra rb => Sys2Proof.Machine.execMax e rd ra rb s
  | .minu e rd ra rb => Sys2Proof.Machine.execMinu e rd ra rb s
  | .maxu e rd ra rb => Sys2Proof.Machine.execMaxu e rd ra rb s
  | .mul e rd ra rb => Sys2Proof.Machine.execMul e rd ra rb s
  | .mulh e rd ra rb => Sys2Proof.Machine.execMulh e rd ra rb s
  | .mulhu e rd ra rb => Sys2Proof.Machine.execMulhu e rd ra rb s
  | .addi e rd ra imm => Sys2Proof.Machine.execAddi e rd ra imm s
  | .andi e rd ra imm => Sys2Proof.Machine.execAndi e rd ra imm s
  | .ori e rd ra imm => Sys2Proof.Machine.execOri e rd ra imm s
  | .xori e rd ra imm => Sys2Proof.Machine.execXori e rd ra imm s
  | .slti e rd ra imm => Sys2Proof.Machine.execSlti e rd ra imm s
  | .sltiu e rd ra imm => Sys2Proof.Machine.execSltiu e rd ra imm s
  | .slli e rd ra sh => Sys2Proof.Machine.execSlli e rd ra sh s
  | .srli e rd ra sh => Sys2Proof.Machine.execSrli e rd ra sh s
  | .srai e rd ra sh => Sys2Proof.Machine.execSrai e rd ra sh s
  | .lui e rd imm => Sys2Proof.Machine.execLui e rd imm s
  | .beq e ra rb imm => Sys2Proof.Machine.execBeq e ra rb imm s
  | .bne e ra rb imm => Sys2Proof.Machine.execBne e ra rb imm s
  | .blt e ra rb imm => Sys2Proof.Machine.execBlt e ra rb imm s
  | .bge e ra rb imm => Sys2Proof.Machine.execBge e ra rb imm s
  | .bltu e ra rb imm => Sys2Proof.Machine.execBltu e ra rb imm s
  | .bgeu e ra rb imm => Sys2Proof.Machine.execBgeu e ra rb imm s
  | .jal e rd imm => Sys2Proof.Machine.execJal e rd imm s
  | .jalr e rd ra imm => Sys2Proof.Machine.execJalr e rd ra imm s
  | .loop_ e ra words => Sys2Proof.Machine.execLoop e ra words s
  | .loopi e count words => Sys2Proof.Machine.execLoopi e count words s
  | .lw e rd ra imm => Sys2Proof.Machine.execLw e rd ra imm s
  | .lh e rd ra imm => Sys2Proof.Machine.execLh e rd ra imm s
  | .lhu e rd ra imm => Sys2Proof.Machine.execLhu e rd ra imm s
  | .lb e rd ra imm => Sys2Proof.Machine.execLb e rd ra imm s
  | .lbu e rd ra imm => Sys2Proof.Machine.execLbu e rd ra imm s
  | .sw e rs ra imm => Sys2Proof.Machine.execSw e rs ra imm s
  | .sh e rs ra imm => Sys2Proof.Machine.execSh e rs ra imm s
  | .sb e rs ra imm => Sys2Proof.Machine.execSb e rs ra imm s
  | .vld e vd ra imm => Sys2Proof.Machine.execVld e vd ra imm s
  | .vst e vs ra imm => Sys2Proof.Machine.execVst e vs ra imm s
  | .vadd e vd va b p => Sys2Proof.Machine.execVadd e vd va b p s
  | .vsub e vd va b p => Sys2Proof.Machine.execVsub e vd va b p s
  | .vadds e vd va b p => Sys2Proof.Machine.execVadds e vd va b p s
  | .vsubs e vd va b p => Sys2Proof.Machine.execVsubs e vd va b p s
  | .vaddss e vd va b p => Sys2Proof.Machine.execVaddss e vd va b p s
  | .vsubss e vd va b p => Sys2Proof.Machine.execVsubss e vd va b p s
  | .vabsd e vd va b p => Sys2Proof.Machine.execVabsd e vd va b p s
  | .vavg e vd va b p => Sys2Proof.Machine.execVavg e vd va b p s
  | .vminu e vd va b p => Sys2Proof.Machine.execVminu e vd va b p s
  | .vmaxu e vd va b p => Sys2Proof.Machine.execVmaxu e vd va b p s
  | .vmin e vd va b p => Sys2Proof.Machine.execVmin e vd va b p s
  | .vmax e vd va b p => Sys2Proof.Machine.execVmax e vd va b p s
  | .vand e vd va b p => Sys2Proof.Machine.execVand e vd va b p s
  | .vor e vd va b p => Sys2Proof.Machine.execVor e vd va b p s
  | .vxor e vd va b p => Sys2Proof.Machine.execVxor e vd va b p s
  | .vandn e vd va b p => Sys2Proof.Machine.execVandn e vd va b p s
  | .vshl e vd va b p => Sys2Proof.Machine.execVshl e vd va b p s
  | .vshr e vd va b p => Sys2Proof.Machine.execVshr e vd va b p s
  | .vsra e vd va b p => Sys2Proof.Machine.execVsra e vd va b p s
  | .vmul e vd va b p => Sys2Proof.Machine.execVmul e vd va b p s
  | .vmulhu e vd va b p => Sys2Proof.Machine.execVmulhu e vd va b p s
  | .vmulhs e vd va b p => Sys2Proof.Machine.execVmulhs e vd va b p s
  | .vsel e vd va b p => Sys2Proof.Machine.execVsel e vd va b p s
  | .vmov e vd va b p => Sys2Proof.Machine.execVmov e vd va b p s
  | .vcmpEq e pd va b p => Sys2Proof.Machine.execVcmpEq e pd va b p s
  | .vcmpNe e pd va b p => Sys2Proof.Machine.execVcmpNe e pd va b p s
  | .vcmpLtu e pd va b p => Sys2Proof.Machine.execVcmpLtu e pd va b p s
  | .vcmpLeu e pd va b p => Sys2Proof.Machine.execVcmpLeu e pd va b p s
  | .vcmpGtu e pd va b p => Sys2Proof.Machine.execVcmpGtu e pd va b p s
  | .vcmpGeu e pd va b p => Sys2Proof.Machine.execVcmpGeu e pd va b p s
  | .vcmpLt e pd va b p => Sys2Proof.Machine.execVcmpLt e pd va b p s
  | .vcmpLe e pd va b p => Sys2Proof.Machine.execVcmpLe e pd va b p s
  | .vcmpGt e pd va b p => Sys2Proof.Machine.execVcmpGt e pd va b p s
  | .vcmpGe e pd va b p => Sys2Proof.Machine.execVcmpGe e pd va b p s
  | .pand e pd pa pb => Sys2Proof.Machine.execPand e pd pa pb s
  | .por e pd pa pb => Sys2Proof.Machine.execPor e pd pa pb s
  | .pxor e pd pa pb => Sys2Proof.Machine.execPxor e pd pa pb s
  | .pandn e pd pa pb => Sys2Proof.Machine.execPandn e pd pa pb s
  | .pnot e pd pa => Sys2Proof.Machine.execPnot e pd pa s
  | .mtp e pd ra => Sys2Proof.Machine.execMtp e pd ra s
  | .mfp e rd pa => Sys2Proof.Machine.execMfp e rd pa s
  | .pcnt e rd pa => Sys2Proof.Machine.execPcnt e rd pa s
  | .pfirst e rd pa => Sys2Proof.Machine.execPfirst e rd pa s
  | .plast e rd pa => Sys2Proof.Machine.execPlast e rd pa s
  | .vmacu e ad va b p => Sys2Proof.Machine.execVmacu e ad va b p s
  | .vmacs e ad va b p => Sys2Proof.Machine.execVmacs e ad va b p s
  | .vmacsu e ad va b p => Sys2Proof.Machine.execVmacsu e ad va b p s
  | .vmsuu e ad va b p => Sys2Proof.Machine.execVmsuu e ad va b p s
  | .vmsus e ad va b p => Sys2Proof.Machine.execVmsus e ad va b p s
  | .vmulu e ad va b p => Sys2Proof.Machine.execVmulu e ad va b p s
  | .vmulsu e ad va b p => Sys2Proof.Machine.execVmulsu e ad va b p s
  | .aclr e ad p => Sys2Proof.Machine.execAclr e ad p s
  | .vrndu e vd ad sh p => Sys2Proof.Machine.execVrndu e vd ad sh p s
  | .vrnds e vd ad sh p => Sys2Proof.Machine.execVrnds e vd ad sh p s
  | .vtoa e ad va p => Sys2Proof.Machine.execVtoa e ad va p s
  | .vtoas e ad va p => Sys2Proof.Machine.execVtoas e ad va p s
  | .wld e vd ra sec off sh => Sys2Proof.Machine.execWld e vd ra sec off sh s
  | .vrsum e rd va p => Sys2Proof.Machine.execVrsum e rd va p s
  | .vrsums e rd va p => Sys2Proof.Machine.execVrsums e rd va p s
  | .vrmaxu e rd va p => Sys2Proof.Machine.execVrmaxu e rd va p s
  | .vrminu e rd va p => Sys2Proof.Machine.execVrminu e rd va p s
  | .vrmaxix e rd va p => Sys2Proof.Machine.execVrmaxix e rd va p s
  | .vrminix e rd va p => Sys2Proof.Machine.execVrminix e rd va p s
  | .vrsuma e rd ad p => Sys2Proof.Machine.execVrsuma e rd ad p s
  | .vperm e vd va vb p => Sys2Proof.Machine.execVperm e vd va vb p s
  | .vslide e vd va vb k p => Sys2Proof.Machine.execVslide e vd va vb k p s
  | .vext e rd va k => Sys2Proof.Machine.execVext e rd va k s
  | .vins e vd ra k => Sys2Proof.Machine.execVins e vd ra k s
  | .vsplat e vd ra p => Sys2Proof.Machine.execVsplat e vd ra p s
  | .vrev e vd va p => Sys2Proof.Machine.execVrev e vd va p s
  | .vsplati e vd imm p => Sys2Proof.Machine.execVsplati e vd imm p s
  | .vput e vs rq second p => Sys2Proof.Machine.execVput e vs rq second p s
  | .cemit e vf ra rb => Sys2Proof.Machine.execCemit e vf ra rb s
  | .nop e => Sys2Proof.Machine.execNop e s
  | .waitline e => Sys2Proof.Machine.execWaitline e s
  | .halt e => Sys2Proof.Machine.execHalt e s
  | .break_ e => Sys2Proof.Machine.execBreak e s
  | .fence e => Sys2Proof.Machine.execFence e s
  | .mfs e rd n => Sys2Proof.Machine.execMfs e rd n s
  | .mts e n ra => Sys2Proof.Machine.execMts e n ra s
  | .millraceBlockReceived seg rx => Sys2Proof.Machine.execMillraceBlockReceived seg rx s
  | .millraceRetryTimeout seg => Sys2Proof.Machine.execMillraceRetryTimeout seg s
  | .segmentFailure seg => Sys2Proof.Machine.execSegmentFailure seg s
  | .restoreSegment w m => Sys2Proof.Machine.execRestoreSegment w m s
  | .csiReceiverEnable w on => Sys2Proof.Machine.execCsiReceiverEnable w on s
  | .csiReceiverOn => Sys2Proof.Machine.execCsiReceiverOn s
  | .csiFrameStart v num ecc => Sys2Proof.Machine.execCsiFrameStart v num ecc s
  | .csiFrameEnd v ecc => Sys2Proof.Machine.execCsiFrameEnd v ecc s
  | .csiLongPacket v dtype ecc crcOk samples => Sys2Proof.Machine.execCsiLongPacket v dtype ecc crcOk samples s
  | .csiEmbeddedData v ecc pkt => Sys2Proof.Machine.execCsiEmbeddedData v ecc pkt s
  | .csiLineShortPacket v ecc => Sys2Proof.Machine.execCsiLineShortPacket v ecc s
  | .auxFrameTimeout v => Sys2Proof.Machine.execAuxFrameTimeout v s
  | .auxStripeComplete waited => Sys2Proof.Machine.execAuxStripeComplete waited s
  | .perstRelease => Sys2Proof.Machine.execPerstRelease s
  | .configRequest isWrite off value be => Sys2Proof.Machine.execConfigRequest isWrite off value be s
  | .linkUp speed width margins => Sys2Proof.Machine.execLinkUp speed width margins s
  | .functionReset cause => Sys2Proof.Machine.execFunctionReset cause s
  | .d3hotEntry => Sys2Proof.Machine.execD3hotEntry s
  | .mailboxGo req => Sys2Proof.Machine.execMailboxGo req s
  | .doorbell off value => Sys2Proof.Machine.execDoorbell off value s
  | .msixModerationTimer v => Sys2Proof.Machine.execMsixModerationTimer v s
  | .ringEnable w r on => Sys2Proof.Machine.execRingEnable w r on s
  | .completionQueueEnable w on => Sys2Proof.Machine.execCompletionQueueEnable w on s
  | .descriptorFetchDone r ok ds => Sys2Proof.Machine.execDescriptorFetchDone r ok ds s
  | .descriptorFetchTimeout r => Sys2Proof.Machine.execDescriptorFetchTimeout r s
  | .bufferFlushTime r => Sys2Proof.Machine.execBufferFlushTime r s
  | .recordWritten => Sys2Proof.Machine.execRecordWritten s
  | .reachGrant w => Sys2Proof.Machine.execReachGrant w s
  | .reachExtend w => Sys2Proof.Machine.execReachExtend w s
  | .reachRevoke w => Sys2Proof.Machine.execReachRevoke w s
  | .reachWithdraw w => Sys2Proof.Machine.execReachWithdraw w s
  | .reachFlush w => Sys2Proof.Machine.execReachFlush w s
  | .reachRelease w => Sys2Proof.Machine.execReachRelease w s
  | .pageListReadDone ok addrs => Sys2Proof.Machine.execPageListReadDone ok addrs s
  | .pageReturnDone slot => Sys2Proof.Machine.execPageReturnDone slot s
  | .lookup w => Sys2Proof.Machine.execLookup w s
  | .lookupReadDone ok data => Sys2Proof.Machine.execLookupReadDone ok data s
  | .holdPlace w h => Sys2Proof.Machine.execHoldPlace w h s
  | .holdRelease w h => Sys2Proof.Machine.execHoldRelease w h s
  | .holdExpiry h => Sys2Proof.Machine.execHoldExpiry h s
  | .read w idx sub txn => Sys2Proof.Machine.execRead w idx sub txn s
  | .write w idx sub txn data => Sys2Proof.Machine.execWrite w idx sub txn data s
  | .begin_ w => Sys2Proof.Machine.execBegin w s
  | .commit w txn target data => Sys2Proof.Machine.execCommit w txn target data s
  | .rollback w txn => Sys2Proof.Machine.execRollback w txn s
  | .readSegment w idx sub txn off len => Sys2Proof.Machine.execReadSegment w idx sub txn off len s
  | .writeSegment w idx sub txn arg data => Sys2Proof.Machine.execWriteSegment w idx sub txn arg data s
  | .txnInactivityTimeout p => Sys2Proof.Machine.execTxnInactivityTimeout p s
  | .profileWrite w data => Sys2Proof.Machine.execProfileWrite w data s
  | .profileStoreDone ok => Sys2Proof.Machine.execProfileStoreDone ok s
  | .integratorStoreDone ok => Sys2Proof.Machine.execIntegratorStoreDone ok s
  | .enableTx serial src seq => Sys2Proof.Machine.execEnableTx serial src seq s
  | .posreportReceived serial body => Sys2Proof.Machine.execPosreportReceived serial body s
  | .notifyReceived => Sys2Proof.Machine.execNotifyReceived s
  | .barrierAbortReceived serial seq system => Sys2Proof.Machine.execBarrierAbortReceived serial seq system s
  | .beaconTimeout => Sys2Proof.Machine.execBeaconTimeout s
  | .silenceTimeout => Sys2Proof.Machine.execSilenceTimeout s
  | .frameTransmit collisions => Sys2Proof.Machine.execFrameTransmit collisions s
  | .sluiceParticipation w on => Sys2Proof.Machine.execSluiceParticipation w on s
  | .barrierPass edge near => Sys2Proof.Machine.execBarrierPass edge near s
  | .sluicePullLow => Sys2Proof.Machine.execSluicePullLow s
  | .barrierTimerExpiry => Sys2Proof.Machine.execBarrierTimerExpiry s
  | .abortBarrier w => Sys2Proof.Machine.execAbortBarrier w s
  | .abortRepeat => Sys2Proof.Machine.execAbortRepeat s
  | .lockstepEvaluation => Sys2Proof.Machine.execLockstepEvaluation s
  | .clearLockstepFault w => Sys2Proof.Machine.execClearLockstepFault w s
  | .twtRequest code data ending => Sys2Proof.Machine.execTwtRequest code data ending s
  | .twtStateRead n => Sys2Proof.Machine.execTwtStateRead n s
  | .twtResponseRead n => Sys2Proof.Machine.execTwtResponseRead n s
  | .twtIdentRead n => Sys2Proof.Machine.execTwtIdentRead n s
  | .twtPointerRead n => Sys2Proof.Machine.execTwtPointerRead n s
  | .twtPointerWrite ptr data ending => Sys2Proof.Machine.execTwtPointerWrite ptr data ending s
  | .twtStretchAbandon => Sys2Proof.Machine.execTwtStretchAbandon s
  | .twtBusTimeout => Sys2Proof.Machine.execTwtBusTimeout s
  | .twtWake => Sys2Proof.Machine.execTwtWake s
  | .twcEnable w on => Sys2Proof.Machine.execTwcEnable w on s
  | .twcBusReady => Sys2Proof.Machine.execTwcBusReady s
  | .twcRun w j => Sys2Proof.Machine.execTwcRun w j s
  | .twcCancel w j => Sys2Proof.Machine.execTwcCancel w j s
  | .twcPeriodicTrigger j => Sys2Proof.Machine.execTwcPeriodicTrigger j s
  | .twcJobStart => Sys2Proof.Machine.execTwcJobStart s
  | .twcJobComplete result data => Sys2Proof.Machine.execTwcJobComplete result data s
  | .twcArbitrationLost => Sys2Proof.Machine.execTwcArbitrationLost s
  | .twcStretchTimeout => Sys2Proof.Machine.execTwcStretchTimeout s
  | .twcBusClear high => Sys2Proof.Machine.execTwcBusClear high s
  | .twcStuckWaitExpiry => Sys2Proof.Machine.execTwcStuckWaitExpiry s
  | .twcClearFailure w => Sys2Proof.Machine.execTwcClearFailure w s
  | .calsetStore w => Sys2Proof.Machine.execCalsetStore w s
  | .calsetEraseDone ok => Sys2Proof.Machine.execCalsetEraseDone ok s
  | .calsetProgramDone ok => Sys2Proof.Machine.execCalsetProgramDone ok s
  | .calsetHeaderDone ok => Sys2Proof.Machine.execCalsetHeaderDone ok s
  | .startDark w => Sys2Proof.Machine.execStartDark w s
  | .startFlat w => Sys2Proof.Machine.execStartFlat w s
  | .procedureAbort w => Sys2Proof.Machine.execProcedureAbort w s
  | .accept w => Sys2Proof.Machine.execAccept w s
  | .discard w => Sys2Proof.Machine.execDiscard w s
  | .procedureEvaluationDone => Sys2Proof.Machine.execProcedureEvaluationDone s
  | .operatingHour hot => Sys2Proof.Machine.execOperatingHour hot s
  | .hoursRecord => Sys2Proof.Machine.execHoursRecord s
  | .ageingSample ms => Sys2Proof.Machine.execAgeingSample ms s
  | .sensorDriftPeriod => Sys2Proof.Machine.execSensorDriftPeriod s
  | .scheduledReplan => Sys2Proof.Machine.execScheduledReplan s
  | .replanRequest w => Sys2Proof.Machine.execReplanRequest w s
  | .replanDone => Sys2Proof.Machine.execReplanDone s
  | .sensorReading n count => Sys2Proof.Machine.execSensorReading n count s
  | .valuePeriod => Sys2Proof.Machine.execValuePeriod s
  | .throttleStepTimer => Sys2Proof.Machine.execThrottleStepTimer s
  | .thermalRestart w => Sys2Proof.Machine.execThermalRestart w s
  | .clearSensorFailures w m => Sys2Proof.Machine.execClearSensorFailures w m s
  | .adcStart w => Sys2Proof.Machine.execAdcStart w s
  | .adcStop w => Sys2Proof.Machine.execAdcStop w s
  | .adcCalibrate w => Sys2Proof.Machine.execAdcCalibrate w s
  | .adcCalComplete offset gain => Sys2Proof.Machine.execAdcCalComplete offset gain s
  | .adcSlotComplete codes => Sys2Proof.Machine.execAdcSlotComplete codes s
  | .adcClearLatch w ch m => Sys2Proof.Machine.execAdcClearLatch w ch m s
  | .domainRequest w n v => Sys2Proof.Machine.execDomainRequest w n v s
  | .domainStartComplete n pads => Sys2Proof.Machine.execDomainStartComplete n pads s
  | .domainStartTimeout n => Sys2Proof.Machine.execDomainStartTimeout n s
  | .domainStopComplete n => Sys2Proof.Machine.execDomainStopComplete n s
  | .railUndervoltage rail => Sys2Proof.Machine.execRailUndervoltage rail s
  | .clearRailFaults w m => Sys2Proof.Machine.execClearRailFaults w m s
  | .chargerCurrentStep => Sys2Proof.Machine.execChargerCurrentStep s
  | .chargerSafetyTimer => Sys2Proof.Machine.execChargerSafetyTimer s
  | .chargeTermination => Sys2Proof.Machine.execChargeTermination s
  | .chargerFaultTimer bit => Sys2Proof.Machine.execChargerFaultTimer bit s
  | .chargerFaultRead w => Sys2Proof.Machine.execChargerFaultRead w s
  | .recharge w => Sys2Proof.Machine.execRecharge w s
  | .storeBelowReserve => Sys2Proof.Machine.execStoreBelowReserve s
  | .handover mv => Sys2Proof.Machine.execHandover mv s
  | .handoverLineDeadline => Sys2Proof.Machine.execHandoverLineDeadline s
  | .lossRecordProgrammed ok => Sys2Proof.Machine.execLossRecordProgrammed ok s
  | .storeCutoff => Sys2Proof.Machine.execStoreCutoff s
  | .goodTimerExpiry => Sys2Proof.Machine.execGoodTimerExpiry s
  | .standby w => Sys2Proof.Machine.execStandby w s
  | .coldReset straps => Sys2Proof.Machine.execColdReset straps s
  | .warmReset => Sys2Proof.Machine.execWarmReset s
  | .warmResetCommand w => Sys2Proof.Machine.execWarmResetCommand w s
  | .sup1Heartbeat => Sys2Proof.Machine.execSup1Heartbeat s
  | .watchdogExpiry => Sys2Proof.Machine.execWatchdogExpiry s
  | .otpIntegrityCheckDone reads answered vaonOk => Sys2Proof.Machine.execOtpIntegrityCheckDone reads answered vaonOk s
  | .imageVerificationDone bootsel flashOk => Sys2Proof.Machine.execImageVerificationDone bootsel flashOk s
  | .calsetLoadDone profileIntact => Sys2Proof.Machine.execCalsetLoadDone profileIntact s
  | .otpRead w => Sys2Proof.Machine.execOtpRead w s
  | .otpReadDone => Sys2Proof.Machine.execOtpReadDone s
  | .region7Program w => Sys2Proof.Machine.execRegion7Program w s
  | .region7WriteCheck w => Sys2Proof.Machine.execRegion7WriteCheck w s
  | .region7Seal w => Sys2Proof.Machine.execRegion7Seal w s
  | .fusePulseDone ok => Sys2Proof.Machine.execFusePulseDone ok s
  | .reburn => Sys2Proof.Machine.execReburn s
  | .lockRegisterWrite w v => Sys2Proof.Machine.execLockRegisterWrite w v s
  | .advanceSecurityVersion w => Sys2Proof.Machine.execAdvanceSecurityVersion w s
  | .firmwareErase w => Sys2Proof.Machine.execFirmwareErase w s
  | .firmwareEraseDone => Sys2Proof.Machine.execFirmwareEraseDone s
  | .firmwareDataWrite w data => Sys2Proof.Machine.execFirmwareDataWrite w data s
  | .firmwareVerify w => Sys2Proof.Machine.execFirmwareVerify w s
  | .firmwareVerifyDone flashOk => Sys2Proof.Machine.execFirmwareVerifyDone flashOk s
  | .extest resetLow => Sys2Proof.Machine.execExtest resetLow s
  | .samplePreload pads => Sys2Proof.Machine.execSamplePreload pads s
  | .idcode => Sys2Proof.Machine.execIdcode s
  | .highz resetLow => Sys2Proof.Machine.execHighz resetLow s
  | .clamp resetLow => Sys2Proof.Machine.execClamp resetLow s
  | .otpCause => Sys2Proof.Machine.execOtpCause s
  | .bypass => Sys2Proof.Machine.execBypass s
  | .dbgChallenge nonce => Sys2Proof.Machine.execDbgChallenge nonce s
  | .dbgResponse scope key sig => Sys2Proof.Machine.execDbgResponse scope key sig s
  | .unlockRetryDelayExpiry => Sys2Proof.Machine.execUnlockRetryDelayExpiry s
  | .dbgSetAddr a => Sys2Proof.Machine.execDbgSetAddr a s
  | .dbgRead => Sys2Proof.Machine.execDbgRead s
  | .dbgWrite v => Sys2Proof.Machine.execDbgWrite v s
  | .dbgHalt target => Sys2Proof.Machine.execDbgHalt target s
  | .dbgResume target => Sys2Proof.Machine.execDbgResume target s
  | .dbgStep target => Sys2Proof.Machine.execDbgStep target s
  | .dbgSetBp target n a => Sys2Proof.Machine.execDbgSetBp target n a s
  | .dbgClrBp target n => Sys2Proof.Machine.execDbgClrBp target n s
  | .dictPut v => Sys2Proof.Machine.execDictPut v s
  | .dictGet => Sys2Proof.Machine.execDictGet s
  | .tapReset => Sys2Proof.Machine.execTapReset s
  | .endSession w => Sys2Proof.Machine.execEndSession w s
  | .illegalInstruction e x => Sys2Proof.Machine.execIllegalInstruction e x s
  | .plcaBeacon => Sys2Proof.Machine.execPlcaBeacon s
  | .frameIgnored fcsOk => Sys2Proof.Machine.execFrameIgnored fcsOk s
  | .csiReceiverStopped => Sys2Proof.Machine.execCsiReceiverStopped s
  | .firmwareProgramDone => Sys2Proof.Machine.execFirmwareProgramDone s
  | .goodThresholdCrossing up => Sys2Proof.Machine.execGoodThresholdCrossing up s
  | .railGood rail => Sys2Proof.Machine.execRailGood rail s
  | .aerError uncorrectable => Sys2Proof.Machine.execAerError uncorrectable s
  | .sdaLowWhileIdle => Sys2Proof.Machine.execSdaLowWhileIdle s

end Sys2Proof.Machine
end

