-- ==== Sys2Proof/Machine/Encode.lean ====
section
/-!
DEFINITION. The word of each Grixis instruction (R214 to R229): opcode in [31:26], destination in [25:21], sources in [20:16]
and [15:11], the rest in [10:0]; reserved fields are 0. Also which operands a word can carry.
-/
namespace Sys2Proof.Machine

/-- A word from its opcode, its three five-bit fields and its low 11 bits. -/
def wordOf (op rd ra rb lo : Nat) : Word := BitVec.ofNat 32 (op * 2 ^ 26 + rd * 2 ^ 21 + ra * 2 ^ 16 + rb * 2 ^ 11 + lo)

/-- Function code of a scalar operation (R215). -/
def AluOp.code : AluOp → Nat
  | .add => 0 | .sub => 1 | .and => 2 | .or => 3 | .xor => 4 | .sll => 5 | .srl => 6 | .sra => 7 | .slt => 8
  | .sltu => 9 | .min => 10 | .max => 11 | .minu => 12 | .maxu => 13 | .mul => 14 | .mulh => 15 | .mulhu => 16

/-- Opcode of the immediate form of an operation, 0 where it has none (R216). -/
def AluOp.immCode : AluOp → Nat
  | .add => 1 | .and => 2 | .or => 3 | .xor => 4 | .slt => 5 | .sltu => 6 | _ => 0

/-- Opcode of the immediate shift of an operation, 0 where it has none (R216). -/
def AluOp.shiftCode : AluOp → Nat
  | .sll => 7 | .srl => 8 | .sra => 9 | _ => 0

/-- Opcode of a branch (R217). -/
def BrCond.code : BrCond → Nat
  | .eq => 0x10 | .ne => 0x11 | .lt => 0x12 | .ge => 0x13 | .ltu => 0x14 | .geu => 0x15

/-- Opcode of a load (R219). -/
def MemOp.loadCode : MemOp → Nat
  | .w => 0x20 | .h => 0x21 | .hu => 0x22 | .b => 0x23 | .bu => 0x24

/-- Opcode of a store, 0 where there is none (R219). -/
def MemOp.storeCode : MemOp → Nat
  | .w => 0x25 | .h => 0x26 | .b => 0x27 | _ => 0

/-- Function code of a vector operation (R220). -/
def VOp.code : VOp → Nat
  | .add => 0 | .sub => 1 | .adds => 2 | .subs => 3 | .addss => 4 | .subss => 5 | .absd => 6 | .avg => 7
  | .minu => 8 | .maxu => 9 | .min => 10 | .max => 11 | .and => 12 | .or => 13 | .xor => 14 | .andn => 15
  | .shl => 16 | .shr => 17 | .sra => 18 | .mul => 19 | .mulhu => 20 | .mulhs => 21 | .sel => 22 | .mov => 23

/-- Code of a compare condition (R221). -/
def VCond.code : VCond → Nat
  | .eq => 0 | .ne => 1 | .ltu => 2 | .leu => 3 | .gtu => 4 | .geu => 5 | .lt => 6 | .le => 7 | .gt => 8 | .ge => 9

/-- Function code of a predicate operation (R222). -/
def POp.code : POp → Nat
  | .and => 0 | .or => 1 | .xor => 2 | .andn => 3

/-- Function code of a multiply-accumulate operation (R223). -/
def MacOp.code : MacOp → Nat
  | .macu => 0 | .macs => 1 | .macsu => 2 | .msuu => 3 | .msus => 4 | .mulu => 5 | .mulsu => 6

/-- Function code of a reduction (R225). -/
def RedOp.code : RedOp → Nat
  | .sum => 0 | .sums => 1 | .maxu => 2 | .minu => 3 | .maxix => 4 | .minix => 5

/-- The vector or scalar form of an opcode, and the field of its second source. -/
def srcForm (op : Nat) : VSrc → Nat × Nat
  | .vec r => (op, r)
  | .scalar r => (op + 1, r)

/-- The guard in [10:8] and a function code in [7:0]. -/
def guarded (p : Fin 8) (f : Nat) : Nat := 256 * p + f

/-- The word of an instruction. -/
def encodeWord : GOp → Word
  | .alu f rd ra rb => wordOf 0 rd ra rb f.code
  | .imm f rd ra i => wordOf f.immCode rd ra 0 i.toNat
  | .shift f rd ra sh => wordOf f.shiftCode rd ra 0 sh.toNat
  | .lui rd i => BitVec.ofNat 32 (0x0A * 2 ^ 26 + rd * 2 ^ 21 + i.toNat)
  | .branch c ra rb i => wordOf c.code 0 ra rb i.toNat
  | .jal rd i => BitVec.ofNat 32 (0x16 * 2 ^ 26 + rd * 2 ^ 21 + i.toNat)
  | .jalr rd ra i => wordOf 0x17 rd ra 0 i.toNat
  | .loop ra n => wordOf 0x18 0 ra 0 n.toNat
  | .loopi count n => BitVec.ofNat 32 (0x19 * 2 ^ 26 + count.toNat * 2 ^ 16 + n.toNat)
  | .load k rd ra i => wordOf k.loadCode rd ra 0 i.toNat
  | .store k rs ra i => wordOf k.storeCode 0 ra rs i.toNat
  | .vld vd ra i => wordOf 0x28 vd ra 0 i.toNat
  | .vst vs ra i => wordOf 0x29 0 ra vs i.toNat
  | .valu f vd va b p => let x := srcForm 0x2C b; wordOf x.1 vd va x.2 (guarded p f.code)
  | .vcmp c pd va b g => let x := srcForm 0x2E b; wordOf x.1 pd va x.2 (guarded g c.code)
  | .wld vd sa sec off sh => wordOf 0x30 vd sa 0 ((if sec then 1024 else 0) + 64 * off.toNat + sh.toNat)
  | .mac f ad va b p => let x := srcForm 0x31 b; wordOf x.1 ad va x.2 (guarded p f.code)
  | .aclr ad p => wordOf 0x33 ad 0 0 (guarded p 0)
  | .vrnd signed vd ad sh p => wordOf 0x33 vd ad sh.toNat (guarded p (if signed then 2 else 1))
  | .vtoa signed ad va p => wordOf 0x33 ad va 0 (guarded p (if signed then 4 else 3))
  | .red f sd va p => wordOf 0x34 sd va 0 (guarded p f.code)
  | .vrsuma sd ad p => wordOf 0x34 sd ad 0 (guarded p 6)
  | .vperm vd va vb p => wordOf 0x35 vd va vb (guarded p 0)
  | .vslide vd va vb k p => wordOf 0x35 vd va vb (guarded p (16 * k + 1))
  | .vext sd va k => wordOf 0x35 sd va 0 (16 * k + 2)
  | .vins vd sa k => wordOf 0x35 vd sa 0 (16 * k + 3)
  | .vsplat vd sa p => wordOf 0x35 vd sa 0 (guarded p 4)
  | .vrev vd va p => wordOf 0x35 vd va 0 (guarded p 5)
  | .vsplati vd i p => BitVec.ofNat 32 (0x36 * 2 ^ 26 + vd * 2 ^ 21 + p * 2 ^ 16 + i.toNat)
  | .pred f pd pa pb => wordOf 0x38 pd pa pb f.code
  | .pnot pd pa => wordOf 0x38 pd pa 0 4
  | .mtp pd sa => wordOf 0x38 pd sa 0 5
  | .mfp sd pa => wordOf 0x38 sd pa 0 6
  | .pcnt sd pa => wordOf 0x38 sd pa 0 7
  | .pfirst sd pa => wordOf 0x38 sd pa 0 8
  | .plast sd pa => wordOf 0x38 sd pa 0 9
  | .vput vs sq o p => wordOf 0x3C vs sq (if o then 1 else 0) (guarded p 0)
  | .cemit vf sa sb => wordOf 0x3C vf sa sb 1
  | .nop => wordOf 0x3F 0 0 0 0
  | .waitline => wordOf 0x3F 0 0 0 1
  | .halt => wordOf 0x3F 0 0 0 2
  | .brk => wordOf 0x3F 0 0 0 3
  | .fence => wordOf 0x3F 0 0 0 4
  | .mfs sd n => wordOf 0x3F sd n.toNat 0 8
  | .mts n sa => wordOf 0x3F n.toNat sa 0 9

/-- A word can carry the operands: an immediate form, shift or store exists for the operation, VMOV names no second source
but a scalar, the line offset is -4 to 4, and the special register exists. -/
def GOp.encodable : GOp → Bool
  | .imm f _ _ _ => f.immCode ≠ 0
  | .shift f _ _ _ => f.shiftCode ≠ 0
  | .store k _ _ _ => k.storeCode ≠ 0
  | .valu f _ _ b _ => f ≠ .mov || (match b with | .vec r => r = 0 | .scalar _ => true)
  | .wld _ _ _ off _ => legalOff off
  | .mfs _ n => n.toNat ≤ 5
  | .mts n _ => n = 0
  | _ => true

end Sys2Proof.Machine
end

