-- ==== Sys2Proof/Machine/Pads.lean ====
section
/-!
DEFINITION. Levels of the device's own pads as they follow from its state (R429, R440, R441, R464, R477, R484). `none` is high
impedance.
-/
namespace Sys2Proof.Machine

/-- READY is high only while the device state is `READY` (R464). -/
def State.readyPad (s : State) : Bool := decide (2 ≤ s.boot.step) && s.boot.step ≠ 5 && s.is 0x102001 dsReady

/-- FAULTn is driven low: until step 2 has passed, in an integrity hold, in `RESTRICTED` and `SHUTDOWN`, and while a rail fault stands
(R464); otherwise it is released. -/
def State.faultnLow (s : State) : Bool :=
  s.boot.step = 1 || s.boot.step = 5
    || (s.boot.step ≠ 0 && (s.is 0x102001 dsRestricted || s.is 0x102001 dsShutdown || s.n 0x148002 ≠ 0))

/-- The device runs from the store: in hand-over and hold-up, and in standby after an input failure (R440, R444). -/
def State.onStore (s : State) : Bool := s.is 0x152005 1 || s.is 0x152005 2 || (s.is 0x152005 4 && s.pow.onStore)

/-- PP_GATE conducts unless the device runs from the store; PD0 holds it conducting while PD13 is off (R429, R440, R441). -/
def State.ppGate (s : State) : Bool := !s.pdOn 13 || !s.onStore

/-- ST_GATE conducts while the device runs from the store (R440, R441); PD0 holds it off while PD13 is off (R429). -/
def State.stGate (s : State) : Bool := s.pdOn 13 && s.onStore

/-- CHG_GATE is on in the charging states (R437); it is off while PD13 is (R429). -/
def State.chgGate (s : State) : Bool := s.pdOn 13 && s.charging

/-- The timing outputs are driven: PD14 is on and its I/O supply good (R477, R484). -/
def State.timingOut (s : State) : Bool := s.boot.step ≠ 0 && s.pdOn 14 && s.bit 0x148001 3

/-- TRIG_OUT (R58). -/
def State.trigOutPad (s : State) : Option Bool := if s.timingOut then some s.pos.trigOut else none

/-- STROBE0 to STROBE5 (R71, R89). -/
def State.strobeOut (s : State) (k : Nat) : Option Bool := if s.timingOut then s.strobePad k else none

/-- SLUICE is pulled low by this head; otherwise it is released (R341). -/
def State.sluiceLow (s : State) : Bool := s.timingOut && s.net.low

end Sys2Proof.Machine
end

