-- ==== Sys2Proof/Safety.lean ====
section
/-!
DEFINITION. The terms claims are stated in: the canonical forms of the state, the states in which the device does not run, a
request that is served at once and what answers it, an engine that executes in sequence, and what a claim's state leaves as it
was.
-/
namespace Sys2Proof.Safety
open Sys2Proof.Machine

/-! ### The state as a whole -/

/-- The store of scalar objects is in canonical form: keys rise strictly, and no entry equals its default. -/
def objsCanonical (l : List (Nat × Int)) : Bool := mapSorted l && l.all fun p => p.2 ≠ objDefault p.1

/-- The store of BLOB objects is in canonical form. -/
def blobsCanonical (l : List (Nat × List Nat)) : Bool := mapSorted l && l.all fun p => p.2 ≠ blobDefault p.1

/-- Every engine's data memory is in canonical form. -/
def memoriesOk (s : State) : Bool := s.eng.engs.all fun p => Memory.wf p.2.dmem

/-- The integrity hold (R457): nothing but a cold reset leaves it. -/
def integrityHold (s : State) : Prop := s.boot.step = 5

/-- The command is one of the test access port (R469, R470, R471). -/
def isTap : Instr → Bool
  | .extest _ | .samplePreload _ | .idcode | .highz _ | .clamp _ | .otpCause | .bypass | .dbgChallenge _
  | .dbgResponse _ _ _ | .dbgSetAddr _ | .dbgRead | .dbgWrite _ | .dbgHalt _ | .dbgResume _ | .dbgStep _
  | .dbgSetBp _ _ _ | .dbgClrBp _ _ | .dictPut _ | .dictGet | .tapReset => true
  | _ => false

/-- The command is the cold reset. -/
def isColdReset : Instr → Bool
  | .coldReset _ => true
  | _ => false

/-- Objects that keep their value from one state to another: all but those listed, the log's counters, the event queue's
indices and the bytes written to the host. -/
def objectsKept (but : List Nat) (s t : State) : Prop :=
  ∀ k, k ∉ but →
    k ∉ [0x780002, 0x780003, 0x780006, 0x50000B, 0x503104, 0x503106] → ¬(0x781000 ≤ k ∧ k ≤ 0x78100F) → t.o k = s.o k

/-! ### Requests (R302 to R308, R320, R370) -/

/-- The request of a plain write. -/
def writeOf (k : Nat) (bs : List Nat) : DReq := { op := 2, key := k, len := bs.length, txn := 0, arg := 0, data := bs }

/-- The request of a plain read. -/
def readOf (k : Nat) : DReq := { op := 1, key := k, len := 0, txn := 0, arg := 0, data := [] }

/-- The sender's port takes a request: 0 a debug session with its scope, 1 the link up and the mailbox not busy, 2 an active
port and its partner, with a SEQ not answered before, 3 no request in service. -/
def portTakes (s : State) (w : Sender) (r : DReq) : Bool :=
  match w.port with
  | 0 => s.session && s.bit 0x682003 0
  | 1 => s.pcieOn && !s.is 0x500001 0 && s.host.mbState ≠ 1
  | 2 => !s.is 0x540002 0 && !(s.is 0x540002 3 && s.net.lostT = some s.now) && w.src = s.n 0x540005 && s.b 0x540001 && !s.net.txOff
      && !(s.net.cache.any fun c => c.1 = w.seq && c.2.1 = r.op)
  | 3 => s.boot.step ≠ 0 && s.boot.step ≠ 1 && s.boot.step ≠ 5 && s.two.twState ≠ 1

/-- The port has taken the request. -/
def atPort (s : State) (w : Sender) (r : DReq) : State :=
  match w.port with
  | 0 => s
  | 1 => { s with host := { s.host with mbReq := r.mailbox, mbState := 1 } }.bump 0x500802
  | 2 => s.netRx
  | 3 => { s with two := { s.two with twState := 1, twResp := [] } }

/-- The state in which the dictionary serves the request: its port has taken it, and an assembly of another operation on the
port is dropped (R306). -/
def taken (s : State) (w : Sender) (r : DReq) : State :=
  if r.op = 1 || r.op = 6 || r.op = 7 then atPort s w r else (atPort s w r).dropAsmBuf w.port

/-- The request as it waits on its port. -/
def waiterOf (w : Sender) (r : DReq) : Waiter := { port := w.port, seq := if w.port = 2 then w.seq else 0, req := r }

/-- What answers a request with a result: the response on its port, and what waited is served. -/
def reply (w : Sender) (r : DReq) (x : OpRes) : State := ((x.respond w.port r).framed (waiterOf w r)).serveWaiting

/-- A command's answer: `OK` with no data, over the state `t` that the command leaves. -/
def replyOk (w : Sender) (r : DReq) (t : State) : State := reply w r { status := stOk, ids := none, data := [], next := t }

/-- A value has been written in force, leaving `x`: what depends on it follows, from the next line on, and the write counts as a
commit (R304, R313). -/
def applied (q : State) (k : Nat) (bs : List Nat) (x : State) : State := (q.effects x [(k, bs)] q.nextLine).noteCommit [k]

/-- The device runs, and the request is served at once: the port takes it, SUP1 runs or the port is the debug port, and the
state of the device lets the port be served. -/
structure Served (s : State) (w : Sender) (r : DReq) : Prop where
  runs : s.alive = true
  port : portTakes s w r = true
  sup1 : s.dbg.sup1 = false ∨ w.port = 0
  gate : (taken s w r).gate w.port r = true

/-- A plain write is served and passes the first steps of R302, to `LOCKED`. -/
structure Checked (s : State) (w : Sender) (k : Nat) (bs : List Nat) : Prop extends Served s w (writeOf k bs) where
  checks : (taken s w (writeOf k bs)).writeStatus k bs false = stOk

/-- A plain write is served and passes every step of R302. -/
structure Accepted (s : State) (w : Sender) (k : Nat) (bs : List Nat) : Prop extends Checked s w k bs where
  permits : ∀ row, findRow k = some row → (taken s w (writeOf k bs)).stateStatus k row bs = stOk

/-! ### Grixis engines (R201, R210) -/

/-- Engine `e` executes an instruction now, and the next word in sequence lies in its image. -/
structure Executes (s : State) (e : Nat) : Prop where
  runs : s.alive = true
  engine : s.gRuns e = true
  inside : (loopNext (s.engine e).pc (s.engine e).loops).1 < s.codeWords

/-- Engine `e` with its registers as `x`, control in sequence, and cycles counted. -/
def retired (s : State) (e : Nat) (x : Engine) (cycles : Nat) : State :=
  let en := s.engine e
  let n := loopNext en.pc en.loops
  s.setEngine e { x with pc := n.1, loops := n.2, cycles := en.cycles + cycles, skipBp := false }

/-- Engine `e` with its registers as `x`, control at a word, and cycles counted. -/
def jumped (s : State) (e : Nat) (x : Engine) (pc : Nat) (loops : List GLoop) (cycles : Nat) : State :=
  s.setEngine e { x with pc, loops, cycles := (s.engine e).cycles + cycles, skipBp := false }

/-- Only engine `e` may have changed among the engines. -/
def otherEnginesKept (e : Nat) (s t : State) : Prop := ∀ j, j ≠ e → t.engine j = s.engine j

end Sys2Proof.Safety
end

