-- ==== Sys2Proof/Certificates/Slice0/Obligations.lean ====
section
/-!
DEFINITION. The statements about this machine that the provers prove.
-/
open Sys2Proof Sys2Proof.Machine Sys2Proof.Safety

/-! ### The block as a whole -/

/-- A step takes the command at the front of the queue: it is that command's effect on the state with the queue's rest. With nothing in
the queue one tick of the timing clock passes, L1 entry is requested if it comes to be allowed, and nothing else changes; without
power and in standby the clock stands (the model's choices, log entries 1 and 111). A command that is pushed waits in front. -/
def Obligations.AStepRunsTheCommandInFront : Prop :=
  (∀ (s : State) (c : Instr) (rest : List Instr), s.pending = c :: rest → step s = exec c { s with pending := rest })
  ∧ (∀ s : State, s.pending = [] → s.boot.step ≠ 0 → s.o 0x152005 ≠ 4 → step s = .next { s with
      now := s.now + 1
      host := { s.host with l1 := s.mayEnterL1 }
      out := s.out ++ if s.mayEnterL1 && !s.host.l1 then [Out.l1Request] else [] })
  ∧ (∀ s : State, s.pending = [] → s.boot.step = 0 ∨ s.o 0x152005 = 4 → step s = .next s)
  ∧ (∀ (s : State) (c : Instr), step (s.push c) = exec c s)

/-- The reset state: nothing waits, start-up is at its first step, the objects hold the defaults of their tables with PD0 on and PD13
starting, and the stores of the state are in canonical form. -/
def Obligations.ResetHoldsTheDefaults : Prop :=
  State.reset.pending = [] ∧ State.reset.alive = true ∧ State.reset.boot.step = 1
  ∧ objsCanonical State.reset.objs = true ∧ blobsCanonical State.reset.blobs = true ∧ memoriesOk State.reset = true
  ∧ State.reset.pd 0 = pdOnState ∧ State.reset.pd 13 = pdStarting
  ∧ (∀ n ∈ List.range 80, n ≠ 0 → n ≠ 13 → State.reset.pd n = pdOff)
  ∧ (∀ p ∈ [(0x102001, 0), (0x202002, 1024), (0x204002, 0), (0x320006, 0), (0x640004, 438), (0x148001, 0x1FF), (0x150007, 8),
      (0x780001, 1024), (0x780002, 0), (0x7C0001, 10), (0x7C0002, 2), (0x7C0007, 0), (0x545001, 0), (0x580002, 0)],
      State.reset.o p.1 = (p.2 : Int))

/-- Every command answers a next state, in every state: it leaves the queue as it is, and time does not run back but by a cold reset. -/
def Obligations.EveryCommandGoesOnWithTheQueueKept : Prop :=
  ∀ (c : Instr) (s : State), ∃ t, exec c s = .next t ∧ t.pending = s.pending ∧ (isColdReset c = false → s.now ≤ t.now)

/-- R457: nothing but a cold reset leaves an integrity hold. From every state in the hold, with no session and nothing waiting, a step
that takes another command answers a state in the hold, with every object, engine, fuse and record as it was; a command that is none
of the TAP's changes nothing at all, and a tick of the idle block holds no request of L1. -/
def Obligations.AnIntegrityHoldEndsOnlyByAColdReset : Prop :=
  ∀ s t : State, integrityHold s → s.session = false → s.dict.waiting = [] → step s = .next t →
    (∀ c rest, s.pending = c :: rest → isColdReset c = false) →
    integrityHold t ∧ t.session = false ∧ t.dict.waiting = [] ∧ t.pending = s.pending.tail
    ∧ t.objs = s.objs ∧ t.blobs = s.blobs ∧ t.boot = s.boot ∧ t.pos = s.pos ∧ t.arr = s.arr ∧ t.conv = s.conv ∧ t.rcb = s.rcb
    ∧ t.pipe = s.pipe ∧ t.eng = s.eng ∧ t.conf = s.conf ∧ t.dict = s.dict
    ∧ t.host = (if s.pending = [] ∧ s.o 0x152005 ≠ 4 then { s.host with l1 := false } else s.host) ∧ t.net = s.net ∧ t.two = s.two
    ∧ t.cal = s.cal ∧ t.therm = s.therm ∧ t.pow = s.pow ∧ t.otp = s.otp
    ∧ (∀ c rest, s.pending = c :: rest → isTap c = false → t = { s with pending := rest })
    ∧ (s.pending = [] → t.out = s.out)

/-- R214 to R229: the word of every instruction that a word can carry decodes to that instruction, and every word that decodes is the
word of its instruction: no bit of an encoding is dropped, and a reserved field that is not zero is illegal. Erased flash is
illegal. -/
def Obligations.WordsAndInstructionsAgree : Prop :=
  (∀ op : GOp, op.encodable = true → decodeWord (encodeWord op) = some op)
  ∧ (∀ (w : Word) (op : GOp), decodeWord w = some op → op.encodable = true ∧ encodeWord op = w)
  ∧ decodeWord 0xFFFFFFFF = none

/-- R183, R219: the data memory of every engine stays in canonical form under every instruction that stores, whether it completes or
raises an exception: addresses rise, and no byte that reads 0 is listed. -/
def Obligations.StoresKeepDataMemoryCanonical : Prop :=
  ∀ (s t : State) (e : Fin 192) (ra : Fin 16) (i : BitVec 11), memoriesOk s = true →
    (∀ rs, exec (.sw e rs ra i) s = .next t → memoriesOk t = true)
    ∧ (∀ rs, exec (.sh e rs ra i) s = .next t → memoriesOk t = true)
    ∧ (∀ rs, exec (.sb e rs ra i) s = .next t → memoriesOk t = true)
    ∧ (∀ vs, exec (.vst e vs ra i) s = .next t → memoriesOk t = true)

/-- R325: every event raised while PD2 is on enters the log under the next sequence number, with its line and section; a full log loses
its oldest entry; its class is counted; and nothing but the log, its counters, the event queue and the frames that wait is changed.
Before PD2 is on, up to 16 events are held. -/
def Obligations.EventsEnterTheLog : Prop :=
  ∀ (s : State) (code seg elem : Nat) (data : Int), 0x0100 ≤ code → code ≤ 0x0FFF →
    let t := s.raiseAt code seg elem data
    let e : LogEntry := { seq := s.n 0x780002, code, seg, elem, line := s.n 0x202003, section_ := s.n 0x202004, data := wrapU 64 data }
    (s.pdOn 2 = true →
      t.dict.log = (if s.dict.log.length < 1024 then s.dict.log else s.dict.log.drop 1) ++ [e]
      ∧ (s.dict.log.length ≤ 1024 → t.dict.log.length ≤ 1024)
      ∧ t.o 0x780002 = (s.o 0x780002 + 1) % 2 ^ 64
      ∧ t.o (0x781000 + code / 256) = min (s.o (0x781000 + code / 256) + 1) (2 ^ 32 - 1)
      ∧ objectsKept [] s t ∧ t.blobs = s.blobs ∧ t.pos = s.pos ∧ t.pipe = s.pipe ∧ t.eng = s.eng ∧ t.conf = s.conf ∧ t.cal = s.cal
      ∧ t.pow = s.pow ∧ t.otp = s.otp ∧ t.boot = s.boot ∧ t.now = s.now ∧ (s.o 0x503103 = 0 → t.host = s.host))
    ∧ (s.pdOn 2 = false → s.boot.step ≠ 3 →
      t = if s.boot.held.length < 16 then { s with boot := { s.boot with held := s.boot.held ++ [{ e with seq := 0 }] } } else s)

/-! ### Position keeping, run control and arrays (R18 to R90) -/

/-- R19 to R22: what the edges and the losses of an encoder leave. An edge of a channel that is not lost sets its filtered level: a Z
edge that qualifies and rises counts an index, and one that is the epoch source's sets an armed epoch or is counted as unarmed; an A
or B edge opens a decoder step, or is counted in the open one. A step that closes leaves none open: one of other than one edge is
illegal and counted; an edge that the multiplier does not count has no other effect; a counted edge adds to its raw count, and one
of the position source moves POS64 to the next whole count. The loss of each channel is held, that of a first channel reported; the
return of each clears it, that of the last reported. -/
def Obligations.EncoderEventsActAsDecoded : Prop :=
  (∀ (s : State) (i : Fin 2) (ch : Fin 3) (level : Bool) (t : Nat), s.alive = true → s.encOn i = true → s.pow.rearm = false →
    let e := s.enc i
    let at_ := s.atTick (t + s.n (encCfg i + 4))
    let out (x : State) : Host.Outcome State Fault Refusal := .next (s.settle x)
    (ch = 2 → level = false → e.z = true → e.lost.testBit 2 = false →
      exec (.encoderEdge i ch level t) s = out (at_.setEnc i { e with z := false }))
    ∧ (ch = 2 → level = true → e.z = false → e.lost.testBit 2 = false → s.zQualifies i = true →
        ¬(i = 0 ∧ s.o 0x201801 = 1) →
        exec (.encoderEdge i ch level t) s = out ((at_.setEnc i { e with z := true }).bump (encSt i + 5)))
    ∧ (ch = 0 → e.a ≠ level → e.lost.testBit 0 = false → e.step = none →
        exec (.encoderEdge i ch level t) s = out (at_.setEnc i
          { e with a := level, step := some { t := t, a := e.a, b := e.b, nA := 1, nB := 0 } }))
    ∧ (ch = 1 → e.b ≠ level → e.lost.testBit 1 = false → e.step = none →
        exec (.encoderEdge i ch level t) s = out (at_.setEnc i
          { e with b := level, step := some { t := t, a := e.a, b := e.b, nA := 0, nB := 1 } }))
    ∧ (∀ st, e.step = some st →
        let shut := (s.atTick (st.t + s.stepLen i)).setEnc i { e with step := none }
        let onA := decide (st.nA = 1)
        let rev := decide (edgeForward onA e.a e.b = s.b (encCfg i + 5))
        (st.nA + st.nB ≠ 1 → exec (.decoderStepClose i) s = out (shut.illegalStep i)
          ∧ (shut.illegalStep i).o (encSt i + 2) = min (s.o (encSt i + 2) + 1) (2 ^ 32 - 1))
        ∧ (st.nA + st.nB = 1 → edgeCounted (s.o (encCfg i + 3)) onA e.a rev = false →
            exec (.decoderStepClose i) s = out shut)
        ∧ (st.nA + st.nB = 1 → edgeCounted (s.o (encCfg i + 3)) onA e.a rev = true → s.isSource i = false →
            ∃ x : State, exec (.decoderStepClose i) s = out x
              ∧ x.o (encSt i + 1) = wrapS 64 (s.o (encSt i + 1) + if rev then -1 else 1)
              ∧ (x.enc i).lastT = some st.t ∧ (x.enc i).step = none))
    ∧ (s.o (encCfg i + 2) = 0 → s.b (encCfg i + 7) = true → e.lost = 0 → ¬(i = 0 ∧ (s.o 0x152005 = 1 ∨ s.o 0x152005 = 2)) →
        exec (.encoderLoss i ch) s
          = out (((s.setEnc i { e with lost := 2 ^ ch.val }).put (encSt i + 3) 1).raise (0x0104 + i) ch))
    ∧ (e.lost = 2 ^ ch.val →
        exec (.encoderRestored i ch) s = out (((s.setEnc i { e with lost := 0 }).put (encSt i + 3) 2).raise (0x0106 + i))))
  ∧ (∀ (s : State) (i : Fin 2) (ch : Fin 3) (level : Bool) (t : Nat), s.alive = true → s.encOn i = true →
    let e := s.enc i
    let at_ := s.atTick (t + s.n (encCfg i + 4))
    (e.lost.testBit ch = false → ch ≠ 2 → (if ch = 0 then e.a else e.b) ≠ level →
      ∃ x : State, exec (.encoderEdge i ch level t) s = .next (s.settle (s.rearmAfter x))
        ∧ (if ch = 0 then (x.enc i).a else (x.enc i).b) = level
        ∧ ∀ st, e.step = some st → t < st.t + s.stepLen i → x.now = at_.now
          ∧ (x.enc i).step = some { st with nA := st.nA + (if ch = 0 then 1 else 0), nB := st.nB + (if ch = 0 then 0 else 1) })
    ∧ (e.lost.testBit ch = false → ch = 2 → e.z = false → level = true → s.zQualifies i = false →
        exec (.encoderEdge i ch level t) s = .next (s.settle (at_.setEnc i { e with z := true })))
    ∧ (e.lost.testBit ch = false → ch = 2 → e.z = false → level = true → i = 0 → s.o 0x201801 = 1 → s.zQualifies i = true →
        (s.o 0x201804 ≠ 1 → exec (.encoderEdge i ch level t) s
          = .next (s.settle (((at_.setEnc i { e with z := true }).bump (encSt i + 5)).bump 0x201805)))
        ∧ (s.o 0x201804 = 1 → s.tmode ≠ 0 → s.tmode ≠ 1 → (∀ p ∈ s.pos.recent, p.1 ≤ t) →
            ∃ x : State, exec (.encoderEdge i ch level t) s = .next (s.settle (s.rearmAfter x))
              ∧ x.pos.cnt = s.o 0x201803 ∧ x.o 0x202003 = 0 ∧ x.o 0x202004 = 0 ∧ x.o 0x201804 = 2))
    ∧ (∀ st, e.step = some st →
        let onA := decide (st.nA = 1)
        let rev := decide (edgeForward onA e.a e.b = s.b (encCfg i + 5))
        ∃ x : State, exec (.decoderStepClose i) s = .next (s.settle (s.rearmAfter x)) ∧ (x.enc i).step = none
          ∧ (st.nA + st.nB = 1 → edgeCounted (s.o (encCfg i + 3)) onA e.a rev = true →
              x.o (encSt i + 1) = wrapS 64 (s.o (encSt i + 1) + if rev then -1 else 1)
              ∧ (s.isSource i = true → s.pos.epochT = none → x.pos.cnt = nextCount s.pos.cnt rev)
              ∧ (s.isSource i = false → x.pos.cnt = s.pos.cnt)))
    ∧ (s.o (encCfg i + 2) = 0 → s.b (encCfg i + 7) = true → e.lost.testBit ch = false →
        ∃ x : State, exec (.encoderLoss i ch) s = .next (s.settle x)
          ∧ (x.enc i).lost = e.lost ||| 2 ^ ch.val ∧ x.o (encSt i + 3) = 1 ∧ (e.lost ≠ 0 → x.dict = s.dict))
    ∧ (e.lost.testBit ch = true →
        ∃ x : State, exec (.encoderRestored i ch) s = .next (s.settle x)
          ∧ (x.enc i).lost = e.lost ^^^ 2 ^ ch.val
          ∧ (e.lost = 2 ^ ch.val → x.o (encSt i + 3) = 2)
          ∧ (e.lost ≠ 2 ^ ch.val → x.o (encSt i + 3) = s.o (encSt i + 3) ∧ x.dict = s.dict)))

/-- R26, R29, R40, R46, R47, R58: the estimator stops at its horizon; an edge of the epoch input sets its level and, where the epoch is
not armed, is counted; TRIG_IN outside EXTERNAL and SHEET mode, or inactive, sets its level only; its active edge triggers the next
line in EXTERNAL mode while the run takes triggers, and in SHEET mode requests a sheet, or is counted as missed without an epoch; a
user entry that its position reaches fires once and leaves the table, a TRIG_OUT pulse lasts its width, and a pulse in progress is
extended. R29, R41, R45: an armed epoch in a mode that takes no lines from the grid sets the position to the preset, the line
counter and the section to 0 and the epoch to SET; a run that waited for it runs, and event 0x0112 is raised. -/
def Obligations.PositionAndEpochEventsActAtTheirTime : Prop :=
   (∀ (s : State) (t : Nat) (level : Bool) (n : Fin 64), s.alive = true → s.pow.rearm = false → s.o 0x152005 ≠ 4 →
      let out (x : State) : Host.Outcome State Fault Refusal := .next (s.settle x)
      let gone := s.setUserType (192 + n) 0
      (∀ t0, s.pos.enc0.lastT = some t0 → s.o 0x201005 = 0 → s.tmode ≠ 1 →
        let a := s.atTick (t0 + s.horizon)
        exec .horizonExpiry s = out (((a.pushSnap { t := a.now, base := a.livePos, num := 0, den := 1, cap := 0, lim := 0 }).put
          0x201005 1).put 0x201002 0))
      ∧ (s.pdOn 14 = true → s.pos.epochIn ≠ level →
          let a := { s.atTick (t + s.n 0x201806) with pos := { s.pos with epochIn := level } }
          ((level = false ∨ s.o 0x201801 ≠ 2) → exec (.epochInputEdge level t) s = out a)
          ∧ (level = true → s.o 0x201801 = 2 → s.o 0x201804 ≠ 1 →
              exec (.epochInputEdge level t) s = out (a.bump 0x201805))
          ∧ (level = true → s.o 0x201801 = 2 → s.o 0x201804 = 1 → exec (.epochInputEdge level t) s = out (a.epochEdge t)))
      ∧ (s.pdOn 14 = true → s.pos.trigIn ≠ level →
          let a := { s.atTick (t + s.n 0x202803) with pos := { s.pos with trigIn := level } }
          ((level = s.b 0x202802 ∨ s.tmode ≠ 2 ∧ s.tmode ≠ 4) → exec (.trigInEdge level t) s = out a)
          ∧ (level ≠ s.b 0x202802 → s.tmode = 4 → s.epochSet = false → exec (.trigInEdge level t) s = out (a.bump 0x20280B))
          ∧ (level ≠ s.b 0x202802 → s.tmode = 4 → s.epochSet = true → s.pos.sheet.running = false →
              ∃ x : State, exec (.trigInEdge level t) s = out x ∧ x.pos.sheet.running = true ∧ x.pos.sheet.left = s.n 0x202805
                ∧ x.pos.sheet.policy = s.n 0x202806 ∧ x.o 0x20280A = (s.o 0x20280A + 1) % 2 ^ 32)
          ∧ (level ≠ s.b 0x202802 → s.tmode = 2 → s.run = rsIdle → exec (.trigInEdge level t) s = out a)
          ∧ (level ≠ s.b 0x202802 → s.tmode = 2 → s.run = rsRunning → a.nextLine % max 1 (s.n 0x202002) ≠ 0 →
              ∃ x : State, exec (.trigInEdge level t) s = out x ∧ x.o 0x202003 = a.nextLine ∧ x.pos.motionT = a.now))
      ∧ (∀ e, s.entryFires (192 + n) 0x11 = some e →
          exec (.mark n) s = out (gone.raise 0x0110 e.tag) ∧ gone.o (userKey (192 + n) 2) = 0)
      ∧ (∀ e, s.entryFires (192 + n) 0x10 = some e →
          (s.o 0x204801 ≠ 2 → exec (.trigOutPulse n) s = out gone)
          ∧ (s.o 0x204801 = 2 →
              exec (.trigOutPulse n) s = out { gone with pos := { gone.pos with
                trigOut := true, trigOutEnd := if s.pos.trigOut then max s.pos.trigOutEnd (s.now + e.param) else s.now + e.param } }))
      ∧ (s.pos.trigOut = true →
          exec .trigOutPulseEnd s = out { s.atTick s.pos.trigOutEnd with pos := { s.pos with trigOut := false } }))
  ∧
   (∀ (s : State) (t : Nat), s.alive = true → s.pow.rearm = false → s.o 0x152005 ≠ 4 → s.pdOn 14 = true →
      s.pos.epochIn = false → (∀ p ∈ s.pos.recent, p.1 ≤ t) → s.o 0x201801 = 2 → s.o 0x201804 = 1 → s.tmode ≠ 0 → s.tmode ≠ 1 →
      ∃ x : State, exec (.epochInputEdge true t) s = .next x
        ∧ x.pos.cnt = s.o 0x201803 ∧ x.pos.furthest = s.o 0x201803 ∧ x.pos.counted = false ∧ x.pos.lastLine = none
        ∧ x.o 0x202003 = 0 ∧ x.o 0x202004 = 0 ∧ x.o 0x201804 = 2
        ∧ x.o 0x204002 = (if s.run = rsWaitEpoch then rsRunning else s.run)
        ∧ (∀ tick, x.now ≤ tick → x.posAt tick = s.o 0x201803))

/-- R30 to R33, R39, R41, R50 to R54: a grid point that POS64 has reached, with no user entry before it, triggers its line; one that is
no boundary advances the counter, meets the trigger queue while the run accepts lines, and moves the grid on by one; the queued line
starts when the sequence before it ends; STOPPING and a latched START end in IDLE once nothing is in flight; the stall time ends in
a stall with its first flush transfer, and a flush transfer repeats every millisecond. What ends a stall in VIRTUAL mode is the
model's choice (log entry 94). -/
def Obligations.LinesStartStallAndStop : Prop :=
  ∀ (s : State) (t : Nat), s.alive = true → s.pow.rearm = false → s.o 0x152005 ≠ 4 →
    let out (x : State) : Host.Outcome State Fault Refusal := .next (s.settle x)
    (let a := s.atTick t
     let y := { a.put 0x202003 a.nextLine with pos := { a.pos with counted := true, lastLine := some a.nextLine } }
     s.tmode = 0 → a.gridDue = true → a.entryBefore = false → a.nextLine % max 1 (s.n 0x202002) ≠ 0 →
      let go (x : State) : Prop := exec (.lineTrigger t) s
        = out (s.rearmAfter (x.pitchAfter a.nextLine (a.pos.gridA + a.pos.gridJ * a.pitch)))
      (a.accepting = false → s.pos.trigQ.isSome = true → go y)
      ∧ (a.accepting = false → s.pos.trigQ = none → go (y.streamLines a.nextLine a.nextLine))
      ∧ (a.accepting = true → s.pos.trigQ.isSome = true →
          go (((y.linePulse.bump 0x203002).raiseFirst 0x010C 0 a.nextLine).skipLine a.nextLine a.nextGrid))
      ∧ (a.accepting = true → s.pos.trigQ = none → a.lineBusy = false →
          let r := y.procMotion.takeLine a.nextLine a.nextGrid
          go ((r.1.startLine r.2 false).streamLines a.nextLine a.nextLine))
      ∧ (a.accepting = true → s.pos.trigQ = none → a.lineBusy = true → a.now < s.pos.convEnd →
          let r := y.procMotion.takeLine a.nextLine a.nextGrid
          let b := (r.1.bump 0x203001).raiseFirst 0x010B 0 a.nextLine
          go { b with pos := { b.pos with trigQ := some { r.2 with flush := false } } }))
    ∧ (let a := if s.tmode = 1 ∧ s.o 0x202804 ≠ 0 then (s.atTick t).resumeMotion else s.atTick t
       a.gridDue = true → a.entryBefore = false → exec (.lineTrigger t) s = .next (s.settle (s.rearmAfter a.gridLine)))
    ∧ (∀ q, s.pos.trigQ = some q →
        let a := s.atTick (max s.pos.convEnd (s.pos.flushEnd.getD 0))
        let x := ({ a with pos := { a.pos with trigQ := none } }.startLine q (!q.flush)).streamLines q.line
          (s.pos.lastLine.getD q.line)
        exec .queuedLineStart s = out (if x.accepting then x else x.settleRun))
    ∧ (s.run = rsStopping → s.pos.stopAt = false → s.linesDone = true →
        exec .runStopped s = out ((s.atTick s.pos.convEnd).raise 0x0113).enterIdle.thermalSettle)
    ∧ (s.run = rsPendingStart → s.linesDone = true →
        exec .runStopped s = out (s.atTick s.pos.convEnd).enterIdle.thermalSettle)
    ∧ (s.stallCondition = true →
        ∃ x : State, exec .stallTimeout s = out x.flushTransfer.procWatch
          ∧ x.pos.stalled = true ∧ x.pos.ivals = [] ∧ x.o 0x201005 = 2 ∧ x.o 0x201002 = 0
          ∧ x.o 0x203003 = (s.o 0x203003 + 1) % 2 ^ 32
          ∧ x.now = max s.now (s.pos.motionT + s.n 0x201004 * tickUs)
          ∧ (s.run = rsRunning → x.run = rsStalled) ∧ (s.run ≠ rsRunning → x.run = s.run))
    ∧ (s.pos.stalled = true →
        let a := s.atTick s.pos.nextFlush
        exec .flushTransfer s = out { a.bump 0x203004 with pos := { a.pos with
          flushEnd := some (a.now + (a.bump 0x203004).flushLen), nextFlush := a.now + tickMs } })
    ∧ (∀ e, s.pos.flushEnd = some e →
        exec .flushTransferEnd s = out { s.atTick e with pos := { s.pos with flushEnd := none } })

/-- R70 to R72: in a line of the phase plan a phase opens its field's gate at its start and closes all at its end, where its record's
POS is the position at the phase centre; a strobe goes active at its delay where it may be driven, with the level that its polarity
gives, and its part of the plan ends with its width. -/
def Obligations.PhasesAndStrobesFollowThePlan : Prop :=
  ∀ (s : State) (k : Fin 6) (p : Fin 4) (c : CurLine) (ph : Phase), s.alive = true → s.arr.cur = some c → c.plan[p.val]? = some ph →
    let out (x : State) : Host.Outcome State Fault Refusal := .next (s.settle x)
    (s.planRuns = true → exec (.phaseStart p) s = out { s.atTick (c.phaseT p) with
      arr := { s.arr with gate := if ph.field = 0xFF then none else some ph.field } })
    ∧ (∃ x : State, exec (.phaseEnd p) s = .next x ∧ x.arr = { s.arr with gate := none } ∧ x.objs = s.objs ∧ x.pos = s.pos
        ∧ x.now = max s.now (c.phaseT p + ph.len)
        ∧ x.pipe.lines.map (·.line) = s.pipe.lines.map (·.line)
        ∧ ∀ l ∈ x.pipe.lines, l.line = c.line → l.skipped = false → ∀ y ∈ l.srcs, y.src = ph.field →
            y.pos = s.posAt (c.phaseT p + ph.len / 2))
    ∧ (∀ d w, ph.strobes.find? (fun y => y.1 = k.val) = some (k.val, d, w) →
        (s.planRuns = true → ∃ x : State, exec (.strobeOn k p) s = .next (s.settle x) ∧ x.now = max s.now (c.phaseT p + d)
          ∧ x.arr = { s.arr with strobes := if s.strobeOk k then s.arr.strobes ||| 2 ^ k.val else s.arr.strobes }
          ∧ (s.strobeOk k = true → x.strobePad k = some (!s.bit 0x243002 k)))
        ∧ exec (.strobeOff k p) s = out { s.atTick (c.phaseT p + d + w) with
            arr := { s.arr with strobes := s.arr.strobes ^^^ (s.arr.strobes &&& 2 ^ k.val) } })

/-- R82 to R84, R89, R90: in FREE_RUN a frame of array W begins at its interval with the settings then in force, and is read after those
before it; each row that is read becomes one line of W at 250-tick steps, and the last ends the frame; a strobe that does not follow
its drive goes to high impedance with its latch set and event 0x0202; a row driver outside its window sets its latch with event
0x0203. That the first row's exposure begins at the start of the frame is the model's choice (log entry 89). -/
def Obligations.FramesAndFaultsOfTheArrays : Prop :=
  ∀ (s : State) (k : Fin 6) (bit : Fin 30) (lv : List (Nat × Nat)), s.alive = true →
    let out (x : State) : Host.Outcome State Fault Refusal := .next (s.settle x)
    (s.bankD = 2 → s.o 0x241808 = 1 →
      ∃ (x : State) (f : WFrame), exec .wFrameStart s = .next (s.settle x) ∧ f ∈ x.arr.wFrames
        ∧ f.no = s.arr.wNo ∧ f.rows = s.n 0x241802 ∧ f.first = s.n 0x241801 ∧ f.segA = s.n 0x241803 ∧ f.segB = s.n 0x241804
        ∧ f.fs = s.n 0x24180B ∧ f.expo = s.n 0x241806 ∧ f.next = 0 ∧ s.arr.wNextT + s.n 0x241806 ≤ f.start
        ∧ (∀ g ∈ s.arr.wFrames, g.endT ≤ f.start)
        ∧ x.now = max s.now s.arr.wNextT ∧ x.arr.wNextT = s.arr.wNextT + s.n 0x241807 ∧ x.arr.wNo = s.arr.wNo + 1)
    ∧ (∀ f, s.wReading = some f → s.bankD = 2 →
        ∃ (x : State) (p : LinePix) (l : LineRec) (prev : Option Nat),
          let n := 256 * f.no + f.first + f.next
          let read := (x.pushPix p).streamRow prev n
          (f.next + 1 < f.rows → exec (.wRowRead lv) s = out read)
          ∧ (f.next + 1 = f.rows → exec (.wRowRead lv) s = out ((read.streamFrameEnd f.no n).wFrameEnd f))
          ∧ x.now = max s.now (f.start + 250 * f.next)
          ∧ x.arr = { s.arr with
              wFrames := s.arr.wFrames.map fun z => if z.no = f.no then { z with next := z.next + 1 } else z }
          ∧ l ∈ x.pipe.lines ∧ l.line = n ∧ l.start = f.start + 250 * f.next
          ∧ p.src = srcW ∧ p.line = n ∧ p.stages = 1 ∧ p.fs = f.fs)
    ∧ (s.bit 0x243004 k = false → (s.strobePad k).isSome = true →
        exec (.strobeReadbackFault k) s = out (({ s with arr := { s.arr with
          hiZ := s.arr.hiZ ||| 2 ^ k.val, strobes := s.arr.strobes ^^^ (s.arr.strobes &&& 2 ^ k.val) } }.setBits 0x243004
            (2 ^ k.val)).raise 0x0202 (k.val + 256 * s.exposedLine : Nat)))
    ∧ (s.bit 0x243801 bit = false → s.rowPresent bit = true →
        let a := (s.setBits 0x243801 (2 ^ bit.val)).sat 0x243803
        exec (.rowDriverFault bit) s = out ({ a with arr := { s.arr with
          rowReen := s.arr.rowReen &&& (2 ^ 30 - 1 - 2 ^ bit.val) } }.raiseAt 0x0203 (4 * (bit.val / 5)) (12 + bit.val % 5) bit))

/-- R29, R40, R41, R46, R57: the commands of position keeping and run control, accepted on their port. START in IDLE starts a run, in
STOPPING is latched, and in RUNNING is refused; a stop in RUNNING makes the run STOPPING with stop cause 1, with its last line fixed
at once where that line has been taken in EXTERNAL and SOFTWARE mode (the model's reading, log entry 77), in STARTING and WAIT_EPOCH
ends it, and in PENDING_START drops the latched START; ARM arms the epoch in IDLE; a software line outside SOFTWARE mode is refused;
the cross-check latch clears; a user entry's type arms it with the values its other sub-indices hold, or frees it. -/
def Obligations.RunCommandsMoveTheRun : Prop :=
  ∀ (s : State) (w : Sender),
    let q (k : Nat) (bs : List Nat) : State := taken s w (writeOf k bs)
    let done (c : Instr) (k : Nat) (bs : List Nat) (x : State) : Prop := exec c s = .next (s.settle (replyOk w (writeOf k bs) x))
    let refused (c : Instr) (k : Nat) (bs : List Nat) (st : Nat) : Prop := exec c s = .next (s.settle (reply w (writeOf k bs)
      { status := st, ids := none, data := [], next := q k bs }))
    (Accepted s w 0x204001 [1] →
      let a := q 0x204001 [1]
      (a.run = rsIdle → a.startRefusal = stOk → done (.runStart w) 0x204001 [1] a.startRun)
      ∧ (a.run = rsIdle → a.startRefusal ≠ stOk → refused (.runStart w) 0x204001 [1] a.startRefusal)
      ∧ (a.run = rsStopping →
          let b := { (if a.pos.stopAt then a.cutWindows else a) with pos := { a.pos with stopAt := false, stalled := false } }
          done (.runStart w) 0x204001 [1] (b.put 0x204002 rsPendingStart).settleRun)
      ∧ (a.run = rsPendingStart → done (.runStart w) 0x204001 [1] a)
      ∧ (a.run = rsStarting ∨ a.run = rsRunning ∨ a.run = rsStalled ∨ a.run = rsWaitEpoch →
          refused (.runStart w) 0x204001 [1] stState))
    ∧ (Accepted s w 0x204001 [2] →
        let a := q 0x204001 [2]
        (a.run = rsStarting ∨ a.run = rsWaitEpoch → done (.stopAtSection w) 0x204001 [2] (a.put 0x204003 1).enterIdle)
        ∧ (a.run = rsPendingStart → done (.stopAtSection w) 0x204001 [2] (a.put 0x204002 rsStopping))
        ∧ (a.run = rsRunning ∨ a.run = rsStalled →
          let b := { a.put 0x204003 1 with pos := { a.pos with stopAt := true } }.put 0x204002 rsStopping
          let now : Prop := (a.tmode = 2 ∨ a.tmode = 3) ∧ a.nextLine % max 1 (a.n 0x202002) = 0
          b.run = rsStopping ∧ b.o 0x204003 = 1 ∧ (¬now → done (.stopAtSection w) 0x204001 [2] b.procWatch)
            ∧ (now → done (.stopAtSection w) 0x204001 [2] b.fixLast)))
    ∧ (Accepted s w 0x204001 [3] →
        let a := q 0x204001 [3]
        (a.run = rsStarting ∨ a.run = rsWaitEpoch → done (.stopNow w) 0x204001 [3] (a.put 0x204003 1).enterIdle)
        ∧ (a.run = rsPendingStart → done (.stopNow w) 0x204001 [3] (a.put 0x204002 rsStopping))
        ∧ (a.run = rsRunning ∨ a.run = rsStalled ∨ (a.run = rsStopping ∧ a.pos.stopAt = true) →
          let b := { a.put 0x204003 1 with pos := { a.pos with stopAt := false, stalled := false } }.put 0x204002 rsStopping
          done (.stopNow w) 0x204001 [3] b.cutWindows.settleRun.procWatch ∧ b.run = rsStopping ∧ b.o 0x204003 = 1))
    ∧ (Accepted s w 0x201802 [1] →
        let a := q 0x201802 [1]
        (a.run = rsIdle → a.o 0x201804 ≠ 1 → ∃ b, done (.armEpoch w) 0x201802 [1] b ∧ b.o 0x201804 = 1
          ∧ b.pos.sheet.running = false ∧ b.pos.sheet.queued = none ∧ (a.n 0x15200B % 16 = 2 → b.o 0x15200B = 0))
        ∧ (a.run ≠ rsIdle → refused (.armEpoch w) 0x201802 [1] stState))
    ∧ (Accepted s w 0x202809 [1] →
        let a := q 0x202809 [1]
        (a.tmode = 3 → a.triggerOpen = true →
          done (.softwareLine w) 0x202809 [1] (a.rearmAfter a.externalLine))
        ∧ (a.tmode ≠ 3 ∨ a.triggerOpen = false → a.pow.rearm = false → refused (.softwareLine w) 0x202809 [1] stState))
    ∧ (Accepted s w 0x203807 [1] →
        done (.clearCrosscheckFault w) 0x203807 [1] ((q 0x203807 [1]).put 0x203806 0))
    ∧ (∀ n : Fin 64, let k := userKey (192 + n) 2
        (Accepted s w k [0] →
          done (.armUserEntry w n 0) k [0] (applied (q k [0]) k [0] ((q k [0]).setUserType (192 + n) 0)))
        ∧ (∀ typ : Nat, typ = 0x10 ∨ typ = 0x11 → Accepted s w k [typ] →
            let a := q k [typ]
            let p := a.o (userKey (192 + n) 1)
            (if typ = 0x10 then 4 ≤ a.o (userKey (192 + n) 4) else a.o (userKey (192 + n) 4) = 0) →
            (behind (a.o (userKey (192 + n) 3)) a.livePos p = false →
              ∃ b, done (.armUserEntry w n typ) k [typ] (applied a k [typ] b) ∧ b.o k = typ
                ∧ { no := 192 + n.val, pos := p, typ := typ, dir := a.n (userKey (192 + n) 3), param := a.n (userKey (192 + n) 4)
                    tag := a.n (userKey (192 + n) 5), ahead := decide (a.livePos ≤ p) } ∈ b.pos.armed)
            ∧ (behind (a.o (userKey (192 + n) 3)) a.livePos p = true →
              done (.armUserEntry w n typ) k [typ] (applied a k [typ]
                (((a.setUserType (192 + n) 0).bump 0x220003).raise 0x010F (192 + n.val : Nat))))))

/-- R83, R89, R90, R118: a single frame of W begins at once, or waits for the end of the one being read; the latches written clear and
their outputs are re-enabled later; the raw capture arms and its buffer empties. -/
def Obligations.ArrayCommandsAct : Prop :=
  ∀ (s : State) (w : Sender) (m : Nat), m < 2 ^ 32 →
    let q (k : Nat) (bs : List Nat) : State := taken s w (writeOf k bs)
    let done (c : Instr) (k : Nat) (bs : List Nat) (x : State) : Prop := exec c s = .next (s.settle (replyOk w (writeOf k bs) x))
    (Accepted s w 0x241809 [1] →
      let a := q 0x241809 [1]
      a.bankD = 2 → a.o 0x241808 = 2 →
        (a.wReading = none →
          let b := a.wBegin ((a.arr.wFrames.map WFrame.endT).foldl max a.now)
          done (.wSingleFrame w) 0x241809 [1] b ∧ ∃ f ∈ b.arr.wFrames, f.no = a.arr.wNo ∧ f.next = 0 ∧ f.first = a.n 0x241801)
        ∧ (a.wReading.isSome = true → a.arr.wPend = false →
            done (.wSingleFrame w) 0x241809 [1] { a with arr := { a.arr with wPend := true } }))
    ∧ (Accepted s w 0x243005 (leBytes 4 m) →
        let a := q 0x243005 (leBytes 4 m)
        ∃ b, done (.clearStrobeFault w m) 0x243005 (leBytes 4 m) b
          ∧ (∀ i, b.bit 0x243004 i = (a.bit 0x243004 i && !m.testBit i))
          ∧ (∀ i, b.arr.reenable.testBit i = (a.arr.reenable.testBit i || (m.testBit i && a.arr.hiZ.testBit i))))
    ∧ (Accepted s w 0x243802 (leBytes 4 m) →
        let a := q 0x243802 (leBytes 4 m)
        ∃ b, done (.clearRowDriverFault w m) 0x243802 (leBytes 4 m) b
          ∧ b.objs = a.objs
          ∧ (∀ i, b.arr.rowReen.testBit i = (a.arr.rowReen.testBit i || (m.testBit i && a.bit 0x243801 i))))
    ∧ (Accepted s w 0x287003 [1] →
        ∃ b, done (.rawCaptureArm w) 0x287003 [1] b ∧ b.o 0x287004 = 1 ∧ b.blob 0x287005 = [] ∧ b.conv.raw = []
          ∧ b.conv.rawLine = none)

/-! ### Grixis engines (R210 to R232) -/

/-- R215: the scalar operations have opcode 0, rd, ra, rb and their function code in [5:0] with [10:6] zero; each writes rd with the
listed result of ra and rb modulo 2^32, in the listed cycles, and changes nothing else of its engine but control, which goes on in
sequence. -/
def Obligations.ScalarOperationsWriteTheirResult : Prop :=
  ∀ (s : State) (e : Fin 192) (rd ra rb : Fin 16), Executes s e →
    let a := (s.engine e).sget ra
    let b := (s.engine e).sget rb
    let n := b.toNat % 32
    let put (x : Word) (cycles : Nat) : Host.Outcome State Fault Refusal :=
      .next (s.settle (retired s e ((s.engine e).sset rd x) cycles))
    exec (.add_ e rd ra rb) s = put (a + b) 1
    ∧ exec (.sub_ e rd ra rb) s = put (a - b) 1
    ∧ exec (.and_ e rd ra rb) s = put (a &&& b) 1
    ∧ exec (.or_ e rd ra rb) s = put (a ||| b) 1
    ∧ exec (.xor_ e rd ra rb) s = put (a ^^^ b) 1
    ∧ exec (.sll e rd ra rb) s = put (BitVec.ofNat 32 (a.toNat * 2 ^ n)) 1
    ∧ exec (.srl e rd ra rb) s = put (BitVec.ofNat 32 (a.toNat / 2 ^ n)) 1
    ∧ exec (.sra e rd ra rb) s = put (BitVec.ofInt 32 (a.toInt / 2 ^ n)) 1
    ∧ exec (.slt e rd ra rb) s = put (if a.toInt < b.toInt then 1 else 0) 1
    ∧ exec (.sltu e rd ra rb) s = put (if a.toNat < b.toNat then 1 else 0) 1
    ∧ exec (.min_ e rd ra rb) s = put (if a.toInt ≤ b.toInt then a else b) 1
    ∧ exec (.max_ e rd ra rb) s = put (if a.toInt ≤ b.toInt then b else a) 1
    ∧ exec (.minu e rd ra rb) s = put (if a.toNat ≤ b.toNat then a else b) 1
    ∧ exec (.maxu e rd ra rb) s = put (if a.toNat ≤ b.toNat then b else a) 1
    ∧ exec (.mul e rd ra rb) s = put (BitVec.ofInt 32 (a.toInt * b.toInt)) 2
    ∧ exec (.mulh e rd ra rb) s = put (BitVec.ofInt 32 (a.toInt * b.toInt / 2 ^ 32)) 2
    ∧ exec (.mulhu e rd ra rb) s = put (BitVec.ofNat 32 (a.toNat * b.toNat / 2 ^ 32)) 2
    ∧ (∀ f : Nat, f < 2048 → decodeWord (BitVec.ofNat 32 (rd * 2 ^ 21 + ra * 2 ^ 16 + rb * 2 ^ 11 + f))
        = ([AluOp.add, .sub, .and, .or, .xor, .sll, .srl, .sra, .slt, .sltu, .min, .max, .minu, .maxu, .mul, .mulh, .mulhu][f]?).map
            fun o => GOp.alu o rd ra rb)

/-- R216: an immediate operation writes rd with the listed result of ra and the immediate; ANDI, ORI and XORI extend with zeros, the
others with the sign; LUI places 21 bits at bit 11. -/
def Obligations.ImmediateOperationsWriteTheirResult : Prop :=
  ∀ (s : State) (e : Fin 192) (rd ra : Fin 16) (imm : BitVec 11) (sh : BitVec 5) (up : BitVec 21), Executes s e →
    let a := (s.engine e).sget ra
    let put (x : Word) : Host.Outcome State Fault Refusal := .next (s.settle (retired s e ((s.engine e).sset rd x) 1))
    exec (.addi e rd ra imm) s = put (a + imm.signExtend 32)
    ∧ exec (.andi e rd ra imm) s = put (a &&& imm.setWidth 32)
    ∧ exec (.ori e rd ra imm) s = put (a ||| imm.setWidth 32)
    ∧ exec (.xori e rd ra imm) s = put (a ^^^ imm.setWidth 32)
    ∧ exec (.slti e rd ra imm) s = put (if a.toInt < imm.toInt then 1 else 0)
    ∧ exec (.sltiu e rd ra imm) s = put (if a.toNat < (imm.signExtend 32).toNat then 1 else 0)
    ∧ exec (.slli e rd ra sh) s = put (BitVec.ofNat 32 (a.toNat * 2 ^ sh.toNat))
    ∧ exec (.srli e rd ra sh) s = put (BitVec.ofNat 32 (a.toNat / 2 ^ sh.toNat))
    ∧ exec (.srai e rd ra sh) s = put (BitVec.ofInt 32 (a.toInt / 2 ^ sh.toNat))
    ∧ exec (.lui e rd up) s = put (BitVec.ofNat 32 (up.toNat * 2 ^ 11))

/-- R217: a branch that is not taken goes on in sequence in 1 cycle and writes no register; one that is taken continues at PC + 1 +
sext(imm) in 2 cycles and pops the loops it leaves. JAL and JALR write PC + 1 and always continue at their target. The targets are
those inside the image. -/
def Obligations.BranchesAndJumpsContinueAtTheirTarget : Prop :=
  ∀ (s : State) (e : Fin 192) (rd ra rb : Fin 16) (imm : BitVec 11) (far : BitVec 21), s.alive = true → s.gRuns e = true →
    let en := s.engine e
    let a := en.sget ra
    let b := en.sget rb
    let near := wrapU 32 ((en.pc : Int) + 1 + imm.toInt)
    let long := wrapU 32 ((en.pc : Int) + 1 + far.toInt)
    let reg := (a + imm.signExtend 32).toNat
    let link := en.sset rd (BitVec.ofNat 32 (en.pc + 1))
    let branch (c : Instr) (taken : Prop) : Prop :=
      (¬taken → Executes s e → exec c s = .next (s.settle (retired s e en 1)))
      ∧ (taken → near < s.codeWords → exec c s = .next (s.settle (jumped s e en near (popLoops near en.loops) 2)))
    branch (.beq e ra rb imm) (a = b)
    ∧ branch (.bne e ra rb imm) (a ≠ b)
    ∧ branch (.blt e ra rb imm) (a.toInt < b.toInt)
    ∧ branch (.bge e ra rb imm) (b.toInt ≤ a.toInt)
    ∧ branch (.bltu e ra rb imm) (a.toNat < b.toNat)
    ∧ branch (.bgeu e ra rb imm) (b.toNat ≤ a.toNat)
    ∧ (long < s.codeWords →
        exec (.jal e rd far) s = .next (s.settle (jumped s e link long (popLoops long en.loops) 2)))
    ∧ (reg < s.codeWords →
        exec (.jalr e rd ra imm) s = .next (s.settle (jumped s e link reg (popLoops reg en.loops) 2)))

/-- R218: a loop whose body passes the checks continues at PC + n + 1 with no loop pushed when its count is 0, and otherwise at PC + 1
with the loop pushed, in 2 cycles either way. -/
def Obligations.LoopsEnterOrSkipTheirBody : Prop :=
  ∀ (s : State) (e : Fin 192) (ra : Fin 16) (count : BitVec 10) (n : BitVec 11), s.alive = true → s.gRuns e = true →
    let en := s.engine e
    let last := en.pc + n.toNat
    n ≠ 0 → badLast ((mapGet en.imem last).getD 0) = false → (∀ l ∈ en.loops.head?, last ≤ l.last) → last < s.codeWords →
    let enter (k : Nat) : State := jumped s e en (en.pc + 1) ({ first := en.pc + 1, last := last, left := k } :: en.loops) 2
    let skip : State := jumped s e en (last + 1) en.loops 2
    let loops (c : Instr) (k : Nat) : Prop :=
      (k ≠ 0 → en.loops.length < 2 → exec c s = .next (s.settle (enter k)))
      ∧ (k = 0 → last + 1 < s.codeWords → exec c s = .next (s.settle skip))
    loops (.loop_ e ra n) (en.sget ra).toNat ∧ loops (.loopi e count n) count.toNat

/-- R219: a load whose address is aligned and below 0x2_0000 writes rd with the little-endian value at it, extended as listed; VLD loads
16 lanes. -/
def Obligations.LoadsReadLittleEndianMemory : Prop :=
  ∀ (s : State) (e : Fin 192) (rd ra : Fin 16) (vd : Fin 32) (imm : BitVec 11), Executes s e →
    let en := s.engine e
    let a := (en.sget ra + imm.signExtend 32).toNat
    let v := (en.sget ra + (imm.signExtend 32) <<< 5).toNat
    let put (x : Word) : Host.Outcome State Fault Refusal := .next (s.settle (retired s e (en.sset rd x) 2))
    (a % 4 = 0 → a < 0x20000 → exec (.lw e rd ra imm) s = put (BitVec.ofNat 32 (memNat en.dmem a 4)))
    ∧ (a % 2 = 0 → a < 0x20000 → exec (.lh e rd ra imm) s = put ((BitVec.ofNat 16 (memNat en.dmem a 2)).signExtend 32))
    ∧ (a % 2 = 0 → a < 0x20000 → exec (.lhu e rd ra imm) s = put (BitVec.ofNat 32 (memNat en.dmem a 2)))
    ∧ (a < 0x20000 → exec (.lb e rd ra imm) s = put ((BitVec.ofNat 8 (memNat en.dmem a 1)).signExtend 32))
    ∧ (a < 0x20000 → exec (.lbu e rd ra imm) s = put (BitVec.ofNat 32 (memNat en.dmem a 1)))
    ∧ (v % 32 = 0 → v < 0x20000 → exec (.vld e vd ra imm) s = .next (s.settle (retired s e
        (en.vset vd (lanes fun i => BitVec.ofNat 16 (memNat en.dmem (v + 2 * i) 2))) 2)))

/-- R219, R183: a store to an aligned address below the protected block writes the register's low bytes, little-endian, at the address,
changes no register and takes 1 cycle; every byte outside those stored reads as before. -/
def Obligations.StoresChangeOnlyTheirBytes : Prop :=
  ∀ (s : State) (e : Fin 192) (rb ra : Fin 16) (vb : Fin 32) (imm : BitVec 11), Executes s e →
    let en := s.engine e
    let a := (en.sget ra + imm.signExtend 32).toNat
    let v := (en.sget ra + (imm.signExtend 32) <<< 5).toNat
    let x := (en.sget rb).toNat
    let stores (c : Instr) (at_ n : Nat) (byte : Nat → Nat) : Prop :=
      at_ + n ≤ 0x1FF00 → at_ % n = 0 → ∃ m,
        exec c s = .next (s.settle (retired s e { en with dmem := m } 1))
        ∧ (∀ i, i < n → memRead m (at_ + i) = BitVec.ofNat 8 (byte i))
        ∧ ∀ b, b < at_ ∨ at_ + n ≤ b → memRead m b = memRead en.dmem b
    stores (.sw e rb ra imm) a 4 (fun i => x / 256 ^ i)
    ∧ stores (.sh e rb ra imm) a 2 (fun i => x / 256 ^ i)
    ∧ stores (.sb e rb ra imm) a 1 (fun i => x / 256 ^ i)
    ∧ stores (.vst e vb ra imm) v 32 (fun i => (lane (en.vget vb) (i / 2)).toNat / 256 ^ (i % 2))

/-- R219, R230: the checks of a data access raise `MISALIGNED`, then `BUS_RANGE`, then `PROTECTED_STORE`; the exception changes nothing
of the engine but its state, halt address and cause, and raises event 0x0507. -/
def Obligations.DataAccessChecksComeInOrder : Prop :=
  ∀ (s : State) (e : Fin 192) (r ra : Fin 16) (v : Fin 32) (imm : BitVec 11), s.alive = true → s.gRuns e = true →
    let en := s.engine e
    let a := (en.sget ra + imm.signExtend 32).toNat
    let w := (en.sget ra + (imm.signExtend 32) <<< 5).toNat
    let raises (c : Instr) (cause : Nat) : Prop := exec c s =
      .next (s.settle ((s.setEngine e { en with st := esException, haltAt := en.pc, cause }).raiseAt 0x0507 (e.val / 8) (e.val % 8) cause))
    let checks (c : Instr) (at_ align bytes : Nat) (store : Bool) : Prop :=
      (at_ % align ≠ 0 → raises c 2)
      ∧ (at_ % align = 0 → 0x20000 ≤ at_ → raises c 3)
      ∧ (at_ % align = 0 → at_ < 0x20000 → 0x1FF00 < at_ + bytes → store = true → raises c 4)
    checks (.lw e r ra imm) a 4 4 false ∧ checks (.lh e r ra imm) a 2 2 false ∧ checks (.lhu e r ra imm) a 2 2 false
    ∧ checks (.lb e r ra imm) a 1 1 false ∧ checks (.lbu e r ra imm) a 1 1 false
    ∧ checks (.sw e r ra imm) a 4 4 true ∧ checks (.sh e r ra imm) a 2 2 true ∧ checks (.sb e r ra imm) a 1 1 true
    ∧ checks (.vld e v ra imm) w 32 32 false ∧ checks (.vst e v ra imm) w 32 32 true

/-- R220: a vector operation writes the active lanes of vd with the listed result of a and b, and sets `SAT` where a saturating
operation clamped an active lane; VSEL selects by the predicate and writes every lane. R213, R211: a lane outside the predicate
keeps its value, a lane inside takes the new one; p0 reads all ones and s0 reads 0 whatever is written to them. -/
def Obligations.VectorOperationsWriteActiveLanes : Prop :=
   (∀ (s : State) (e : Fin 192) (vd va : Fin 32) (vb : VSrc) (p : Fin 8), Executes s e →
      let en := s.engine e
      let a (i : Nat) : Half := lane (en.vget va) i
      let b (i : Nat) : Half := en.src vb i
      let n (i : Nat) : Nat := (b i).toNat % 16
      let out (x : Engine) : Host.Outcome State Fault Refusal := .next (s.settle (retired s e x 1))
      let put (f : Nat → Half) : Host.Outcome State Fault Refusal := out (en.vsetP p vd f)
      let sum (i : Nat) : Int := (a i).toNat + (b i).toNat
      let dif (i : Nat) : Int := (a i).toNat - (b i).toNat
      let sums (i : Nat) : Int := (a i).toInt + (b i).toInt
      let difs (i : Nat) : Int := (a i).toInt - (b i).toInt
      exec (.vadd e vd va vb p) s = put (fun i => BitVec.ofInt 16 (sum i))
      ∧ exec (.vsub e vd va vb p) s = put (fun i => BitVec.ofInt 16 (dif i))
      ∧ exec (.vadds e vd va vb p) s = out (en.vsatU p vd sum)
      ∧ exec (.vsubs e vd va vb p) s = out (en.vsatU p vd dif)
      ∧ exec (.vaddss e vd va vb p) s = out (en.vsatS p vd sums)
      ∧ exec (.vsubss e vd va vb p) s = out (en.vsatS p vd difs)
      ∧ exec (.vabsd e vd va vb p) s = put (fun i => BitVec.ofNat 16 (dif i).natAbs)
      ∧ exec (.vavg e vd va vb p) s = put (fun i => BitVec.ofInt 16 ((sum i + 1) / 2))
      ∧ exec (.vminu e vd va vb p) s = put (fun i => if (a i).toNat ≤ (b i).toNat then a i else b i)
      ∧ exec (.vmaxu e vd va vb p) s = put (fun i => if (a i).toNat ≤ (b i).toNat then b i else a i)
      ∧ exec (.vmin e vd va vb p) s = put (fun i => if (a i).toInt ≤ (b i).toInt then a i else b i)
      ∧ exec (.vmax e vd va vb p) s = put (fun i => if (a i).toInt ≤ (b i).toInt then b i else a i)
      ∧ exec (.vand e vd va vb p) s = put (fun i => a i &&& b i)
      ∧ exec (.vor e vd va vb p) s = put (fun i => a i ||| b i)
      ∧ exec (.vxor e vd va vb p) s = put (fun i => a i ^^^ b i)
      ∧ exec (.vandn e vd va vb p) s = put (fun i => a i &&& ~~~(b i))
      ∧ exec (.vshl e vd va vb p) s = put (fun i => BitVec.ofNat 16 ((a i).toNat * 2 ^ n i))
      ∧ exec (.vshr e vd va vb p) s = put (fun i => BitVec.ofNat 16 ((a i).toNat / 2 ^ n i))
      ∧ exec (.vsra e vd va vb p) s = put (fun i => BitVec.ofInt 16 ((a i).toInt / 2 ^ n i))
      ∧ exec (.vmul e vd va vb p) s = put (fun i => BitVec.ofNat 16 ((a i).toNat * (b i).toNat))
      ∧ exec (.vmulhu e vd va vb p) s = put (fun i => BitVec.ofNat 16 ((a i).toNat * (b i).toNat / 2 ^ 16))
      ∧ exec (.vmulhs e vd va vb p) s = put (fun i => BitVec.ofInt 16 ((a i).toInt * (b i).toInt / 2 ^ 16))
      ∧ exec (.vsel e vd va vb p) s = out (en.vset vd (lanes fun i => if en.active p i then a i else b i))
      ∧ exec (.vmov e vd va vb p) s = put a)
  ∧
   (∀ (en : Engine) (p pd : Fin 8) (vd q : Fin 32) (f : Nat → Half) (x : Word) (m : Half) (i : Fin 16),
      lane ((en.vsetP p vd f).vget vd) i = (if (en.pget p).getLsbD i then f i else lane (en.vget vd) i)
      ∧ (q ≠ vd → (en.vsetP p vd f).vget q = en.vget q)
      ∧ (en.pset 0 m).pget 0 = 0xFFFF ∧ (pd ≠ 0 → (en.pset pd m).pget pd = m)
      ∧ (en.sset 0 x).sget 0 = 0 ∧ en.sset 0 x = en)

/-- R221: a compare writes every bit of pd: the guard's bit and the condition of the lanes. R222: the predicate instructions combine
masks, move them to and from scalars, count their bits and find the lowest and highest set bit, 16 where there is none. -/
def Obligations.ComparesAndPredicatesWriteTheirBits : Prop :=
   (∀ (s : State) (e : Fin 192) (pd : Fin 8) (va : Fin 32) (vb : VSrc) (g : Fin 8), Executes s e →
      let en := s.engine e
      let a (i : Nat) : Half := lane (en.vget va) i
      let b (i : Nat) : Half := en.src vb i
      let tests (c : Instr) (t : Half → Half → Prop) : Prop := ∃ m : Half,
        exec c s = .next (s.settle (retired s e (en.pset pd m) 1))
        ∧ ∀ i : Fin 16, (m.getLsbD i = true ↔ (en.pget g).getLsbD i = true ∧ t (a i) (b i))
      tests (.vcmpEq e pd va vb g) (fun x y => x = y)
      ∧ tests (.vcmpNe e pd va vb g) (fun x y => x ≠ y)
      ∧ tests (.vcmpLtu e pd va vb g) (fun x y => x.toNat < y.toNat)
      ∧ tests (.vcmpLeu e pd va vb g) (fun x y => x.toNat ≤ y.toNat)
      ∧ tests (.vcmpGtu e pd va vb g) (fun x y => y.toNat < x.toNat)
      ∧ tests (.vcmpGeu e pd va vb g) (fun x y => y.toNat ≤ x.toNat)
      ∧ tests (.vcmpLt e pd va vb g) (fun x y => x.toInt < y.toInt)
      ∧ tests (.vcmpLe e pd va vb g) (fun x y => x.toInt ≤ y.toInt)
      ∧ tests (.vcmpGt e pd va vb g) (fun x y => y.toInt < x.toInt)
      ∧ tests (.vcmpGe e pd va vb g) (fun x y => y.toInt ≤ x.toInt))
  ∧
   (∀ (s : State) (e : Fin 192) (pd pa pb : Fin 8) (r : Fin 16), Executes s e →
      let en := s.engine e
      let a := en.pget pa
      let b := en.pget pb
      let mask (c : Instr) (m : Half) : Prop := exec c s = .next (s.settle (retired s e (en.pset pd m) 1))
      let word (c : Instr) (x : Word) : Prop := exec c s = .next (s.settle (retired s e (en.sset r x) 1))
      let found (c : Instr) (none_ : Nat → Nat → Prop) : Prop := ∃ k, word c (BitVec.ofNat 32 k)
        ∧ (a = 0 → k = 16) ∧ (a ≠ 0 → k < 16 ∧ a.getLsbD k = true ∧ ∀ i, none_ i k → a.getLsbD i = false)
      mask (.pand e pd pa pb) (a &&& b) ∧ mask (.por e pd pa pb) (a ||| b) ∧ mask (.pxor e pd pa pb) (a ^^^ b)
      ∧ mask (.pandn e pd pa pb) (a &&& ~~~b) ∧ mask (.pnot e pd pa) (~~~a)
      ∧ mask (.mtp e pd r) (BitVec.ofNat 16 (en.sget r).toNat)
      ∧ word (.mfp e r pa) (BitVec.ofNat 32 a.toNat)
      ∧ word (.pcnt e r pa) (BitVec.ofNat 32 ((List.range 16).countP fun i => a.getLsbD i))
      ∧ found (.pfirst e r pa) (fun i k => i < k) ∧ found (.plast e r pa) (fun i k => k < i))

/-- R223: a multiply-accumulate gives each active lane the exact sum or product limited to 40 bits, `AOV` set where it was clamped; the
transfers clear, load and round an accumulator, `SAT` set where a rounded lane was clamped. -/
def Obligations.AccumulatorsHoldLimitedSums : Prop :=
  ∀ (s : State) (e : Fin 192) (ad : Fin 4) (va vd : Fin 32) (vb : VSrc) (p : Fin 8) (sh : BitVec 5), Executes s e →
    let en := s.engine e
    let acc (i : Nat) : Int := (laneA (en.aget ad) i).toInt
    let a (i : Nat) : Half := lane (en.vget va) i
    let b (i : Nat) : Half := en.src vb i
    let uu (i : Nat) : Int := (a i).toNat * (b i).toNat
    let ss (i : Nat) : Int := (a i).toInt * (b i).toInt
    let su (i : Nat) : Int := (a i).toInt * (b i).toNat
    let out (x : Engine) (n : Nat) : Host.Outcome State Fault Refusal := .next (s.settle (retired s e x n))
    let rounded (i : Nat) : Int := (acc i + (if sh = 0 then 0 else 2 ^ (sh.toNat - 1))) / 2 ^ sh.toNat
    exec (.vmacu e ad va vb p) s = out (en.asat p ad fun i => acc i + uu i) 1
    ∧ exec (.vmacs e ad va vb p) s = out (en.asat p ad fun i => acc i + ss i) 1
    ∧ exec (.vmacsu e ad va vb p) s = out (en.asat p ad fun i => acc i + su i) 1
    ∧ exec (.vmsuu e ad va vb p) s = out (en.asat p ad fun i => acc i - uu i) 1
    ∧ exec (.vmsus e ad va vb p) s = out (en.asat p ad fun i => acc i - ss i) 1
    ∧ exec (.vmulu e ad va vb p) s = out (en.asetP p ad fun i => BitVec.ofInt 40 (uu i)) 1
    ∧ exec (.vmulsu e ad va vb p) s = out (en.asetP p ad fun i => BitVec.ofInt 40 (su i)) 1
    ∧ exec (.aclr e ad p) s = out (en.asetP p ad fun _ => 0) 1
    ∧ exec (.vrndu e vd ad sh p) s = out (en.vsatU p vd rounded) 2
    ∧ exec (.vrnds e vd ad sh p) s = out (en.vsatS p vd rounded) 2
    ∧ exec (.vtoa e ad va p) s = out (en.asetP p ad fun i => BitVec.ofNat 40 (a i).toNat) 1
    ∧ exec (.vtoas e ad va p) s = out (en.asetP p ad fun i => BitVec.ofInt 40 (a i).toInt) 1

/-- R224, R225: WLD loads from lane i the window's sample at local column sa + SHIFT + i of the row of line n + OFF; a reduction of the
active lanes writes its scalar in 3 cycles, VRSUMA limited to 32 bits with `SAT` set where it was clamped. -/
def Obligations.WindowLoadsAndReductionsWriteTheirResult : Prop :=
  ∀ (s : State) (e : Fin 192) (rd ra : Fin 16) (vd va : Fin 32) (ad : Fin 4) (p : Fin 8) (sec : Bool) (off : BitVec 4)
    (sh : BitVec 5), Executes s e →
    let en := s.engine e
    let on := (List.range 16).filter (en.active p)
    let us := on.map fun i => (lane (en.vget va) i).toNat
    let is := on.map fun i => (lane (en.vget va) i).toInt
    let accs := (on.map fun i => (laneA (en.aget ad) i).toInt).sum
    let out (x : Engine) (n : Nat) : Host.Outcome State Fault Refusal := .next (s.settle (retired s e x n))
    let put (x : Word) : Host.Outcome State Fault Refusal := out (en.sset rd x) 3
    let index (c : Instr) (best : Nat → Nat → Prop) : Prop := ∃ k, exec c s = put (BitVec.ofNat 32 k)
      ∧ (on = [] → k = 16)
      ∧ (on ≠ [] → k ∈ on ∧ (∀ i ∈ on, best (lane (en.vget va) k).toNat (lane (en.vget va) i).toNat)
          ∧ ∀ i ∈ on, (lane (en.vget va) i).toNat = (lane (en.vget va) k).toNat → k ≤ i)
    (-4 ≤ off.toInt → off.toInt ≤ 4 → exec (.wld e vd ra sec off sh) s = out (en.vset vd
        (lanes fun i => en.winAt (if sec then 1 else 0) off.toInt ((en.sget ra).toInt + sh.toInt + i))) 1)
    ∧ exec (.vrsum e rd va p) s = put (BitVec.ofNat 32 us.sum)
    ∧ exec (.vrsums e rd va p) s = put (BitVec.ofInt 32 is.sum)
    ∧ exec (.vrmaxu e rd va p) s = put (BitVec.ofNat 32 (us.foldl max 0))
    ∧ exec (.vrminu e rd va p) s = put (BitVec.ofNat 32 (us.foldl min 0xFFFF))
    ∧ index (.vrmaxix e rd va p) (fun k i => i ≤ k)
    ∧ index (.vrminix e rd va p) (fun k i => k ≤ i)
    ∧ exec (.vrsuma e rd ad p) s = out ((en.sset rd (BitVec.ofInt 32 (max (-2 ^ 31) (min (2 ^ 31 - 1) accs)))).orSat
        (decide (accs < -2 ^ 31) || decide (2 ^ 31 - 1 < accs))) 3

/-- R226: the permutes and moves write the active lanes of vd as listed; VEXT and VINS move one lane, the scalar limited. -/
def Obligations.PermutesMoveLanes : Prop :=
  ∀ (s : State) (e : Fin 192) (rd ra : Fin 16) (vd va vb : Fin 32) (k : Fin 16) (imm : BitVec 16) (p : Fin 8), Executes s e →
    let en := s.engine e
    let a (i : Nat) : Half := lane (en.vget va) i
    let b (i : Nat) : Half := lane (en.vget vb) i
    let out (x : Engine) (n : Nat) : Host.Outcome State Fault Refusal := .next (s.settle (retired s e x n))
    exec (.vperm e vd va vb p) s = out (en.vsetP p vd fun i => a ((b i).toNat % 16)) 2
    ∧ exec (.vslide e vd va vb k p) s = out (en.vsetP p vd fun i => if i + k < 16 then a (i + k) else b (i + k - 16)) 1
    ∧ exec (.vext e rd va k) s = out (en.sset rd (BitVec.ofNat 32 (a k).toNat)) 1
    ∧ exec (.vins e vd ra k) s = out (en.vset vd
        (lanes fun i => if i = k then BitVec.ofNat 16 (min (en.sget ra).toNat 0xFFFF) else lane (en.vget vd) i)) 1
    ∧ exec (.vsplat e vd ra p) s = out (en.vsetP p vd fun _ => BitVec.ofNat 16 (en.sget ra).toNat) 1
    ∧ exec (.vrev e vd va p) s = out (en.vsetP p vd fun i => a (15 - i)) 1
    ∧ exec (.vsplati e vd imm p) s = out (en.vsetP p vd fun _ => imm) 1

/-- R227: VPUT writes active lane i to position q + i of the output buffer it names, below the positions the target accepts; every other
position keeps its value. R204, R205, R228: CEMIT takes 2 cycles in sequence; with crumb output enabled, a class other than 0x00 and
0xFF and room in the crumb buffer, the record is appended, its columns clamped to 127 and ordered, its extent at least 1. A class
0x00 or 0xFF, or an emit while output is disabled, is discarded and counted; an emit into a full buffer is lost and counted. -/
def Obligations.PutsAndCrumbsEnterTheirBuffers : Prop :=
   (∀ (s : State) (e : Fin 192) (vs : Fin 32) (rq : Fin 16) (second : Bool) (p : Fin 8), Executes s e →
      let en := s.engine e
      let q := (en.sget rq).toInt
      let old := if second then en.o1 else en.o0
      ∃ buf : List Nat, buf.length = old.length
        ∧ exec (.vput e vs rq second p) s =
            .next (s.settle (retired s e (if second then { en with o1 := buf } else { en with o0 := buf }) 1))
        ∧ ∀ k, k < old.length → buf.getD k 0 =
            if q ≤ k ∧ (k : Int) < q + 16 ∧ k < s.outLimit en second ∧ en.active p ((k : Int) - q).toNat = true
            then (lane (en.vget vs) ((k : Int) - q).toNat).toNat else old.getD k 0)
  ∧
   (∀ (s : State) (e : Fin 192) (vf : Fin 32) (ra rb : Fin 16), Executes s e →
      let en := s.engine e
      let a := (en.sget ra).toNat
      let b := (en.sget rb).toNat
      let cls := b / 2 ^ 24
      let lo := min (a % 256) 127
      let hi := min (a / 256 % 256) 127
      (s.o 0x480001 ≠ 0 → cls ≠ 0 → cls ≠ 0xFF → en.crumbs.length < 256 →
        ∃ (t : State) (c : Crumb), exec (.cemit e vf ra rb) s = .next t
          ∧ (t.engine e).crumbs = en.crumbs ++ [c]
          ∧ c.engine = e ∧ c.cls = cls ∧ c.join = a / 2 ^ 16 % 4 ∧ c.extent = max 1 (b % 2 ^ 24)
          ∧ c.first = 128 * e + min lo hi ∧ c.last = 128 * e + max lo hi
          ∧ c.features = ((en.vget vf).take 8).map (·.toNat)
          ∧ (t.engine e).cycles = en.cycles + 2 ∧ (t.engine e).pc = (loopNext en.pc en.loops).1)
      ∧ (cls = 0 ∨ cls = 0xFF ∨ s.o 0x480001 = 0 →
          exec (.cemit e vf ra rb) s = .next (s.settle ((retired s e en 2).bump 0x480008)))
      ∧ (s.o 0x480001 ≠ 0 → cls ≠ 0 → cls ≠ 0xFF → 256 ≤ en.crumbs.length →
        ∃ t : State, exec (.cemit e vf ra rb) s = .next t ∧ (t.engine e).crumbs = en.crumbs
          ∧ t.o 0x480007 = (s.o 0x480007 + 1) % 2 ^ 64 ∧ (t.engine e).cycles = en.cycles + 2))

/-- R201, R212, R229: NOP and FENCE only go on; MFS reads the special registers and MTS writes the two sticky bits; HALT and BREAK stop
the engine at their word, BREAK to go on with the next, and raise their event; WAITLINE ends the line: the output buffers take
effect and the engine waits, to resume after it. -/
def Obligations.SystemInstructionsActOnTheEngine : Prop :=
  ∀ (s : State) (e : Fin 192) (r : Fin 16) (n : BitVec 5), Executes s e →
    let en := s.engine e
    let go := loopNext en.pc en.loops
    let out (x : Engine) (c : Nat) : Host.Outcome State Fault Refusal := .next (s.settle (retired s e x c))
    let illegal : Host.Outcome State Fault Refusal := .next (s.settle
      ((s.setEngine e { en with st := esException, haltAt := en.pc, cause := 1 }).raiseAt 0x0507 (e.val / 8) (e.val % 8) 1))
    let flag (b : Bool) (k : Nat) : Nat := if b then k else 0
    exec (.nop e) s = out en 1
    ∧ exec (.fence e) s = out en 4
    ∧ exec (.mfs e r 0) s = out (en.sset r (BitVec.ofNat 32 (flag en.sat 1 + flag en.aov 2))) 1
    ∧ exec (.mfs e r 1) s = out (en.sset r (BitVec.ofNat 32 en.cycles)) 1
    ∧ exec (.mfs e r 2) s = out (en.sset r (BitVec.ofNat 32 (256 - en.crumbs.length))) 1
    ∧ exec (.mfs e r 3) s = out (en.sset r (BitVec.ofNat 32 en.loops.length)) 1
    ∧ exec (.mfs e r 4) s = out (en.sset r (BitVec.ofNat 32 ((en.loops.head?.map (·.left)).getD 0))) 1
    ∧ exec (.mfs e r 5) s = out (en.sset r (BitVec.ofNat 32 e)) 1
    ∧ (5 < n.toNat → exec (.mfs e r n) s = illegal)
    ∧ (n ≠ 0 → exec (.mts e n r) s = illegal)
    ∧ exec (.mts e 0 r) s = out { en with sat := (en.sget r).getLsbD 0, aov := (en.sget r).getLsbD 1 } 1
    ∧ exec (.halt e) s = .next (s.settle ((s.setEngine e { en with
        cycles := en.cycles + 1, skipBp := false, st := esHalted, haltAt := en.pc }).raiseAt 0x0506 (e.val / 8) (e.val % 8) en.pc))
    ∧ exec (.break_ e) s = .next (s.settle ((s.setEngine e { en with
        pc := go.1, loops := go.2, cycles := en.cycles + 1, skipBp := false, st := esBreak, haltAt := en.pc }).raiseAt 0x0508 (e.val / 8) (e.val % 8) en.pc))
    ∧ (∀ m, en.cur = some m → en.ready = none → s.stage = 3 → ∃ t, exec (.waitline e) s = .next t
        ∧ t.eng.outs = s.eng.outs ++ [⟨e, m, some (en.o0, en.o1)⟩]
        ∧ (t.engine e).st = esWaiting ∧ (t.engine e).cur = none ∧ (t.engine e).resume = go.1
        ∧ (t.engine e).loops = go.2 ∧ (t.engine e).prev = en.cycles + 1)

/-! ### Converters, pipeline, engines, Confluence and the auxiliary input (R98 to R291) -/

/-- R98, R105, R108, R110, R111, R132: a slot that ends stores the read of its group, invalid while its bank calibrates, and is done;
the last one of a line converts the line. A bank's calibration takes its factors, judges what was measured, and goes to the next
bank or completes. The recalibration flag is set at the interval; a column at its limit becomes suspect, or fails at once with a
single free spare; the slip estimate of a closed section is published with its result code, quality and delta. -/
def Obligations.ConverterEventsActOnTheStores : Prop :=
  ∀ (s : State), s.alive = true →
    let out (x : State) : Host.Outcome State Fault Refusal := .next (s.settle x)
    (∀ (bank k singles : Nat) (lv diffs second : List (Nat × Nat)) (words : List Nat) (c : CurLine) (l : LineRec)
        (x : SrcLine), s.arr.cur = some c →
      s.pipe.lines.find? (fun l => l.line = c.line && !l.skipped && !l.srcs.any (·.src = srcW)) = some l →
      l.srcs.find? (fun x => x.src < 0x40 && bankOf x.src = bank && 0 < x.slots) = some x →
      k + x.slots = (if x.src = srcM then 2 else x.stages / 16) →
        let a := s.atTick (c.start + 280 + 240 * k)
        let v := a.asOf c.line
        let read (lv : List (Nat × Nat)) (tag : Nat) : GroupRead := {
          field := x.src, line := c.line, group := if x.src = srcM then k else 4 - x.stages / 16 + k, tag
          vals := v.storeForms bank lv, bad := words.flatMap fun w => [4 * w, 4 * w + 1, 4 * w + 2, 4 * w + 3] }
        let finish (d : State) (r : GroupRead) : State :=
          let done := ((d.storeErrors x.src c.line singles words).storeRead r).slotDone x.src c.line
          if x.slots = 1 then done.lineConverted l x else done
        (s.calibrating bank = true →
          exec (.slotEnd bank k lv diffs second singles words) s = out (finish a (read [] 1)))
        ∧ (s.calibrating bank = false →
          let lv2 := lv.filter fun p => a.converts (x.segA, x.segB) p.1
          let b := (((if k = 0 then a.secondCheck c.line bank second else a).shadowCheck c.line bank diffs).countLow v bank l.sect
            (x.segA, x.segB) lv2).rawSlot c.line bank k (v.sampleOf bank lv2)
          exec (.slotEnd bank k lv diffs second singles words) s
            = out (finish b (read lv2 (if x.src ≠ srcM ∧ c.line < b.refillLine x.src + 15 then 1 else 0))))
        ∧ (1 < x.slots → ∃ (y : State) (r : GroupRead), exec (.slotEnd bank k lv diffs second singles words) s = out y
            ∧ y.now = max s.now (c.start + 280 + 240 * k) ∧ r ∈ y.rcb.reads ∧ r.field = x.src ∧ r.line = c.line
            ∧ (s.calibrating bank = true → r.vals = [] ∧ r.tag = 1)))
    ∧ (∀ (bank : Nat) (rest : List Nat) (cols : List (Nat × Nat × Int)) (spares : List (Nat × Nat × Nat × Int))
        (blacks : List (Bool × Nat × Nat × Int)) (factors : List (Nat × List Nat)) (change : Nat),
        s.conv.calLeft = bank :: rest → s.o 0x281003 = 1 →
        let good := factors.filter fun p => s.segPresent p.1 && !s.bit 0x281009 p.1
        let key (p : Nat × List Nat) : Nat := (0x3300 + 4 * p.1 + bankIx bank) * 256
        let c := (good.foldl (fun (x : State) p => x.putBlob (key p)
          (((p.2.map (· % 256)) ++ (x.blob (key p)).drop p.2.length).take 17152)) s).calComplete cols spares blacks
        exec (.bankCalComplete cols spares blacks factors change) s = out (c.bankDrift bank change)
          ∧ (rest = [] → c.o 0x281003 = 2 ∧ c.o 0x28100E = 0 ∧ c.conv.calLeft = [])
          ∧ (∀ b t, rest = b :: t → c.conv.calLeft = rest ∧ c.o 0x281004 = b))
    ∧ (s.o 0x28100E = 0 → s.o 0x28100B ≤ s.o 0x28100C →
        exec .recalibrationDue s = out ((s.put 0x28100E 1).raise 0x030D))
    ∧ (∀ (seg : Fin 24) (bank col : Nat) (x : Suspect),
        s.conv.suspects.find? (fun x => x.seg = seg.val && x.bank = bank && x.col = col) = some x →
        x.marked = false → s.o 0x281803 ≤ x.count →
        (2 ≤ (s.freeSpares seg bank).length →
          exec (.columnSuspect seg bank col) s = out { s with conv := { s.conv with suspects := s.conv.suspects.map fun y =>
            if y.seg = seg.val && y.bank = bank && y.col = col then { y with marked := true } else y } })
        ∧ ((s.freeSpares seg bank).length ≤ 1 →
          exec (.columnSuspect seg bank col) s = out (s.failColumn seg bank col x.firstLine)))
    ∧ (∀ z : SlipClosed, s.rcb.closed = some z →
        let f := s.free 45056 53249
        let r := combineSlip f.1 (z.fieldResults none)
        ∃ x, exec .slipEstimate s = .next x ∧ x.now = max s.now z.due ∧ x.rcb.closed = none
          ∧ x.rcb.wasOor = decide (r.code = 4) ∧ x.o 0x2C100B = r.code ∧ x.o 0x2C1009 = r.q
          ∧ (r.code = 1 → x.o 0x2C1008 = r.delta ∧ x.o 0x2C100C = z.sect ∧ x.o 0x2C100E = 0)
          ∧ (r.code ≠ 1 → x.o 0x2C1008 = s.o 0x2C1008))

/-- R142, R148, R172, R188 to R190, R197: a segment takes a ready line through its stages and contributes it, as the line and as the
sources derived from it; a side link fails after sixteen erroneous transfers; a closed section's records complete; a ready window
goes to each engine of the segment, and one that waits is released: it executes with its line (stepped, it is in BREAK), its cycles
at 0 and its sticky bits clear; an image load that checks installs its generation, and one that does not names the engine. -/
def Obligations.SegmentsAndWindowsPassLines : Prop :=
  ∀ (s : State) (seg : Fin 24) (n src : Nat) (errs : List HaloErr), s.alive = true →
    let out (x : State) : Host.Outcome State Fault Refusal := .next (s.settle x)
    (s.segmentReady seg src n = true →
      let key := lineKey src n
      let x := ((s.procLine seg src n).segmentStages seg src n errs).segContrib seg src key
      (x.kernAt key = none → exec (.segmentLineProcess seg src n errs) s = out x.statSend)
      ∧ (∀ k, x.kernAt key = some k → exec (.segmentLineProcess seg src n errs) s
          = out (if k.on && src = k.psrc then k.derived.foldl (fun y d => y.segContrib seg d key) x else x).statSend))
    ∧ (seg.val < 23 → s.bit 0x304003 seg = false → 16 ≤ (mapGet s.pipe.linkErr seg.val).getD 0 →
        exec (.sideLinkFailed seg) s = out ((s.setBits 0x304003 (2 ^ seg.val)).raiseAt 0x040A seg 0xFF seg))
    ∧ (∀ c rest, s.pipe.closing = c :: rest → s.sectionLeft c = true → s.auxLeft c.sect = true → c.complete = true →
        exec .statsRecordClose s = out ((s.statsClose.procSection c.sect).applyIdle)
          ∧ s.statsClose.pipe.closing = rest)
    ∧ (∀ key k x, s.keyOfWindow n = some key → s.kernAt key = some k → s.srcLine k.psrc n = some x → s.stage ≠ 0 → s.stage ≠ 1 →
        s.windowThere k.psrc n (k.h / 2) = true → (k.ssrc = 0xFF ∨ s.windowThere k.ssrc n (k.h / 2) = true) →
        x.segA ≤ seg.val → seg.val ≤ x.segB →
        let a := s.haloErrors seg k.psrc n errs false
        let b := if k.ssrc = 0xFF then a else a.haloErrors seg k.ssrc n errs false
        exec (.windowReady seg n errs) s = out ((b.segEngines seg).foldl (fun y e => y.windowFor key k.on e) b).stageCheck)
    ∧ (∀ key k e, s.kernAt key = some k → (s.engine e).st = esWaiting → (s.engine e).chg = none →
        sameLines (s.engine e).first key = true → (s.engine e).first ≤ key →
        let x := s.windowFor key true e
        (x.engine e).st = (if (s.engine e).stepping then esBreak else esExecuting) ∧ (x.engine e).cur = some key
          ∧ (x.engine e).cycles = 0 ∧ (x.engine e).sat = false
          ∧ (x.engine e).aov = false ∧ (x.engine e).pc = (s.engine e).pc ∧ (x.engine e).relT = some s.now
          ∧ otherEnginesKept e s x ∧ x.objs = s.objs)
    ∧ (s.stage = 1 ∨ s.stage = 5 → s.eng.loading ≠ [] → s.eng.loadPend = false →
        let hdr := s.eng.loading
        let a := { s.put 0x400002 0 with eng := { s.eng with loading := [], parts := none } }
        let bad := a.allEngines.find? (fun e => !(a.engine e).matchesHdr s.eng.parts hdr)
        let off := ({ a.put 0x40000B 0 with eng := { a.eng with store := none } } : State).refreshBudget
        (∀ e, bad = some e → exec .imageLoadComplete s = out (off.raiseAt 0x0504 (e / 8) (e % 8) 0))
        ∧ (a.allEngines = [] → (a.blankEngine s.eng.parts).matchesHdr s.eng.parts hdr = false →
            exec .imageLoadComplete s = out (off.raise 0x0504))
        ∧ (bad = none → a.allEngines ≠ [] ∨ (a.blankEngine s.eng.parts).matchesHdr s.eng.parts hdr = true →
          ∃ x, exec .imageLoadComplete s = out x ∧ x.o 0x40000B = fieldAt hdr 8 4
            ∧ x.eng.loading = [] ∧ x.eng.store.map (·.1) = some hdr ∧ (s.stage = 1 → x.o 0x400002 = 0)))

/-- R202, R203, R206, R207, R214, R231: a write to BAR2 stores into the data memory of the engine it names, and stalls it for the cycles
that it waited; a read answers its word or all ones for an absent engine; a stop takes the oldest crumb that is not on its way of
the next engine in turn; a merged line's crumbs leave what is held for the queue and its buffers, and meet the rules; a breakpoint
and an illegal word stop their engine before the word. R287 to R290: a block that is sent and whose retry credit runs out of time,
whose CRC is wrong, or that another is expected before is resent and counted, an erroneous one is counted as a CRC error too; the
next expected one whose CRC is good is acknowledged; after the last resend of a block the segment is failed, its stop empties, and
event 0x0F02 names the line. -/
def Obligations.EnginesAndMillraceAreReachedAndStopped : Prop :=
   (∀ (s : State) (e : Fin 192) (seg : Fin 24) (off stall : Nat) (data : List Nat) (r : BarRead) (word : BitVec 32), s.alive = true →
      let out (x : State) : Host.Outcome State Fault Refusal := .next (s.settle x)
      let en := s.engine e
      (s.pcieOn = true → s.takesPart e = true → off < 0x20000 - 0x100 → off % 4 + data.length ≤ 4 →
        ∃ x, exec (.bar2Write (0x40000 * e + 0x20000 + off) data stall) s = .next x
          ∧ (∀ i, i < data.length → memRead (x.engine e).dmem (off + i) = BitVec.ofNat 8 (data.getD i 0))
          ∧ (∀ a, (a < off ∨ off + data.length ≤ a) → memRead (x.engine e).dmem a = memRead en.dmem a)
          ∧ (x.engine e).cycles = en.cycles + (if en.st = esExecuting then stall else 0)
          ∧ otherEnginesKept e s x ∧ (en.st ≠ esExecuting → x.objs = s.objs))
      ∧ (s.pcieOn = true →
          (exec (.bar2Read r) s = out ((s.emit (.completion (s.bar2Read r.off))).bar2ReadStall r.off r.stall))
          ∧ (off < 0x3000000 → s.engPresent (off / 0x40000) = false → s.bar2Read off = 0xFFFFFFFF))
      ∧ (∀ (j : Nat) (c : Crumb), s.bit 0x50C004 seg = false →
          (let n := s.eng.queue.length + s.eng.merged.length
           n = 0 ∨ n + s.eng.held.length + s.crumbsOnWay < 1024) →
          ((List.range 8).map fun i => 8 * seg.val + ((mapGet s.eng.served seg.val).getD 7 + 1 + i) % 8).findSome?
            (fun i => if s.takesPart i then ((s.engine i).crumbs[(s.engine i).inFlight]?).map fun c => (i, c) else none)
            = some (j, c) →
          ∃ x, exec (.crumbDrain seg) s = out x ∧ x.engine j = { s.engine j with inFlight := (s.engine j).inFlight + 1 }
            ∧ mapGet x.eng.served seg.val = some (j % 8) ∧ otherEnginesKept j s x ∧ x.objs = s.objs
            ∧ (s.conf.stops.any (·.seg = seg.val) = true → ∃ b ∈ (x.stop seg).blocks, b.kind = 2 ∧ c ∈ b.crumbs))
      ∧ (∀ n, exec (.crumbMerge n) s = out ((s.crumbMerge n).1.crumbRules (s.crumbMerge n).2)
          ∧ (let key := s.mergeKey n
             s.mergeReady key = true → (∀ c ∈ s.eng.held, ¬(sameLines c.key key = true ∧ c.key < key)) →
              (s.crumbMerge n).1.eng.held = s.eng.held.filter (fun c => c.key ≠ key)
              ∧ (s.crumbMerge n).1.eng.queue ++ (s.crumbMerge n).1.eng.merged = s.eng.queue ++ s.eng.merged ++ (s.crumbMerge n).2
              ∧ (s.crumbMerge n).1.eng.queue.length ≤ 1024
              ∧ (s.o 0x480002 = 0 → (s.crumbMerge n).2 = ((List.range 192).flatMap fun j =>
                  s.eng.held.filter fun c => c.key = key && c.engine = j).filter fun c => s.classOn c.cls)))
      ∧ (s.takesPart e = true → en.st = esExecuting → en.bpHit = true →
          exec (.breakpointMatch e) s = out ((s.setEngine e { en with st := esBreak, haltAt := en.pc, matched := true }).raiseAt
            0x0508 (e.val / 8) (e.val % 8) en.pc))
      ∧ (s.gRuns e = true → decodeWord word = none →
          exec (.illegalInstruction e word) s = out ((s.setEngine e { en with
            st := esException, haltAt := en.pc, cause := 1 }).raiseAt 0x0507 (e.val / 8) (e.val % 8) 1)))
  ∧
   (∀ (s : State) (seg : Fin 24), s.alive = true →
      let st := s.stop seg
      let out (x : State) : Host.Outcome State Fault Refusal := .next (s.settle x)
      let again (x : State) (i : Nat) (b : MBlock) : State :=
        let y := x.setStop { st with blocks := st.blocks.set i { b with fails := b.fails + 1 } }
        if b.fails < 8 then y.bump 0x50C003 else y
      (∀ b rest, st.blocks = b :: rest → b.sent = true → b.fails ≤ 8 →
        exec (.millraceRetryTimeout seg) s = out (again s 0 b))
      ∧ (∀ (rx : BlockRx) (b : MBlock), st.blocks[rx.place]? = some b → b.sent = true → b.fails ≤ 8 →
          let w := xorBytes (b.wire seg (st.seq + rx.place)) rx.errs
          (wireGood w = false →
            let e := ((s.bump 0x50C002).sat (0x50C801 + seg)).raiseFirstAt 0x0F01 seg seg
            exec (.millraceBlockReceived seg rx) s = out (again e rx.place b) ∧ e.o 0x50C002 = (s.o 0x50C002 + 1) % 2 ^ 64)
          ∧ (wireGood w = true → wireSeq w ≠ st.seq → exec (.millraceBlockReceived seg rx) s = out (again s rx.place b))
          ∧ (wireGood w = true → wireSeq w = st.seq → exec (.millraceBlockReceived seg rx) s = out (s.blockGood seg)))
      ∧ (∀ b, st.blocks.find? (fun b => 9 ≤ b.fails) = some b →
          let f := ((((s.setBits 0x50C004 (2 ^ seg.val)).bump 0x50C007).setStop { st with blocks := [], credits := 32 }).statFailed
            seg).crumbsRemain seg
          let g := f.raiseAt 0x0F02 seg 0xFF (keyLine b.line)
          exec (.segmentFailure seg) s = out ((List.range 8).foldl (fun x k =>
            ((x.stream k).asm.map (·.line)).foldl (fun x n => x.padAsm k n seg) x) g)
          ∧ f.bit 0x50C004 seg = true ∧ (f.stop seg).blocks = []))

/-- R248 to R255: the receiver starts and stops through its states; a frame start of an enabled channel closes the frame before and
opens the next with the channel's settings; a frame end, or the frame timeout, closes it; embedded data keeps 256 bytes; a short
packet is only noted; a packet whose header cannot be corrected, or of a channel that is not received, is discarded with nothing
else; a stripe is counted with the time it waited, and the last of a band completes the band. -/
def Obligations.AuxiliaryPacketsFillFrames : Prop :=
  ∀ (s : State) (v : Fin 4) (u : Fin 16), s.alive = true →
    let out (x : State) : Host.Outcome State Fault Refusal := .next (s.settle x)
    let c : Fin 16 := ⟨v.val, by omega⟩
    (s.o 0x390005 = 1 → exec .csiReceiverOn s = out (s.put 0x390005 2).auxStates)
    ∧ (s.o 0x390005 = 5 → exec .csiReceiverOn s = out (s.put 0x390005 3).auxStates)
    ∧ (s.o 0x390005 = 3 → exec .csiReceiverStopped s = out (s.put 0x390005 0).auxStates)
    ∧ (s.o 0x390005 = 4 → exec .csiReceiverStopped s = out (s.put 0x390005 1).auxStates)
    ∧ (s.csiOn = true →
        (∀ ecc, ecc ≤ 1 → s.auxTakes u = true →
          let h := (s.csiHeader ecc).1
          let a := h.setAux { h.auxCh u with lastPkt := s.now }
          exec (.csiFrameEnd u ecc) s = out (a.auxClose u)
          ∧ exec (.csiLineShortPacket u ecc) s = out a
          ∧ (∀ f dtype samples, (a.auxCh u).open_ = some f → f.cut = false → dtype = f.dtype → 0x2A ≤ dtype → dtype ≤ 0x2E →
              exec (.csiLongPacket u dtype ecc true samples) s = out (a.auxLine u f (some samples))
              ∧ exec (.csiLongPacket u dtype ecc false samples) s
                  = out ((((a.sat 0x390008).bump (auxSt u 0x0A)).raiseFirst 0x060B 0 (u.val : Nat)).auxLine u f none))
          ∧ (∀ f data, (a.auxCh u).open_ = some f → f.cut = false →
              let e := ((a.auxCh u).embedded ++ data).take 256
              exec (.csiEmbeddedData u ecc { crcOk := true, bytes := data }) s
                = out ((a.setAux { a.auxCh u with embedded := e }).putBlob (auxSt u 9) e)))
        ∧ (∀ num ecc : Nat, ecc ≤ 1 → s.conf.aux.any (·.ch = v.val) = true → s.b (auxCfg v 1) = true →
          ∃ (f : AuxFrame) (x : State), exec (.csiFrameStart c num ecc) s = out x.auxStates
            ∧ f ∈ (x.auxCh v).frames ∧ f.no = (s.auxCh v).nextNo ∧ f.width = s.n (auxCfg v 3) ∧ f.height = s.n (auxCfg v 4)
            ∧ f.lines = [] ∧ f.closed = false ∧ f.timeout = s.n (auxCfg v 0x0D) ∧ f.startT = s.now
            ∧ (x.auxCh v).nextNo = (s.auxCh v).nextNo + 1 ∧ x.o (auxSt v 7) = (num % 65536 : Nat)
            ∧ (∀ g, (s.auxCh v).open_ = some g → ∃ g' ∈ (x.auxCh v).frames, g'.no = g.no ∧ g'.closed = true))
        ∧ (∀ num, let bad := (s.sat 0x390007).raiseFirst 0x060A
            exec (.csiFrameStart u num 2) s = out bad ∧ exec (.csiFrameEnd u 2) s = out bad
            ∧ exec (.csiLineShortPacket u 2) s = out bad)
        ∧ (∀ num, s.auxTakes u = false → exec (.csiFrameStart u num 0) s = out (s.sat 0x390009)
            ∧ exec (.csiFrameEnd u 0) s = out (s.sat 0x390009)))
    ∧ (∀ f, (s.auxCh v).open_ = some f →
        exec (.auxFrameTimeout v) s = out ((s.atTick ((s.auxCh v).lastPkt + f.timeout * tickMs)).auxClose v))
    ∧ (∀ i f waited, s.auxNext = some (i, f) → (f.col ≠ 0 ∨ (s.auxAdmit i f).2 = true) →
        let a := if f.col = 0 then (s.auxAdmit i f).1 else s
        let m := (a.bump 0x393005).bump 0x393006 waited
        let b := { m with conf := { m.conf with auxServed := i } }
        (f.col + 256 < f.width → exec (.auxStripeComplete waited) s
          = out (b.setAux ((b.auxCh i).setHead fun g => { g with col := g.col + 256 })))
        ∧ (f.width ≤ f.col + 256 → exec (.auxStripeComplete waited) s = out (b.auxBandDone i f)))

/-- R101, R106, R107: START begins the calibration of the masked banks with the first of them and its 12 ms, and is refused with the
status the checks give; ABORT ends a running calibration with event 0x0303 and is refused when none runs; SAVE stores the set, and
is refused as BUSY while a calibration or a store runs. -/
def Obligations.CalibrationCommandsAct : Prop :=
  ∀ (s : State) (w : Sender),
    let q (v : Nat) : State := taken s w (writeOf 0x281001 [v])
    let done (c : Instr) (v : Nat) (x : State) : Prop := exec c s = .next (s.settle (replyOk w (writeOf 0x281001 [v]) x))
    let refused (c : Instr) (v st : Nat) : Prop := exec c s = .next (s.settle (reply w (writeOf 0x281001 [v])
      { status := st, ids := none, data := [], next := q v }))
    (Accepted s w 0x281001 [1] →
      ((q 1).calRefusal = stOk → ∃ x b t, done (.calStart w) 1 x ∧ maskBanks ((q 1).n 0x281002) = b :: t
        ∧ x.o 0x281003 = 1 ∧ x.o 0x281004 = b ∧ x.conv.calLeft = b :: t ∧ x.conv.calEnd = (q 1).now + 12 * tickMs)
      ∧ ((q 1).calRefusal ≠ stOk → refused (.calStart w) 1 (q 1).calRefusal))
    ∧ (Accepted s w 0x281001 [2] →
      ((q 2).o 0x281003 = 1 → ∃ x : State, done (.calAbort w) 2 (x.raise 0x0303) ∧ x.o 0x281003 = 3 ∧ x.o 0x281004 = 0
        ∧ x.o 0x281005 = 4 ∧ x.conv.calLeft = [] ∧ x.blobs = (q 2).blobs)
      ∧ ((q 2).o 0x281003 = 4 → refused (.calAbort w) 2 stBusy)
      ∧ ((q 2).o 0x281003 ≠ 1 → (q 2).o 0x281003 ≠ 4 → refused (.calAbort w) 2 stState))
    ∧ (Accepted s w 0x281001 [3] →
      ((q 3).o 0x281003 ≠ 1 → (q 3).o 0x281003 ≠ 4 → (q 3).cal.store = none →
        done (.calSave w) 3 ({ (q 3).put 0x281003 4 with conv := { (q 3).conv with
          saving := true, calPrev := (q 3).o 0x281003 } }.storeBegin 2 true [1, 10]))
      ∧ ((q 3).o 0x281003 = 1 ∨ (q 3).o 0x281003 = 4 ∨ (q 3).cal.store.isSome = true → refused (.calSave w) 3 stBusy))

/-- R201, R249, R290, R310, R312: a restart and a restore are commits of class SECTION: accepted with the next epoch and their section,
and pending; where they apply, the halted engines of the mask restart with event 0x050D and the failed segments of the mask are
restored with event 0x0F03. The receiver enable starts and stops the receiver at once. -/
def Obligations.RestartsAndRestoresApplyAtTheirSection : Prop :=
  ∀ (s : State) (w : Sender) (seg : Fin 24) (m : Nat), m < 2 ^ 32 →
    let q (k : Nat) (bs : List Nat) : State := taken s w (writeOf k bs)
    let pend (c : Instr) (k : Nat) (bs : List Nat) : Prop :=
      let a := q k bs
      a.commitChecks (some a.applySection) [(k, bs)] a.dict.serial = (stOk, []) →
        exec c s = .next (s.settle (reply w (writeOf k bs) { status := stOk, ids := some (a.nextEpoch, a.applySection)
                                                             data := [], next := a.commitAccept (.port w.port) (some a.applySection) [(k, bs)] }))
    (Accepted s w (0x400401 + seg) (leBytes 4 m) → pend (.engineRestart w seg m) (0x400401 + seg) (leBytes 4 m))
    ∧ (Accepted s w 0x50C005 (leBytes 4 m) → pend (.restoreSegment w m) 0x50C005 (leBytes 4 m))
    ∧ (∀ (i b : Nat), i < 8 → s.takesPart (8 * seg + i) = true → esHalted ≤ (s.engine (8 * seg + i)).st →
        let h := s.kernHistory b
        s.restartApplied seg (2 ^ i) b = (h.changeAt (8 * seg + i) (h.changeKey b)).raiseAt 0x050D seg i 0)
    ∧ (s.bit 0x50C004 seg = true → s.restoreSegments (2 ^ seg.val)
        = ((s.clrBits 0x50C004 (2 ^ seg.val)).setStop { seg := seg, blocks := [], seq := 0, credits := 32 }).raiseAt 0x0F03 seg 0xFF 0)
    ∧ (∀ (on : Bool) (old new : Nat),
        (on, old, new) ∈ [(true, 0, 1), (true, 3, 4), (true, 5, 1), (false, 1, 5), (false, 4, 3)] →
        let a := q 0x390001 [boolByte on]
        Accepted s w 0x390001 [boolByte on] → (on = true → a.pdOn 7 = true) → a.o 0x390005 = old →
        exec (.csiReceiverEnable w on) s = .next (s.settle (replyOk w (writeOf 0x390001 [boolByte on])
          (applied a 0x390001 [boolByte on] ((a.put 0x390001 (boolByte on)).put 0x390005 new).auxStates))))
    ∧ (∀ (on : Bool) (old : Nat), (on, old) ∈ [(true, 1), (true, 2), (true, 4), (false, 0), (false, 3), (false, 5)] →
        let a := q 0x390001 [boolByte on]
        Accepted s w 0x390001 [boolByte on] → (on = true → a.pdOn 7 = true) → a.o 0x390005 = old →
        exec (.csiReceiverEnable w on) s = .next (s.settle (replyOk w (writeOf 0x390001 [boolByte on])
          (applied a 0x390001 [boolByte on] (a.put 0x390001 (boolByte on)).auxStates))))
    ∧ (let a := q 0x390001 [0]
       Accepted s w 0x390001 [0] → a.o 0x390005 = 2 →
        ∃ x : State, exec (.csiReceiverEnable w false) s = .next (s.settle (replyOk w (writeOf 0x390001 [0]) (applied a 0x390001 [0] x)))
          ∧ x.o 0x390001 = 0 ∧ x.o 0x390005 = 3 ∧ ∀ v < 4, (x.auxCh v).open_ = none)

/-! ### PCIe, rings and the Reach (R260 to R285) -/

/-- R259 to R262, R264, R295: the release of PERSTn starts the function; a configuration access before the image is verified is retried,
later a write keeps the enabled bytes of its dword and a read completes; training publishes speed, width and margins; a reset of the
function disables rings and queues, gives up the Reach and counts; D3hot suspends delivery; link errors are counted. -/
def Obligations.PcieFunctionEvents : Prop :=
  ∀ (s : State) (off value be cause : Nat), s.alive = true →
    let out (x : State) : Host.Outcome State Fault Refusal := .next (s.settle x)
    (s.host.perst = true → exec .perstRelease s = out { s with host := { s.host with perst := false, perstT := s.now } })
    ∧ (s.pcieOn = true →
        let o := off / 4 * 4
        (∀ wr, s.boot.step ≤ 2 → exec (.configRequest wr off value be) s = out (s.emit .configRetry))
        ∧ (2 < s.boot.step → exec (.configRequest false off value be) s = out (s.emit (.completion (s.cfgRead o))))
        ∧ (2 < s.boot.step → ∃ x : State, exec (.configRequest true off value be) s = out x
            ∧ x.cfgWord o = mergeBytes be (s.cfgWord o) value ∧ x.objs = s.objs
            ∧ (∀ p, p ≠ o → mapGet x.host.cfg p = mapGet s.host.cfg p)
            ∧ (o = 0x218 → x.host.ptm = (mergeBytes be (s.cfgWord o) value).testBit 0)))
    ∧ (s.pcieOn = true → ∀ (speed width : Nat) (m : List Nat),
        let sp := min speed (s.n 0x500003)
        ∃ x : State, exec (.linkUp speed width m) s = .next x ∧ x.o 0x500001 = sp ∧ x.o 0x500002 = width
          ∧ x.blob 0x500008 = (m ++ List.replicate 16 0).take 16 ∧ (0 < width → x.o 0x704003 = sp) ∧ x.host.cfg = s.host.cfg)
    ∧ ((s.host.perst = true → cause = frPerst) →
        ∃ x : State, exec (.functionReset cause) s = .next x ∧ x.o 0x500009 = (s.o 0x500009 + 1) % 2 ^ 32
          ∧ x.o 0x503003 = 0 ∧ (∀ r, r < 10 → x.o (ringKey r 5) = 0) ∧ x.host.pages = [] ∧ x.host.mbState = 0
          ∧ x.host.look = none ∧ x.host.d3 = false ∧ x.now = s.now
          ∧ (cause = frPerst → x.host.perst = true ∧ x.host.cfg = []))
    ∧ exec .d3hotEntry s = out { s with host := { s.host with d3 := true } }
    ∧ exec (.aerError true) s = out ((s.bump 0x500006).raiseFirst 0x0705)
    ∧ exec (.aerError false) s = out (s.sat 0x500005)

/-- R245, R265 to R273: GO on an idle mailbox starts its request, on a busy one it is counted and ignored; a doorbell moves the producer
index of its ring and asks for descriptors, or the consumer index of a queue, and is reported when its value lies outside; the
moderation timer fires its vector; a fetch of descriptors that arrives extends the ring's list, one that fails or lasts 50 ms sets
the ring to ERROR with event 0x070A; an open buffer completes at its flush time; the record that is written next is a statistics
record, a crumb, or the record of the stream served next. R267, R270, R271: a ring is enabled with its indices at 0 and ACTIVE while
the completion queue is on, and refused otherwise; it is disabled while nothing depends on it; enabling the completion queue puts
its indices to 0 and drains what waits; it is not disabled while a ring is enabled; a write of the value in force changes nothing. -/
def Obligations.RingsFollowEnablesAndDoorbells : Prop :=
   (∀ (s : State) (r : Fin 10) (v : Nat), s.alive = true →
      let out (x : State) : Host.Outcome State Fault Refusal := .next (s.settle x)
      (∀ req, s.pcieOn = true → s.o 0x500001 ≠ 0 →
        (s.host.mbState = 1 →
          exec (.mailboxGo req) s = out ({ s with host := { s.host with mbReq := req } }.bump 0x500801))
        ∧ (s.host.mbState ≠ 1 → exec (.mailboxGo req) s
            = out (({ s with host := { s.host with mbReq := req, mbState := 1 } }.bump 0x500802).arrive
                { port := 1, seq := 0, req := mailboxReq req })))
      ∧ (s.pcieOn = true → s.o 0x102001 ≠ dsRestricted →
          (v < s.n (ringKey r 2) → exec (.doorbell (8 * r) v) s = out ((s.put (ringKey r 7) v).ringFetch r))
          ∧ (v < s.n 0x503002 → exec (.doorbell 0x80 v) s = out (State.drainBacklog 1280 (s.put 0x503005 v)))
          ∧ (v < s.n 0x503102 →
              let a := s.put 0x503105 v
              (a.host.evOmitted = 0 ∨ a.evFull = true ∨ a.o 0x503103 = 0 → exec (.doorbell 0x88 v) s = out a)
              ∧ (a.host.evOmitted ≠ 0 → a.evFull = false → a.o 0x503103 ≠ 0 → exec (.doorbell 0x88 v) s
                  = out ({ a with host := { a.host with evOmitted := 0 } }.raise 0x0706 (a.host.evOmitted : Nat))))
          ∧ (s.n (ringKey r 2) ≤ v → exec (.doorbell (8 * r) v) s
              = out (s.raiseFirst 0x0709 0 (shl v 16 + 8 * r.val : Nat))))
      ∧ (∀ (m : Fin 64) (x : VecState), s.host.vecs.find? (·.vec = m.val) = some x →
          exec (.msixModerationTimer m) s = out ((s.atTick (x.since + s.n 0x503202 * tickUs)).fire m))
      ∧ (∀ (t n : Nat) (ds : List (Nat × Nat × Nat × Nat)), (s.ring r).fetching = some (t, n) → s.ringActive r = true →
          exec (.descriptorFetchTimeout r) s = out ((s.atTick (t + 50 * tickMs)).ringFail r)
          ∧ exec (.descriptorFetchDone r false ds) s = out (s.ringFail r)
          ∧ ∃ (x : State) (new : List Desc), exec (.descriptorFetchDone r true ds) s = out (x.ringFetch r)
              ∧ (x.ring r).descs = (s.ring r).descs ++ new ∧ new.length = min n ds.length
              ∧ (x.ring r).fetching = none ∧ x.objs = s.objs)
      ∧ (∀ b, (s.ring r).buf = some b → s.mayComplete = true →
          exec (.bufferFlushTime r) s = out ((s.atTick (b.since + s.n (ringKey r 4) * tickUs)).bufDone r))
      ∧ (let a := s.closeFull
         let aux (k : Nat) : Bool := isAux (((a.stream k).ready.map (·.src)).getD 0)
         let ks := (List.range 8).filter a.streamServes
         (a.statServes = true → exec .recordWritten s = out a.statServe)
         ∧ (a.statServes = false → a.crumbServes = true → exec .recordWritten s = out a.crumbServe)
         ∧ (a.statServes = false → a.crumbServes = false → ∀ k rest, ks.filter (!aux ·) ++ ks.filter aux = k :: rest →
             exec .recordWritten s = out (a.streamServe k))))
  ∧
   (∀ (s : State) (w : Sender) (r : Fin 10),
      let q (k v : Nat) : State := taken s w (writeOf k [v])
      let done (c : Instr) (k v : Nat) (x : State) : Prop :=
        exec c s = .next (s.settle (replyOk w (writeOf k [v]) (applied (q k v) k [v] x)))
      let refused (c : Instr) (k v st : Nat) : Prop := exec c s = .next (s.settle (reply w (writeOf k [v])
        { status := st, ids := none, data := [], next := q k v }))
      let k := ringKey r 5
      (Checked s w k [1] → (q k 1).o 0x503003 = 0 → refused (.ringEnable w r true) k 1 stState)
      ∧ (Accepted s w k [1] → (q k 1).o 0x503003 ≠ 0 →
          ((q k 1).o k = 0 → ∃ x, done (.ringEnable w r true) k 1 x ∧ x.o k = 1
            ∧ x.o (ringKey r 7) = 0 ∧ x.o (ringKey r 8) = 0 ∧ x.o (ringKey r 9) = 1)
          ∧ ((q k 1).o k ≠ 0 → done (.ringEnable w r true) k 1 (q k 1)))
      ∧ (Checked s w k [0] → (q k 0).o k ≠ 0 → (q k 0).ringUsed r = true → refused (.ringEnable w r false) k 0 stState)
      ∧ (Accepted s w k [0] →
          ((q k 0).o k ≠ 0 → (q k 0).ringUsed r = false → ∃ x, done (.ringEnable w r false) k 0 x ∧ x.o k = 0
            ∧ x.o (ringKey r 9) = 0)
          ∧ ((q k 0).o k = 0 → done (.ringEnable w r false) k 0 (q k 0)))
      ∧ (Accepted s w 0x503003 [1] → (q 0x503003 1).o 0x503003 = 0 →
          ∃ x, done (.completionQueueEnable w true) 0x503003 1 x ∧ x.o 0x503003 = 1 ∧ x.host.detached = []
            ∧ ((q 0x503003 1).host.detached = [] → (q 0x503003 1).host.backlog = [] →
                x.o 0x503004 = 0 ∧ x.o 0x503005 = 0 ∧ x.host.cqPhase = true))
      ∧ (Accepted s w 0x503003 [1] → (q 0x503003 1).o 0x503003 ≠ 0 →
          done (.completionQueueEnable w true) 0x503003 1 (q 0x503003 1))
      ∧ (Checked s w 0x503003 [0] → (q 0x503003 0).o k ≠ 0 → refused (.completionQueueEnable w false) 0x503003 0 stState)
      ∧ (Accepted s w 0x503003 [0] → ((∀ j, j < 10 → (q 0x503003 0).o (ringKey j 5) = 0) →
              done (.completionQueueEnable w false) 0x503003 0 ((q 0x503003 0).put 0x503003 0))))

/-- R275 to R285: each Reach command runs as its code says, or is refused with its status: GRANT and EXTEND ask for the page list, FLUSH
closes the open page, RELEASE frees a closed page, REVOKE is refused while a held page lies in its range, and WITHDRAW while its
stream is bound and not off. A hold is placed within its limits and released; a lookup reads the page its position lies on. -/
def Obligations.ReachCommandsAct : Prop :=
  ∀ (s : State) (w : Sender) (h : Fin 64),
    let q (k v : Nat) : State := taken s w (writeOf k [v])
    let done (c : Instr) (k v : Nat) (x : State) : Prop := exec c s = .next (s.settle (replyOk w (writeOf k [v]) x))
    let refused (c : Instr) (k v st : Nat) : Prop := exec c s = .next (s.settle (reply w (writeOf k [v])
      { status := st, ids := none, data := [], next := q k v }))
    let cmd : Nat := 0x504101
    let free (v : Nat) : Prop := Accepted s w cmd [v] ∧ (q cmd v).o 0x504105 ≠ 1
    let list (a : State) (code : Nat) : State := ({ a.put 0x504105 1 with host := { a.host with reachCmd := some code } }).readHost
      2 0x0A (a.n 0x504102) (8 * a.n 0x504103)
    (free 1 →
      ((q cmd 1).o 0x50400D = 0 → 16 ≤ (q cmd 1).n 0x504103 → (q cmd 1).n 0x504103 ≤ 131072 →
        done (.reachGrant w) cmd 1 (list (q cmd 1) 1))
      ∧ ((q cmd 1).o 0x50400D ≠ 0 → refused (.reachGrant w) cmd 1 stState))
    ∧ (free 2 → (q cmd 2).o 0x50400D ≠ 0 → (q cmd 2).host.pages.length + (q cmd 2).n 0x504103 ≤ 131072 →
        done (.reachExtend w) cmd 2 (list (q cmd 2) 2))
    ∧ (free 3 →
      let a := q cmd 3
      let inRange (p : Page) : Bool := a.n 0x504104 ≤ p.slot && p.slot < a.n 0x504104 + a.n 0x504103
      let left := a.host.pages.filter fun p => !inRange p && p.st ≠ pgReturning
      ((∃ p ∈ a.host.pages, inRange p = true ∧ p.st = pgHeld) → refused (.reachRevoke w) cmd 3 stLocked)
      ∧ ((∀ p ∈ a.host.pages, inRange p = true → p.st ≠ pgHeld) → left.length < 16 → refused (.reachRevoke w) cmd 3 stRange)
      ∧ ((∀ p ∈ a.host.pages, inRange p = true → p.st ≠ pgHeld) → 16 ≤ left.length →
          let b := match a.host.open_ with
            | some o => if a.n 0x504104 ≤ o.slot && o.slot < a.n 0x504104 + a.n 0x504103 then a.closePage true true else a
            | none => a
          done (.reachRevoke w) cmd 3 ((b.mapPages fun p =>
            if inRange p && p.st ≠ pgOpen then { p with st := pgReturning } else p).holdCounts.reachCounts.reachDone 3 stOk)))
    ∧ (free 4 →
      ((q cmd 4).boundOff = false → refused (.reachWithdraw w) cmd 4 stState)
      ∧ ((q cmd 4).boundOff = true →
          let b := ((q cmd 4).closePage true true).mapPages fun p => { p with st := pgReturning }
          (b.host.pages = [] → done (.reachWithdraw w) cmd 4 (((b.put 0x50400D 0).reachCounts).reachDone 4 stOk))
          ∧ (b.host.pages ≠ [] → done (.reachWithdraw w) cmd 4 (({ b with host := { b.host with
              withdrawing := true, reachCmd := some 4 } }.put 0x504105 1).holdCounts.reachCounts))))
    ∧ (free 5 → done (.reachFlush w) cmd 5 (((q cmd 5).closePage true false).reachDone 5 stOk))
    ∧ (free 6 → ∀ p, (q cmd 6).page? ((q cmd 6).n 0x504104) = some p →
        (p.st = pgClosed → done (.reachRelease w) cmd 6 ((((q cmd 6).setPage ((q cmd 6).n 0x504104) fun x =>
          { x with st := pgFree, span := none }).reachCounts).reachDone 6 stOk))
        ∧ (p.st ≠ pgClosed → refused (.reachRelease w) cmd 6 stState))
    ∧ (free 6 → (q cmd 6).page? ((q cmd 6).n 0x504104) = none → refused (.reachRelease w) cmd 6 stState)
    ∧ (Accepted s w 0x504803 [1] → (q 0x504803 1).o 0x504804 ≠ 1 →
        let a := q 0x504803 1
        (a.lookPage (a.o 0x504801) (a.n 0x504802) = none → done (.lookup w) 0x504803 1 (a.lookEnd 3 stOk))
        ∧ (∀ p, a.lookPage (a.o 0x504801) (a.n 0x504802) = some p →
            done (.lookup w) 0x504803 1 ({ a.put 0x504804 1 with host := { a.host with look := some (p.slot, p.seq) } }.readHost
              6 p.slot p.addr pageBytes)))
    ∧ (let k := holdKey h 4
       (Accepted s w k [1] → h.val < 32 → 
          let a := q k 1
          (a.o (holdKey h 2) < a.o (holdKey h 1) ∨ a.n 0x50400C < a.heldWith h (a.o (holdKey h 1)) (a.o (holdKey h 2)) → refused (.holdPlace w h) k 1 stRange)
          ∧ (a.o (holdKey h 1) ≤ a.o (holdKey h 2) → a.heldWith h (a.o (holdKey h 1)) (a.o (holdKey h 2)) ≤ a.n 0x50400C →
              done (.holdPlace w h) k 1 (a.holdActivate h (a.o (holdKey h 1)) (a.o (holdKey h 2)) (a.n (holdKey h 3)) 0xFF)))
       ∧ (Accepted s w k [1] → 32 ≤ h.val → refused (.holdPlace w h) k 1 stAccess)
       ∧ (Accepted s w k [2] → done (.holdRelease w h) k 2 (if (q k 2).holdOn h then (q k 2).holdEnd h else q k 2)))

/-- R276, R277, R281, R282: a page list that is read fills the lowest empty slots and ends its command, a GRANT with event 0x070B; one
that cannot be read ends it with TIMEOUT; a page that has returned leaves the table with its entry, the last of a WITHDRAW ends the
command; a page read for a lookup publishes the record found; a hold past its last line ends. -/
def Obligations.ReachEventsMovePages : Prop :=
  ∀ (s : State) (addrs data : List Nat) (slot : Nat) (h : Fin 64), s.alive = true →
    let out (x : State) : Host.Outcome State Fault Refusal := .next (s.settle x)
    (∀ code, s.host.reachCmd = some code → code ≠ 4 →
      let l := addrs.take (s.n 0x504103)
      let a := { s with host := { s.host with pages := addPages 131072 s.host.pages l } }
      exec (.pageListReadDone false addrs) s = out (s.reachDone code stTimeout)
      ∧ (l.any (· % pageBytes ≠ 0) = true → exec (.pageListReadDone true addrs) s = out (s.reachDone code stConstraint))
      ∧ (l.any (· % pageBytes ≠ 0) = false →
          (code = 1 → exec (.pageListReadDone true addrs) s
            = out (((a.puts [(0x50400D, if s.is 0x380006 0xFF then 1 else 2), (0x504009, 0)]).raise 0x070B l.length).reachCounts.reachDone
                1 stOk))
          ∧ (code ≠ 1 → exec (.pageListReadDone true addrs) s = out (a.reachCounts.reachDone code stOk))))
    ∧ (∀ p, s.page? slot = some p → p.st = pgReturning → (∀ l, s.host.look = some l → l.1 ≠ slot) →
        let a := { s with host := { s.host with pages := s.host.pages.filter (·.slot ≠ slot) } }.reachCounts
        let b := a.complete { kind := 5, ring := 0x0A, cause := 0, merged := false, ref := slot, first := 0, last := 0, count := 1, bytes := 0 }
        a.page? slot = none
        ∧ (b.host.withdrawing = false ∨ b.host.pages ≠ [] → exec (.pageReturnDone slot) s = out b)
        ∧ (b.host.withdrawing = true → b.host.pages = [] → exec (.pageReturnDone slot) s
            = out (({ b.put 0x50400D 0 with host := { b.host with withdrawing := false, lastSlot := none } }).reachCounts.reachDone 4 stOk)))
    ∧ (∀ p seq, s.host.look = some (p, seq) →
        exec (.lookupReadDone false data) s = out (s.lookEnd 4 stTimeout)
        ∧ (findRec 65536 (s.o 0x504801) none 0 data = none → exec (.lookupReadDone true data) s = out (s.lookEnd 3 stOk))
        ∧ (∀ off line pos, findRec 65536 (s.o 0x504801) none 0 data = some (off, line, pos) →
            exec (.lookupReadDone true data) s
              = out ((s.puts [(0x504805, (p : Int)), (0x504806, (off : Int)), (0x504807, (line : Int)), (0x504808, pos)]).lookEnd 2 stOk)))
    ∧ (s.o (holdKey h 5) ≠ 0 → 0 < s.n (holdKey h 3) → s.n (holdKey h 3) < s.n 0x202003 →
        exec (.holdExpiry h) s = out (s.holdEnd h))

/-! ### The dictionary and its transactions (R300 to R324) -/

/-- R305: a READ without a transaction id answers the bytes of the value in force, which nothing staged or pending alters; one that
names the port's open transaction answers the staged value of an object the transaction has staged, and the value in force of any
other; one that names an id that is not the port's own is answered `NOT_IN_TXN`. Also (R302, R303, R306): of an object the table
does not list a READ answers `NO_OBJECT`, of an absent one `ABSENT`, of a write-only one `ACCESS`, and of a value longer than its
port carries `RANGE`; a READ_SEGMENT answers the bytes from its offset, at most its length and the port's, with the value's length
in ARG. -/
def Obligations.ReadsAnswerTheValueInForce : Prop :=
  ∀ (s : State) (w : Sender) (idx sub off len id : Nat), idx < 2 ^ 16 → sub < 256 → off < 2 ^ 32 → len < 2 ^ 32 → id < 2 ^ 32 →
    let k := idx * 256 + sub
    let p := w.port.val
    let r : DReq := readOf k
    let g : DReq := { op := 6, key := k, len := len, txn := 0, arg := off, data := [] }
    let u : DReq := { op := 1, key := k, len := 0, txn := id, arg := 0, data := [] }
    let a := taken s w r
    let b := taken s w g
    let c := taken s w u
    let h : DReq := { op := 6, key := k, len := len, txn := id, arg := off, data := [] }
    let f := taken s w h
    let answer (i : Instr) (x : DReq) (o : OpRes) : Prop := exec i s = .next (s.settle (reply w x o))
    (Served s w r →
      (keyExists k = false → answer (.read w idx sub 0) r { status := stNoObject, ids := none, data := [], next := a })
      ∧ (keyExists k = true → a.keyAbsent k = true →
          answer (.read w idx sub 0) r { status := stAbsent, ids := none, data := [], next := a })
      ∧ (∀ row, findRow k = some row → a.keyAbsent k = false → row.acc = .wo →
          answer (.read w idx sub 0) r { status := stAccess, ids := none, data := [], next := a })
      ∧ (∀ row, findRow k = some row → a.keyAbsent k = false → row.acc ≠ .wo →
          ((a.valueBytes k).length ≤ portLimit p →
            answer (.read w idx sub 0) r { status := stOk, ids := none, data := a.valueBytes k, next := a.readEffect k })
          ∧ (portLimit p < (a.valueBytes k).length →
            answer (.read w idx sub 0) r
              { status := stRange, ids := some (0, (a.valueBytes k).length), data := [], next := a })))
    ∧ (∀ (x : State) (j : Nat) (y : Txn) (cs : List Commit), (x.setTxn j y).o k = x.o k ∧ (x.setTxn j y).blob k = x.blob k
        ∧ ({ x with dict := { x.dict with commits := cs } } : State).o k = x.o k
        ∧ ({ x with dict := { x.dict with commits := cs } } : State).blob k = x.blob k)
    ∧ (Served s w u → id ≠ 0 → ∀ row, findRow k = some row → c.keyAbsent k = false → row.acc ≠ .wo →
        (c.txnOpen p = true → c.txnId p = id →
          let d := c.setTxn p { c.txn p with last := c.now }
          let v := (mapGet (c.txn p).staged k).getD (d.valueBytes k)
          v.length ≤ portLimit p → answer (.read w idx sub id) u { status := stOk, ids := none, data := v, next := d.readEffect k })
        ∧ (c.txnId p ≠ id → id ∉ (c.txn p).rolled →
          answer (.read w idx sub id) u { status := stNotInTxn, ids := none, data := [], next := c }))
    ∧ (Served s w h → id ≠ 0 → ∀ row, findRow k = some row → f.keyAbsent k = false → row.acc ≠ .wo →
        (f.txnOpen p = true → f.txnId p = id →
          let d := f.setTxn p { f.txn p with last := f.now }
          let v := (mapGet (f.txn p).staged k).getD (d.valueBytes k)
          answer (.readSegment w idx sub id off len) h
            { status := stOk, ids := some (id, v.length), data := (v.drop off).take (min len (portLimit p)), next := d.readEffect k })
        ∧ (f.txnId p ≠ id → id ∉ (f.txn p).rolled →
          answer (.readSegment w idx sub id off len) h { status := stNotInTxn, ids := none, data := [], next := f }))
    ∧ (Served s w g → ∀ row, findRow k = some row → b.keyAbsent k = false → row.acc ≠ .wo →
        answer (.readSegment w idx sub 0 off len) g { status := stOk, ids := some (0, (b.valueBytes k).length)
                                                      data := ((b.valueBytes k).drop off).take (min len (portLimit p)), next := b.readEffect k })

/-- R302, R304, R306, R313, R319: a plain WRITE that fails a check answers its status and changes nothing; one of a value in force of
class NOW or IDLE that passes takes effect and counts as a commit; the segments of a WRITE_SEGMENT in sequence assemble the value,
one that is not the last only keeps its bytes, and the last writes the whole value. -/
def Obligations.WritesAreCheckedThenApplied : Prop :=
  ∀ (s : State) (w : Sender) (idx sub : Nat) (bs : List Nat), idx < 2 ^ 16 → sub < 256 → bs.length ≤ portLimit w.port →
    let k := idx * 256 + sub
    let r : DReq := writeOf k bs
    let a := taken s w r
    let g (arg : Nat) : DReq := { op := 7, key := k, len := bs.length, txn := 0, arg := arg, data := bs }
    let answer (c : Instr) (x : DReq) (o : OpRes) : Prop := exec c s = .next (s.settle (reply w x o))
    (Served s w r → a.writeStatus k bs false ≠ stOk →
      answer (.write w idx sub 0 bs) r { status := a.writeStatus k bs false, ids := none, data := [], next := a })
    ∧ (Served s w r → a.writeStatus k bs false = stOk → ∀ row, findRow k = some row → row.acc ≠ .wo →
        (row.app = .now ∨ row.app = .idle) → a.stateStatus k row (a.normalBytes k bs) = stOk → k ≠ 0x540001 →
        let y := a.setKey k (a.normalBytes k bs)
        y.1 = stOk → answer (.write w idx sub 0 bs) r
          { status := stOk, ids := none, data := [], next := applied a k (a.normalBytes k bs) y.2 })
    ∧ (Served s w r → a.writeStatus k bs false = stOk → ∀ row, findRow k = some row → row.app ≠ .atSection → row.app ≠ .reset →
        a.stateStatus k row (a.normalBytes k bs) ≠ stOk →
        answer (.write w idx sub 0 bs) r
          { status := a.stateStatus k row (a.normalBytes k bs), ids := none, data := [], next := a })
    ∧ (∀ arg, arg < 2 ^ 32 → Served s w (g arg) →
        let b := taken s w (g arg)
        let d := b.dropAsmBuf w.port
        (keyExists k = false → answer (.writeSegment w idx sub 0 arg bs) (g arg)
          { status := stNoObject, ids := none, data := [], next := b })
        ∧ (keyExists k = true → b.keyAbsent k = true → answer (.writeSegment w idx sub 0 arg bs) (g arg)
          { status := stAbsent, ids := none, data := [], next := b })
        ∧ (keyExists k = true → b.keyAbsent k = false → ∀ old : List Nat,
            (arg % 2 ^ 24 = 0 ∧ old = [] ∨ (b.dict.asm[w.port.val]?).getD none = some (k, old) ∧ 0 < old.length ∧ arg % 2 ^ 24 = old.length) →
            arg / 2 ^ 24 % 128 = 0 → old.length + bs.length ≤ 65536 →
            (arg < 2 ^ 31 → answer (.writeSegment w idx sub 0 arg bs) (g arg) 
              { status := stOk, ids := none, data := [], next := { b with dict := { b.dict with
                  asm := b.dict.asm.set w.port (some (k, old ++ bs)) } } })
            ∧ (2 ^ 31 ≤ arg → let y := d.plainWrite w.port k (old ++ bs)
              answer (.writeSegment w idx sub 0 arg bs) (g arg) { status := y.1, ids := y.2.1, data := y.2.2.1, next := y.2.2.2 }
              ∧ (d.writeStatus k (old ++ bs) false ≠ stOk → y = (d.writeStatus k (old ++ bs) false, none, [], d)))))

/-- R305, R309 to R311, R315, R317, R318: BEGIN opens the port's transaction under the next id, and is refused while one is open; a
WRITE that names it is staged; COMMIT that passes the checks takes the next epoch and its section; ROLLBACK frees it; the inactivity
timeout drops it with event 0x0801, and a request that names it then is answered `ROLLED_BACK` once. -/
def Obligations.TransactionsOpenStageAndCommit : Prop :=
  ∀ (s : State) (w : Sender) (id idx sub : Nat) (bs : List Nat), id < 2 ^ 32 → idx < 2 ^ 16 → sub < 256 → bs.length ≤ portLimit w.port →
    let p := w.port.val
    let k := idx * 256 + sub
    let begin_ : DReq := { op := 3, key := 0, len := 0, txn := 0, arg := 0, data := [] }
    let stage : DReq := { op := 2, key := k, len := bs.length, txn := id, arg := 0, data := bs }
    let commit : DReq := { op := 4, key := 0, len := 0, txn := id, arg := 0, data := [] }
    let back : DReq := { op := 5, key := 0, len := 0, txn := id, arg := 0, data := [] }
    let answer (c : Instr) (x : DReq) (o : OpRes) : Prop := exec c s = .next (s.settle (reply w x o))
    let named (x : DReq) : Prop := Served s w x ∧ (taken s w x).txnOpen p = true ∧ (taken s w x).txnId p = id ∧ id ≠ 0
    let kept (x : DReq) : State := (taken s w x).setTxn p { (taken s w x).txn p with last := (taken s w x).now }
    (Served s w begin_ →
      let a := taken s w begin_
      (a.o (txnKey p 1) = 0 → ∃ x : State, answer (.begin_ w) begin_
          { status := stOk, ids := some (a.dict.nextId, 0), data := [], next := x }
        ∧ x.o (txnKey p 1) = 1 ∧ x.o (txnKey p 2) = a.dict.nextId ∧ (x.txn p).staged = []
        ∧ x.dict.nextId = (if a.dict.nextId = 2 ^ 32 - 1 then 1 else a.dict.nextId + 1))
      ∧ (a.o (txnKey p 1) ≠ 0 → answer (.begin_ w) begin_ { status := stTxnLimit, ids := none, data := [], next := a }))
    ∧ (named stage → ∀ row, findRow k = some row → row.acc ≠ .rws → (taken s w stage).keyAbsent k = false →
        (kept stage).writeStatus k bs true = stOk →
        let y := (kept stage).txnStage p k ((kept stage).normalBytes k bs)
        answer (.write w idx sub id bs) stage { status := y.1, ids := none, data := [], next := y.2 }
        ∧ (y.1 = stOk → p < (kept stage).dict.txns.length →
            mapGet (y.2.txn p).staged k = some ((kept stage).normalBytes k bs)))
    ∧ (named commit →
        let b := kept commit
        let e := (b.txn p).staged
        b.commitChecks (some b.applySection) e (b.txn p).since = (stOk, []) →
        ∃ x : State, answer (.commit w id 0 []) commit { status := stOk, ids := some (b.nextEpoch, b.applySection), data := [], next := x.commitAccept (.port p) (some b.applySection) e }
          ∧ x.o (txnKey p 1) = 0 ∧ x.o (txnKey p 2) = 0 ∧ (x.txn p).staged = [] ∧ x.o (txnKey p 6) = stOk)
    ∧ (named back → answer (.rollback w id) back { status := stOk, ids := none, data := [], next := (kept back).txnRollback p }
        ∧ ((kept back).txnRollback p).o (txnKey p 1) = 0 ∧ ((kept back).txnRollback p).o (txnKey p 2) = 0)
    ∧ (∀ v : Fin 4, s.alive = true → s.txnOpen v = true →
        let a := s.atTick ((s.txn v).last + s.n 0x7C0001 * tickS)
        exec (.txnInactivityTimeout v) s = .next (s.settle ((a.txnDrop v).raise 0x0801 (v.val + s.txnId v * 2 ^ 8 : Nat)))
        ∧ (v.val < s.dict.txns.length → s.txnId v ∈ ((a.txnDrop v).txn v).rolled))
    ∧ (Served s w back → (taken s w back).txnId p ≠ id → id ≠ 0 → id ∈ ((taken s w back).txn p).rolled →
        let z := taken s w back
        let x := z.setTxn p { z.txn p with rolled := (z.txn p).rolled.filter (· ≠ id) }
        answer (.rollback w id) back { status := stRolledBack, ids := none, data := [], next := x })

/-- R322, R324: a profile that is written waits for its store; when the store ends the flash holds it with the count of stores, or the
result says that it failed; the integrator objects likewise, a failure with event 0x0808. -/
def Obligations.StoresToFlashEnd : Prop :=
  ∀ (s : State) (w : Sender) (bs : List Nat), s.alive = true →
    let out (x : State) : Host.Outcome State Fault Refusal := .next (s.settle x)
    (Accepted s w 0x110000 bs → bs.length ≤ portLimit w.port →
      let a := taken s w (writeOf 0x110000 bs)
      exec (.profileWrite w bs) s = out (replyOk w (writeOf 0x110000 bs)
        ({ a with dict := { a.dict with profStore := some bs } }.noteCommit [0x110000])))
    ∧ (s.dict.profStore = some bs →
        (∃ x : State, exec (.profileStoreDone true) s = out x ∧ x.dict.profile = bs ∧ x.dict.profStore = none
          ∧ x.o 0x110106 = 1 ∧ x.o 0x110105 = (s.o 0x110105 + 1) % 2 ^ 32)
        ∧ (∃ x : State, exec (.profileStoreDone false) s = out x ∧ x.dict.profile = s.dict.profile ∧ x.dict.profStore = none
          ∧ x.o 0x110106 = 2))
    ∧ (∀ l, s.dict.intStore = some l → s.dict.intAgain = false →
        (∃ x : State, exec (.integratorStoreDone true) s = out x ∧ x.dict.intFlash = l ∧ x.o 0x80F001 = 0)
        ∧ (∃ x : State, exec (.integratorStoreDone false) s = out (x.raise 0x0808) ∧ x.dict.intFlash = s.dict.intFlash ∧ x.o 0x80F001 = 2))
    ∧ (∀ l ok, s.dict.intStore = some l → s.dict.intAgain = true →
        ∃ x : State, exec (.integratorStoreDone ok) s = out x.integratorWritten ∧ x.dict.intFlash = (if ok then l else s.dict.intFlash)
          ∧ x.o 0x80F001 = (if ok then 0 else 2))

/-! ### The field network, the Sluice and lock step (R328 to R350) -/

/-- R328 to R332, R336 to R338, R348: a BEACON makes the node active; a frame with a good check sequence is heard, which ends a link
loss, and one that is not for the device is counted; ENABLE_TX for this head enables transmit, sets the partner, answers and raises
event 0x0901; a report of a peer of the system enters the table or updates its entry, and one the table has no room for is counted;
a link loss sets the state with event 0x0902 and keeps the one before; the first frame of the first kind that waits is sent, and
counted with its collisions. -/
def Obligations.FramesMoveThePort : Prop :=
  ∀ (s : State) (src seq serial : Nat) (body : List Nat), s.alive = true →
    let out (x : State) : Host.Outcome State Fault Refusal := .next (s.settle x)
    (s.o 0x541001 = 1 → s.o 0x540002 ≠ 0 →
      exec .plcaBeacon s = out { s.put 0x541007 2 with net := { s.net with beaconT := s.now } })
    ∧ (s.o 0x540002 ≠ 0 →
        exec (.frameIgnored true) s = out (s.netHeard.bump 0x540009) ∧ exec .notifyReceived s = out (s.netHeard.bump 0x540009)
        ∧ (s.o 0x540002 ≠ 3 → s.netHeard = { s with net := { s.net with frameT := s.now } })
        ∧ (s.o 0x540002 = 3 → s.netHeard.o 0x540002 = s.net.before)
        ∧ exec (.frameIgnored false) s = out (s.sat 0x54000D)
        ∧ (serial ≠ s.n 0x100003 → exec (.enableTx serial src seq) s = out (s.netHeard.bump 0x540009))
        ∧ (∃ x : State, exec (.enableTx (s.n 0x100003) src seq) s = out (x.raise 0x0901 src)
            ∧ x.o 0x540001 = 1 ∧ x.o 0x540005 = src
            ∧ (⟨2, src, pehel 0x8B seq 0 (s.n 0x100003) ++ List.replicate 12 0⟩ : TxFrame) ∈ x.net.txq
            ∧ (s.o 0x540002 ≠ 3 →
                x.net.txq = s.net.txq ++ [⟨2, src, pehel 0x8B seq 0 (s.n 0x100003) ++ List.replicate 12 0⟩]))
        ∧ (fieldAt body 36 4 ≠ s.n 0x808002 ∨ serial = s.n 0x100003 → exec (.posreportReceived serial body) s = out s.netRx)
        ∧ (fieldAt body 36 4 = s.n 0x808002 → serial ≠ s.n 0x100003 →
            ∃ (x : State) (p : Peer), exec (.posreportReceived serial body) s = .next x ∧ x.now = s.now
              ∧ p.serial = serial ∧ p.head = fieldAt body 40 1 ∧ p.line = fieldAt body 0 8 ∧ p.pos = sfieldAt body 8 8
              ∧ p.sect = fieldAt body 16 4 ∧ p.epoch = fieldAt body 20 4 ∧ p.pitch = fieldAt body 44 8
              ∧ ((∀ q ∈ s.net.peers, q.serial ≠ serial) → s.net.peers.length < 16 → x.net.peers = s.net.peers ++ [p])
              ∧ ((∀ q ∈ s.net.peers, q.serial ≠ serial) → 16 ≤ s.net.peers.length →
                  x.net.peers = s.net.peers ∧ x.o 0x54400F = (s.o 0x54400F + 1) % 2 ^ 32)
              ∧ ((∃ q ∈ s.net.peers, q.serial = serial) →
                  x.net.peers = s.net.peers.map fun q => if q.serial = serial then p else q)))
    ∧ (∀ c : Instr, (c = .beaconTimeout ∧ s.beaconLoss = true) ∨ (c = .silenceTimeout ∧ s.silenceLoss = true) →
        ∃ x : State, exec c s = out (x.portLost 2 2) ∧ x.o 0x540002 = 3 ∧ x.net.before = s.o 0x540002 ∧ x.net.cache = [])
    ∧ (∀ (f : TxFrame) (i collisions : Nat), s.o 0x540002 ≠ 0 → s.o 0x540001 ≠ 0 → s.net.txq[i]? = some f →
        ([0, 1, 2, 3].findSome? fun k => s.net.txq.findIdx? (·.kind = k)) = some i →
        ∃ x : State, x.net.txq = s.net.txq.eraseIdx i ∧ x.o 0x54000C = (s.o 0x54000C + 1) % 2 ^ 64
          ∧ x.out = s.out ++ [.frame f.kind f.dest f.body]
          ∧ (s.net.txOff = false → exec (.frameTransmit collisions) s = out x)
          ∧ (s.net.txOff = true → exec (.frameTransmit collisions) s
              = out (if x.net.txq.any (·.kind = 2) then x else x.netEnable false)))

/-- R340 to R346: joining releases nothing and pulls SLUICE low, leaving releases it; a pass fixes the section of the barrier's commit
with event 0x0904 and pulls SLUICE low 10 µs later; a timer that expires, a host's abort or a matching abort from another head
withdraws the commit and counts; an abort is sent three times. -/
def Obligations.TheBarrierPassesOrAborts : Prop :=
  ∀ (s : State) (w : Sender) (edge serial seq system : Nat) (near : Option (Nat × Nat)) (b : Barrier),
    let out (x : State) : Host.Outcome State Fault Refusal := .next (s.settle x)
    let q (k v : Nat) : State := taken s w (writeOf k [v])
    (Accepted s w 0x545001 [1] →
      let a := q 0x545001 1
      let done (j : State) : Prop := exec (.sluiceParticipation w true) s
        = out (replyOk w (writeOf 0x545001 [1]) (applied a 0x545001 [1] j.settleDomains))
      (a.o 0x545002 = 0 →
        done { ((a.put 0x545001 1).put 0x545002 1).put 0x545005 0 with net := { a.net with low := true, pullAt := none } })
      ∧ (a.o 0x545002 ≠ 0 → done (a.put 0x545001 1)))
    ∧ (Accepted s w 0x545001 [0] → (q 0x545001 0).sluice < 2 →
        let a := q 0x545001 0
        exec (.sluiceParticipation w false) s = out (replyOk w (writeOf 0x545001 [0]) (applied a 0x545001 [0]
          ({ a.puts [(0x545001, 0), (0x545002, 0), (0x545005, 1)] with net := { a.net with low := false, pullAt := none } }
            : State).settleDomains)))
    ∧ (Checked s w 0x545001 [0] → 2 ≤ (q 0x545001 0).sluice →
        exec (.sluiceParticipation w false) s = out (reply w (writeOf 0x545001 [0])
          { status := stState, ids := none, data := [], next := q 0x545001 0 }))
    ∧ (s.alive = true → s.net.barrier = some b → s.o 0x545002 = 2 →
        (b.deadline ≤ s.now → exec (.barrierPass edge near) s = out s.barrierExpiry)
        ∧ (s.now < b.deadline →
          let from_ := ((near.filter (·.2 ≤ s.n 0x545004 * tickUs)).map (·.1)).getD edge
          let sect : Nat := if s.atOnce then s.sectionAtOnce else (from_ + s.n 0x7C0002) % 2 ^ 32
          ∃ x : State, exec (.barrierPass edge near) s = out (x.raise 0x0904 sect).applyIdle ∧ x.o 0x545002 = 3 ∧ x.o 0x545006 = sect
            ∧ x.net.barrier = some { b with apply := some sect } ∧ x.net.pullAt = some (s.now + 10 * tickUs)
            ∧ (∀ c ∈ x.dict.commits, c.epoch = b.epoch → c.at_ = some sect)
            ∧ (x.dict.commits.map (·.epoch) = s.dict.commits.map (·.epoch))))
    ∧ (s.alive = true → ∀ t, s.net.pullAt = some t →
        exec .sluicePullLow s = out { (s.atTick t).put 0x545005 0 with net := { s.net with low := true, pullAt := none } })
    ∧ (s.alive = true → s.net.barrier = some b → s.o 0x545002 = 2 →
        ∃ x : State, exec .barrierTimerExpiry s = out (x.raise 0x0906 (b.epoch * 2 ^ 8 + 1 : Nat)) ∧ x.net.barrier = none
          ∧ x.o 0x545002 = 1 ∧ x.now = max s.now b.deadline ∧ (∀ c ∈ x.dict.commits, c.epoch ≠ b.epoch)
          ∧ x.o 0x545008 = (s.o 0x545008 + 1) % 2 ^ 32)
    ∧ (Accepted s w 0x54500C [1] →
        ((q 0x54500C 1).net.barrier = some b → ∃ x : State, exec (.abortBarrier w) s
            = out (replyOk w (writeOf 0x54500C [1]) (x.raise 0x0906 (b.epoch * 2 ^ 8 + 3 : Nat)))
          ∧ x.net.barrier = none ∧ x.o 0x545002 = 1)
        ∧ ((q 0x54500C 1).net.barrier = none → exec (.abortBarrier w) s = out (reply w (writeOf 0x54500C [1])
            { status := stState, ids := none, data := [], next := q 0x54500C 1 })))
    ∧ (s.alive = true → s.o 0x540002 ≠ 0 →
        (system ≠ s.n 0x808002 → exec (.barrierAbortReceived serial seq system) s = out s.netRx)
        ∧ (s.net.aborts.contains (serial, seq) = true ∨ s.sluice < 2 →
            ∃ x : State, exec (.barrierAbortReceived serial seq (s.n 0x808002)) s = out x
              ∧ x.net.barrier = s.net.barrier ∧ x.dict.commits = s.dict.commits ∧ x.o 0x54500A = (s.o 0x54500A + 1) % 2 ^ 32
              ∧ (serial, seq) ∈ x.net.aborts)
        ∧ (s.net.barrier = some b → 2 ≤ s.sluice → s.net.aborts.contains (serial, seq) = false →
            ∃ x : State, exec (.barrierAbortReceived serial seq (s.n 0x808002)) s = out (x.raise 0x0908 serial)
              ∧ x.net.barrier = none ∧ x.o 0x545002 = 1 ∧ x.o 0x545009 = (s.o 0x545009 + 1) % 2 ^ 32))
    ∧ (s.alive = true → ∀ c, s.net.copies = some c →
        let a := (s.atTick c.next).queueFrame ⟨0, s.n 0x540004, c.body⟩
        let more : Option AbortCopies := if c.left ≤ 1 then none else some ⟨c.left - 1, c.next + 500 * tickUs, c.body⟩
        exec .abortRepeat s = out { a with net := { a.net with copies := more } })

/-- R349, R350: lock step is evaluated for the boundary that awaits it: its section and the participants are published; the head that
disagrees with the majority on the line number latches the fault with cause 1, and one that no majority exists for with cause 4; the
fault clears by its command. -/
def Obligations.LockStepFindsDisagreement : Prop :=
  ∀ (s : State) (w : Sender) (e : LockEval), 
    let out (x : State) : Host.Outcome State Fault Refusal := .next (s.settle x)
    (s.alive = true → s.net.eval = some e → ∃ x : State, exec .lockstepEvaluation s = .next x ∧ e.due ≤ x.now
      ∧ (s.localNumbering = true → x = s.settle { s.atTick e.due with net := { s.net with eval := none } }))
    ∧ (s.alive = true → s.net.eval = some e → s.localNumbering = false → s.net.peers = [] → 0 ≤ s.o 0x544003 →
      ∃ x : State, exec .lockstepEvaluation s = .next x ∧ x.net.eval = none ∧ x.now = max s.now e.due
        ∧ x.o 0x544009 = e.sect ∧ x.o 0x54400A = 1 ∧ x.o 0x54400B = 1 ∧ x.o 0x54400C = 0
        ∧ x.o 0x544006 = s.o 0x544006)
    ∧ (s.alive = true → s.net.eval = some e → s.localNumbering = false → s.o 0x544006 = 0 → s.o 0x544005 ≠ 1 →
        ∀ p, s.net.peers = [p] → p.sect = e.sect → p.flags.testBit 0 = false → (p.line ≠ e.line ∨ p.pitch ≠ e.pitch) →
        ∃ x : State, exec .lockstepEvaluation s = .next x ∧ x.o 0x544006 = 1 ∧ x.o 0x544007 = 4 ∧ x.o 0x54400B = 0
          ∧ x.o 0x54400A = 2 ∧ x.o 0x54400E = (s.o 0x54400E + 1) % 2 ^ 32 ∧ x.run = s.run)
    ∧ (s.alive = true → s.net.eval = some e → s.localNumbering = false → s.o 0x544006 = 0 → s.o 0x544005 ≠ 1 →
        ∀ p r, s.net.peers = [p, r] → p.sect = e.sect → r.sect = e.sect → p.flags.testBit 0 = false → r.flags.testBit 0 = false →
        p.line = r.line → p.pitch = r.pitch → p.line ≠ e.line →
        ∃ x : State, exec .lockstepEvaluation s = .next x ∧ x.o 0x544006 = 1 ∧ x.o 0x544007 = 1 ∧ x.o 0x54400B = 2)
    ∧ (Accepted s w 0x544008 [1] → exec (.clearLockstepFault w) s
        = out (replyOk w (writeOf 0x544008 [1]) ((taken s w (writeOf 0x544008 [1])).put 0x544006 0)))

/-! ### The two-wire ports (R354 to R382) -/

/-- R357 to R370: the target port in command mode answers its state, its response and the serial number in one read each, with the check
byte while it is enabled, and takes a request of at least 12 bytes that ends in a STOP; a broken, short or wrongly checked write is
discarded and counted. In pointer mode a read answers its bytes from the pointer, a pointer alone is set, and data are written to
their window. A bus timeout resets the port with event 0x0A04, an abandoned stretch is counted with event 0x0A03, and the address
wakes the device from standby. -/
def Obligations.TargetPortTransactions : Prop :=
  ∀ (s : State) (n : Nat) (block tail : List Nat), s.alive = true →
    let out (x : State) : Host.Outcome State Fault Refusal := .next (s.settle x)
    let ff (code : Nat) (bs : List Nat) : List Nat :=
      (s.withCheck8 [s.twtAddr, code, s.twtAddr + 1] bs ++ List.replicate n 0xFF).take n
    (s.twtLive = true → s.o 0x580002 = 0 →
      exec (.twtStateRead n) s = out (s.emit (.twt (ff 0x10 [s.two.twState])))
      ∧ exec (.twtIdentRead n) s = out (s.emit (.twt (ff 0x12 (leBytes 8 (s.n 0x100003)))))
      ∧ (s.two.twState = 2 → exec (.twtResponseRead n) s = out (s.emit (.twt (ff 0x11 s.two.twResp))))
      ∧ (s.two.twState ≠ 2 → exec (.twtResponseRead n) s = out (s.emit (.twt (ff 0x11 [0]))))
      ∧ (s.two.twState ≠ 1 → ∀ code, 1 ≤ code → code ≤ 7 →
          (12 ≤ block.length → (s.o 0x580003 ≠ 0 → tail.head? = some (crc8 ([s.twtAddr, code, block.length] ++ block))) →
              exec (.twtRequest code (block.length :: (block ++ tail)) 0) s
                = out ({ s with two := { s.two with twState := 1, twResp := [] } }.arrive ⟨3, 0, twtReq code block⟩))
          ∧ (12 ≤ block.length → s.o 0x580003 ≠ 0 → tail.head? ≠ some (crc8 ([s.twtAddr, code, block.length] ++ block)) →
              exec (.twtRequest code (block.length :: (block ++ tail)) 0) s = out s.twtCheckError)
          ∧ (block.length < 12 → exec (.twtRequest code (block.length :: block) 0) s = out (s.bump 0x58000A))
          ∧ exec (.twtRequest code (block.length :: block) 2) s = out (s.bump 0x58000A)))
    ∧ (s.twtLive = true → s.o 0x580002 = 1 → n < 65536 →
        exec (.twtPointerWrite n [] 0) s = out { s with two := { s.two with pointer := n } }
        ∧ (s.o 0x580003 = 0 → 32 < block.length → exec (.twtPointerWrite n block 0) s = out (s.bump 0x58000A))
        ∧ (block ≠ [] → block.length ≤ 32 →
            (s.o 0x580003 = 0 ∧ tail = [] ∨ s.o 0x580003 ≠ 0 ∧ tail = [crc8 ([s.twtAddr, n / 256, n % 256] ++ block)]) →
            exec (.twtPointerWrite n (block ++ tail) 0) s = out ({ s with two := { s.two with pointer := n } }.windowWrite n block)))
    ∧ (s.twtLive = true → s.o 0x580002 = 1 →
        (s.dbg.sup1 = true → exec (.twtPointerRead n) s = out s.twtAbandon)
        ∧ (s.dbg.sup1 = false → exec (.twtPointerRead n) s = out ((s.pointerBytes n []).2.emit (.twt (s.pointerBytes n []).1))
            ∧ (s.pointerBytes n []).1.length = n)
        ∧ (s.dbg.sup1 = false → s.windowKey? (s.two.pointer / 256) = none → exec (.twtPointerRead 1) s
            = out ({ s.put 0x580009 stNoObject with two := { s.two with pointer := (s.two.pointer + 1) % 65536 } }.emit (.twt [0xFF])))
        ∧ (s.dbg.sup1 = false → ∀ k, s.windowKey? (s.two.pointer / 256) = some k → k ≠ 0x580004 → s.gate 3 (readOf k) = true →
            (s.opRead 0 (readOf k)).status = stOk →
            ∃ x : State, exec (.twtPointerRead 1) s
              = out (x.emit (.twt [((s.opRead 0 (readOf k)).data[s.two.pointer % 256]?).getD 0xFF])) ∧ x.o 0x580009 = stOk))
    ∧ (s.twtLive = true → exec .twtBusTimeout s
        = out ((({ s with two := { s.two with twState := 0, twResp := [] } }.portLost 3 3).bump 0x580008).raise 0x0A04))
    ∧ (s.twtLive = true → exec .twtStretchAbandon s = out ((s.bump 0x580007).raise 0x0A03))
    ∧ (s.o 0x152005 = 4 → s.pow.onStore = false →
        exec .twtWake s = out ((((s.put 0x152005 0).chargerEval.bump 0x58000B).raise 0x0A05).raise 0x0D0D))

/-- R373 to R379: the controller port is enabled into BUSY, or into a bus clear after an interrupted byte, and is free after 50 µs; RUN
makes a job READY or WAITING or triggers it again, and CANCEL ends it; a period makes its job READY or is missed; the lowest READY
job starts and its transaction runs; it ends with its status, is repeated after a NACK or a lost arbitration up to the limit, and
ends in a bus clear after a stretch; a bus clear that frees SDA returns to IDLE with event 0x0A07, and one that does not waits, or
fails the port at the fourth. -/
def Obligations.ControllerPortRunsJobs : Prop :=
  ∀ (s : State) (w : Sender) (j : Fin 16) (on : Bool), s.alive = true →
    let out (x : State) : Host.Outcome State Fault Refusal := .next (s.settle x)
    let q (k v : Nat) : State := taken s w (writeOf k [v])
    let k := jobKey j 1
    (Accepted s w 0x584001 [boolByte on] →
      let a := q 0x584001 (boolByte on)
      let done (x : State) : Prop := exec (.twcEnable w on) s = out (replyOk w (writeOf 0x584001 [boolByte on])
        (applied a 0x584001 [boolByte on] x))
      done (a.twcEnable on)
      ∧ (on = true → a.o 0x584001 = 0 → a.pdOn 11 = true → a.two.interrupted = false →
          a.twcEnable on = (a.put 0x584001 1).put 0x584005 tcBusy)
      ∧ (on = true → a.o 0x584001 = 0 → a.pdOn 11 = true → a.two.interrupted = true → (a.twcEnable on).twc = tcClearing)
      ∧ (on = false → a.o 0x584001 ≠ 0 → (a.twcEnable on).twc = tcOff ∧ (a.twcEnable on).two.running = none))
    ∧ (s.twc = tcBusy → s.two.running = none → exec .twcBusReady s = out (s.put 0x584005 tcIdle))
    ∧ (Accepted s w k [1] →
        let a := q k 1
        let done (x : State) : Prop := exec (.twcRun w j) s = out (replyOk w (writeOf k [1]) x)
        let refused (st : Nat) : Prop :=
          exec (.twcRun w j) s = out (reply w (writeOf k [1]) { status := st, ids := none, data := [], next := a })
        (a.jobReads j = true → a.o (jobKey j 8) = 0 → refused stConstraint)
        ∧ ((a.jobReads j = false ∨ a.o (jobKey j 8) ≠ 0) →
            ((a.twc = tcOff ∨ a.twc = tcFailed) → refused stState)
            ∧ (a.twc ≠ tcOff → a.twc ≠ tcFailed →
              (a.job j = jbIdle → a.o (jobKey j 5) ≠ 1 → a.o (jobKey j 5) ≠ 2 → done (a.put (jobKey j 2) jbReady))
              ∧ (a.job j = jbIdle → a.o (jobKey j 5) = 1 → done { a.put (jobKey j 2) jbReady with two := { a.two with
                  nextT := mapPut a.two.nextT j (a.now + a.n (jobKey j 6) * tickMs) } })
              ∧ (a.job j = jbIdle → a.o (jobKey j 5) = 2 → done (a.put (jobKey j 2) jbWaiting))
              ∧ (a.job j ≠ jbIdle → a.o (jobKey j 5) = 2 → done a)
              ∧ (a.job j ≠ jbIdle → a.o (jobKey j 5) ≠ 2 → done (a.jobTrigger j)))))
    ∧ (Accepted s w k [2] →
        let a := q k 2
        ∃ x : State, exec (.twcCancel w j) s = out (replyOk w (writeOf k [2]) x) ∧ mapGet x.two.nextT j.val = none
          ∧ (a.job j = jbRunning → x.job j = jbRunning ∧ x.two.cancel = true)
          ∧ (a.job j ≠ jbRunning → x.job j = jbIdle)
          ∧ (a.job j = jbReady → x.o (jobKey j 0x0A) = 8))
    ∧ (∀ t, mapGet s.two.nextT j.val = some t → t ≤ s.now →
        let a := { s with two := { s.two with nextT := mapPut s.two.nextT j (t + s.n (jobKey j 6) * tickMs) } }
        (s.job j = jbWaiting → exec (.twcPeriodicTrigger j) s = out (a.put (jobKey j 2) jbReady))
        ∧ (s.job j = jbIdle → exec (.twcPeriodicTrigger j) s = out a)
        ∧ (s.job j ≠ jbWaiting → s.job j ≠ jbIdle → exec (.twcPeriodicTrigger j) s
            = out ((a.bump (jobKey j 0x0D)).raiseFirst 0x0A0A j (j.val : Nat))))
    ∧ (s.twc = tcIdle → (List.range 16).find? (fun i => s.job i = jbReady) = some j.val →
        ∃ x : State, exec .twcJobStart s = .next x ∧ x.job j = jbRunning ∧ x.twc = tcBusy ∧ x.two.running = some j.val
          ∧ x.out = s.out ++ [.twc (s.n (jobKey j 3)) (if s.o (jobKey j 4) = 1 then [] else s.blob (jobKey j 7))
              (if s.o (jobKey j 4) = 0 then 0 else s.n (jobKey j 8))])
    ∧ (s.two.running = some j.val → s.twc = tcBusy → ∀ data,
        let ends (c : Instr) (st : Nat) : Prop := ∃ x : State, exec c s = .next x ∧ x.o (jobKey j 0x0A) = st ∧ x.two.running = none
          ∧ x.twc = tcIdle
        (∃ x : State, exec (.twcJobComplete 0 data) s = .next x ∧ x.o (jobKey j 0x0A) = 1 ∧ x.two.running = none ∧ x.twc = tcIdle
          ∧ (s.o (jobKey j 4) ≠ 0 → x.blob (jobKey j 9) = data.take (s.n (jobKey j 8))))
        ∧ (s.two.nacks < s.n 0x58400A → exec (.twcJobComplete 1 data) s
            = out ({ s with two := { s.two with nacks := s.two.nacks + 1 } }.jobBus j))
        ∧ (s.n 0x58400A ≤ s.two.nacks → ends (.twcJobComplete 1 data) 2)
        ∧ ends (.twcJobComplete 2 data) 3
        ∧ (let n := (mapGet s.two.losses j.val).getD 0 + 1
           (n ≤ s.n 0x584004 → s.two.cancel = false →
            ∃ x : State, exec .twcArbitrationLost s = .next x ∧ x.job j = jbReady ∧ x.two.running = none ∧ x.twc = tcIdle
              ∧ x.o 0x584008 = (s.o 0x584008 + 1) % 2 ^ 32 ∧ mapGet x.two.losses j.val = some n)
           ∧ (n ≤ s.n 0x584004 → s.two.cancel = true → ends .twcArbitrationLost 8)
           ∧ (s.n 0x584004 < n → ends .twcArbitrationLost 4))
        ∧ (∃ x : State, exec .twcStretchTimeout s = .next x ∧ x.o (jobKey j 0x0A) = 5 ∧ x.two.running = none ∧ x.twc = tcClearing
            ∧ x.o 0x584009 = (s.o 0x584009 + 1) % 2 ^ 32))
    ∧ (s.twc = tcClearing →
        (∃ x : State, exec (.twcBusClear true) s = out (x.raise 0x0A07) ∧ x.twc = tcIdle ∧ x.two.attempts = 0 ∧ x.two.stuck = false
          ∧ x.o 0x584007 = (s.o 0x584007 + 1) % 2 ^ 32)
        ∧ (s.two.attempts < 3 → ∃ x : State, exec (.twcBusClear false) s = .next x ∧ x.twc = tcStuckWait
            ∧ x.two.attempts = s.two.attempts + 1 ∧ x.two.stuck = true ∧ x.two.waitT = s.now + 10 * tickMs)
        ∧ (3 ≤ s.two.attempts → ∃ x : State, exec (.twcBusClear false) s = .next x ∧ x.twc = tcFailed
            ∧ (∀ i < 16, x.job i ≠ jbReady ∧ x.job i ≠ jbWaiting)))
    ∧ (s.twc = tcStuckWait → exec .twcStuckWaitExpiry s = out ((s.atTick s.two.waitT).put 0x584005 tcClearing))
    ∧ (Accepted s w 0x584006 [1] →
        let a := q 0x584006 1
        (a.twc = tcFailed → exec (.twcClearFailure w) s = out (replyOk w (writeOf 0x584006 [1]) a.clearBegin) ∧ a.clearBegin.twc = tcClearing)
        ∧ (a.twc ≠ tcFailed → exec (.twcClearFailure w) s = out (replyOk w (writeOf 0x584006 [1]) a)))
    ∧ (s.twc = tcIdle ∨ s.twc = tcBusy ∧ s.two.running = none → exec .sdaLowWhileIdle s = out s.clearBegin)

/-! ### Calibration sets, procedures and ageing (R384 to R406) -/

/-- R387, R390: STORE begins a store of the masked parts and is refused while one runs; its erase, its program and its header end one
after another, the header with a next generation in the other slot, and each one that fails ends the store with event 0x0B05. -/
def Obligations.StoresOfTheSetGoThroughTheirSteps : Prop :=
  ∀ (s : State) (w : Sender) (st : CalStore),
    let out (x : State) : Host.Outcome State Fault Refusal := .next (s.settle x)
    let q : State := taken s w (writeOf 0x320001 [1])
    (Accepted s w 0x320001 [1] →
      (q.cal.store = none → exec (.calsetStore w) s = out (replyOk w (writeOf 0x320001 [1]) (q.storeBegin 2 false (maskParts (q.n 0x320002)))))
      ∧ (q.cal.store.isSome = true → exec (.calsetStore w) s
          = out (reply w (writeOf 0x320001 [1]) { status := stBusy, ids := none, data := [], next := q })))
    ∧ (s.alive = true → s.cal.store = some st → s.storeSuspended = false →
        (st.step = 1 → exec (.calsetEraseDone false) s = out (s.storeEnd false)
          ∧ ∃ x : State, exec (.calsetEraseDone true) s = .next x ∧ x.cal.store = some { st with step := 2 }
            ∧ 0 ≤ x.o 0x32000B ∧ x.o 0x32000B < 100)
        ∧ (st.step = 2 → exec (.calsetProgramDone false) s
              = out ((s.setSlot s.targetSlot { CalSlot.erased with st := 1 }).showOther.storeEnd false)
          ∧ ∃ x : State, exec (.calsetProgramDone true) s = out (if st.origin = 2 then x.burnCounter .overwrite else x)
              ∧ x.cal.store = some { st with step := 3 } ∧ x.otp = s.otp)
        ∧ (st.step = 3 → s.otp.queue.any (·.origin = BurnOrigin.overwrite) = false →
            exec (.calsetHeaderDone false) s = out (s.storeEnd false)
            ∧ ∃ x : State, exec (.calsetHeaderDone true) s = out (x.showOther.storeEnd true)
              ∧ x.o 0x320004 = s.n 0x320004 + 1 ∧ x.o 0x320006 = s.targetSlot ∧ x.o 0x320005 = st.origin
              ∧ (s.targetSlot < s.cal.slots.length → (x.calSlot s.targetSlot).vals = st.vals ∧ (x.calSlot s.targetSlot).st = 0)))

/-- R394 to R397: START_DARK and START_FLAT begin the accumulation at the next section while the run is RUNNING, and are refused else;
ABORT ends a running procedure and refuses none to end; DISCARD drops results that wait, ACCEPT enters them as a commit of the
device; an evaluation that lacks a source's sums ends with its reason, and one whose sources all pass holds the results, which apply
at once under auto-apply. -/
def Obligations.ProceduresRunAndEnd : Prop :=
  ∀ (s : State) (w : Sender),
    let q (v : Nat) : State := taken s w (writeOf 0x328001 [v])
    let done (c : Instr) (v : Nat) (x : State) : Prop := exec c s = .next (s.settle (replyOk w (writeOf 0x328001 [v]) x))
    let refused (c : Instr) (v st : Nat) : Prop := exec c s = .next (s.settle (reply w (writeOf 0x328001 [v])
      { status := st, ids := none, data := [], next := q v }))
    let ready (a : State) : Prop := (∀ f ∈ a.procSources, a.srcPresent f = true) ∧ a.pdOn 72 = true ∧ a.run = rsRunning
      ∧ a.proc ≠ prAccum ∧ a.proc ≠ prEval ∧ a.proc ≠ prApplying ∧ a.n 0x328003 ≤ a.n 0x328004
    let begun (kind : Nat) (a x : State) : Prop := x.proc = prAccum ∧ x.cal.kind = kind ∧ x.cal.start = a.n 0x202004 + 1
      ∧ x.cal.accs = [] ∧ x.cal.results = []
    (Accepted s w 0x328001 [1] → ready (q 1) →
      ((q 1).o 0x243001 = 0 → ∃ x, done (.startDark w) 1 x ∧ begun 1 (q 1) x)
      ∧ ((q 1).o 0x243001 ≠ 0 → refused (.startDark w) 1 stState))
    ∧ (Accepted s w 0x328001 [2] → ready (q 2) →
      ((q 2).tmode ≠ 1 → (q 2).tmode ≠ 3 → ∃ x, done (.startFlat w) 2 x ∧ begun 2 (q 2) x)
      ∧ ((q 2).tmode = 1 ∨ (q 2).tmode = 3 → refused (.startFlat w) 2 stState))
    ∧ (Accepted s w 0x328001 [3] →
      ((q 3).proc = prAccum ∨ (q 3).proc = prEval → ∃ x : State, done (.procedureAbort w) 3 (x.raise 0x0B08 5) ∧ x.proc = prIdle
        ∧ x.o 0x328013 = 5 ∧ x.cal.results = [])
      ∧ ((q 3).proc = prPending → ∃ x : State, done (.procedureAbort w) 3 x ∧ x.proc = prIdle ∧ x.cal.results = [])
      ∧ ((q 3).proc = prIdle ∨ (q 3).proc = prApplying → refused (.procedureAbort w) 3 stState))
    ∧ (Accepted s w 0x328001 [4] →
      ((q 4).proc = prPending → ∃ x : State, done (.accept w) 4 ((x.commitAccept .calib (some (q 4).applySection) (q 4).cal.results).put
          0x7C0008 ((q 4).o 0x7C0008)) ∧ x.proc = prApplying ∧ x.o 0x32801A = (q 4).applySection ∧ x.cal.results = [])
      ∧ ((q 4).proc ≠ prPending → refused (.accept w) 4 stState))
    ∧ (Accepted s w 0x328001 [5] →
      ((q 5).proc = prPending → ∃ x, done (.discard w) 5 x ∧ x.proc = prIdle ∧ x.cal.results = [] ∧ x.blobs = (q 5).blobs)
      ∧ ((q 5).proc ≠ prPending → refused (.discard w) 5 stState))
    ∧ (s.alive = true → s.proc = prEval →
        let out (x : State) : Host.Outcome State Fault Refusal := .next (s.settle x)
        let one (f : Nat) : ProcResult := if s.cal.kind = 1 then s.evalDark f else s.evalFlat f
        ((∃ f ∈ s.procSources, f ∈ s.cal.missing) → ∃ (x : State) (reason : Nat),
            exec .procedureEvaluationDone s = out ((x.raise 0x0B08 (reason : Nat)).growthCheck)
            ∧ reason ≠ 0 ∧ x.proc = prIdle ∧ x.o 0x328013 = reason ∧ x.cal.results = []
            ∧ ((∀ f ∈ s.procSources, f ∈ s.cal.missing) → reason = 13))
        ∧ ((∀ f ∈ s.procSources, f ∉ s.cal.missing ∧ (one f).reason = 0) → ∃ x : State,
            exec .procedureEvaluationDone s = out (let y := x.raise 0x0B07 0
              (if y.o 0x328018 ≠ 0 then y.procAccept.2 else y).growthCheck)
            ∧ x.proc = prPending ∧ x.o 0x328013 = 0 ∧ x.cal.accs = [] ∧ x.cal.results = s.procSources.flatMap fun f => (one f).vals))

/-- R398 to R406: an operating hour counts on; the hours record holds the hours; an ageing sample publishes what the monitors of a
segment counted; the drift of the sensors is taken while the array rests; a re-plan is due at its interval, is requested by the host
or refused while one runs, and publishes its plan with the next generation. -/
def Obligations.AgeingIsRecordedAndReplanned : Prop :=
  ∀ (s : State) (w : Sender), s.alive = true →
    let out (x : State) : Host.Outcome State Fault Refusal := .next (s.settle x)
    (s.pdOn 2 = true →
      exec .hoursRecord s = out { s with cal := { s.cal with hoursRec := (s.n 0x700001, s.n 0x700002) } }
      ∧ (∀ hot : Bool, ∃ x : State, exec (.operatingHour hot) s = .next x ∧ x.o 0x700001 = min (s.o 0x700001 + 1) (2 ^ 32 - 1)
          ∧ x.o 0x700002 = (if hot then min (s.o 0x700002 + 1) (2 ^ 32 - 1) else s.o 0x700002))
      ∧ (0 ≤ s.o 0x700001 → s.o 0x700001 < 2 ^ 32 - 1 → (s.o 0x700001 + 1) % 1000 ≠ 0 →
          ∃ x : State, exec (.operatingHour false) s = .next x ∧ x.otp = s.otp))
    ∧ (s.pdOn 79 = true → ∀ (g : Fin 24) (m n : Nat), s.segPresent g = true → m < 2 ^ 32 → n < 2 ^ 32 →
        let x := s.ageOne g m n
        (x.o (ageKey g 3) < s.planned g + 50 →
          exec (.ageingSample [(g, m, n)]) s = out x)
        ∧ x.o (ageKey g 1) = m ∧ x.o (ageKey g 2) = n)
    ∧ (∀ ptat, s.pdOn 79 = true → s.latestResult 27 = some ptat → s.validSensors = [] → exec .sensorDriftPeriod s = out s)
    ∧ (∀ ptat lo : Int, s.pdOn 79 = true → s.latestResult 27 = some ptat → s.validSensors ≠ [] →
        (∀ g, g < 24 → s.pdOn (16 + 2 * g) = false) →
        (∀ n ∈ s.validSensors, -32768 ≤ lo ∧ lo ≤ s.o (sensorKey n 1) ∧ s.o (sensorKey n 1) ≤ lo + 128 ∧ lo + 128 ≤ 32767) →
        let drift (n : Nat) : Int := clampI (-32768) 32767 (s.o (sensorKey n 1) - ptat)
        (∀ n ∈ s.sensors, (drift n - s.plannedDrift n).natAbs < 64) →
        ∃ x : State, exec .sensorDriftPeriod s = out x ∧ (∀ n ∈ s.sensors, x.o (0x704801 + n) = drift n)
          ∧ ∀ k, (k < 0x704801 ∨ 0x704821 ≤ k) → x.o k = s.o k)
    ∧ (s.pdOn 2 = true → s.o 0x700008 ≠ 1 → s.n 0x700006 ≤ s.n 0x700005 →
        exec .scheduledReplan s = out ({ s with cal := { s.cal with cause := 1 } }.put 0x700008 1))
    ∧ (Accepted s w 0x700007 [1] →
        let a := taken s w (writeOf 0x700007 [1])
        (a.o 0x700008 = 1 → exec (.replanRequest w) s
          = out (reply w (writeOf 0x700007 [1]) { status := stBusy, ids := none, data := [], next := a }))
        ∧ (a.o 0x700008 ≠ 1 → a.pdOn 2 = true → exec (.replanRequest w) s
          = out (replyOk w (writeOf 0x700007 [1]) ({ a with cal := { a.cal with cause := 3 } }.put 0x700008 1))))
    ∧ (s.o 0x700008 = 1 → 1024 ≤ (s.blob 0x325800).length → let gen : Nat := (s.n 0x700009 + 1) % 2 ^ 32
        ∃ (x : State) (urgent : List Nat), exec .replanDone s
            = out ((urgent.foldl (fun a g => a.applySegment g) ((x.raise 0x0B0A gen).planStore)).refreshClock)
          ∧ x.o 0x700009 = gen ∧ x.o 0x700008 = 2 ∧ x.o 0x700005 = 0 ∧ fieldAt (x.blob 0x325800) 0 4 = gen)

/-! ### Temperature and the monitor ADC (R407 to R424) -/

/-- R407 to R413: a reading sets the frequency of its sensor, 40 kHz for each edge of its count, and its conversion joins the last
eight; a value period counts Tp against its limits, four values in succession assert a level, and the throttle steps follow 200 ms
and 2,200 ms after the assertion; clearing puts the sensors of the mask to the test again; a restart leaves SHUTDOWN unless the
level stands or too few sensors are valid. -/
def Obligations.TemperatureCommandsAct : Prop :=
  ∀ (s : State) (w : Sender), s.alive = true →
    let out (x : State) : Host.Outcome State Fault Refusal := .next (s.settle x)
    let q (k : Nat) (bs : List Nat) : State := taken s w (writeOf k bs)
    (s.o 0x152005 ≠ 4 → ∀ (n : Fin 32) (count : Nat), ∃ x, exec (.sensorReading n count) s = out x ∧ x.o (sensorKey n 2) = 40 * count
        ∧ (∀ k, k ≠ sensorKey n 2 → x.o k = s.o k)
        ∧ (∀ m, m ≠ n.val → x.sensor m = s.sensor m)
        ∧ (count = 0 → (x.sensor n).convs = (s.sensor n).convs ∧ (x.sensor n).zero = min 2 ((s.sensor n).zero + 1))
        ∧ (count ≠ 0 → (x.sensor n).convs = (s.convertSensor n (40 * count) :: (s.sensor n).convs).take 8))
    ∧ (s.o 0x152005 ≠ 4 → ∃ x : State, exec .valuePeriod s = out (((x.levels.throttleTimers).compensate.refreshClock.recalByTemp).thermalSettle)
        ∧ (let t := x.therm
           let lim (j : Nat) : Int := 64 * x.o (0x600000 + j)
           let low (j : Nat) : Int := 64 * (x.o (0x600000 + j) - x.o (0x600000 + j + 1))
           let next (l : Level) (j : Nat) : Level := l.next (x.o 0x600801) (lim j) (low j)
           let y : State := { x with therm := { t with shut := next t.shut 5, thr := next t.thr 3, warn := next t.warn 1 } }
           y.levelOf 2 (next t.shut 5) = none →
             (y.levelOf 1 (next t.thr 3) = none → y.levelOf 0 (next t.warn 1) = some true → x.levels = (y.setBits 0x600803 1).raise 0x0C01)
             ∧ (y.levelOf 1 (next t.thr 3) = none → y.levelOf 0 (next t.warn 1) = some false → x.levels = (y.clrBits 0x600803 1).raise 0x0C02)
             ∧ (y.levelOf 1 (next t.thr 3) = some true → x.levels.therm.thrT = some x.now ∧ 1 ≤ x.levels.n 0x600804)))
    ∧ (∀ l : Level, ∀ tp hi lo : Int, lo < hi →
        ((l.next tp hi lo).on = 4 ↔ hi ≤ tp ∧ 3 ≤ l.on) ∧ ((l.next tp hi lo).off = 4 ↔ tp ≤ lo ∧ 3 ≤ l.off))
    ∧ (s.o 0x152005 ≠ 4 → ∀ t, s.therm.thrT = some t →
        (s.n 0x600804 < 2 → s.now < t + 2200 * tickMs →
          exec .throttleStepTimer s = out ((((s.atTick (t + 200 * tickMs)).put 0x600804 2).raise 0x0C04 2).refreshClock))
        ∧ (s.n 0x600804 < 2 → t + 2200 * tickMs ≤ s.now →
          exec .throttleStepTimer s = out ((((((s.put 0x600804 2).raise 0x0C04 2).refreshClock).put 0x600804 3).raise 0x0C04 3).refreshClock))
        ∧ (s.n 0x600804 = 2 →
          exec .throttleStepTimer s = out ((((s.atTick (t + 2200 * tickMs)).put 0x600804 3).raise 0x0C04 3).refreshClock)))
    ∧ (∀ m, m < 2 ^ 32 → Accepted s w 0x60080E (leBytes 4 m) →
        let a := q 0x60080E (leBytes 4 m)
        ∃ x, exec (.clearSensorFailures w m) s = out (replyOk w (writeOf 0x60080E (leBytes 4 m)) x)
          ∧ ∀ n ∈ a.sensors, x.bit 0x600806 n = (a.bit 0x600806 n && !m.testBit n)
              ∧ (m.testBit n = true → a.bit 0x600806 n = true → (x.sensor n).fresh = true ∧ x.o (sensorKey n 5) = 0))
    ∧ (Accepted s w 0x60080B [1] →
        let a := q 0x60080B [1]
        (a.o 0x102001 = dsShutdown → a.bit 0x600803 2 = false → a.sensorsShort = false →
          ∃ x : State, exec (.thermalRestart w) s
              = out (replyOk w (writeOf 0x60080B [1]) (((x.put 0x102001 dsReady).raise 0x0C07 1).refreshClock))
            ∧ x.therm.before = [] ∧ x.therm.shedT = none)
        ∧ (a.o 0x102001 ≠ dsShutdown ∨ a.bit 0x600803 2 = true ∨ a.sensorsShort = true →
          exec (.thermalRestart w) s
            = out (reply w (writeOf 0x60080B [1]) { status := stState, ids := none, data := [], next := a })))

/-- R419 to R424: START begins passes from STOPPED, STOP ends them after the pass in progress, and CALIBRATE suspends them at its end or
calibrates at once when they are stopped; a calibration ends OK or failed by the limits of its offset and gain; the slot that is due
takes the mean of its conversions, and the write of a channel's latch clears the bits named. -/
def Obligations.MonitorAdcRunsItsSlots : Prop :=
  ∀ (s : State) (w : Sender), s.alive = true →
    let out (x : State) : Host.Outcome State Fault Refusal := .next (s.settle x)
    let q (v : Nat) : State := taken s w (writeOf 0x640002 [v])
    let done (c : Instr) (v : Nat) (x : State) : Prop := exec c s = out (replyOk w (writeOf 0x640002 [v]) x)
    (Accepted s w 0x640002 [1] →
      ((q 1).adc = adStopped → done (.adcStart w) 1 (((q 1).put 0x640001 adRunning).passBegin)
        ∧ (((q 1).put 0x640001 adRunning).passBegin).therm.plan = (q 1).adcSlots)
      ∧ ((q 1).adc = adStopping → done (.adcStart w) 1 ((q 1).put 0x640001 adPendingOn))
      ∧ ((q 1).adc = adCalibrating → done (.adcStart w) 1 { q 1 with therm := { (q 1).therm with stopAfter := false } })
      ∧ ((q 1).adc = adRunning ∨ (q 1).adc = adPendingOn → done (.adcStart w) 1 (q 1)))
    ∧ (Accepted s w 0x640002 [2] →
      ((q 2).adc = adRunning ∨ (q 2).adc = adPendingOn → done (.adcStop w) 2 ((q 2).put 0x640001 adStopping))
      ∧ ((q 2).adc = adCalibrating → done (.adcStop w) 2 { q 2 with therm := { (q 2).therm with stopAfter := true } })
      ∧ ((q 2).adc = adStopped ∨ (q 2).adc = adStopping → done (.adcStop w) 2 (q 2)))
    ∧ (Accepted s w 0x640002 [3] →
      ((q 3).adc = adStopped → (q 3).therm.calPend = false → ∃ x, done (.adcCalibrate w) 3 x ∧ x.adc = adCalibrating ∧ x.therm.stopAfter = true)
      ∧ ((q 3).adc = adRunning ∨ (q 3).adc = adStopping ∨ (q 3).adc = adPendingOn → (q 3).therm.calPend = false →
          ∃ x : State, done (.adcCalibrate w) 3 x ∧ x.adc = (q 3).adc ∧ x.therm.calPend = true ∧ x.objs = (q 3).objs))
    ∧ (∀ offset gain, s.adc = adCalibrating → ∃ x : State, exec (.adcCalComplete offset gain) s = out x
        ∧ (s.therm.stopAfter = true → x.adc = adStopped) ∧ (s.therm.stopAfter = false → x.adc = adRunning ∧ x.therm.plan = x.adcSlots)
        ∧ (-64 ≤ offset → offset ≤ 64 → -5000 ≤ gain → gain ≤ 5000 → x.o 0x640005 = 1 ∧ x.therm.offset = offset ∧ x.therm.gain = gain)
        ∧ (64 < offset.natAbs ∨ 5000 < gain.natAbs →
            x.o 0x640005 = 2 ∧ x.therm.offset = s.therm.offset ∧ x.therm.gain = s.therm.gain))
    ∧ (∀ k ch range n (codes : List Nat), s.adcSlot = some (k, ch, range, n) → codes.length = n →
        let a := s.adcResult codes
        let b := match a.latestResult k with
          | some v => if 28 ≤ k && k ≤ 30 then a.chargerResult k v else a
          | none => a
        exec (.adcSlotComplete codes) s = out (if b.adcSlot.isNone then b.passEnd else b)
        ∧ a.therm.plan = s.therm.plan.drop 1 ∧ a.therm.lastCh = some ch
        ∧ ∃ r : AdcResult, a.therm.back = s.therm.back ++ [r] ∧ r.slot = k ∧ r.pass = s.therm.pass)
    ∧ (∀ k ch range n rest (codes : List Nat), s.adc = adRunning → s.therm.plan = (k, ch, range, n) :: rest → rest ≠ [] →
        codes.length = n → 0 < n → (∀ c ∈ codes, c < 65536) → (k < 28 ∨ 30 < k) →
        ∃ x : State, exec (.adcSlotComplete codes) s = out x ∧ x.therm.plan = rest ∧ x.therm.lastCh = some ch
          ∧ ∃ r : AdcResult, x.therm.back = s.therm.back ++ [r] ∧ r.slot = k ∧ r.pass = s.therm.pass
              ∧ r.code = (2 * codes.sum + n) / (2 * n) ∧ r.value = s.adcValue ch range r.code)
    ∧ (∀ (ch : Fin 40) (m : Nat), m < 2 ^ 32 → Accepted s w (windowKey ch 7) (leBytes 4 m) →
        exec (.adcClearLatch w ch m) s = out (replyOk w (writeOf (windowKey ch 7) (leBytes 4 m))
          ((taken s w (writeOf (windowKey ch 7) (leBytes 4 m))).clrBits (windowKey ch 6) m)))

/-! ### Power domains, rails and the charger (R427 to R438, R446) -/

/-- R430, R431, R432: a request adds or removes the host's holder, and a device-controlled domain refuses one; a domain is ON once its
start completes and what it requires is on; one that misses its start max loses its holders and is OFF with event 0x0D0A; the power
of a stopping one goes; a rail that fails stops the run and sheds the domains it feeds, with those that require them; its latch
clears by a write once it is good again. -/
def Obligations.DomainsAndRailsFollow : Prop :=
  ∀ (s : State) (w : Sender) (n : Fin 80), s.alive = true →
    let out (x : State) : Host.Outcome State Fault Refusal := .next (s.settle x)
    let q (k : Nat) (bs : List Nat) : State := taken s w (writeOf k bs)
    (∀ v, v < 2 → Accepted s w (domKey n 1) [v] →
      let a := q (domKey n 1) [v]
      a.domainAbsent n = false →
        (isDeviceDomain n = false → a.o 0x102001 ≠ dsHoldup → a.o 0x102001 ≠ dsShutdown → (v = 0 → n.val = 13 → a.o 0x150001 = 0) →
          (v = 0 → n.val = 73 → a.o 0x2C1001 = 0) →
          (v = 1 → a.railAllows n = true) →
            exec (.domainRequest w n v) s = out (replyOk w (writeOf (domKey n 1) [v])
              (applied a (domKey n 1) [v] ((a.put (domKey n 1) v).hold 1 (v = 1) [n.val]).refreshClock)))
        ∧ (isDeviceDomain n = true → v = 0 → n.val ≠ 13 → a.o 0x102001 ≠ dsHoldup → a.o 0x102001 ≠ dsShutdown →
            exec (.domainRequest w n v) s
              = out (replyOk w (writeOf (domKey n 1) [v]) (applied a (domKey n 1) [v] a.refreshClock)))
        ∧ (isDeviceDomain n = true → v = 1 → exec (.domainRequest w n v) s
            = out (reply w (writeOf (domKey n 1) [v]) { status := stAccess, ids := none, data := [], next := a })))
    ∧ (∀ pads, s.pd n = pdStarting → (n.val = 2 → s.boot.step ≠ 2 ∧ s.boot.step ≠ 3) → (∀ m ∈ s.requires n, s.pdOn m = true) →
        let t := ((s.put (domKey n 2) pdOnState).unitReset n).settleDomains
        t.pdOn n = true →
          let u := if n.val = 2 then t.calLoad else t
          let v : State := if n.val = 14 then { u with pos := { u.pos with trigIn := pads.testBit 0, epochIn := pads.testBit 1 } } else u
          exec (.domainStartComplete n pads) s = out v.refreshClock)
    ∧ (s.pd n = pdStarting →
        let x := (((s.put (domKey n 2) pdOff).bump (domKey n 4)).bump 0x140006).raise 0x0D0A n
        exec (.domainStartTimeout n) s = out ((x.put (domKey n 3) 0).put (domKey n 1) 0).settleDomains)
    ∧ (s.pd n = pdStopping → exec (.domainStopComplete n) s = out (s.put (domKey n 2) pdOff).settleDomains)
    ∧ (s.pd n = pdPendingOn →
        exec (.domainStopComplete n) s = out ((s.put (domKey n 2) pdStarting).bump (domKey n 5)).settleDomains)
    ∧ (∀ rail, rail < 8 → s.o 0x152005 = 0 →
        (s.bit 0x148001 rail = true →
          let x := ((s.clrBits 0x148001 (2 ^ rail)).setBits 0x148002 (2 ^ rail)).stopNow 4
          exec (.railUndervoltage rail) s = out (((x.shed (x.withDependents (railDomains rail))).refreshClock).raise 0x0D0B rail))
        ∧ ∃ x, exec (.railGood rail) s = out x ∧ x.bit 0x148001 rail = true ∧ ∀ k, k ≠ 0x148001 → x.o k = s.o k)
    ∧ (∀ m, m < 2 ^ 32 → Accepted s w 0x148003 (leBytes 4 m) →
        let a := q 0x148003 (leBytes 4 m)
        ∃ x, exec (.clearRailFaults w m) s = out (replyOk w (writeOf 0x148003 (leBytes 4 m)) x)
          ∧ ∀ i, x.bit 0x148002 i = (a.bit 0x148002 i && !(m.testBit i && a.bit 0x148001 i)))

/-- R435 to R438, R446: each 100 µs the priority limit moves by a sixteenth of the programmed current; the safety timer and the fault
conditions that last latch a fault, which stops charging with event 0x0D08; a Li-ion cell is FULL when its current has fallen below
a tenth; a read of the faults clears them, and RECHARGE clears them and begins a cycle unless a condition persists; a store below
the reserve is reported. -/
def Obligations.TheChargerFollowsItsTimersAndFaults : Prop :=
  ∀ (s : State) (w : Sender), s.alive = true →
    let out (x : State) : Host.Outcome State Fault Refusal := .next (s.settle x)
    (s.charging = true → ∃ x : State, exec .chargerCurrentStep s = out x
        ∧ x.pow.chgSteps = (if s.pow.chgSteps = 999 then 0 else s.pow.chgSteps + 1)
        ∧ (s.pow.chgSteps = 999 → s.pow.chgTimer + 12500 ≤ x.pow.chgTimer) ∧ (s.pow.chgSteps ≠ 999 → x.pow.chgTimer = s.pow.chgTimer)
        ∧ ((s.latestResult 31).getD 0 < s.o 0x152003 * 1000 → x.pow.chgLimit = s.pow.chgLimit - 1)
        ∧ ((s.latestResult 31).getD 0 = s.o 0x152003 * 1000 → x.pow.chgLimit = s.pow.chgLimit)
        ∧ (s.o 0x152003 * 1000 < (s.latestResult 31).getD 0 → x.pow.chgLimit = min 16 (s.pow.chgLimit + 1))
        ∧ (x.bit 0x151006 0 = true ↔ x.pow.chgLimit < 16))
    ∧ (s.charging = true → s.n 0x150007 * 3600000000 ≤ s.pow.chgTimer →
        ∃ x : State, exec .chargerSafetyTimer s = out x ∧ x.charger = chFault ∧ x.bit 0x151008 0 = true
          ∧ x.o 0x151009 = if s.n 0x151006 / 2 = 0 then 1 else 2)
    ∧ (s.charger = chVoltage → s.liIon = true → 10 * s.o 0x151003 < s.o 0x150003 →
        exec .chargeTermination s = out ((s.put 0x151001 chFull).raise 0x0D07))
    ∧ (∀ bit, (bit = 2 ∨ bit = 4) ∧ s.pow.chgConds.testBit bit = true
          ∨ bit = 3 ∧ s.liIon = true ∧ s.charger = chPre ∧ s.pow.chgT + 1800 * tickS ≤ s.now
          ∨ bit = 3 ∧ s.liIon = false ∧ s.charging = true ∧ s.o 0x151002 < 500 ∧ s.pow.chgT + 60 * tickS ≤ s.now → s.pdOn 13 = true →
        ∃ x : State, exec (.chargerFaultTimer bit) s = out x ∧ x.bit 0x151008 bit = true
          ∧ x.charger = if s.charging then chFault else s.charger)
    ∧ (Served s w (readOf 0x151008) →
        let a := taken s w (readOf 0x151008)
        a.keyAbsent 0x151008 = false →
          exec (.chargerFaultRead w) s = out (reply w (readOf 0x151008)
            { status := stOk, ids := none, data := a.valueBytes 0x151008, next := a.faultsRead }))
    ∧ (Accepted s w 0x15100A [1] →
        let a := taken s w (writeOf 0x15100A [1])
        (a.pow.chgConds &&& 0x16 = 0 → a.chargeAllowed = false →
          exec (.recharge w) s = out (replyOk w (writeOf 0x15100A [1]) (a.put 0x151008 0).showLimits))
        ∧ (a.pow.chgConds &&& 0x16 = 0 → a.chargeAllowed = true → ∃ x : State,
            exec (.recharge w) s = out (replyOk w (writeOf 0x15100A [1]) x) ∧ x.o 0x151008 = 0 ∧ x.o 0x151007 = 0 ∧ x.pow.chgTimer = 0
              ∧ x.charger = if a.liIon && a.o 0x151002 < 3000 then chPre else chCurrent)
        ∧ (a.pow.chgConds &&& 0x16 ≠ 0 → exec (.recharge w) s
            = out (reply w (writeOf 0x15100A [1]) { status := stState, ids := none, data := [], next := a })))
    ∧ (s.charger = chFull ∨ s.charger = chOff → s.o 0x150001 ≠ 0 → s.o 0x151002 < s.o 0x150008 → exec .storeBelowReserve s = out (s.raise 0x0D0F))

/-! ### Hand-over, hold-up and standby (R439 to R445) -/

/-- R440 to R445: a loss of the input with a store fitted and charged begins a hand-over, in INPUT and in RETURNING while PD2 runs, and
in STANDBY runs on from the store; its deadline fails the lines in conversion; its loss record ends it in hold-up, and a cutoff
there is a loss of power that keeps what flash and fuses hold; the good timer starts at the good threshold and its expiry returns
the device to its input with the warm scope; STANDBY sheds every domain but PD0 and PD13 and is refused unless the run is IDLE, the
state is INPUT, no transaction is open and no set is being stored. In STANDBY on the store the path goes back at the good timer (log
entry 64), and the charger's machine is evaluated as standby begins (log entry 113): the model's choices. -/
def Obligations.ThePowerPathMovesThroughItsStates : Prop :=
  ∀ (s : State) (w : Sender), s.alive = true →
    let out (x : State) : Host.Outcome State Fault Refusal := .next (s.settle x)
    (∀ mv,
        (s.o 0x150001 ≠ 0 → s.pdOn 13 = true → s.n 0x15000D ≤ mv →
          (s.o 0x152005 = 0 ∨ s.o 0x152005 = 3 ∧ s.pdOn 2 = true → ∃ x : State, exec (.handover mv) s = out x.fwAbandon
            ∧ x.o 0x152005 = 1 ∧ x.o 0x102001 = dsHoldup ∧ x.boot.step = 4)
          ∧ (s.o 0x152005 = 3 → s.pdOn 2 = false → ∃ x : State, exec (.handover mv) s = out x
            ∧ x.o 0x152005 = 2 ∧ x.o 0x102001 = dsHoldup ∧ x.boot.step = 4)
          ∧ (s.o 0x152005 = 4 → exec (.handover mv) s
              = out ({ s with pow := { s.pow with onStore := true } }.put 0x151001 chDischarging))
          ∧ (s.o 0x152005 = 1 ∨ s.o 0x152005 = 2 → exec (.handover mv) s = out s))
        ∧ (s.o 0x150001 = 0 ∨ s.pdOn 13 = false ∨ mv < s.n 0x15000D → exec (.handover mv) s = out s))
    ∧ (s.o 0x152005 = 1 →
        exec .handoverLineDeadline s = out (s.atTick (s.pow.t0 + 2 * tickMs)).failLines
        ∧ (∀ ok, ∃ x : State, exec (.lossRecordProgrammed ok) s
              = out (if x.pow.returnDue then (x.raise 0x0D02).returnBegin else x.raise 0x0D02) ∧ x.o 0x152005 = 2
            ∧ (ok = true → x.o 0x152009 = 1 ∧ ∃ r : LossRecord, x.pow.ring = r :: s.pow.ring.take 15 ∧ r.resumed = false
                ∧ r.seq = s.pow.lossSeq + 1)
            ∧ (ok = false → x.o 0x152009 = 2 ∧ x.pow.ring = s.pow.ring))
        ∧ (∀ t, s.pow.goodT = some t → exec .goodTimerExpiry s
              = out { s.atTick (t + s.n 0x152004 * tickMs) with pow := { s.pow with returnDue := true, goodT := none } }))
    ∧ (s.o 0x152005 ≠ 1 → exec .handoverLineDeadline s = out s ∧ ∀ ok, exec (.lossRecordProgrammed ok) s
        = out (if s.o 0x152005 = 2 ∧ s.pow.returnDue = true then s.returnBegin else s))
    ∧ (s.o 0x152005 = 1 ∨ s.o 0x152005 = 2 ∨ s.o 0x152005 = 4 ∧ s.pow.onStore = true → ∃ x : State, exec .storeCutoff s = out x
        ∧ x.alive = false ∧ x.otp.fuses = s.otp.fuses ∧ x.pow.ring = s.pow.ring ∧ x.dict.profile = s.dict.profile)
    ∧ (s.o 0x152005 = 0 ∨ s.o 0x152005 = 3 ∨ s.o 0x152005 = 4 ∧ s.pow.onStore = false → exec .storeCutoff s = out s)
    ∧ (∀ up, exec (.goodThresholdCrossing up) s = out { s with pow := { s.pow with goodT := if up then some s.now else none } })
    ∧ (∀ t, s.pow.goodT = some t → s.o 0x152005 = 2 → ∃ x : State, exec .goodTimerExpiry s = out x.warmScope ∧ x.o 0x152005 = 3
        ∧ x.now = max s.now (t + s.n 0x152004 * tickMs) ∧ x.pow.goodT = none ∧ x.pow.ring = s.pow.ring)
    ∧ (∀ t, s.pow.goodT = some t → s.o 0x152005 = 4 →
        let a : State := { s.atTick (t + s.n 0x152004 * tickMs) with pow := { s.pow with onStore := false, goodT := none } }
        exec .goodTimerExpiry s = out (if s.pow.onStore then (a.put 0x151001 chOff).chargerEval else a))
    ∧ (∀ t, s.pow.goodT = some t → s.o 0x152005 = 0 ∨ s.o 0x152005 = 3 → exec .goodTimerExpiry s
        = out { s.atTick (t + s.n 0x152004 * tickMs) with pow := { s.pow with goodT := none } })
    ∧ (s.pow.goodT = none → exec .goodTimerExpiry s = out s)
    ∧ (Accepted s w 0x140005 [1] →
        let a := taken s w (writeOf 0x140005 [1])
        (a.run = rsIdle → a.o 0x152005 = 0 → (∀ p < 4, a.txnOpen p = false) → a.cal.store = none → ∃ x : State,
          exec (.standby w) s = out (replyOk w (writeOf 0x140005 [1])
            ((((x.shed ((List.range 80).filter fun n => n ≠ 0 && n ≠ 13)).engClear).put 0x201804 0).refreshClock).chargerEval)
          ∧ x.o 0x152005 = 4 ∧ x.pow.minimal = true ∧ x.pow.onStore = false)
        ∧ (a.run ≠ rsIdle ∨ a.o 0x152005 ≠ 0 ∨ (∃ p < 4, a.txnOpen p = true) ∨ a.cal.store ≠ none → exec (.standby w) s
            = out (reply w (writeOf 0x140005 [1]) { status := stState, ids := none, data := [], next := a })))

/-! ### Resets and start-up (R457, R460, R463, R467, R468) -/

/-- R457 to R468: a cold reset begins start-up from step 1 and keeps the fuses and the flash; a warm reset starts it from step 3, is
absorbed on the store, and wakes the device from standby with event 0x0D0D (R444); a heartbeat restarts the watchdog, whose expiry
is a reset of cause 3 with event 0x0E0B; the integrity check holds the device with the least cause or goes on; the levels of BOOTSEL
choose the slot, or the newer of both, and a verified image boots, else restricted mode is entered; the set's load ends start-up in
READY, or in SHUTDOWN while a shutdown level stands (log entry 65, the model's choice). -/
def Obligations.ResetsAndStartUpFollowTheirSteps : Prop :=
  ∀ (s : State) (w : Sender),
    let out (x : State) : Host.Outcome State Fault Refusal := .next (s.settle x)
    (∀ straps, ∃ x : State, exec (.coldReset straps) s = .next x ∧ x.pending = s.pending ∧ x.boot.step = 1 ∧ x.otp.fuses = s.otp.fuses
        ∧ x.o 0x580001 = 0x36 + straps % 4 ∧ (∀ k, k ≠ 0x580001 → x.o k = State.reset.o k) ∧ x.pos = State.reset.pos
        ∧ x.eng = State.reset.eng ∧ x.pow.ring = s.pow.ring ∧ x.dict.profile = s.dict.profile)
    ∧ (s.alive = true →
      (2 ≤ s.boot.step → s.o 0x152005 = 0 → exec .warmReset s = out (s.warmScope.put 0x102003 1))
      ∧ (2 ≤ s.boot.step → s.o 0x152005 = 3 → exec .warmReset s = out (s.warmScope.put 0x102003 (s.o 0x102003)))
      ∧ (2 ≤ s.boot.step → s.o 0x152005 = 4 → s.pow.onStore = false → exec .warmReset s
          = out ((((s.warmScope.put 0x102003 1).put 0x152005 0).chargerEval).raise 0x0D0D))
      ∧ (s.boot.step ≤ 1 ∨ s.o 0x152005 = 1 ∨ s.o 0x152005 = 2 ∨ s.o 0x152005 = 4 ∧ s.pow.onStore = true → exec .warmReset s = out s)
      ∧ (Accepted s w 0x102004 [1] → exec (.warmResetCommand w) s
          = out (replyOk w (writeOf 0x102004 [1]) (taken s w (writeOf 0x102004 [1]))))
      ∧ (∀ x : State, x.resp.map (·.status) = some stOk → x.afterResponse (writeOf 0x102004 [1]) = x.warmReset 2)
      ∧ (s.boot.step = 4 → s.pdOn 2 = true →
        exec .sup1Heartbeat s = out { s with boot := { s.boot with beat := s.now } }
        ∧ (s.dbg.sup1 = false → s.o 0x152005 ≠ 1 → exec .watchdogExpiry s
            = out ((((s.atTick (s.boot.beat + 1000 * tickMs)).warmReset 3).bump 0x681802).raise 0x0E0B)))
      ∧ (s.boot.step ≠ 4 ∨ s.pdOn 2 = false → exec .sup1Heartbeat s = out s ∧ exec .watchdogExpiry s = out s)
      ∧ (s.dbg.sup1 = true ∨ s.o 0x152005 = 1 → exec .watchdogExpiry s = out s)
      ∧ (s.boot.step = 1 → ∀ reads vaonOk,
        let y := (List.range 8).foldl State.judgeRegion ((s.atTick (s.boot.resetT + 480000)).readArray reads)
        let z := y.identityLoad.showFuses
        (∃ x : State, exec (.otpIntegrityCheckDone reads false vaonOk) s = out x ∧ x.boot.step = 5 ∧ x.otp.cause = 0x30)
        ∧ (∀ c l, y.integrityCauses vaonOk = c :: l → exec (.otpIntegrityCheckDone reads true vaonOk) s = out (y.integrityHold c))
        ∧ (y.integrityCauses vaonOk = [] → z.o 0x680008 ≠ rgFailed →
            exec (.otpIntegrityCheckDone reads true vaonOk) s = out z.showRegion7.bootStart)
        ∧ (y.integrityCauses vaonOk = [] → z.o 0x680008 = rgFailed → exec (.otpIntegrityCheckDone reads true vaonOk) s
            = out ((z.putBlob 0x683005 (List.replicate 248 0)).raise 0x0E07).bootStart))
      ∧ (s.boot.step = 2 → ∀ flashOk,
        let newer := if s.fwVersion flashOk 1 ≤ s.fwVersion flashOk 0 then 0 else 1
        let boots (bootsel slot : Nat) : Prop := ∃ x : State, exec (.imageVerificationDone bootsel flashOk) s
              = out ((x.raise 0x0E08 (slot + shl (s.fwVersion flashOk slot) 8 : Nat)).exhaustedCheck)
            ∧ x.boot.step = 3 ∧ x.o 0x681005 = slot ∧ x.o 0x681004 = 0 ∧ x.o 0x684006 = 1 - slot
            ∧ x.o 0x100006 = s.fwVersion flashOk slot ∧ x.o 0x681007 = s.fwCause flashOk (1 - slot)
        exec (.imageVerificationDone 3 flashOk) s = out (s.restrictedMode 3 7 0)
        ∧ (∀ slot, slot < 2 →
          (s.fwCause flashOk slot = 0 → boots (slot + 1) slot)
          ∧ (s.fwCause flashOk slot ≠ 0 → exec (.imageVerificationDone (slot + 1) flashOk) s
              = out (s.restrictedMode (slot + 1) (s.fwCause flashOk slot) (s.fwCause flashOk (1 - slot)))))
        ∧ (s.fwCause flashOk newer = 0 → boots 0 newer)
        ∧ (s.fwCause flashOk newer ≠ 0 → s.fwCause flashOk (1 - newer) = 0 → boots 0 (1 - newer))
        ∧ (s.fwCause flashOk newer ≠ 0 → s.fwCause flashOk (1 - newer) ≠ 0 → exec (.imageVerificationDone 0 flashOk) s
            = out (s.restrictedMode 0 (s.fwCause flashOk (1 - newer)) (s.fwCause flashOk newer))))
      ∧ (s.boot.step = 3 → ∀ intact,
          let d := bootDomains.foldl State.domainStarted (bootDomains.foldl State.domainStarted s)
          let l := d.calLoad.hoursLoad
          let x := ((l.put 0x68000C (0x7F + if d.o 0x680008 = rgSealed then 0x80 else 0)).integratorLoad).profileStart intact
          let y := (({ x with boot := { x.boot with step := 4 } }.put 0x102001
              (if x.bit 0x600803 2 || x.sensorsShort then dsShutdown else dsReady)).returnEnd).refreshClock
          exec (.calsetLoadDone intact) s = out (if x.profileResets then y.warmReset 2 else y)))

/-! ### Fuses and firmware (R451 to R456, R461, R462) -/

/-- R451 to R456, R461: a read takes one word at its margin and waits while fuses are programmed; the commands of region 7 queue their
pulses while programming is permitted, and are refused, in the order of their tests, when a fuse cannot be unblown, the check is
there, the seal does not verify, the region is locked or programming is not permitted; a pulse that verifies blows its fuse, one
that does not is repeated until the third; the weak bits are burned again at most every 24 operating hours; the lock register only
gains bits; the security version burns up to the image's. -/
def Obligations.FusesAreReadAndBurned : Prop :=
  ∀ (s : State) (w : Sender), s.alive = true →
    let out (x : State) : Host.Outcome State Fault Refusal := .next (s.settle x)
    let q (k : Nat) (bs : List Nat) : State := taken s w (writeOf k bs)
    let done (c : Instr) (k : Nat) (bs : List Nat) (x : State) : Prop := exec c s = out (replyOk w (writeOf k bs) x)
    let refused (c : Instr) (k : Nat) (bs : List Nat) (st : Nat) (x : State) : Prop :=
      exec c s = out (reply w (writeOf k bs) { status := st, ids := none, data := [], next := x })
    (Accepted s w 0x680803 [1] →
      let a := q 0x680803 [1]
      (a.otp.reading = none → done (.otpRead w) 0x680803 [1]
        ({ a with otp := { a.otp with reading := some (a.n 0x680801, a.n 0x680802) } }.settleDomains))
      ∧ (a.otp.reading.isSome = true → refused (.otpRead w) 0x680803 [1] stBusy a))
    ∧ (∀ word m, s.otp.reading = some (word, m) → s.o 0x68000D = 0 ∨ s.mayProgram = false →
        ∃ x : State, exec .otpReadDone s = out x ∧ x.otp.reading = none
        ∧ (m = 1 → x.o 0x680804 = (s.fuse word).hi) ∧ (m = 2 → x.o 0x680804 = (s.fuse word).lo)
        ∧ (∀ b, s.fuseHi word b = true → s.fuseLo word b = true → m < 3 → x.bit 0x680804 b = true)
        ∧ (∀ b, s.fuseHi word b = false → s.fuseLo word b = false → x.bit 0x680804 b = false))
    ∧ (s.otp.reading = none ∨ s.o 0x68000D ≠ 0 ∧ s.mayProgram = true → exec .otpReadDone s = out s)
    ∧ (Accepted s w 0x683003 [1] →
      let a := q 0x683003 [1]
      let word := 448 + a.n 0x683001
      let l := (List.range 32).filter fun b => a.bit 0x683002 b && !a.fuseHi word b
      ((∃ b < 32, a.fuseLo word b = true ∧ a.bit 0x683002 b = false) →
        refused (.region7Program w) 0x683003 [1] stConstraint (a.put 0x683004 3))
      ∧ ((∀ b < 32, a.fuseLo word b = true → a.bit 0x683002 b = true) →
        (a.bit 0x68000C 7 = true → refused (.region7Program w) 0x683003 [1] stLocked (a.put 0x683004 2))
        ∧ (a.bit 0x68000C 7 = false → a.mayProgram = false → refused (.region7Program w) 0x683003 [1] stState a)
        ∧ (a.bit 0x68000C 7 = false → a.mayProgram = true →
            (l = [] → done (.region7Program w) 0x683003 [1] (a.put 0x683004 1))
            ∧ (l ≠ [] → done (.region7Program w) 0x683003 [1]
                ((a.put 0x683004 0).queueBurns (l.map fun b => ⟨word, b, 0, .program⟩))))))
    ∧ (Accepted s w 0x683003 [2] →
      let a := q 0x683003 [2]
      let l := (List.range 32).filter (a.regionCheck 7 Fuse.hi).testBit
      ((a.fuse 510).lo ≠ 0 → refused (.region7WriteCheck w) 0x683003 [2] stConstraint (a.put 0x683004 4))
      ∧ ((a.fuse 510).lo = 0 →
        (a.bit 0x68000C 7 = true → refused (.region7WriteCheck w) 0x683003 [2] stLocked (a.put 0x683004 2))
        ∧ (a.bit 0x68000C 7 = false → a.mayProgram = false → refused (.region7WriteCheck w) 0x683003 [2] stState a)
        ∧ (a.bit 0x68000C 7 = false → a.mayProgram = true →
            (l = [] → done (.region7WriteCheck w) 0x683003 [2] (a.put 0x683004 1))
            ∧ (l ≠ [] → done (.region7WriteCheck w) 0x683003 [2]
                ((a.put 0x683004 0).queueBurns (l.map fun b => ⟨510, b, 0, .check⟩))))))
    ∧ (Accepted s w 0x683003 [3] →
      let a := q 0x683003 [3]
      (a.regionVerifies 7 Fuse.hi = false → refused (.region7Seal w) 0x683003 [3] stConstraint ((a.put 0x683004 6).raise 0x0E06))
      ∧ (a.regionVerifies 7 Fuse.hi = true →
        (a.bit 0x68000C 7 = true → refused (.region7Seal w) 0x683003 [3] stLocked (a.put 0x683004 2))
        ∧ (a.bit 0x68000C 7 = false → a.mayProgram = false → refused (.region7Seal w) 0x683003 [3] stState a)
        ∧ (a.bit 0x68000C 7 = false → a.mayProgram = true →
            (a.fuseHi 511 0 = true → done (.region7Seal w) 0x683003 [3] ((a.put 0x683004 1).setBits 0x68000C 0x80))
            ∧ (a.fuseHi 511 0 = false → done (.region7Seal w) 0x683003 [3]
                ((a.put 0x683004 0).queueBurns [⟨511, 0, 0, .seal⟩])))))
    ∧ (∀ b t, s.otp.queue = b :: t → s.mayProgram = true ∨ s.otp.finishing = true →
      (∃ x : State, exec (.fusePulseDone true) s = out x ∧ x.fuseHi b.word b.bit = true
          ∧ x.fuseLo b.word b.bit = true ∧ x.otp.queue = t ∧ ∀ v, v ≠ b.word → x.fuse v = s.fuse v)
      ∧ (b.pulses < 2 → ∃ x : State, exec (.fusePulseDone false) s = out x ∧ x.fuseLo b.word b.bit = true ∧ x.objs = s.objs
          ∧ x.otp.queue = { b with pulses := b.pulses + 1 } :: t)
      ∧ (2 ≤ b.pulses → ∃ x : State, exec (.fusePulseDone false) s
            = out (if b.origin = .unlock then (x.burnFailed b).unlockBurned false else x.burnFailed b)
          ∧ x.fuseLo b.word b.bit = true ∧ x.otp.queue = t ∧ x.objs = s.objs))
    ∧ (s.otp.queue = [] ∨ s.mayProgram = false ∧ s.otp.finishing = false → ∀ ok, exec (.fusePulseDone ok) s = out s)
    ∧ (s.boot.step = 4 → s.mayProgram = true → s.otp.reburn ≠ [] →
        (s.otp.reburnH = none ∨ (∃ h, s.otp.reburnH = some h ∧ h + 24 ≤ s.n 0x700001) →
          exec .reburn s = out ({ s with otp := { s.otp with reburnH := some (s.n 0x700001) } }.queueBurns
            (s.otp.reburn.map fun (p : Nat × Nat) => ⟨p.1, p.2, 0, BurnOrigin.reburn⟩)))
        ∧ (∀ h, s.otp.reburnH = some h → s.n 0x700001 < h + 24 → exec .reburn s = out s))
    ∧ (s.boot.step ≠ 4 ∨ s.mayProgram = false ∨ s.otp.reburn = [] → exec .reburn s = out s)
    ∧ (∀ v, v < 256 → Accepted s w 0x68000C (leBytes 4 v) →
        ∃ x : State, done (.lockRegisterWrite w v) 0x68000C (leBytes 4 v) (applied (q 0x68000C (leBytes 4 v)) 0x68000C (leBytes 4 v) x)
          ∧ ∀ i, x.bit 0x68000C i = ((q 0x68000C (leBytes 4 v)).bit 0x68000C i || v.testBit i))
    ∧ (Accepted s w 0x681003 [1] →
      let a := q 0x681003 [1]
      let need := a.n 0x681002 - a.counter .security - (a.otp.queue.filter fun b => b.origin = BurnOrigin.security).length
      (need = 0 → done (.advanceSecurityVersion w) 0x681003 [1] a)
      ∧ (need ≠ 0 → a.mayProgram = true → done (.advanceSecurityVersion w) 0x681003 [1] (a.burnCounter .security need))
      ∧ (need ≠ 0 → a.mayProgram = false → refused (.advanceSecurityVersion w) 0x681003 [1] stState a))

/-- R462: ERASE, a data write and VERIFY act on the target slot while it is IDLE and are BUSY else; a write past the slot is RANGE; an
erase leaves every page of the slot erased and the other slot as it is; a write can only clear bits of its pages; a verification
shows the first test that fails; an end with nothing in progress changes nothing. -/
def Obligations.FirmwareIsErasedWrittenAndVerified : Prop :=
  ∀ (s : State) (w : Sender), s.alive = true →
    let out (x : State) : Host.Outcome State Fault Refusal := .next (s.settle x)
    let q (k : Nat) (bs : List Nat) : State := taken s w (writeOf k bs)
    let done (c : Instr) (k : Nat) (bs : List Nat) (x : State) : Prop := exec c s = out (replyOk w (writeOf k bs) x)
    let busy (c : Instr) (k : Nat) (bs : List Nat) : Prop :=
      exec c s = out (reply w (writeOf k bs) { status := stBusy, ids := none, data := [], next := q k bs })
    (Accepted s w 0x684003 [1] →
      ((q 0x684003 [1]).o 0x684004 = 0 → done (.firmwareErase w) 0x684003 [1] ((q 0x684003 [1]).put 0x684004 1))
      ∧ ((q 0x684003 [1]).o 0x684004 ≠ 0 → busy (.firmwareErase w) 0x684003 [1]))
    ∧ (Accepted s w 0x684003 [2] →
      ((q 0x684003 [2]).o 0x684004 = 0 → done (.firmwareVerify w) 0x684003 [2] ((q 0x684003 [2]).put 0x684004 3))
      ∧ ((q 0x684003 [2]).o 0x684004 ≠ 0 → busy (.firmwareVerify w) 0x684003 [2]))
    ∧ (s.o 0x684004 = 1 → ∃ x : State, exec .firmwareEraseDone s = out x ∧ x.o 0x684004 = 0
        ∧ (∀ i, i < 16384 → x.fwPage (s.n 0x684006) i = List.replicate 256 0xFF)
        ∧ (∀ slot i, slot ≠ s.n 0x684006 → i < 16384 → x.fwPage slot i = s.fwPage slot i))
    ∧ (∀ data, Accepted s w 0x684002 data →
        let a := q 0x684002 data
        let off := a.n 0x684001
        let n := (data.length + 255) / 256
        off + data.length ≤ 4194304 →
          (a.o 0x684004 = 0 → ∃ x : State, done (.firmwareDataWrite w data) 0x684002 data x ∧ x.o 0x684004 = 2
            ∧ (∀ i, i < n → x.fwPage (a.n 0x684006) (off / 256 + i) = flashProgram (a.fwPage (a.n 0x684006) (off / 256 + i))
                (((data ++ List.replicate (256 * n - data.length) 0xFF).drop (256 * i)).take 256))
            ∧ (∀ i, i < 16384 → i < off / 256 ∨ off / 256 + n ≤ i → x.fwPage (a.n 0x684006) i = a.fwPage (a.n 0x684006) i)
            ∧ (∀ slot i, slot ≠ a.n 0x684006 → i < 16384 → x.fwPage slot i = a.fwPage slot i))
          ∧ (a.o 0x684004 ≠ 0 → busy (.firmwareDataWrite w data) 0x684002 data))
    ∧ (∀ data, Accepted s w 0x684002 data → 4194304 < (q 0x684002 data).n 0x684001 + data.length →
        exec (.firmwareDataWrite w data) s = out (reply w (writeOf 0x684002 data)
          { status := stRange, ids := none, data := [], next := q 0x684002 data }))
    ∧ (s.o 0x684004 ≠ 1 → exec .firmwareEraseDone s = out s)
    ∧ (s.o 0x684004 ≠ 2 → exec .firmwareProgramDone s = out s)
    ∧ (s.o 0x684004 ≠ 3 → ∀ flashOk, exec (.firmwareVerifyDone flashOk) s = out s)
    ∧ (s.o 0x684004 = 2 → exec .firmwareProgramDone s = out (s.put 0x684004 0))
    ∧ (∀ flashOk, s.o 0x684004 = 3 →
        exec (.firmwareVerifyDone flashOk) s = out ((s.put 0x684004 0).put 0x684005 (s.fwCause flashOk (s.n 0x684006))))

/-! ### The test access port and the debug port (R469 to R472) -/

/-- R457, R469, R470: the instructions of the TAP select their register, the drive instructions only while RESETn is low; in an
integrity hold only IDCODE, OTP_CAUSE and BYPASS are there; IDCODE and OTP_CAUSE shift out their value; a challenge takes the serial
number, the unlock counter and the nonce, and none is made while the retry delay runs; a good response burns a bit of the counter
and opens a session when the burn ends, a bad one starts the delay; a response in the delay, without a challenge or with the counter
full has its status. -/
def Obligations.TheTapSelectsAndUnlocks : Prop :=
  ∀ s : State, s.boot.step ≠ 0 →
    let out (x : State) : Host.Outcome State Fault Refusal := .next (s.settle x)
    let sel (code : Nat) : State := { s with dbg := { s.dbg with ir := code } }
    let when (c : Prop) [Decidable c] (code : Nat) : State := sel (if c then code else 0xFF)
    (∀ low, exec (.extest low) s = out (when (low = true ∧ s.boot.step ≠ 5) 0)
        ∧ exec (.highz low) s = out (when (low = true ∧ s.boot.step ≠ 5) 3)
        ∧ exec (.clamp low) s = out (when (low = true ∧ s.boot.step ≠ 5) 4))
    ∧ exec .bypass s = out (sel 0xFF)
    ∧ exec .idcode s = out ((sel 2).emit (.tdo s.idcode))
    ∧ exec .otpCause s = out ((sel 0x10).emit (.tdo s.otp.cause))
    ∧ (∀ pads, s.boot.step ≠ 5 → exec (.samplePreload pads) s = out { sel 1 with dbg := { (sel 1).dbg with chain := pads } })
    ∧ (s.boot.step = 5 → (∀ pads, exec (.samplePreload pads) s = out (sel 0xFF)) ∧ (∀ nonce, exec (.dbgChallenge nonce) s = out (sel 0xFF))
        ∧ ∀ scope key sig, exec (.dbgResponse scope key sig) s = out (sel 0xFF))
    ∧ (s.boot.step ≠ 5 → ∀ nonce : List Nat, nonce.length = 20 →
      (s.dbg.delayEnd ≤ s.now → ∃ x c, exec (.dbgChallenge nonce) s = out x ∧ x.dbg.challenge = some c ∧ x.dbg.ir = 0x20
          ∧ x.out = s.out ++ [.tdo (leNat c)] ∧ c.length = 32 ∧ leNat (c.take 8) = s.n 0x100003 % 2 ^ 64
          ∧ leNat ((c.drop 8).take 2) = s.counter .unlock % 2 ^ 16 ∧ c.drop 12 = nonce)
      ∧ (s.now < s.dbg.delayEnd → ∃ x : State, exec (.dbgChallenge nonce) s = out x ∧ x.dbg.challenge = none ∧ x.dbg.status = 3
          ∧ x.out = s.out))
    ∧ (s.boot.step ≠ 5 → ∀ scope key sig,
      let a := (sel 0x21).emit (.tdo s.dbg.status)
      let ends (x : State) (st : Nat) : Prop := exec (.dbgResponse scope key sig) s = out { x with dbg := { x.dbg with status := st } }
      (s.now < s.dbg.delayEnd → ends a 3)
      ∧ (s.dbg.delayEnd ≤ s.now → s.dbg.challenge = none → ends a 4)
      ∧ (∀ c, s.dbg.delayEnd ≤ s.now → s.dbg.challenge = some c → 256 ≤ s.counter .unlock →
          ends { a with dbg := { a.dbg with challenge := none } } 2))
    ∧ (s.boot.step ≠ 5 → ∀ scope key sig c, s.dbg.delayEnd ≤ s.now → s.dbg.challenge = some c → s.counter .unlock < 256 →
      let good : Prop := Config.sha256 key = s.keyHash 8 ∧ Config.ecdsaVerify key (Config.sha256 (c ++ leBytes 4 scope)) sig = true
      (good → ∃ x : State, exec (.dbgResponse scope key sig) s = out (x.burnCounter .unlock) ∧ x.dbg.opening = some scope
          ∧ x.dbg.challenge = none ∧ x.out = s.out ++ [.tdo s.dbg.status])
      ∧ (¬good → ∃ x : State, exec (.dbgResponse scope key sig) s = out (x.raise 0x0E0D) ∧ x.dbg.status = 1 ∧ x.dbg.challenge = none
          ∧ x.dbg.delay = (if s.dbg.delay = 0 then 1 else min 64 (2 * s.dbg.delay)) ∧ x.dbg.delayEnd = s.now + x.dbg.delay * tickS
          ∧ x.o 0x682006 = x.dbg.delay))
    ∧ (∀ (x : State) scope, x.dbg.opening = some scope → x.unlockBurned true = x.sessionOpen scope ∧ x.unlockBurned false = x.unlockFailed 5)
    ∧ (s.alive = true → s.n 0x682006 = 0 → exec .unlockRetryDelayExpiry s = out s)
    ∧ (s.alive = true → s.n 0x682006 ≠ 0 →
        exec .unlockRetryDelayExpiry s = out ((s.atTick s.dbg.delayEnd).put 0x682006 0))

/-- R471, R472: with a session open, each debug operation shifts out the last status and result and runs in its scope: words of BAR0,
BAR2, the memories and the tables step the address, targets halt, resume and step, breakpoints are set and cleared, and DICT_PUT
passes a request that is served once it is whole; without the scope its status is ACCESS; with no session the TAP bypasses, but on
an open part the first operation opens a session of every scope. The session ends by its command or by a reset of the TAP. -/
def Obligations.DebugOperationsRunInTheirScope : Prop :=
  ∀ s : State, s.boot.step ≠ 0 →
    let out (x : State) : Host.Outcome State Fault Refusal := .next (s.settle x)
    let access (x : State) : State := { x with dbg := { x.dbg with ir := 0x22 } }.emit (.tdo (shl x.dbg.last 64 + x.dbg.result))
    (s.session = false → s.openPart = false ∨ s.boot.step = 1 ∨ s.boot.step = 5 → ∀ c, (c = .dbgRead ∨ c = .dictGet
        ∨ (∃ v, c = .dbgSetAddr v ∨ c = .dbgWrite v ∨ c = .dbgHalt v ∨ c = .dbgResume v ∨ c = .dbgStep v ∨ c = .dictPut v)
        ∨ (∃ v i a, c = .dbgSetBp v i a ∨ c = .dbgClrBp v i)) →
      exec c s = out { s with dbg := { s.dbg with ir := 0xFF } })
    ∧ (s.session = false → s.openPart = true → s.boot.step ≠ 1 → s.boot.step ≠ 5 → ∀ a,
        let p := access (s.sessionOpen 0xF)
        exec (.dbgSetAddr a) s = out ({ p with dbg := { p.dbg with addr := a % 2 ^ 64 } }.dbgEnd stOk 0))
    ∧ exec .tapReset s = out (({ s with dbg := { s.dbg with ir := 2 } }.sessionEnd).serveWaiting)
    ∧ (s.session = true →
    let p : State := access s
    let next : State := { p with dbg := { p.dbg with addr := (p.dbg.addr + 4) % 2 ^ 64 } }
    (s.bit 0x682003 3 = true →
      (∀ a, exec (.dbgSetAddr a) s = out ({ p with dbg := { p.dbg with addr := a % 2 ^ 64 } }.dbgEnd stOk 0))
      ∧ (∀ v, 0x200000000 ≤ s.dbg.addr → s.dbg.addr < 0x200400000 →
          (mapGet s.dbg.mem ((s.dbg.addr - 0x200000000) / 4) = some v → exec .dbgRead s = out (next.dbgEnd stOk v))
          ∧ ∃ x : State, exec (.dbgWrite v) s = out x ∧ mapGet x.dbg.mem ((s.dbg.addr - 0x200000000) / 4) = some (v % 2 ^ 32)
              ∧ x.dbg.addr = (s.dbg.addr + 4) % 2 ^ 64 ∧ x.dbg.last = stOk ∧ x.objs = s.objs)
      ∧ (s.dbg.addr < 0x1000000 → exec .dbgRead s = out (next.dbgEnd stOk (p.bar0Read (s.dbg.addr / 4 * 4)))
          ∧ ∀ v, exec (.dbgWrite v) s = out ((next.bar0Write (s.dbg.addr / 4 * 4) (v % 2 ^ 32)).dbgEnd stOk 0))
      ∧ (0x100000000 ≤ s.dbg.addr → s.dbg.addr < 0x104000000 →
          exec .dbgRead s = out (next.dbgEnd stOk (p.bar2Read (s.dbg.addr / 4 * 4 - 0x100000000)))
          ∧ ∀ v, exec (.dbgWrite v) s
              = out ((next.bar2Write (s.dbg.addr / 4 * 4 - 0x100000000) (leBytes 4 (v % 2 ^ 32)) 0).dbgEnd stOk 0))
      ∧ (0x300300000 ≤ s.dbg.addr → exec .dbgRead s = out (next.dbgEnd stRange 0) ∧ exec (.dbgWrite 0) s = out (next.dbgEnd stRange 0)))
    ∧ (s.bit 0x682003 3 = false → exec .dbgRead s = out (p.dbgEnd stAccess 0)
      ∧ ∀ v, exec (.dbgWrite v) s = out (p.dbgEnd stAccess 0) ∧ exec (.dbgSetAddr v) s = out (p.dbgEnd stAccess 0))
    ∧ (s.bit 0x682003 1 = true → ∀ e, e < 192 → p.engPresent e = true →
      let en := p.engine e
      (p.takesPart e = true → en.st = esExecuting → exec (.dbgHalt e) s
        = out (((p.setEngine e { en with st := esBreak, pc := en.pc, haltAt := en.pc }).raiseAt 0x0508 (e / 8) (e % 8) en.pc).dbgEnd stOk 0))
      ∧ (p.takesPart e = true → en.st = esWaiting → en.resume = en.pc → 0 < en.pc → exec (.dbgHalt e) s
        = out (((p.setEngine e { en with st := esBreak, pc := en.pc - 1, haltAt := en.pc - 1 }).raiseAt 0x0508 (e / 8) (e % 8)
            (en.pc - 1 : Nat)).dbgEnd stOk 0))
      ∧ (en.st = esBreak ∨ p.takesPart e = false → exec (.dbgHalt e) s = out (p.dbgEnd stState 0))
      ∧ (en.st = esBreak → exec (.dbgResume e) s = out ((p.gResume e).dbgEnd stOk 0) ∧ exec (.dbgStep e) s = out ((p.gStep e).dbgEnd stOk 0))
      ∧ (en.st ≠ esBreak → exec (.dbgResume e) s = out (p.dbgEnd stState 0) ∧ exec (.dbgStep e) s = out (p.dbgEnd stState 0))
      ∧ (∀ (i : Fin 8) a,
          (a < 8192 → ∃ x : State, exec (.dbgSetBp e i a) s = out (x.dbgEnd stOk 0) ∧ mapGet (x.engine e).bps i = some a)
          ∧ (8192 ≤ a → exec (.dbgSetBp e i a) s = out (p.dbgEnd stRange 0))
          ∧ ∃ x : State, exec (.dbgClrBp e i) s = out (x.dbgEnd stOk 0) ∧ mapGet (x.engine e).bps i = none))
    ∧ (s.bit 0x682003 2 = true →
      exec (.dbgHalt 0xFFFF) s = out ({ p with dbg := { p.dbg with sup1 := true } }.dbgEnd stOk 0)
      ∧ (s.dbg.sup1 = true → exec (.dbgResume 0xFFFF) s
          = out (({ p with dbg := { p.dbg with sup1 := false }, boot := { p.boot with beat := s.now } }.dbgEnd stOk 0).serveWaiting)
        ∧ exec (.dbgStep 0xFFFF) s = out (p.dbgEnd stOk 0))
      ∧ (s.dbg.sup1 = false → exec (.dbgResume 0xFFFF) s = out (p.dbgEnd stState 0)
        ∧ exec (.dbgStep 0xFFFF) s = out (p.dbgEnd stState 0))
      ∧ ∀ (i : Fin 8) a, exec (.dbgSetBp 0xFFFF i a) s
            = out ({ p with dbg := { p.dbg with bps := mapPut p.dbg.bps i a } }.dbgEnd stOk 0)
          ∧ exec (.dbgClrBp 0xFFFF i) s = out ({ p with dbg := { p.dbg with bps := mapDel p.dbg.bps i } }.dbgEnd stOk 0))
    ∧ (s.bit 0x682003 0 = true →
      (∀ v bs, bs = s.dbg.put ++ leBytes 8 v →
        (bs.length < putLength bs → ∃ x : State, exec (.dictPut v) s = out x ∧ x.dbg.put = bs ∧ x.dbg.last = stOk ∧ x.objs = s.objs)
        ∧ (putLength bs ≤ bs.length → ∃ x : State, exec (.dictPut v) s = out (x.arrive ⟨0, 0, mailboxReq bs⟩) ∧ x.dbg.put = []
            ∧ x.objs = s.objs))
      ∧ ∃ x : State, exec .dictGet s = out x ∧ x.dbg.result = leNat (s.dbg.get.take 8) ∧ x.dbg.get = s.dbg.get.drop 8 ∧ x.objs = s.objs)
    ∧ (s.alive = true → ∀ w, Accepted s w 0x682004 [1] → (taken s w (writeOf 0x682004 [1])).session = true →
        exec (.endSession w) s = out (replyOk w (writeOf 0x682004 [1]) (taken s w (writeOf 0x682004 [1])).sessionEnd)))
end

