-- ==== Sys2Proof/Laws/State.lean ====
section
/-!
SUPPORT. What each plain update of the state leaves: one lemma for each field.
-/
namespace Sys2Proof.Machine

/-! ### A scalar object -/

@[simp] theorem State.put_pending (s : State) (k : Nat) (v : Int) : (s.put k v).pending = s.pending := by unfold State.put; split <;> rfl
@[simp] theorem State.put_now (s : State) (k : Nat) (v : Int) : (s.put k v).now = s.now := by unfold State.put; split <;> rfl
@[simp] theorem State.put_fresh (s : State) (k : Nat) (v : Int) : (s.put k v).fresh = s.fresh := by unfold State.put; split <;> rfl
@[simp] theorem State.put_blobs (s : State) (k : Nat) (v : Int) : (s.put k v).blobs = s.blobs := by unfold State.put; split <;> rfl
@[simp] theorem State.put_out (s : State) (k : Nat) (v : Int) : (s.put k v).out = s.out := by unfold State.put; split <;> rfl
@[simp] theorem State.put_resp (s : State) (k : Nat) (v : Int) : (s.put k v).resp = s.resp := by unfold State.put; split <;> rfl
@[simp] theorem State.put_pos (s : State) (k : Nat) (v : Int) : (s.put k v).pos = s.pos := by unfold State.put; split <;> rfl
@[simp] theorem State.put_arr (s : State) (k : Nat) (v : Int) : (s.put k v).arr = s.arr := by unfold State.put; split <;> rfl
@[simp] theorem State.put_conv (s : State) (k : Nat) (v : Int) : (s.put k v).conv = s.conv := by unfold State.put; split <;> rfl
@[simp] theorem State.put_rcb (s : State) (k : Nat) (v : Int) : (s.put k v).rcb = s.rcb := by unfold State.put; split <;> rfl
@[simp] theorem State.put_pipe (s : State) (k : Nat) (v : Int) : (s.put k v).pipe = s.pipe := by unfold State.put; split <;> rfl
@[simp] theorem State.put_eng (s : State) (k : Nat) (v : Int) : (s.put k v).eng = s.eng := by unfold State.put; split <;> rfl
@[simp] theorem State.put_conf (s : State) (k : Nat) (v : Int) : (s.put k v).conf = s.conf := by unfold State.put; split <;> rfl
@[simp] theorem State.put_dict (s : State) (k : Nat) (v : Int) : (s.put k v).dict = s.dict := by unfold State.put; split <;> rfl
@[simp] theorem State.put_host (s : State) (k : Nat) (v : Int) : (s.put k v).host = s.host := by unfold State.put; split <;> rfl
@[simp] theorem State.put_two (s : State) (k : Nat) (v : Int) : (s.put k v).two = s.two := by unfold State.put; split <;> rfl
@[simp] theorem State.put_cal (s : State) (k : Nat) (v : Int) : (s.put k v).cal = s.cal := by unfold State.put; split <;> rfl
@[simp] theorem State.put_therm (s : State) (k : Nat) (v : Int) : (s.put k v).therm = s.therm := by unfold State.put; split <;> rfl
@[simp] theorem State.put_pow (s : State) (k : Nat) (v : Int) : (s.put k v).pow = s.pow := by unfold State.put; split <;> rfl
@[simp] theorem State.put_otp (s : State) (k : Nat) (v : Int) : (s.put k v).otp = s.otp := by unfold State.put; split <;> rfl
@[simp] theorem State.put_boot (s : State) (k : Nat) (v : Int) : (s.put k v).boot = s.boot := by unfold State.put; split <;> rfl
@[simp] theorem State.put_dbg (s : State) (k : Nat) (v : Int) : (s.put k v).dbg = s.dbg := by unfold State.put; split <;> rfl
@[simp] theorem State.put_net (s : State) (k : Nat) (v : Int) : (s.put k v).net = s.net := by unfold State.put; split <;> rfl

/-! ### A BLOB object -/

@[simp] theorem State.putBlob_pending (s : State) (k : Nat) (v : List Nat) : (s.putBlob k v).pending = s.pending := by unfold State.putBlob; split <;> rfl
@[simp] theorem State.putBlob_now (s : State) (k : Nat) (v : List Nat) : (s.putBlob k v).now = s.now := by unfold State.putBlob; split <;> rfl
@[simp] theorem State.putBlob_fresh (s : State) (k : Nat) (v : List Nat) : (s.putBlob k v).fresh = s.fresh := by unfold State.putBlob; split <;> rfl
@[simp] theorem State.putBlob_objs (s : State) (k : Nat) (v : List Nat) : (s.putBlob k v).objs = s.objs := by unfold State.putBlob; split <;> rfl
@[simp] theorem State.putBlob_out (s : State) (k : Nat) (v : List Nat) : (s.putBlob k v).out = s.out := by unfold State.putBlob; split <;> rfl
@[simp] theorem State.putBlob_resp (s : State) (k : Nat) (v : List Nat) : (s.putBlob k v).resp = s.resp := by unfold State.putBlob; split <;> rfl
@[simp] theorem State.putBlob_pos (s : State) (k : Nat) (v : List Nat) : (s.putBlob k v).pos = s.pos := by unfold State.putBlob; split <;> rfl
@[simp] theorem State.putBlob_arr (s : State) (k : Nat) (v : List Nat) : (s.putBlob k v).arr = s.arr := by unfold State.putBlob; split <;> rfl
@[simp] theorem State.putBlob_conv (s : State) (k : Nat) (v : List Nat) : (s.putBlob k v).conv = s.conv := by unfold State.putBlob; split <;> rfl
@[simp] theorem State.putBlob_rcb (s : State) (k : Nat) (v : List Nat) : (s.putBlob k v).rcb = s.rcb := by unfold State.putBlob; split <;> rfl
@[simp] theorem State.putBlob_pipe (s : State) (k : Nat) (v : List Nat) : (s.putBlob k v).pipe = s.pipe := by unfold State.putBlob; split <;> rfl
@[simp] theorem State.putBlob_eng (s : State) (k : Nat) (v : List Nat) : (s.putBlob k v).eng = s.eng := by unfold State.putBlob; split <;> rfl
@[simp] theorem State.putBlob_conf (s : State) (k : Nat) (v : List Nat) : (s.putBlob k v).conf = s.conf := by unfold State.putBlob; split <;> rfl
@[simp] theorem State.putBlob_dict (s : State) (k : Nat) (v : List Nat) : (s.putBlob k v).dict = s.dict := by unfold State.putBlob; split <;> rfl
@[simp] theorem State.putBlob_host (s : State) (k : Nat) (v : List Nat) : (s.putBlob k v).host = s.host := by unfold State.putBlob; split <;> rfl
@[simp] theorem State.putBlob_two (s : State) (k : Nat) (v : List Nat) : (s.putBlob k v).two = s.two := by unfold State.putBlob; split <;> rfl
@[simp] theorem State.putBlob_cal (s : State) (k : Nat) (v : List Nat) : (s.putBlob k v).cal = s.cal := by unfold State.putBlob; split <;> rfl
@[simp] theorem State.putBlob_therm (s : State) (k : Nat) (v : List Nat) : (s.putBlob k v).therm = s.therm := by unfold State.putBlob; split <;> rfl
@[simp] theorem State.putBlob_pow (s : State) (k : Nat) (v : List Nat) : (s.putBlob k v).pow = s.pow := by unfold State.putBlob; split <;> rfl
@[simp] theorem State.putBlob_otp (s : State) (k : Nat) (v : List Nat) : (s.putBlob k v).otp = s.otp := by unfold State.putBlob; split <;> rfl
@[simp] theorem State.putBlob_boot (s : State) (k : Nat) (v : List Nat) : (s.putBlob k v).boot = s.boot := by unfold State.putBlob; split <;> rfl
@[simp] theorem State.putBlob_dbg (s : State) (k : Nat) (v : List Nat) : (s.putBlob k v).dbg = s.dbg := by unfold State.putBlob; split <;> rfl
@[simp] theorem State.putBlob_net (s : State) (k : Nat) (v : List Nat) : (s.putBlob k v).net = s.net := by unfold State.putBlob; split <;> rfl

/-! ### Sending something out -/

@[simp] theorem State.emit_pending (s : State) (x : Out) : (s.emit x).pending = s.pending := rfl
@[simp] theorem State.emit_now (s : State) (x : Out) : (s.emit x).now = s.now := rfl
@[simp] theorem State.emit_fresh (s : State) (x : Out) : (s.emit x).fresh = s.fresh := rfl
@[simp] theorem State.emit_objs (s : State) (x : Out) : (s.emit x).objs = s.objs := rfl
@[simp] theorem State.emit_blobs (s : State) (x : Out) : (s.emit x).blobs = s.blobs := rfl
@[simp] theorem State.emit_resp (s : State) (x : Out) : (s.emit x).resp = s.resp := rfl
@[simp] theorem State.emit_pos (s : State) (x : Out) : (s.emit x).pos = s.pos := rfl
@[simp] theorem State.emit_arr (s : State) (x : Out) : (s.emit x).arr = s.arr := rfl
@[simp] theorem State.emit_conv (s : State) (x : Out) : (s.emit x).conv = s.conv := rfl
@[simp] theorem State.emit_rcb (s : State) (x : Out) : (s.emit x).rcb = s.rcb := rfl
@[simp] theorem State.emit_pipe (s : State) (x : Out) : (s.emit x).pipe = s.pipe := rfl
@[simp] theorem State.emit_eng (s : State) (x : Out) : (s.emit x).eng = s.eng := rfl
@[simp] theorem State.emit_conf (s : State) (x : Out) : (s.emit x).conf = s.conf := rfl
@[simp] theorem State.emit_dict (s : State) (x : Out) : (s.emit x).dict = s.dict := rfl
@[simp] theorem State.emit_host (s : State) (x : Out) : (s.emit x).host = s.host := rfl
@[simp] theorem State.emit_two (s : State) (x : Out) : (s.emit x).two = s.two := rfl
@[simp] theorem State.emit_cal (s : State) (x : Out) : (s.emit x).cal = s.cal := rfl
@[simp] theorem State.emit_therm (s : State) (x : Out) : (s.emit x).therm = s.therm := rfl
@[simp] theorem State.emit_pow (s : State) (x : Out) : (s.emit x).pow = s.pow := rfl
@[simp] theorem State.emit_otp (s : State) (x : Out) : (s.emit x).otp = s.otp := rfl
@[simp] theorem State.emit_boot (s : State) (x : Out) : (s.emit x).boot = s.boot := rfl
@[simp] theorem State.emit_dbg (s : State) (x : Out) : (s.emit x).dbg = s.dbg := rfl
@[simp] theorem State.emit_net (s : State) (x : Out) : (s.emit x).net = s.net := rfl

/-! ### The clock -/

@[simp] theorem State.atTick_pending (s : State) (t : Nat) : (s.atTick t).pending = s.pending := rfl
@[simp] theorem State.atTick_fresh (s : State) (t : Nat) : (s.atTick t).fresh = s.fresh := rfl
@[simp] theorem State.atTick_objs (s : State) (t : Nat) : (s.atTick t).objs = s.objs := rfl
@[simp] theorem State.atTick_blobs (s : State) (t : Nat) : (s.atTick t).blobs = s.blobs := rfl
@[simp] theorem State.atTick_out (s : State) (t : Nat) : (s.atTick t).out = s.out := rfl
@[simp] theorem State.atTick_resp (s : State) (t : Nat) : (s.atTick t).resp = s.resp := rfl
@[simp] theorem State.atTick_pos (s : State) (t : Nat) : (s.atTick t).pos = s.pos := rfl
@[simp] theorem State.atTick_arr (s : State) (t : Nat) : (s.atTick t).arr = s.arr := rfl
@[simp] theorem State.atTick_conv (s : State) (t : Nat) : (s.atTick t).conv = s.conv := rfl
@[simp] theorem State.atTick_rcb (s : State) (t : Nat) : (s.atTick t).rcb = s.rcb := rfl
@[simp] theorem State.atTick_pipe (s : State) (t : Nat) : (s.atTick t).pipe = s.pipe := rfl
@[simp] theorem State.atTick_eng (s : State) (t : Nat) : (s.atTick t).eng = s.eng := rfl
@[simp] theorem State.atTick_conf (s : State) (t : Nat) : (s.atTick t).conf = s.conf := rfl
@[simp] theorem State.atTick_dict (s : State) (t : Nat) : (s.atTick t).dict = s.dict := rfl
@[simp] theorem State.atTick_host (s : State) (t : Nat) : (s.atTick t).host = s.host := rfl
@[simp] theorem State.atTick_two (s : State) (t : Nat) : (s.atTick t).two = s.two := rfl
@[simp] theorem State.atTick_cal (s : State) (t : Nat) : (s.atTick t).cal = s.cal := rfl
@[simp] theorem State.atTick_therm (s : State) (t : Nat) : (s.atTick t).therm = s.therm := rfl
@[simp] theorem State.atTick_pow (s : State) (t : Nat) : (s.atTick t).pow = s.pow := rfl
@[simp] theorem State.atTick_otp (s : State) (t : Nat) : (s.atTick t).otp = s.otp := rfl
@[simp] theorem State.atTick_boot (s : State) (t : Nat) : (s.atTick t).boot = s.boot := rfl
@[simp] theorem State.atTick_dbg (s : State) (t : Nat) : (s.atTick t).dbg = s.dbg := rfl
@[simp] theorem State.atTick_net (s : State) (t : Nat) : (s.atTick t).net = s.net := rfl

/-! ### A free value taken -/

@[simp] theorem State.free_pending (s : State) (lo hi : Nat) : ((s.free lo hi).2).pending = s.pending := rfl
@[simp] theorem State.free_now (s : State) (lo hi : Nat) : ((s.free lo hi).2).now = s.now := rfl
@[simp] theorem State.free_objs (s : State) (lo hi : Nat) : ((s.free lo hi).2).objs = s.objs := rfl
@[simp] theorem State.free_blobs (s : State) (lo hi : Nat) : ((s.free lo hi).2).blobs = s.blobs := rfl
@[simp] theorem State.free_out (s : State) (lo hi : Nat) : ((s.free lo hi).2).out = s.out := rfl
@[simp] theorem State.free_resp (s : State) (lo hi : Nat) : ((s.free lo hi).2).resp = s.resp := rfl
@[simp] theorem State.free_pos (s : State) (lo hi : Nat) : ((s.free lo hi).2).pos = s.pos := rfl
@[simp] theorem State.free_arr (s : State) (lo hi : Nat) : ((s.free lo hi).2).arr = s.arr := rfl
@[simp] theorem State.free_conv (s : State) (lo hi : Nat) : ((s.free lo hi).2).conv = s.conv := rfl
@[simp] theorem State.free_rcb (s : State) (lo hi : Nat) : ((s.free lo hi).2).rcb = s.rcb := rfl
@[simp] theorem State.free_pipe (s : State) (lo hi : Nat) : ((s.free lo hi).2).pipe = s.pipe := rfl
@[simp] theorem State.free_eng (s : State) (lo hi : Nat) : ((s.free lo hi).2).eng = s.eng := rfl
@[simp] theorem State.free_conf (s : State) (lo hi : Nat) : ((s.free lo hi).2).conf = s.conf := rfl
@[simp] theorem State.free_dict (s : State) (lo hi : Nat) : ((s.free lo hi).2).dict = s.dict := rfl
@[simp] theorem State.free_host (s : State) (lo hi : Nat) : ((s.free lo hi).2).host = s.host := rfl
@[simp] theorem State.free_two (s : State) (lo hi : Nat) : ((s.free lo hi).2).two = s.two := rfl
@[simp] theorem State.free_cal (s : State) (lo hi : Nat) : ((s.free lo hi).2).cal = s.cal := rfl
@[simp] theorem State.free_therm (s : State) (lo hi : Nat) : ((s.free lo hi).2).therm = s.therm := rfl
@[simp] theorem State.free_pow (s : State) (lo hi : Nat) : ((s.free lo hi).2).pow = s.pow := rfl
@[simp] theorem State.free_otp (s : State) (lo hi : Nat) : ((s.free lo hi).2).otp = s.otp := rfl
@[simp] theorem State.free_boot (s : State) (lo hi : Nat) : ((s.free lo hi).2).boot = s.boot := rfl
@[simp] theorem State.free_dbg (s : State) (lo hi : Nat) : ((s.free lo hi).2).dbg = s.dbg := rfl
@[simp] theorem State.free_net (s : State) (lo hi : Nat) : ((s.free lo hi).2).net = s.net := rfl

/-! ### An engine -/

@[simp] theorem State.setEngine_pending (s : State) (e : Nat) (x : Engine) : (s.setEngine e x).pending = s.pending := rfl
@[simp] theorem State.setEngine_now (s : State) (e : Nat) (x : Engine) : (s.setEngine e x).now = s.now := rfl
@[simp] theorem State.setEngine_fresh (s : State) (e : Nat) (x : Engine) : (s.setEngine e x).fresh = s.fresh := rfl
@[simp] theorem State.setEngine_objs (s : State) (e : Nat) (x : Engine) : (s.setEngine e x).objs = s.objs := rfl
@[simp] theorem State.setEngine_blobs (s : State) (e : Nat) (x : Engine) : (s.setEngine e x).blobs = s.blobs := rfl
@[simp] theorem State.setEngine_out (s : State) (e : Nat) (x : Engine) : (s.setEngine e x).out = s.out := rfl
@[simp] theorem State.setEngine_resp (s : State) (e : Nat) (x : Engine) : (s.setEngine e x).resp = s.resp := rfl
@[simp] theorem State.setEngine_pos (s : State) (e : Nat) (x : Engine) : (s.setEngine e x).pos = s.pos := rfl
@[simp] theorem State.setEngine_arr (s : State) (e : Nat) (x : Engine) : (s.setEngine e x).arr = s.arr := rfl
@[simp] theorem State.setEngine_conv (s : State) (e : Nat) (x : Engine) : (s.setEngine e x).conv = s.conv := rfl
@[simp] theorem State.setEngine_rcb (s : State) (e : Nat) (x : Engine) : (s.setEngine e x).rcb = s.rcb := rfl
@[simp] theorem State.setEngine_pipe (s : State) (e : Nat) (x : Engine) : (s.setEngine e x).pipe = s.pipe := rfl
@[simp] theorem State.setEngine_conf (s : State) (e : Nat) (x : Engine) : (s.setEngine e x).conf = s.conf := rfl
@[simp] theorem State.setEngine_dict (s : State) (e : Nat) (x : Engine) : (s.setEngine e x).dict = s.dict := rfl
@[simp] theorem State.setEngine_host (s : State) (e : Nat) (x : Engine) : (s.setEngine e x).host = s.host := rfl
@[simp] theorem State.setEngine_two (s : State) (e : Nat) (x : Engine) : (s.setEngine e x).two = s.two := rfl
@[simp] theorem State.setEngine_cal (s : State) (e : Nat) (x : Engine) : (s.setEngine e x).cal = s.cal := rfl
@[simp] theorem State.setEngine_therm (s : State) (e : Nat) (x : Engine) : (s.setEngine e x).therm = s.therm := rfl
@[simp] theorem State.setEngine_pow (s : State) (e : Nat) (x : Engine) : (s.setEngine e x).pow = s.pow := rfl
@[simp] theorem State.setEngine_otp (s : State) (e : Nat) (x : Engine) : (s.setEngine e x).otp = s.otp := rfl
@[simp] theorem State.setEngine_boot (s : State) (e : Nat) (x : Engine) : (s.setEngine e x).boot = s.boot := rfl
@[simp] theorem State.setEngine_dbg (s : State) (e : Nat) (x : Engine) : (s.setEngine e x).dbg = s.dbg := rfl
@[simp] theorem State.setEngine_net (s : State) (e : Nat) (x : Engine) : (s.setEngine e x).net = s.net := rfl

/-! ### The frame of a command -/

@[simp] theorem State.settle_fresh (s t : State) : (s.settle t).fresh = t.fresh := rfl
@[simp] theorem State.settle_objs (s t : State) : (s.settle t).objs = t.objs := rfl
@[simp] theorem State.settle_blobs (s t : State) : (s.settle t).blobs = t.blobs := rfl
@[simp] theorem State.settle_out (s t : State) : (s.settle t).out = t.out := rfl
@[simp] theorem State.settle_resp (s t : State) : (s.settle t).resp = t.resp := rfl
@[simp] theorem State.settle_pos (s t : State) : (s.settle t).pos = t.pos := rfl
@[simp] theorem State.settle_arr (s t : State) : (s.settle t).arr = t.arr := rfl
@[simp] theorem State.settle_conv (s t : State) : (s.settle t).conv = t.conv := rfl
@[simp] theorem State.settle_rcb (s t : State) : (s.settle t).rcb = t.rcb := rfl
@[simp] theorem State.settle_pipe (s t : State) : (s.settle t).pipe = t.pipe := rfl
@[simp] theorem State.settle_eng (s t : State) : (s.settle t).eng = t.eng := rfl
@[simp] theorem State.settle_conf (s t : State) : (s.settle t).conf = t.conf := rfl
@[simp] theorem State.settle_dict (s t : State) : (s.settle t).dict = t.dict := rfl
@[simp] theorem State.settle_host (s t : State) : (s.settle t).host = t.host := rfl
@[simp] theorem State.settle_two (s t : State) : (s.settle t).two = t.two := rfl
@[simp] theorem State.settle_cal (s t : State) : (s.settle t).cal = t.cal := rfl
@[simp] theorem State.settle_therm (s t : State) : (s.settle t).therm = t.therm := rfl
@[simp] theorem State.settle_pow (s t : State) : (s.settle t).pow = t.pow := rfl
@[simp] theorem State.settle_otp (s t : State) : (s.settle t).otp = t.otp := rfl
@[simp] theorem State.settle_boot (s t : State) : (s.settle t).boot = t.boot := rfl
@[simp] theorem State.settle_dbg (s t : State) : (s.settle t).dbg = t.dbg := rfl
@[simp] theorem State.settle_net (s t : State) : (s.settle t).net = t.net := rfl

@[simp] theorem State.settle_pending (s t : State) : (s.settle t).pending = s.pending := rfl
@[simp] theorem State.settle_now (s t : State) : (s.settle t).now = max s.now t.now := rfl
@[simp] theorem State.atTick_now (s : State) (t : Nat) : (s.atTick t).now = max s.now t := rfl
@[simp] theorem State.emit_out (s : State) (x : Out) : (s.emit x).out = s.out ++ [x] := rfl
@[simp] theorem State.free_fresh (s : State) (lo hi : Nat) : (s.free lo hi).2.fresh = s.fresh + 1 := rfl

/-! ### Values in force after an update that does not touch the store -/

@[simp] theorem State.o_emit (s : State) (x : Out) (k : Nat) : (s.emit x).o k = s.o k := rfl
@[simp] theorem State.o_atTick (s : State) (t k : Nat) : (s.atTick t).o k = s.o k := rfl
@[simp] theorem State.o_free (s : State) (lo hi k : Nat) : (s.free lo hi).2.o k = s.o k := rfl
@[simp] theorem State.o_setEngine (s : State) (e : Nat) (x : Engine) (k : Nat) : (s.setEngine e x).o k = s.o k := rfl
@[simp] theorem State.o_settle (s t : State) (k : Nat) : (s.settle t).o k = t.o k := rfl
@[simp] theorem State.o_putBlob (s : State) (b : Nat) (v : List Nat) (k : Nat) : (s.putBlob b v).o k = s.o k := by
  unfold State.o; simp
@[simp] theorem State.blob_put (s : State) (k : Nat) (v : Int) (b : Nat) : (s.put k v).blob b = s.blob b := by
  unfold State.blob; simp
@[simp] theorem State.blob_settle (s t : State) (b : Nat) : (s.settle t).blob b = t.blob b := rfl

/-- A command answers its effect while the device runs. -/
theorem State.act_alive (s : State) (f : State → State) (h : s.alive = true) : s.act f = .next (s.settle (f s)) := by
  simp [State.act, h]

/-- A command does nothing while the device does not run. -/
theorem State.act_dead (s : State) (f : State → State) (h : s.alive = false) : s.act f = .next (s.settle s) := by
  simp [State.act, h]

/-- Settling the state on itself changes nothing. -/
@[simp] theorem State.settle_self (s : State) : s.settle s = s := by
  simp [State.settle]

end Sys2Proof.Machine
end

