-- ==== Sys2Proof/Laws/Store.lean ====
section
/-!
SUPPORT. Laws of the sorted lists and of the dictionary's store: what a key holds after a write of it or of another key, and
that writes keep the canonical form.
-/
namespace Sys2Proof.Machine

/-! ### Sorted lists -/

theorem mapGet_mapPut {β : Type} (m : List (Nat × β)) (k k' : Nat) (v : β) :
    mapGet (mapPut m k v) k' = if k' = k then some v else mapGet m k' := by
  induction m with
  | nil => by_cases h : k' = k
           · simp [mapPut, mapGet, h]
           · simp [mapPut, mapGet, h, Ne.symm h]
  | cons p t ih =>
    obtain ⟨a, x⟩ := p
    by_cases h1 : k < a
    · by_cases h : k' = k
      · simp [mapPut, mapGet, h1, h]
      · simp [mapPut, mapGet, h1, h, Ne.symm h]
    · by_cases h2 : a = k
      · subst h2
        by_cases h : k' = a
        · simp [mapPut, mapGet, h]
        · simp [mapPut, mapGet, h, Ne.symm h]
      · by_cases h : k' = k
        · subst h; simp [mapPut, mapGet, h1, h2, ih]
        · simp [mapPut, mapGet, h1, h2, ih, h]

theorem mapGet_mapDel {β : Type} (m : List (Nat × β)) (k k' : Nat) :
    mapGet (mapDel m k) k' = if k' = k then none else mapGet m k' := by
  induction m with
  | nil => simp [mapDel, mapGet]
  | cons p t ih =>
    obtain ⟨a, x⟩ := p
    simp only [mapDel] at ih ⊢
    by_cases h : a = k
    · simp only [h, List.filter_cons]
      simp only [mapGet]
      simp only [ne_eq, not_true_eq_false, decide_false, Bool.false_eq_true, if_false, ih]
      split
      · rfl
      · rw [if_neg (by omega)]
    · simp only [List.filter_cons, ne_eq, h, not_false_eq_true, decide_true, if_true, mapGet, ih]
      split <;> split <;> simp_all

/-- Every key of the list is above a bound that is lower still. -/
theorem mapAbove_mono {β : Type} {j k : Nat} (m : List (Nat × β)) (h : j ≤ k) (hm : mapAbove k m = true) :
    mapAbove j m = true := by
  cases m with
  | nil => rfl
  | cons p t => obtain ⟨a, x⟩ := p; simp only [mapAbove, Bool.and_eq_true, decide_eq_true_eq] at hm ⊢; exact ⟨by omega, hm.2⟩

theorem mapAbove_mapPut {β : Type} (m : List (Nat × β)) (j k : Nat) (v : β) (hm : mapAbove j m = true) (h : j < k) :
    mapAbove j (mapPut m k v) = true := by
  induction m generalizing j with
  | nil => simp [mapPut, mapAbove, h]
  | cons p t ih =>
    obtain ⟨a, x⟩ := p
    simp only [mapAbove, Bool.and_eq_true, decide_eq_true_eq] at hm
    simp only [mapPut]
    split
    · simp only [mapAbove, Bool.and_eq_true, decide_eq_true_eq]; exact ⟨h, ‹_›, hm.2⟩
    · split
      · rename_i h2; subst h2
        simp only [mapAbove, Bool.and_eq_true, decide_eq_true_eq]; exact hm
      · simp only [mapAbove, Bool.and_eq_true, decide_eq_true_eq]; exact ⟨hm.1, ih a hm.2 (by omega)⟩

theorem mapAbove_filter {β : Type} (m : List (Nat × β)) (j : Nat) (f : Nat × β → Bool) (hm : mapAbove j m = true) :
    mapAbove j (m.filter f) = true := by
  induction m generalizing j with
  | nil => rfl
  | cons p t ih =>
    obtain ⟨a, x⟩ := p
    simp only [mapAbove, Bool.and_eq_true, decide_eq_true_eq] at hm
    simp only [List.filter_cons]
    split
    · simp only [mapAbove, Bool.and_eq_true, decide_eq_true_eq]; exact ⟨hm.1, ih a hm.2⟩
    · exact mapAbove_mono _ (by omega) (ih a hm.2)

theorem mapSorted_mapPut {β : Type} (m : List (Nat × β)) (k : Nat) (v : β) (hm : mapSorted m = true) :
    mapSorted (mapPut m k v) = true := by
  cases m with
  | nil => rfl
  | cons p t =>
    obtain ⟨a, x⟩ := p
    simp only [mapSorted] at hm
    simp only [mapPut]
    split
    · simp only [mapSorted, mapAbove, Bool.and_eq_true, decide_eq_true_eq]; exact ⟨‹_›, hm⟩
    · split
      · rename_i h2; subst h2; exact hm
      · exact mapAbove_mapPut t a k v hm (by omega)

theorem mapSorted_filter {β : Type} (m : List (Nat × β)) (f : Nat × β → Bool) (hm : mapSorted m = true) :
    mapSorted (m.filter f) = true := by
  cases m with
  | nil => rfl
  | cons p t =>
    obtain ⟨a, x⟩ := p
    simp only [mapSorted] at hm
    simp only [List.filter_cons]
    split
    · exact mapAbove_filter t a f hm
    · cases h : t.filter f with
      | nil => rfl
      | cons q u =>
        have := mapAbove_filter t a f hm
        rw [h] at this
        obtain ⟨b, y⟩ := q
        simp only [mapAbove, Bool.and_eq_true] at this
        exact this.2

/-! ### Values in force -/

/-- A scalar object after a write of one. -/
theorem State.o_put (s : State) (k k' : Nat) (v : Int) : (s.put k v).o k' = if k' = k then v else s.o k' := by
  unfold State.put State.o
  split
  · rename_i h
    simp only [mapGet_mapDel]
    split
    · simp_all
    · rfl
  · simp only [mapGet_mapPut]
    split <;> rfl

@[simp] theorem State.o_put_self (s : State) (k : Nat) (v : Int) : (s.put k v).o k = v := by simp [State.o_put]

theorem State.o_put_ne (s : State) {k k' : Nat} (v : Int) (h : k' ≠ k) : (s.put k v).o k' = s.o k' := by
  simp [State.o_put, h]

/-- A BLOB object after a write of one. -/
theorem State.blob_putBlob (s : State) (k k' : Nat) (v : List Nat) :
    (s.putBlob k v).blob k' = if k' = k then v else s.blob k' := by
  unfold State.putBlob State.blob
  split
  · rename_i h
    simp only [mapGet_mapDel]
    split
    · simp_all
    · rfl
  · simp only [mapGet_mapPut]
    split <;> rfl

/-- A write of a scalar object keeps the store's order. -/
theorem State.put_sorted (s : State) (k : Nat) (v : Int) (h : mapSorted s.objs = true) : mapSorted (s.put k v).objs = true := by
  unfold State.put
  split
  · exact mapSorted_filter _ _ h
  · exact mapSorted_mapPut _ _ _ h

theorem State.bump_eq (s : State) (k d : Nat) : s.bump k d = s.put k ((s.o k + d) % (maxOf k + 1)) := rfl
theorem State.sat_eq (s : State) (k d : Nat) : s.sat k d = s.put k (min (s.o k + d) (maxOf k)) := rfl
theorem State.setBits_eq (s : State) (k m : Nat) : s.setBits k m = s.put k ((s.n k ||| m : Nat) : Int) := rfl
theorem State.clrBits_eq (s : State) (k m : Nat) : s.clrBits k m = s.put k ((s.n k ^^^ (s.n k &&& m) : Nat) : Int) := rfl

end Sys2Proof.Machine
end

