-- ==== Sys2Proof/Laws/Events.lean ====
section
/-!
SUPPORT. What raising an event can change (R17, R272, R325, R339): the log and its counters, the event queue and its vector,
the frames queued for the network, what the device sends; and, before PD2 is on, the events held.
-/
namespace Sys2Proof.Machine

/-- Objects that an event can change: the log's counters, the bytes written to the host, the event queue's producer index
and omissions. -/
def logKey (k : Nat) : Bool :=
  k = 0x780002 || k = 0x780003 || k = 0x780006 || k = 0x50000B || k = 0x503104 || k = 0x503106
    || (0x781000 ≤ k && k ≤ 0x78100F)

/-- The second state differs from the first in what an event can change, at most. -/
structure LogSame (s t : State) : Prop where
  pending : t.pending = s.pending
  now : t.now = s.now
  fresh : t.fresh = s.fresh
  blobs : t.blobs = s.blobs
  resp : t.resp = s.resp
  pos : t.pos = s.pos
  arr : t.arr = s.arr
  conv : t.conv = s.conv
  rcb : t.rcb = s.rcb
  pipe : t.pipe = s.pipe
  eng : t.eng = s.eng
  conf : t.conf = s.conf
  two : t.two = s.two
  cal : t.cal = s.cal
  therm : t.therm = s.therm
  pow : t.pow = s.pow
  otp : t.otp = s.otp
  dbg : t.dbg = s.dbg
  host : t.host = { s.host with vecs := t.host.vecs, evPhase := t.host.evPhase, evOmitted := t.host.evOmitted }
  net : t.net = { s.net with txq := t.net.txq, seq := t.net.seq }
  dict : t.dict = { s.dict with log := t.dict.log, seen := t.dict.seen }
  boot : t.boot = { s.boot with held := t.boot.held }
  objs : ∀ k, logKey k = false → t.o k = s.o k

theorem LogSame.refl (s : State) : LogSame s s :=
  ⟨rfl, rfl, rfl, rfl, rfl, rfl, rfl, rfl, rfl, rfl, rfl, rfl, rfl, rfl, rfl, rfl, rfl, rfl, rfl, rfl, rfl, rfl, fun _ _ => rfl⟩

theorem LogSame.trans {s t u : State} (h : LogSame s t) (g : LogSame t u) : LogSame s u where
  pending := g.pending.trans h.pending
  now := g.now.trans h.now
  fresh := g.fresh.trans h.fresh
  blobs := g.blobs.trans h.blobs
  resp := g.resp.trans h.resp
  pos := g.pos.trans h.pos
  arr := g.arr.trans h.arr
  conv := g.conv.trans h.conv
  rcb := g.rcb.trans h.rcb
  pipe := g.pipe.trans h.pipe
  eng := g.eng.trans h.eng
  conf := g.conf.trans h.conf
  two := g.two.trans h.two
  cal := g.cal.trans h.cal
  therm := g.therm.trans h.therm
  pow := g.pow.trans h.pow
  otp := g.otp.trans h.otp
  dbg := g.dbg.trans h.dbg
  host := by rw [g.host, h.host]
  net := by rw [g.net, h.net]
  dict := by rw [g.dict, h.dict]
  boot := by rw [g.boot, h.boot]
  objs := fun k hk => (g.objs k hk).trans (h.objs k hk)

theorem LogSame.ite {s t u : State} {c : Prop} [Decidable c] (h : c → LogSame s t) (g : ¬c → LogSame s u) :
    LogSame s (if c then t else u) := by
  split
  · exact h ‹_›
  · exact g ‹_›

/-- A write of a log object. -/
theorem LogSame.put {s t : State} (h : LogSame s t) {k : Nat} (hk : logKey k = true) (v : Int) : LogSame s (t.put k v) :=
  h.trans {
    LogSame.refl t with
    pending := by simp, now := by simp, fresh := by simp, blobs := by simp, resp := by simp, pos := by simp, arr := by simp
    conv := by simp, rcb := by simp, pipe := by simp, eng := by simp, conf := by simp, two := by simp, cal := by simp
    therm := by simp, pow := by simp, otp := by simp, dbg := by simp, host := by simp, net := by simp, dict := by simp
    boot := by simp
    objs := fun j hj => State.o_put_ne t v (by rintro rfl; simp [hk] at hj) }

theorem LogSame.emit {s t : State} (h : LogSame s t) (x : Out) : LogSame s (t.emit x) :=
  h.trans (by constructor <;> intros <;> rfl)

theorem LogSame.emits {s t : State} (h : LogSame s t) (f : State → Nat → Out) (l : List Nat) :
    LogSame s (l.foldl (fun (u : State) i => u.emit (f u i)) t) := by
  induction l generalizing t with
  | nil => exact h
  | cons i l ih => exact ih (h.emit (f _ i))

theorem LogSame.dma {s t : State} (h : LogSame s t) (a b c : Nat) (bs : List Nat) : LogSame s (t.dma a b c bs) := by
  unfold State.dma State.bump
  exact (h.put (k := 0x50000B) (by decide) _).emits
    (fun u i => .hostWrite a (u.relaxed a) b (c + t.maxPayload * i) ((bs.drop (t.maxPayload * i)).take t.maxPayload)) _

theorem LogSame.writeBack {s t : State} (h : LogSame s t) : LogSame s t.writeBack := by
  unfold State.writeBack
  exact LogSame.ite (fun _ => h) (fun _ => h.dma _ _ _ _)

theorem LogSame.vecs {s t : State} (h : LogSame s t) (l : List VecState) :
    LogSame s { t with host := { t.host with vecs := l } } :=
  h.trans (by constructor <;> intros <;> rfl)

theorem LogSame.fire {s t : State} (h : LogSame s t) (v : Nat) : LogSame s (t.fire v) := (h.vecs _).writeBack.emit _

theorem LogSame.signal {s t : State} (h : LogSame s t) (v : Nat) : LogSame s (t.signal v) := by
  unfold State.signal
  exact LogSame.ite (fun _ => h.fire v) (fun _ => h.vecs _)

theorem LogSame.log {s t : State} (h : LogSame s t) (l : List LogEntry) :
    LogSame s { t with dict := { t.dict with log := l } } :=
  h.trans (by constructor <;> intros <;> rfl)

theorem LogSame.logEvent {s t : State} (h : LogSame s t) (e : LogEntry) : LogSame s (t.logEvent e) := by
  unfold State.logEvent
  extract_lets a b
  have h1 : LogSame s a := h.put (by decide) _
  have h2 : LogSame s b := LogSame.ite
    (fun hc => h1.put (by simp only [Bool.and_eq_true, decide_eq_true_eq] at hc; simp [logKey]; omega) _) (fun _ => h1)
  exact LogSame.ite (fun _ => h2.log _) (fun _ => ((h2.log _).put (by decide) _).put (by decide) _)

theorem LogSame.phase {s t : State} (h : LogSame s t) (b : Bool) :
    LogSame s { t with host := { t.host with evPhase := b } } :=
  h.trans (by constructor <;> intros <;> rfl)

theorem LogSame.omitted {s t : State} (h : LogSame s t) (n : Nat) :
    LogSame s { t with host := { t.host with evOmitted := n } } :=
  h.trans (by constructor <;> intros <;> rfl)

theorem LogSame.omit {s t : State} (h : LogSame s t) (n : Nat) :
    LogSame s { t.bump 0x503106 with host := { t.host with evOmitted := n } } := by
  have g := (h.put (k := 0x503106) (by decide) ((t.o 0x503106 + (1 : Nat)) % (maxOf 0x503106 + 1))).omitted n
  rw [State.put_host] at g
  exact g

theorem LogSame.evWrite {s t : State} (h : LogSame s t) (e : LogEntry) : LogSame s (t.evWrite e) := by
  unfold State.evWrite
  extract_lets p ph a b c
  have h1 : LogSame s a := h.dma _ _ _ _
  have h2 : LogSame s b := h1.put (by decide) _
  exact LogSame.signal (LogSame.ite (fun _ => h2.phase _) (fun _ => h2)) _

theorem LogSame.evDeliver {s t : State} (h : LogSame s t) (e : LogEntry) : LogSame s (t.evDeliver e) := by
  unfold State.evDeliver
  exact LogSame.ite (fun _ => h) fun _ => LogSame.ite (fun _ => h.omit _) fun _ => h.evWrite e

theorem LogSame.queueFrame {s t : State} (h : LogSame s t) (f : TxFrame) : LogSame s (t.queueFrame f) := by
  unfold State.queueFrame
  exact LogSame.ite (fun _ => h.trans (by constructor <;> intros <;> rfl)) (fun _ => h)

theorem LogSame.nextSeq {s t : State} (h : LogSame s t) : LogSame s t.nextSeq := h.trans (by constructor <;> intros <;> rfl)

theorem LogSame.notify {s t : State} (h : LogSame s t) (e : LogEntry) : LogSame s (t.notify e) := by
  unfold State.notify
  exact LogSame.ite (fun _ => (h.queueFrame _).nextSeq) (fun _ => h)

theorem LogSame.enterEvent {s t : State} (h : LogSame s t) (e : LogEntry) : LogSame s (t.enterEvent e) :=
  ((h.logEvent _).evDeliver _).notify _

theorem LogSame.raiseAt {s t : State} (h : LogSame s t) (code seg elem : Nat) (data : Int) :
    LogSame s (t.raiseAt code seg elem data) := by
  unfold State.raiseAt
  extract_lets e
  exact LogSame.ite (fun _ => h.enterEvent _) fun _ => LogSame.ite (fun _ => h.trans (by constructor <;> intros <;> rfl)) fun _ => h

theorem LogSame.raise {s t : State} (h : LogSame s t) (code : Nat) (data : Int) : LogSame s (t.raise code data) :=
  h.raiseAt _ _ _ _

theorem LogSame.raiseFirst {s t : State} (h : LogSame s t) (code disc : Nat) (data : Int) :
    LogSame s (t.raiseFirst code disc data) := by
  unfold State.raiseFirst
  exact LogSame.ite (fun _ => h) fun _ => LogSame.raise (h.trans (by constructor <;> intros <;> rfl)) _ _

/-- What an event can change, at device level. -/
theorem State.raise_same (s : State) (code : Nat) (data : Int) : LogSame s (s.raise code data) := (LogSame.refl s).raise code data

/-- What an event can change, at a unit. -/
theorem State.raiseAt_same (s : State) (code seg elem : Nat) (data : Int) : LogSame s (s.raiseAt code seg elem data) :=
  (LogSame.refl s).raiseAt code seg elem data

/-- What the first event of a section can change. -/
theorem State.raiseFirst_same (s : State) (code disc : Nat) (data : Int) : LogSame s (s.raiseFirst code disc data) :=
  (LogSame.refl s).raiseFirst code disc data

/-- What a signalled vector can change. -/
theorem State.signal_same (s : State) (v : Nat) : LogSame s (s.signal v) := (LogSame.refl s).signal v

@[simp] theorem State.raise_pending (s : State) (c : Nat) (d : Int) : (s.raise c d).pending = s.pending := (s.raise_same c d).pending
@[simp] theorem State.raise_now (s : State) (c : Nat) (d : Int) : (s.raise c d).now = s.now := (s.raise_same c d).now
@[simp] theorem State.raise_fresh (s : State) (c : Nat) (d : Int) : (s.raise c d).fresh = s.fresh := (s.raise_same c d).fresh
@[simp] theorem State.raise_blobs (s : State) (c : Nat) (d : Int) : (s.raise c d).blobs = s.blobs := (s.raise_same c d).blobs
@[simp] theorem State.raise_resp (s : State) (c : Nat) (d : Int) : (s.raise c d).resp = s.resp := (s.raise_same c d).resp
@[simp] theorem State.raise_pos (s : State) (c : Nat) (d : Int) : (s.raise c d).pos = s.pos := (s.raise_same c d).pos
@[simp] theorem State.raise_arr (s : State) (c : Nat) (d : Int) : (s.raise c d).arr = s.arr := (s.raise_same c d).arr
@[simp] theorem State.raise_conv (s : State) (c : Nat) (d : Int) : (s.raise c d).conv = s.conv := (s.raise_same c d).conv
@[simp] theorem State.raise_rcb (s : State) (c : Nat) (d : Int) : (s.raise c d).rcb = s.rcb := (s.raise_same c d).rcb
@[simp] theorem State.raise_pipe (s : State) (c : Nat) (d : Int) : (s.raise c d).pipe = s.pipe := (s.raise_same c d).pipe
@[simp] theorem State.raise_eng (s : State) (c : Nat) (d : Int) : (s.raise c d).eng = s.eng := (s.raise_same c d).eng
@[simp] theorem State.raise_conf (s : State) (c : Nat) (d : Int) : (s.raise c d).conf = s.conf := (s.raise_same c d).conf
@[simp] theorem State.raise_two (s : State) (c : Nat) (d : Int) : (s.raise c d).two = s.two := (s.raise_same c d).two
@[simp] theorem State.raise_cal (s : State) (c : Nat) (d : Int) : (s.raise c d).cal = s.cal := (s.raise_same c d).cal
@[simp] theorem State.raise_therm (s : State) (c : Nat) (d : Int) : (s.raise c d).therm = s.therm := (s.raise_same c d).therm
@[simp] theorem State.raise_pow (s : State) (c : Nat) (d : Int) : (s.raise c d).pow = s.pow := (s.raise_same c d).pow
@[simp] theorem State.raise_otp (s : State) (c : Nat) (d : Int) : (s.raise c d).otp = s.otp := (s.raise_same c d).otp
@[simp] theorem State.raise_dbg (s : State) (c : Nat) (d : Int) : (s.raise c d).dbg = s.dbg := (s.raise_same c d).dbg
theorem State.o_raise (s : State) (c : Nat) (d : Int) {k : Nat} (h : logKey k = false) : (s.raise c d).o k = s.o k := (s.raise_same c d).objs k h

@[simp] theorem State.raiseAt_pending (s : State) (c g e : Nat) (d : Int) : (s.raiseAt c g e d).pending = s.pending := (s.raiseAt_same c g e d).pending
@[simp] theorem State.raiseAt_now (s : State) (c g e : Nat) (d : Int) : (s.raiseAt c g e d).now = s.now := (s.raiseAt_same c g e d).now
@[simp] theorem State.raiseAt_fresh (s : State) (c g e : Nat) (d : Int) : (s.raiseAt c g e d).fresh = s.fresh := (s.raiseAt_same c g e d).fresh
@[simp] theorem State.raiseAt_blobs (s : State) (c g e : Nat) (d : Int) : (s.raiseAt c g e d).blobs = s.blobs := (s.raiseAt_same c g e d).blobs
@[simp] theorem State.raiseAt_resp (s : State) (c g e : Nat) (d : Int) : (s.raiseAt c g e d).resp = s.resp := (s.raiseAt_same c g e d).resp
@[simp] theorem State.raiseAt_pos (s : State) (c g e : Nat) (d : Int) : (s.raiseAt c g e d).pos = s.pos := (s.raiseAt_same c g e d).pos
@[simp] theorem State.raiseAt_arr (s : State) (c g e : Nat) (d : Int) : (s.raiseAt c g e d).arr = s.arr := (s.raiseAt_same c g e d).arr
@[simp] theorem State.raiseAt_conv (s : State) (c g e : Nat) (d : Int) : (s.raiseAt c g e d).conv = s.conv := (s.raiseAt_same c g e d).conv
@[simp] theorem State.raiseAt_rcb (s : State) (c g e : Nat) (d : Int) : (s.raiseAt c g e d).rcb = s.rcb := (s.raiseAt_same c g e d).rcb
@[simp] theorem State.raiseAt_pipe (s : State) (c g e : Nat) (d : Int) : (s.raiseAt c g e d).pipe = s.pipe := (s.raiseAt_same c g e d).pipe
@[simp] theorem State.raiseAt_eng (s : State) (c g e : Nat) (d : Int) : (s.raiseAt c g e d).eng = s.eng := (s.raiseAt_same c g e d).eng
@[simp] theorem State.raiseAt_conf (s : State) (c g e : Nat) (d : Int) : (s.raiseAt c g e d).conf = s.conf := (s.raiseAt_same c g e d).conf
@[simp] theorem State.raiseAt_two (s : State) (c g e : Nat) (d : Int) : (s.raiseAt c g e d).two = s.two := (s.raiseAt_same c g e d).two
@[simp] theorem State.raiseAt_cal (s : State) (c g e : Nat) (d : Int) : (s.raiseAt c g e d).cal = s.cal := (s.raiseAt_same c g e d).cal
@[simp] theorem State.raiseAt_therm (s : State) (c g e : Nat) (d : Int) : (s.raiseAt c g e d).therm = s.therm := (s.raiseAt_same c g e d).therm
@[simp] theorem State.raiseAt_pow (s : State) (c g e : Nat) (d : Int) : (s.raiseAt c g e d).pow = s.pow := (s.raiseAt_same c g e d).pow
@[simp] theorem State.raiseAt_otp (s : State) (c g e : Nat) (d : Int) : (s.raiseAt c g e d).otp = s.otp := (s.raiseAt_same c g e d).otp
@[simp] theorem State.raiseAt_dbg (s : State) (c g e : Nat) (d : Int) : (s.raiseAt c g e d).dbg = s.dbg := (s.raiseAt_same c g e d).dbg
theorem State.o_raiseAt (s : State) (c g e : Nat) (d : Int) {k : Nat} (h : logKey k = false) : (s.raiseAt c g e d).o k = s.o k := (s.raiseAt_same c g e d).objs k h

@[simp] theorem State.raiseFirst_pending (s : State) (c x : Nat) (d : Int) : (s.raiseFirst c x d).pending = s.pending := (s.raiseFirst_same c x d).pending
@[simp] theorem State.raiseFirst_now (s : State) (c x : Nat) (d : Int) : (s.raiseFirst c x d).now = s.now := (s.raiseFirst_same c x d).now
@[simp] theorem State.raiseFirst_fresh (s : State) (c x : Nat) (d : Int) : (s.raiseFirst c x d).fresh = s.fresh := (s.raiseFirst_same c x d).fresh
@[simp] theorem State.raiseFirst_blobs (s : State) (c x : Nat) (d : Int) : (s.raiseFirst c x d).blobs = s.blobs := (s.raiseFirst_same c x d).blobs
@[simp] theorem State.raiseFirst_resp (s : State) (c x : Nat) (d : Int) : (s.raiseFirst c x d).resp = s.resp := (s.raiseFirst_same c x d).resp
@[simp] theorem State.raiseFirst_pos (s : State) (c x : Nat) (d : Int) : (s.raiseFirst c x d).pos = s.pos := (s.raiseFirst_same c x d).pos
@[simp] theorem State.raiseFirst_arr (s : State) (c x : Nat) (d : Int) : (s.raiseFirst c x d).arr = s.arr := (s.raiseFirst_same c x d).arr
@[simp] theorem State.raiseFirst_conv (s : State) (c x : Nat) (d : Int) : (s.raiseFirst c x d).conv = s.conv := (s.raiseFirst_same c x d).conv
@[simp] theorem State.raiseFirst_rcb (s : State) (c x : Nat) (d : Int) : (s.raiseFirst c x d).rcb = s.rcb := (s.raiseFirst_same c x d).rcb
@[simp] theorem State.raiseFirst_pipe (s : State) (c x : Nat) (d : Int) : (s.raiseFirst c x d).pipe = s.pipe := (s.raiseFirst_same c x d).pipe
@[simp] theorem State.raiseFirst_eng (s : State) (c x : Nat) (d : Int) : (s.raiseFirst c x d).eng = s.eng := (s.raiseFirst_same c x d).eng
@[simp] theorem State.raiseFirst_conf (s : State) (c x : Nat) (d : Int) : (s.raiseFirst c x d).conf = s.conf := (s.raiseFirst_same c x d).conf
@[simp] theorem State.raiseFirst_two (s : State) (c x : Nat) (d : Int) : (s.raiseFirst c x d).two = s.two := (s.raiseFirst_same c x d).two
@[simp] theorem State.raiseFirst_cal (s : State) (c x : Nat) (d : Int) : (s.raiseFirst c x d).cal = s.cal := (s.raiseFirst_same c x d).cal
@[simp] theorem State.raiseFirst_therm (s : State) (c x : Nat) (d : Int) : (s.raiseFirst c x d).therm = s.therm := (s.raiseFirst_same c x d).therm
@[simp] theorem State.raiseFirst_pow (s : State) (c x : Nat) (d : Int) : (s.raiseFirst c x d).pow = s.pow := (s.raiseFirst_same c x d).pow
@[simp] theorem State.raiseFirst_otp (s : State) (c x : Nat) (d : Int) : (s.raiseFirst c x d).otp = s.otp := (s.raiseFirst_same c x d).otp
@[simp] theorem State.raiseFirst_dbg (s : State) (c x : Nat) (d : Int) : (s.raiseFirst c x d).dbg = s.dbg := (s.raiseFirst_same c x d).dbg
theorem State.o_raiseFirst (s : State) (c x : Nat) (d : Int) {k : Nat} (h : logKey k = false) : (s.raiseFirst c x d).o k = s.o k := (s.raiseFirst_same c x d).objs k h

@[simp] theorem State.signal_pending (s : State) (v : Nat) : (s.signal v).pending = s.pending := (s.signal_same v).pending
@[simp] theorem State.signal_now (s : State) (v : Nat) : (s.signal v).now = s.now := (s.signal_same v).now
@[simp] theorem State.signal_fresh (s : State) (v : Nat) : (s.signal v).fresh = s.fresh := (s.signal_same v).fresh
@[simp] theorem State.signal_blobs (s : State) (v : Nat) : (s.signal v).blobs = s.blobs := (s.signal_same v).blobs
@[simp] theorem State.signal_resp (s : State) (v : Nat) : (s.signal v).resp = s.resp := (s.signal_same v).resp
@[simp] theorem State.signal_pos (s : State) (v : Nat) : (s.signal v).pos = s.pos := (s.signal_same v).pos
@[simp] theorem State.signal_arr (s : State) (v : Nat) : (s.signal v).arr = s.arr := (s.signal_same v).arr
@[simp] theorem State.signal_conv (s : State) (v : Nat) : (s.signal v).conv = s.conv := (s.signal_same v).conv
@[simp] theorem State.signal_rcb (s : State) (v : Nat) : (s.signal v).rcb = s.rcb := (s.signal_same v).rcb
@[simp] theorem State.signal_pipe (s : State) (v : Nat) : (s.signal v).pipe = s.pipe := (s.signal_same v).pipe
@[simp] theorem State.signal_eng (s : State) (v : Nat) : (s.signal v).eng = s.eng := (s.signal_same v).eng
@[simp] theorem State.signal_conf (s : State) (v : Nat) : (s.signal v).conf = s.conf := (s.signal_same v).conf
@[simp] theorem State.signal_two (s : State) (v : Nat) : (s.signal v).two = s.two := (s.signal_same v).two
@[simp] theorem State.signal_cal (s : State) (v : Nat) : (s.signal v).cal = s.cal := (s.signal_same v).cal
@[simp] theorem State.signal_therm (s : State) (v : Nat) : (s.signal v).therm = s.therm := (s.signal_same v).therm
@[simp] theorem State.signal_pow (s : State) (v : Nat) : (s.signal v).pow = s.pow := (s.signal_same v).pow
@[simp] theorem State.signal_otp (s : State) (v : Nat) : (s.signal v).otp = s.otp := (s.signal_same v).otp
@[simp] theorem State.signal_dbg (s : State) (v : Nat) : (s.signal v).dbg = s.dbg := (s.signal_same v).dbg
theorem State.o_signal (s : State) (v : Nat) {k : Nat} (h : logKey k = false) : (s.signal v).o k = s.o k := (s.signal_same v).objs k h

end Sys2Proof.Machine
end

