-- ==== Sys2Proof/Laws/Requests.lean ====
section
/-!
SUPPORT. What serving a request comes to (R302 to R308): a request that is served at once answers with the result of its
operation, and a plain write that passes its checks has the effect of its object.
-/
namespace Sys2Proof.Machine
open Sys2Proof.Safety

/-! ### Bytes -/

theorem leNat_leBytes (n x : Nat) : leNat (leBytes n x) = x % 256 ^ n := by
  induction n generalizing x with
  | zero => simp [leBytes, leNat, Nat.mod_one]
  | succ n ih =>
    simp only [leBytes, leNat, ih, Nat.mod_mod]
    rw [Nat.pow_succ, Nat.mul_comm (256 ^ n) 256, Nat.mod_mul]

@[simp] theorem length_leBytes (n x : Nat) : (leBytes n x).length = n := by
  induction n generalizing x with
  | zero => rfl
  | succ n ih => simp [leBytes, ih]

theorem leNat_leBytes_of_lt (n x : Nat) (h : x < 256 ^ n) : leNat (leBytes n x) = x := by
  rw [leNat_leBytes, Nat.mod_eq_of_lt h]

/-! ### The mailbox carries a request whole (R265) -/

theorem mailboxReq_mailbox (r : DReq) (ho : r.op < 256) (hk : r.key < 2 ^ 24) (hl : r.len < 2 ^ 32) (ht : r.txn < 2 ^ 32)
    (ha : r.arg < 2 ^ 32) (hd : r.data = [] ∨ (r.len = r.data.length ∧ r.op ≠ 1 ∧ r.op ≠ 6))
    (he : r.data = [] → r.op = 1 ∨ r.op = 6 ∨ r.len = 0) : mailboxReq r.mailbox = r := by
  obtain ⟨op, key, len, txn, arg, data⟩ := r
  simp only at ho hk hl ht ha hd he
  have hlen : (if data.isEmpty then len else data.length) = len := by
    rcases hd with hd | hd
    · simp [hd]
    · split
      · rfl
      · exact hd.1.symm
  have h1 : fieldAt (DReq.mailbox ⟨op, key, len, txn, arg, data⟩) 0 1 = op := by
    simp [fieldAt, DReq.mailbox, leNat]; omega
  have h2 : fieldAt (DReq.mailbox ⟨op, key, len, txn, arg, data⟩) 1 1 = key % 256 := by
    simp [fieldAt, DReq.mailbox, leNat]
  have h3 : fieldAt (DReq.mailbox ⟨op, key, len, txn, arg, data⟩) 2 2 = key / 256 := by
    simp [fieldAt, DReq.mailbox, leNat, leBytes]; omega
  have h4 : fieldAt (DReq.mailbox ⟨op, key, len, txn, arg, data⟩) 4 4 = len := by
    simp only [DReq.mailbox, hlen]
    simp [fieldAt, leNat, leBytes]; omega
  have h5 : fieldAt (DReq.mailbox ⟨op, key, len, txn, arg, data⟩) 8 4 = txn := by
    simp [fieldAt, DReq.mailbox, leNat, leBytes]; omega
  have h6 : fieldAt (DReq.mailbox ⟨op, key, len, txn, arg, data⟩) 12 4 = arg := by
    simp [fieldAt, DReq.mailbox, leNat, leBytes]; omega
  have h7 : (DReq.mailbox ⟨op, key, len, txn, arg, data⟩).drop 16 = data := by
    simp [DReq.mailbox, leBytes]
  unfold mailboxReq
  simp only [h1, h2, h3, h4, h5, h6, h7]
  congr 1
  · omega
  · rcases hd with hd | hd
    · subst hd; simp
    · rw [if_neg (by simp [hd.2]), hd.1, List.take_length]

theorem writeOf_mailbox (k : Nat) (bs : List Nat) (hk : k < 2 ^ 24) (hl : bs.length < 2 ^ 32) :
    mailboxReq (writeOf k bs).mailbox = writeOf k bs := by
  apply mailboxReq_mailbox <;> simp_all [writeOf]

theorem readOf_mailbox (k : Nat) (hk : k < 2 ^ 24) : mailboxReq (readOf k).mailbox = readOf k := by
  apply mailboxReq_mailbox <;> simp_all [readOf]

/-! ### A request served at once -/

/-- Dropping an assembly does not change which port is served. -/
@[simp] theorem State.gate_dropAsmBuf (s : State) (q p : Nat) (r : DReq) : (s.dropAsmBuf q).gate p r = s.gate p r := rfl

theorem gate_taken (s : State) (w : Sender) (r : DReq) (p : Nat) : (taken s w r).gate p r = (atPort s w r).gate p r := by
  unfold taken; split <;> simp

/-- The port bookkeeping leaves the debug port as it is. -/
theorem atPort_dbg (s : State) (w : Sender) (r : DReq) : (atPort s w r).dbg = s.dbg := by
  unfold atPort
  split
  · rfl
  · simp [State.bump]
  · unfold State.netRx State.netHeard
    simp only [State.bump, State.put_dbg]
    split <;> simp
  · rfl

/-- Taking a frame leaves the reply cache. -/
theorem netRx_cache (s : State) : s.netRx.net.cache = s.net.cache := by
  unfold State.netRx State.netHeard
  simp only [State.bump, State.put_net]
  split
  · rw [(State.raise_same _ _ _).net]; simp
  · rfl

/-- A request whose reply is not cached is no repeat. -/
theorem netAgain_none (s : State) (dest seq op : Nat)
    (h : (s.net.cache.any fun c => decide (c.1 = seq) && decide (c.2.1 = op)) = false) :
    s.netRx.netAgain dest seq op = none := by
  unfold State.netAgain
  rw [netRx_cache, List.find?_eq_none.mpr fun x hx => by simpa using List.any_eq_false.mp h x hx]
  rfl

/-- A request that is served at once is no repeat: it is executed, and its response is framed. -/
theorem answer_served (s : State) (w : Sender) (r : DReq) (h : Served s w r) :
    (atPort s w r).answer (waiterOf w r) = ((atPort s w r).serve w.port r).framed (waiterOf w r) := by
  unfold State.answer
  split
  · next h2 =>
    obtain ⟨p, src, seq⟩ := w
    have : p = 2 := by simpa [waiterOf, Fin.ext_iff] using h2
    subst this
    have hp := h.port
    simp only [portTakes, Bool.and_eq_true, Bool.not_eq_true'] at hp
    have e := netAgain_none s ((atPort s ⟨2, src, seq⟩ r).n 0x540005) seq r.op hp.2
    simp only [atPort, waiterOf] at e ⊢
    simp [e]
  · rfl

/-- A request that is served at once is answered from the state its port leaves. -/
theorem request_served (s : State) (w : Sender) (r : DReq) (h : Served s w r) (hm : mailboxReq r.mailbox = r) :
    s.request w r = ((atPort s w r).answer (waiterOf w r)).serveWaiting := by
  have hd := atPort_dbg s w r
  have hp := h.port
  have h1 := h.sup1
  obtain ⟨p, src, seq⟩ := w
  have arr (x : Waiter) (hx : x.port = p) : (atPort s ⟨p, src, seq⟩ r).arrive x = ((atPort s ⟨p, src, seq⟩ r).answer x).serveWaiting := by
    unfold State.arrive
    rw [hd, if_neg]
    rcases h1 with h1 | h1 <;> simp_all
  unfold State.request State.hostRequest
  match p, hp, arr with
  | 0, hp, arr =>
    simp only [portTakes] at hp
    simp only [Fin.val_zero, hp, if_true]
    exact arr _ rfl
  | 1, hp, arr =>
    simp only [portTakes, Bool.and_eq_true, Bool.not_eq_true', decide_eq_true_eq] at hp
    simp only [Fin.val_one, State.mailboxGo, hp.1.1, hp.1.2, Bool.not_true, Bool.or_self, Bool.false_eq_true, if_false,
      State.mailboxStart]
    rw [if_neg hp.2]
    simp only [State.bump, State.put_host, hm]
    exact arr ⟨1, 0, r⟩ rfl
  | 2, hp, arr =>
    simp only [portTakes, Bool.and_eq_true, Bool.not_eq_true', decide_eq_true_eq] at hp
    obtain ⟨⟨⟨⟨⟨a, t⟩, b⟩, c⟩, d⟩, e⟩ := hp
    show s.netRequest src (s.n 0x100003) seq r = _
    unfold State.netRequest
    rw [if_neg (by simp [a]), if_neg (by simpa using t), if_neg (by simp [b, c, d]), netAgain_none s src seq r.op e]
    exact arr ⟨2, seq, r⟩ rfl
  | 3, hp, arr =>
    simp only [portTakes, Bool.and_eq_true, decide_eq_true_eq] at hp
    obtain ⟨⟨⟨a, b⟩, c⟩, d⟩ := hp
    show (if ([0, 1, 5] : List Nat).contains s.boot.step || s.two.twState = 1 then s
      else { s with two := { s.two with twState := 1, twResp := [] } }.arrive ⟨3, 0, r⟩) = _
    rw [if_neg (by simp [a, b, c, d])]
    exact arr ⟨3, 0, r⟩ rfl

/-- What a write of a whole value answers. -/
theorem write_served (s : State) (w : Sender) (k : Nat) (bs : List Nat) (h : Served s w (writeOf k bs)) (hk : k < 2 ^ 24)
    (hl : bs.length ≤ portLimit w.port) :
    s.write w k bs = reply w (writeOf k bs) ((taken s w (writeOf k bs)).opWriteValue w.port (writeOf k bs) bs) := by
  have hl2 : bs.length < 2 ^ 32 := by
    have : portLimit w.port ≤ 65520 := by unfold portLimit; split <;> (try split) <;> omega
    omega
  show s.request w (writeOf k bs) = _
  rw [request_served s w _ h (writeOf_mailbox k bs hk hl2), answer_served s w _ h]
  unfold reply State.serve
  have hg := h.gate
  rw [gate_taken] at hg
  have e : (atPort s w (writeOf k bs)).operate w.port (writeOf k bs)
      = (taken s w (writeOf k bs)).opWriteValue w.port (writeOf k bs) bs := by
    unfold State.operate taken
    simp [writeOf, hl]
  rw [if_pos hg, e]

/-- A plain write of a write-only command object that passes its checks: the command's effect, answered. -/
theorem write_command (s : State) (w : Sender) (k : Nat) (bs : List Nat) (row : ObjRow) (h : Accepted s w k bs)
    (hr : findRow k = some row) (hw : row.acc = .wo) (ha : row.app ≠ .atSection ∧ row.app ≠ .reset) (hk : k < 2 ^ 24)
    (hl : bs.length ≤ portLimit w.port) (hn : (taken s w (writeOf k bs)).normalBytes k bs = bs) :
    s.write w k bs = reply w (writeOf k bs)
      (let x := (taken s w (writeOf k bs)).command k (leNat bs) bs
       { status := x.1, ids := none, data := [], next := x.2 }) := by
  rw [write_served s w k bs h.toServed hk hl]
  congr 1
  have hc := h.checks
  have hp := h.permits row hr
  unfold State.opWriteValue State.named
  simp only [writeOf, if_true] at hc hp ⊢
  unfold State.plainWrite
  simp only [writeOf, hc, hr, hn] at *
  obtain ⟨h1, h2⟩ := ha
  simp [stOk]
  cases hq : row.app <;> simp_all [State.writeNow, stOk]

/-- A plain write of a value of class NOW or IDLE that passes its checks: its effect, answered, and noted as a commit. -/
theorem write_applied (s : State) (w : Sender) (k : Nat) (bs : List Nat) (row : ObjRow) (h : Accepted s w k bs)
    (hr : findRow k = some row) (hw : row.acc ≠ .wo) (ha : row.app ≠ .atSection ∧ row.app ≠ .reset) (hk : k < 2 ^ 24)
    (hl : bs.length ≤ portLimit w.port) (hn : (taken s w (writeOf k bs)).normalBytes k bs = bs) (h2 : k ≠ 0x540001) :
    s.write w k bs = reply w (writeOf k bs)
      (let x := (taken s w (writeOf k bs)).applyNow k bs
       { status := x.1, ids := none, data := [], next := if x.1 = stOk then x.2.noteCommit [k] else x.2 }) := by
  rw [write_served s w k bs h.toServed hk hl]
  congr 1
  have hc := h.checks
  have hp := h.permits row hr
  unfold State.opWriteValue State.named
  simp only [writeOf, if_true] at hc hp ⊢
  unfold State.plainWrite
  simp only [writeOf, hc, hr, hn] at *
  obtain ⟨h1, h2⟩ := ha
  simp [stOk]
  cases hq : row.app <;> simp_all [State.writeNow, stOk] <;> rfl

end Sys2Proof.Machine
end

