-- ==== Sys2Proof/Laws/Blocks.lean ====
section
/-!
SUPPORT. What a Millrace stop sends is what its block holds (R287): CRC-32C stays within its 32 bits, and the bytes of a block that
arrive without a bit error have a good CRC and the block's sequence number.
-/
namespace Sys2Proof.Machine

theorem leBytes_add (m n x : Nat) : leBytes (m + n) x = leBytes m x ++ leBytes n (x / 256 ^ m) := by
  induction m generalizing x with
  | zero => simp [leBytes]
  | succ m ih =>
    rw [show m + 1 + n = (m + n) + 1 by omega]
    simp only [leBytes, List.cons_append, ih, Nat.div_div_eq_div_mul, Nat.pow_succ']

theorem crcByte_lt {c b : Nat} (hc : c < 2 ^ 32) (hb : b < 2 ^ 32) : crcByte c b < 2 ^ 32 := by
  have step : ∀ (l : List Nat) (x : Nat), x < 2 ^ 32 →
      l.foldl (fun c _ => if c % 2 = 1 then (c / 2) ^^^ 0x82F63B78 else c / 2) x < 2 ^ 32 := by
    intro l
    induction l with
    | nil => exact fun x h => h
    | cons a t ih =>
      intro x h
      apply ih
      dsimp only
      split
      · exact Nat.xor_lt_two_pow (by omega) (by norm_num)
      · omega
  exact step _ _ (Nat.xor_lt_two_pow hc hb)

theorem crc32c_lt (bs : List Nat) (h : ∀ b ∈ bs, b < 2 ^ 32) : crc32c bs < 2 ^ 32 := by
  have fold : ∀ (l : List Nat) (x : Nat), x < 2 ^ 32 → (∀ b ∈ l, b < 2 ^ 32) → l.foldl crcByte x < 2 ^ 32 := by
    intro l
    induction l with
    | nil => exact fun x hx _ => hx
    | cons a t ih => exact fun x hx hl => ih _ (crcByte_lt hx (hl a (by simp))) fun b hb => hl b (by simp [hb])
  exact Nat.xor_lt_two_pow (fold bs _ (by norm_num) h) (by norm_num)

theorem leBytes_lt (n x : Nat) : ∀ b ∈ leBytes n x, b < 256 := by
  induction n generalizing x with
  | zero => simp [leBytes]
  | succ n ih =>
    intro b hb
    simp only [leBytes, List.mem_cons] at hb
    rcases hb with rfl | hb
    · omega
    · exact ih _ b hb

theorem leBytes_mod_add (n x k : Nat) : leBytes n (x + k * 256 ^ n) = leBytes n x := by
  induction n generalizing x with
  | zero => simp [leBytes]
  | succ n ih =>
    have h1 : (x + k * 256 ^ (n + 1)) % 256 = x % 256 := by
      rw [Nat.pow_succ, ← Nat.mul_assoc]; omega
    have h2 : (x + k * 256 ^ (n + 1)) / 256 = x / 256 + k * 256 ^ n := by
      rw [Nat.pow_succ, ← Nat.mul_assoc]; omega
    simp only [leBytes, h1, h2, ih]

theorem xorBytes_nil (bs : List Nat) : xorBytes bs [] = bs := by
  refine List.ext_getElem (by simp [xorBytes]) fun i h1 h2 => ?_
  simp [xorBytes]

/-- R287: the bytes of a block that a stop sends, as they arrive without a bit error, have a good CRC and the block's SEQ. -/
theorem wireGood_wire (b : MBlock) (seg seq : Nat) (hd : ∀ x ∈ b.data, x < 256) (hl : b.data.length ≤ 512) (hk : b.kind < 16)
    (hs : b.stream < 8) (hg : seg < 32) : wireGood (b.wire seg seq) = true ∧ wireSeq (b.wire seg seq) = seq % 256 := by
  have hh : b.head seg seq < 256 ^ 12 := by
    unfold MBlock.head
    have h1 : seq % 256 < 256 := Nat.mod_lt _ (by norm_num)
    have h2 : b.offset % 65536 < 65536 := Nat.mod_lt _ (by norm_num)
    have h3 : b.line % 2 ^ 32 < 2 ^ 32 := Nat.mod_lt _ (by norm_num)
    norm_num at *
    omega
  have hp : b.payload.length = 512 := by simp [MBlock.payload]; omega
  have hb : ∀ x ∈ b.payload ++ leBytes 12 (b.head seg seq), x < 2 ^ 32 := by
    intro x hx
    simp only [MBlock.payload, List.mem_append, List.mem_replicate] at hx
    rcases hx with (hx | hx) | hx
    · have := hd x hx; omega
    · omega
    · have := leBytes_lt _ _ x hx; omega
  have hw : b.wire seg seq = (b.payload ++ leBytes 12 (b.head seg seq))
      ++ leBytes 4 (crc32c (b.payload ++ leBytes 12 (b.head seg seq))) := by
    unfold MBlock.wire MBlock.trailer
    rw [show (16 : Nat) = 12 + 4 by rfl, leBytes_add, show (2 : Nat) ^ 96 = 256 ^ 12 by norm_num, leBytes_mod_add,
      Nat.add_mul_div_right _ _ (by positivity), Nat.div_eq_of_lt hh, Nat.zero_add, List.append_assoc]
  have h524 : (b.payload ++ leBytes 12 (b.head seg seq)).length = 524 := by simp [hp]
  constructor
  · unfold wireGood fieldAt
    rw [hw, List.take_left' h524, List.drop_left' h524, List.take_of_length_le (by simp), leNat_leBytes_of_lt]
    · simp
    · exact crc32c_lt _ hb
  · unfold wireSeq fieldAt
    rw [hw, List.append_assoc, List.drop_append, List.drop_of_length_le (by omega), hp, List.nil_append]
    simp only [leBytes, List.cons_append, List.drop_succ_cons, List.drop_zero, List.take_succ_cons, List.take_zero, leNat]
    unfold MBlock.head
    norm_num
    omega

end Sys2Proof.Machine
end

