-- ==== Sys2Proof/Laws/Engine.lean ====
section
/-!
SUPPORT. Laws of a Grixis engine (R210 to R230): its registers, its data memory, and what an instruction in sequence leaves.
-/
namespace Sys2Proof.Machine
open Sys2Proof.Safety

/-! ### Registers keep control -/

@[simp] theorem Engine.sset_pc (e : Engine) (r : Fin 16) (x : Word) : (e.sset r x).pc = e.pc := by unfold Engine.sset; split <;> rfl
@[simp] theorem Engine.sset_loops (e : Engine) (r : Fin 16) (x : Word) : (e.sset r x).loops = e.loops := by unfold Engine.sset; split <;> rfl
@[simp] theorem Engine.sset_cycles (e : Engine) (r : Fin 16) (x : Word) : (e.sset r x).cycles = e.cycles := by unfold Engine.sset; split <;> rfl
@[simp] theorem Engine.sset_dmem (e : Engine) (r : Fin 16) (x : Word) : (e.sset r x).dmem = e.dmem := by unfold Engine.sset; split <;> rfl
@[simp] theorem Engine.sset_imem (e : Engine) (r : Fin 16) (x : Word) : (e.sset r x).imem = e.imem := by unfold Engine.sset; split <;> rfl
@[simp] theorem Engine.sset_st (e : Engine) (r : Fin 16) (x : Word) : (e.sset r x).st = e.st := by unfold Engine.sset; split <;> rfl
@[simp] theorem Engine.sset_crumbs (e : Engine) (r : Fin 16) (x : Word) : (e.sset r x).crumbs = e.crumbs := by unfold Engine.sset; split <;> rfl
@[simp] theorem Engine.sset_o0 (e : Engine) (r : Fin 16) (x : Word) : (e.sset r x).o0 = e.o0 := by unfold Engine.sset; split <;> rfl
@[simp] theorem Engine.sset_o1 (e : Engine) (r : Fin 16) (x : Word) : (e.sset r x).o1 = e.o1 := by unfold Engine.sset; split <;> rfl
@[simp] theorem Engine.sset_skipBp (e : Engine) (r : Fin 16) (x : Word) : (e.sset r x).skipBp = e.skipBp := by unfold Engine.sset; split <;> rfl
@[simp] theorem Engine.sset_cur (e : Engine) (r : Fin 16) (x : Word) : (e.sset r x).cur = e.cur := by unfold Engine.sset; split <;> rfl

@[simp] theorem Engine.vset_pc (e : Engine) (r : Fin 32) (v : List Half) : (e.vset r v).pc = e.pc := rfl
@[simp] theorem Engine.vset_loops (e : Engine) (r : Fin 32) (v : List Half) : (e.vset r v).loops = e.loops := rfl
@[simp] theorem Engine.vset_cycles (e : Engine) (r : Fin 32) (v : List Half) : (e.vset r v).cycles = e.cycles := rfl
@[simp] theorem Engine.vset_dmem (e : Engine) (r : Fin 32) (v : List Half) : (e.vset r v).dmem = e.dmem := rfl
@[simp] theorem Engine.vset_imem (e : Engine) (r : Fin 32) (v : List Half) : (e.vset r v).imem = e.imem := rfl
@[simp] theorem Engine.vset_st (e : Engine) (r : Fin 32) (v : List Half) : (e.vset r v).st = e.st := rfl
@[simp] theorem Engine.vset_crumbs (e : Engine) (r : Fin 32) (v : List Half) : (e.vset r v).crumbs = e.crumbs := rfl
@[simp] theorem Engine.vset_o0 (e : Engine) (r : Fin 32) (v : List Half) : (e.vset r v).o0 = e.o0 := rfl
@[simp] theorem Engine.vset_o1 (e : Engine) (r : Fin 32) (v : List Half) : (e.vset r v).o1 = e.o1 := rfl
@[simp] theorem Engine.vset_skipBp (e : Engine) (r : Fin 32) (v : List Half) : (e.vset r v).skipBp = e.skipBp := rfl
@[simp] theorem Engine.vset_cur (e : Engine) (r : Fin 32) (v : List Half) : (e.vset r v).cur = e.cur := rfl

@[simp] theorem Engine.aset_pc (e : Engine) (r : Fin 4) (v : List (BitVec 40)) : (e.aset r v).pc = e.pc := rfl
@[simp] theorem Engine.aset_loops (e : Engine) (r : Fin 4) (v : List (BitVec 40)) : (e.aset r v).loops = e.loops := rfl
@[simp] theorem Engine.aset_cycles (e : Engine) (r : Fin 4) (v : List (BitVec 40)) : (e.aset r v).cycles = e.cycles := rfl
@[simp] theorem Engine.aset_dmem (e : Engine) (r : Fin 4) (v : List (BitVec 40)) : (e.aset r v).dmem = e.dmem := rfl
@[simp] theorem Engine.aset_imem (e : Engine) (r : Fin 4) (v : List (BitVec 40)) : (e.aset r v).imem = e.imem := rfl
@[simp] theorem Engine.aset_st (e : Engine) (r : Fin 4) (v : List (BitVec 40)) : (e.aset r v).st = e.st := rfl
@[simp] theorem Engine.aset_crumbs (e : Engine) (r : Fin 4) (v : List (BitVec 40)) : (e.aset r v).crumbs = e.crumbs := rfl
@[simp] theorem Engine.aset_o0 (e : Engine) (r : Fin 4) (v : List (BitVec 40)) : (e.aset r v).o0 = e.o0 := rfl
@[simp] theorem Engine.aset_o1 (e : Engine) (r : Fin 4) (v : List (BitVec 40)) : (e.aset r v).o1 = e.o1 := rfl
@[simp] theorem Engine.aset_skipBp (e : Engine) (r : Fin 4) (v : List (BitVec 40)) : (e.aset r v).skipBp = e.skipBp := rfl
@[simp] theorem Engine.aset_cur (e : Engine) (r : Fin 4) (v : List (BitVec 40)) : (e.aset r v).cur = e.cur := rfl

@[simp] theorem Engine.pset_pc (e : Engine) (r : Fin 8) (x : Half) : (e.pset r x).pc = e.pc := by unfold Engine.pset; split <;> rfl
@[simp] theorem Engine.pset_loops (e : Engine) (r : Fin 8) (x : Half) : (e.pset r x).loops = e.loops := by unfold Engine.pset; split <;> rfl
@[simp] theorem Engine.pset_cycles (e : Engine) (r : Fin 8) (x : Half) : (e.pset r x).cycles = e.cycles := by unfold Engine.pset; split <;> rfl
@[simp] theorem Engine.pset_dmem (e : Engine) (r : Fin 8) (x : Half) : (e.pset r x).dmem = e.dmem := by unfold Engine.pset; split <;> rfl
@[simp] theorem Engine.pset_imem (e : Engine) (r : Fin 8) (x : Half) : (e.pset r x).imem = e.imem := by unfold Engine.pset; split <;> rfl
@[simp] theorem Engine.pset_st (e : Engine) (r : Fin 8) (x : Half) : (e.pset r x).st = e.st := by unfold Engine.pset; split <;> rfl
@[simp] theorem Engine.pset_crumbs (e : Engine) (r : Fin 8) (x : Half) : (e.pset r x).crumbs = e.crumbs := by unfold Engine.pset; split <;> rfl
@[simp] theorem Engine.pset_o0 (e : Engine) (r : Fin 8) (x : Half) : (e.pset r x).o0 = e.o0 := by unfold Engine.pset; split <;> rfl
@[simp] theorem Engine.pset_o1 (e : Engine) (r : Fin 8) (x : Half) : (e.pset r x).o1 = e.o1 := by unfold Engine.pset; split <;> rfl
@[simp] theorem Engine.pset_skipBp (e : Engine) (r : Fin 8) (x : Half) : (e.pset r x).skipBp = e.skipBp := by unfold Engine.pset; split <;> rfl
@[simp] theorem Engine.pset_cur (e : Engine) (r : Fin 8) (x : Half) : (e.pset r x).cur = e.cur := by unfold Engine.pset; split <;> rfl

@[simp] theorem Engine.vsetP_pc (e : Engine) (p : Fin 8) (r : Fin 32) (f : Nat → Half) : (e.vsetP p r f).pc = e.pc := rfl
@[simp] theorem Engine.vsetP_loops (e : Engine) (p : Fin 8) (r : Fin 32) (f : Nat → Half) : (e.vsetP p r f).loops = e.loops := rfl
@[simp] theorem Engine.vsetP_cycles (e : Engine) (p : Fin 8) (r : Fin 32) (f : Nat → Half) : (e.vsetP p r f).cycles = e.cycles := rfl
@[simp] theorem Engine.vsetP_dmem (e : Engine) (p : Fin 8) (r : Fin 32) (f : Nat → Half) : (e.vsetP p r f).dmem = e.dmem := rfl
@[simp] theorem Engine.vsetP_imem (e : Engine) (p : Fin 8) (r : Fin 32) (f : Nat → Half) : (e.vsetP p r f).imem = e.imem := rfl
@[simp] theorem Engine.vsetP_st (e : Engine) (p : Fin 8) (r : Fin 32) (f : Nat → Half) : (e.vsetP p r f).st = e.st := rfl
@[simp] theorem Engine.vsetP_crumbs (e : Engine) (p : Fin 8) (r : Fin 32) (f : Nat → Half) : (e.vsetP p r f).crumbs = e.crumbs := rfl
@[simp] theorem Engine.vsetP_o0 (e : Engine) (p : Fin 8) (r : Fin 32) (f : Nat → Half) : (e.vsetP p r f).o0 = e.o0 := rfl
@[simp] theorem Engine.vsetP_o1 (e : Engine) (p : Fin 8) (r : Fin 32) (f : Nat → Half) : (e.vsetP p r f).o1 = e.o1 := rfl
@[simp] theorem Engine.vsetP_skipBp (e : Engine) (p : Fin 8) (r : Fin 32) (f : Nat → Half) : (e.vsetP p r f).skipBp = e.skipBp := rfl
@[simp] theorem Engine.vsetP_cur (e : Engine) (p : Fin 8) (r : Fin 32) (f : Nat → Half) : (e.vsetP p r f).cur = e.cur := rfl

@[simp] theorem Engine.asetP_pc (e : Engine) (p : Fin 8) (r : Fin 4) (f : Nat → BitVec 40) : (e.asetP p r f).pc = e.pc := rfl
@[simp] theorem Engine.asetP_loops (e : Engine) (p : Fin 8) (r : Fin 4) (f : Nat → BitVec 40) : (e.asetP p r f).loops = e.loops := rfl
@[simp] theorem Engine.asetP_cycles (e : Engine) (p : Fin 8) (r : Fin 4) (f : Nat → BitVec 40) : (e.asetP p r f).cycles = e.cycles := rfl
@[simp] theorem Engine.asetP_dmem (e : Engine) (p : Fin 8) (r : Fin 4) (f : Nat → BitVec 40) : (e.asetP p r f).dmem = e.dmem := rfl
@[simp] theorem Engine.asetP_imem (e : Engine) (p : Fin 8) (r : Fin 4) (f : Nat → BitVec 40) : (e.asetP p r f).imem = e.imem := rfl
@[simp] theorem Engine.asetP_st (e : Engine) (p : Fin 8) (r : Fin 4) (f : Nat → BitVec 40) : (e.asetP p r f).st = e.st := rfl
@[simp] theorem Engine.asetP_crumbs (e : Engine) (p : Fin 8) (r : Fin 4) (f : Nat → BitVec 40) : (e.asetP p r f).crumbs = e.crumbs := rfl
@[simp] theorem Engine.asetP_o0 (e : Engine) (p : Fin 8) (r : Fin 4) (f : Nat → BitVec 40) : (e.asetP p r f).o0 = e.o0 := rfl
@[simp] theorem Engine.asetP_o1 (e : Engine) (p : Fin 8) (r : Fin 4) (f : Nat → BitVec 40) : (e.asetP p r f).o1 = e.o1 := rfl
@[simp] theorem Engine.asetP_skipBp (e : Engine) (p : Fin 8) (r : Fin 4) (f : Nat → BitVec 40) : (e.asetP p r f).skipBp = e.skipBp := rfl
@[simp] theorem Engine.asetP_cur (e : Engine) (p : Fin 8) (r : Fin 4) (f : Nat → BitVec 40) : (e.asetP p r f).cur = e.cur := rfl

@[simp] theorem Engine.orSat_pc (e : Engine) (b : Bool) : (e.orSat b).pc = e.pc := rfl
@[simp] theorem Engine.orSat_loops (e : Engine) (b : Bool) : (e.orSat b).loops = e.loops := rfl
@[simp] theorem Engine.orSat_cycles (e : Engine) (b : Bool) : (e.orSat b).cycles = e.cycles := rfl
@[simp] theorem Engine.orSat_dmem (e : Engine) (b : Bool) : (e.orSat b).dmem = e.dmem := rfl
@[simp] theorem Engine.orSat_imem (e : Engine) (b : Bool) : (e.orSat b).imem = e.imem := rfl
@[simp] theorem Engine.orSat_st (e : Engine) (b : Bool) : (e.orSat b).st = e.st := rfl
@[simp] theorem Engine.orSat_crumbs (e : Engine) (b : Bool) : (e.orSat b).crumbs = e.crumbs := rfl
@[simp] theorem Engine.orSat_o0 (e : Engine) (b : Bool) : (e.orSat b).o0 = e.o0 := rfl
@[simp] theorem Engine.orSat_o1 (e : Engine) (b : Bool) : (e.orSat b).o1 = e.o1 := rfl
@[simp] theorem Engine.orSat_skipBp (e : Engine) (b : Bool) : (e.orSat b).skipBp = e.skipBp := rfl
@[simp] theorem Engine.orSat_cur (e : Engine) (b : Bool) : (e.orSat b).cur = e.cur := rfl

@[simp] theorem Engine.orAov_pc (e : Engine) (b : Bool) : (e.orAov b).pc = e.pc := rfl
@[simp] theorem Engine.orAov_loops (e : Engine) (b : Bool) : (e.orAov b).loops = e.loops := rfl
@[simp] theorem Engine.orAov_cycles (e : Engine) (b : Bool) : (e.orAov b).cycles = e.cycles := rfl
@[simp] theorem Engine.orAov_dmem (e : Engine) (b : Bool) : (e.orAov b).dmem = e.dmem := rfl
@[simp] theorem Engine.orAov_imem (e : Engine) (b : Bool) : (e.orAov b).imem = e.imem := rfl
@[simp] theorem Engine.orAov_st (e : Engine) (b : Bool) : (e.orAov b).st = e.st := rfl
@[simp] theorem Engine.orAov_crumbs (e : Engine) (b : Bool) : (e.orAov b).crumbs = e.crumbs := rfl
@[simp] theorem Engine.orAov_o0 (e : Engine) (b : Bool) : (e.orAov b).o0 = e.o0 := rfl
@[simp] theorem Engine.orAov_o1 (e : Engine) (b : Bool) : (e.orAov b).o1 = e.o1 := rfl
@[simp] theorem Engine.orAov_skipBp (e : Engine) (b : Bool) : (e.orAov b).skipBp = e.skipBp := rfl
@[simp] theorem Engine.orAov_cur (e : Engine) (b : Bool) : (e.orAov b).cur = e.cur := rfl

@[simp] theorem Engine.vsatU_pc (e : Engine) (p : Fin 8) (r : Fin 32) (f : Nat → Int) : (e.vsatU p r f).pc = e.pc := rfl
@[simp] theorem Engine.vsatU_loops (e : Engine) (p : Fin 8) (r : Fin 32) (f : Nat → Int) : (e.vsatU p r f).loops = e.loops := rfl
@[simp] theorem Engine.vsatU_cycles (e : Engine) (p : Fin 8) (r : Fin 32) (f : Nat → Int) : (e.vsatU p r f).cycles = e.cycles := rfl
@[simp] theorem Engine.vsatU_dmem (e : Engine) (p : Fin 8) (r : Fin 32) (f : Nat → Int) : (e.vsatU p r f).dmem = e.dmem := rfl
@[simp] theorem Engine.vsatU_imem (e : Engine) (p : Fin 8) (r : Fin 32) (f : Nat → Int) : (e.vsatU p r f).imem = e.imem := rfl
@[simp] theorem Engine.vsatU_st (e : Engine) (p : Fin 8) (r : Fin 32) (f : Nat → Int) : (e.vsatU p r f).st = e.st := rfl
@[simp] theorem Engine.vsatU_crumbs (e : Engine) (p : Fin 8) (r : Fin 32) (f : Nat → Int) : (e.vsatU p r f).crumbs = e.crumbs := rfl
@[simp] theorem Engine.vsatU_o0 (e : Engine) (p : Fin 8) (r : Fin 32) (f : Nat → Int) : (e.vsatU p r f).o0 = e.o0 := rfl
@[simp] theorem Engine.vsatU_o1 (e : Engine) (p : Fin 8) (r : Fin 32) (f : Nat → Int) : (e.vsatU p r f).o1 = e.o1 := rfl
@[simp] theorem Engine.vsatU_skipBp (e : Engine) (p : Fin 8) (r : Fin 32) (f : Nat → Int) : (e.vsatU p r f).skipBp = e.skipBp := rfl
@[simp] theorem Engine.vsatU_cur (e : Engine) (p : Fin 8) (r : Fin 32) (f : Nat → Int) : (e.vsatU p r f).cur = e.cur := rfl

@[simp] theorem Engine.vsatS_pc (e : Engine) (p : Fin 8) (r : Fin 32) (f : Nat → Int) : (e.vsatS p r f).pc = e.pc := rfl
@[simp] theorem Engine.vsatS_loops (e : Engine) (p : Fin 8) (r : Fin 32) (f : Nat → Int) : (e.vsatS p r f).loops = e.loops := rfl
@[simp] theorem Engine.vsatS_cycles (e : Engine) (p : Fin 8) (r : Fin 32) (f : Nat → Int) : (e.vsatS p r f).cycles = e.cycles := rfl
@[simp] theorem Engine.vsatS_dmem (e : Engine) (p : Fin 8) (r : Fin 32) (f : Nat → Int) : (e.vsatS p r f).dmem = e.dmem := rfl
@[simp] theorem Engine.vsatS_imem (e : Engine) (p : Fin 8) (r : Fin 32) (f : Nat → Int) : (e.vsatS p r f).imem = e.imem := rfl
@[simp] theorem Engine.vsatS_st (e : Engine) (p : Fin 8) (r : Fin 32) (f : Nat → Int) : (e.vsatS p r f).st = e.st := rfl
@[simp] theorem Engine.vsatS_crumbs (e : Engine) (p : Fin 8) (r : Fin 32) (f : Nat → Int) : (e.vsatS p r f).crumbs = e.crumbs := rfl
@[simp] theorem Engine.vsatS_o0 (e : Engine) (p : Fin 8) (r : Fin 32) (f : Nat → Int) : (e.vsatS p r f).o0 = e.o0 := rfl
@[simp] theorem Engine.vsatS_o1 (e : Engine) (p : Fin 8) (r : Fin 32) (f : Nat → Int) : (e.vsatS p r f).o1 = e.o1 := rfl
@[simp] theorem Engine.vsatS_skipBp (e : Engine) (p : Fin 8) (r : Fin 32) (f : Nat → Int) : (e.vsatS p r f).skipBp = e.skipBp := rfl
@[simp] theorem Engine.vsatS_cur (e : Engine) (p : Fin 8) (r : Fin 32) (f : Nat → Int) : (e.vsatS p r f).cur = e.cur := rfl

@[simp] theorem Engine.asat_pc (e : Engine) (p : Fin 8) (r : Fin 4) (f : Nat → Int) : (e.asat p r f).pc = e.pc := rfl
@[simp] theorem Engine.asat_loops (e : Engine) (p : Fin 8) (r : Fin 4) (f : Nat → Int) : (e.asat p r f).loops = e.loops := rfl
@[simp] theorem Engine.asat_cycles (e : Engine) (p : Fin 8) (r : Fin 4) (f : Nat → Int) : (e.asat p r f).cycles = e.cycles := rfl
@[simp] theorem Engine.asat_dmem (e : Engine) (p : Fin 8) (r : Fin 4) (f : Nat → Int) : (e.asat p r f).dmem = e.dmem := rfl
@[simp] theorem Engine.asat_imem (e : Engine) (p : Fin 8) (r : Fin 4) (f : Nat → Int) : (e.asat p r f).imem = e.imem := rfl
@[simp] theorem Engine.asat_st (e : Engine) (p : Fin 8) (r : Fin 4) (f : Nat → Int) : (e.asat p r f).st = e.st := rfl
@[simp] theorem Engine.asat_crumbs (e : Engine) (p : Fin 8) (r : Fin 4) (f : Nat → Int) : (e.asat p r f).crumbs = e.crumbs := rfl
@[simp] theorem Engine.asat_o0 (e : Engine) (p : Fin 8) (r : Fin 4) (f : Nat → Int) : (e.asat p r f).o0 = e.o0 := rfl
@[simp] theorem Engine.asat_o1 (e : Engine) (p : Fin 8) (r : Fin 4) (f : Nat → Int) : (e.asat p r f).o1 = e.o1 := rfl
@[simp] theorem Engine.asat_skipBp (e : Engine) (p : Fin 8) (r : Fin 4) (f : Nat → Int) : (e.asat p r f).skipBp = e.skipBp := rfl
@[simp] theorem Engine.asat_cur (e : Engine) (p : Fin 8) (r : Fin 4) (f : Nat → Int) : (e.asat p r f).cur = e.cur := rfl

@[simp] theorem Engine.mac_pc (e : Engine) (f : MacOp) (ad : Fin 4) (va : Fin 32) (b : VSrc) (p : Fin 8) : (e.mac f ad va b p).pc = e.pc := rfl
@[simp] theorem Engine.mac_loops (e : Engine) (f : MacOp) (ad : Fin 4) (va : Fin 32) (b : VSrc) (p : Fin 8) : (e.mac f ad va b p).loops = e.loops := rfl
@[simp] theorem Engine.mac_cycles (e : Engine) (f : MacOp) (ad : Fin 4) (va : Fin 32) (b : VSrc) (p : Fin 8) : (e.mac f ad va b p).cycles = e.cycles := rfl
@[simp] theorem Engine.mac_dmem (e : Engine) (f : MacOp) (ad : Fin 4) (va : Fin 32) (b : VSrc) (p : Fin 8) : (e.mac f ad va b p).dmem = e.dmem := rfl
@[simp] theorem Engine.mac_imem (e : Engine) (f : MacOp) (ad : Fin 4) (va : Fin 32) (b : VSrc) (p : Fin 8) : (e.mac f ad va b p).imem = e.imem := rfl
@[simp] theorem Engine.mac_st (e : Engine) (f : MacOp) (ad : Fin 4) (va : Fin 32) (b : VSrc) (p : Fin 8) : (e.mac f ad va b p).st = e.st := rfl
@[simp] theorem Engine.mac_crumbs (e : Engine) (f : MacOp) (ad : Fin 4) (va : Fin 32) (b : VSrc) (p : Fin 8) : (e.mac f ad va b p).crumbs = e.crumbs := rfl
@[simp] theorem Engine.mac_o0 (e : Engine) (f : MacOp) (ad : Fin 4) (va : Fin 32) (b : VSrc) (p : Fin 8) : (e.mac f ad va b p).o0 = e.o0 := rfl
@[simp] theorem Engine.mac_o1 (e : Engine) (f : MacOp) (ad : Fin 4) (va : Fin 32) (b : VSrc) (p : Fin 8) : (e.mac f ad va b p).o1 = e.o1 := rfl
@[simp] theorem Engine.mac_skipBp (e : Engine) (f : MacOp) (ad : Fin 4) (va : Fin 32) (b : VSrc) (p : Fin 8) : (e.mac f ad va b p).skipBp = e.skipBp := rfl
@[simp] theorem Engine.mac_cur (e : Engine) (f : MacOp) (ad : Fin 4) (va : Fin 32) (b : VSrc) (p : Fin 8) : (e.mac f ad va b p).cur = e.cur := rfl

@[simp] theorem Engine.vcmp_pc (e : Engine) (c : VCond) (pd : Fin 8) (va : Fin 32) (b : VSrc) (g : Fin 8) : (e.vcmp c pd va b g).pc = e.pc := by unfold Engine.vcmp; simp
@[simp] theorem Engine.vcmp_loops (e : Engine) (c : VCond) (pd : Fin 8) (va : Fin 32) (b : VSrc) (g : Fin 8) : (e.vcmp c pd va b g).loops = e.loops := by unfold Engine.vcmp; simp
@[simp] theorem Engine.vcmp_cycles (e : Engine) (c : VCond) (pd : Fin 8) (va : Fin 32) (b : VSrc) (g : Fin 8) : (e.vcmp c pd va b g).cycles = e.cycles := by unfold Engine.vcmp; simp
@[simp] theorem Engine.vcmp_dmem (e : Engine) (c : VCond) (pd : Fin 8) (va : Fin 32) (b : VSrc) (g : Fin 8) : (e.vcmp c pd va b g).dmem = e.dmem := by unfold Engine.vcmp; simp
@[simp] theorem Engine.vcmp_imem (e : Engine) (c : VCond) (pd : Fin 8) (va : Fin 32) (b : VSrc) (g : Fin 8) : (e.vcmp c pd va b g).imem = e.imem := by unfold Engine.vcmp; simp
@[simp] theorem Engine.vcmp_st (e : Engine) (c : VCond) (pd : Fin 8) (va : Fin 32) (b : VSrc) (g : Fin 8) : (e.vcmp c pd va b g).st = e.st := by unfold Engine.vcmp; simp
@[simp] theorem Engine.vcmp_crumbs (e : Engine) (c : VCond) (pd : Fin 8) (va : Fin 32) (b : VSrc) (g : Fin 8) : (e.vcmp c pd va b g).crumbs = e.crumbs := by unfold Engine.vcmp; simp
@[simp] theorem Engine.vcmp_o0 (e : Engine) (c : VCond) (pd : Fin 8) (va : Fin 32) (b : VSrc) (g : Fin 8) : (e.vcmp c pd va b g).o0 = e.o0 := by unfold Engine.vcmp; simp
@[simp] theorem Engine.vcmp_o1 (e : Engine) (c : VCond) (pd : Fin 8) (va : Fin 32) (b : VSrc) (g : Fin 8) : (e.vcmp c pd va b g).o1 = e.o1 := by unfold Engine.vcmp; simp
@[simp] theorem Engine.vcmp_skipBp (e : Engine) (c : VCond) (pd : Fin 8) (va : Fin 32) (b : VSrc) (g : Fin 8) : (e.vcmp c pd va b g).skipBp = e.skipBp := by unfold Engine.vcmp; simp
@[simp] theorem Engine.vcmp_cur (e : Engine) (c : VCond) (pd : Fin 8) (va : Fin 32) (b : VSrc) (g : Fin 8) : (e.vcmp c pd va b g).cur = e.cur := by unfold Engine.vcmp; simp

@[simp] theorem Engine.valu_pc (e : Engine) (f : VOp) (vd va : Fin 32) (b : VSrc) (p : Fin 8) : (e.valu f vd va b p).pc = e.pc := by cases f <;> rfl
@[simp] theorem Engine.valu_loops (e : Engine) (f : VOp) (vd va : Fin 32) (b : VSrc) (p : Fin 8) : (e.valu f vd va b p).loops = e.loops := by cases f <;> rfl
@[simp] theorem Engine.valu_cycles (e : Engine) (f : VOp) (vd va : Fin 32) (b : VSrc) (p : Fin 8) : (e.valu f vd va b p).cycles = e.cycles := by cases f <;> rfl
@[simp] theorem Engine.valu_dmem (e : Engine) (f : VOp) (vd va : Fin 32) (b : VSrc) (p : Fin 8) : (e.valu f vd va b p).dmem = e.dmem := by cases f <;> rfl
@[simp] theorem Engine.valu_imem (e : Engine) (f : VOp) (vd va : Fin 32) (b : VSrc) (p : Fin 8) : (e.valu f vd va b p).imem = e.imem := by cases f <;> rfl
@[simp] theorem Engine.valu_st (e : Engine) (f : VOp) (vd va : Fin 32) (b : VSrc) (p : Fin 8) : (e.valu f vd va b p).st = e.st := by cases f <;> rfl
@[simp] theorem Engine.valu_crumbs (e : Engine) (f : VOp) (vd va : Fin 32) (b : VSrc) (p : Fin 8) : (e.valu f vd va b p).crumbs = e.crumbs := by cases f <;> rfl
@[simp] theorem Engine.valu_o0 (e : Engine) (f : VOp) (vd va : Fin 32) (b : VSrc) (p : Fin 8) : (e.valu f vd va b p).o0 = e.o0 := by cases f <;> rfl
@[simp] theorem Engine.valu_o1 (e : Engine) (f : VOp) (vd va : Fin 32) (b : VSrc) (p : Fin 8) : (e.valu f vd va b p).o1 = e.o1 := by cases f <;> rfl
@[simp] theorem Engine.valu_skipBp (e : Engine) (f : VOp) (vd va : Fin 32) (b : VSrc) (p : Fin 8) : (e.valu f vd va b p).skipBp = e.skipBp := by cases f <;> rfl
@[simp] theorem Engine.valu_cur (e : Engine) (f : VOp) (vd va : Fin 32) (b : VSrc) (p : Fin 8) : (e.valu f vd va b p).cur = e.cur := by cases f <;> rfl

@[simp] theorem Engine.wld_pc (e : Engine) (vd : Fin 32) (sa : Fin 16) (sec : Bool) (off : BitVec 4) (sh : BitVec 5) : (e.wld vd sa sec off sh).pc = e.pc := by unfold Engine.wld; (try split) <;> simp
@[simp] theorem Engine.wld_loops (e : Engine) (vd : Fin 32) (sa : Fin 16) (sec : Bool) (off : BitVec 4) (sh : BitVec 5) : (e.wld vd sa sec off sh).loops = e.loops := by unfold Engine.wld; (try split) <;> simp
@[simp] theorem Engine.wld_cycles (e : Engine) (vd : Fin 32) (sa : Fin 16) (sec : Bool) (off : BitVec 4) (sh : BitVec 5) : (e.wld vd sa sec off sh).cycles = e.cycles := by unfold Engine.wld; (try split) <;> simp
@[simp] theorem Engine.wld_dmem (e : Engine) (vd : Fin 32) (sa : Fin 16) (sec : Bool) (off : BitVec 4) (sh : BitVec 5) : (e.wld vd sa sec off sh).dmem = e.dmem := by unfold Engine.wld; (try split) <;> simp
@[simp] theorem Engine.wld_imem (e : Engine) (vd : Fin 32) (sa : Fin 16) (sec : Bool) (off : BitVec 4) (sh : BitVec 5) : (e.wld vd sa sec off sh).imem = e.imem := by unfold Engine.wld; (try split) <;> simp
@[simp] theorem Engine.wld_st (e : Engine) (vd : Fin 32) (sa : Fin 16) (sec : Bool) (off : BitVec 4) (sh : BitVec 5) : (e.wld vd sa sec off sh).st = e.st := by unfold Engine.wld; (try split) <;> simp
@[simp] theorem Engine.wld_crumbs (e : Engine) (vd : Fin 32) (sa : Fin 16) (sec : Bool) (off : BitVec 4) (sh : BitVec 5) : (e.wld vd sa sec off sh).crumbs = e.crumbs := by unfold Engine.wld; (try split) <;> simp
@[simp] theorem Engine.wld_o0 (e : Engine) (vd : Fin 32) (sa : Fin 16) (sec : Bool) (off : BitVec 4) (sh : BitVec 5) : (e.wld vd sa sec off sh).o0 = e.o0 := by unfold Engine.wld; (try split) <;> simp
@[simp] theorem Engine.wld_o1 (e : Engine) (vd : Fin 32) (sa : Fin 16) (sec : Bool) (off : BitVec 4) (sh : BitVec 5) : (e.wld vd sa sec off sh).o1 = e.o1 := by unfold Engine.wld; (try split) <;> simp
@[simp] theorem Engine.wld_skipBp (e : Engine) (vd : Fin 32) (sa : Fin 16) (sec : Bool) (off : BitVec 4) (sh : BitVec 5) : (e.wld vd sa sec off sh).skipBp = e.skipBp := by unfold Engine.wld; (try split) <;> simp
@[simp] theorem Engine.wld_cur (e : Engine) (vd : Fin 32) (sa : Fin 16) (sec : Bool) (off : BitVec 4) (sh : BitVec 5) : (e.wld vd sa sec off sh).cur = e.cur := by unfold Engine.wld; (try split) <;> simp

/-- A scalar register after a write of one; s0 reads 0. -/
theorem Engine.sget_sset (e : Engine) (r q : Fin 16) (x : Word) :
    (e.sset r x).sget q = if q = r then (if r = 0 then 0 else x) else e.sget q := by
  unfold Engine.sset Engine.sget
  by_cases h : r = 0
  · subst h; by_cases h2 : q = 0 <;> simp [h2]
  · by_cases h2 : q = r
    · subst h2; simp [h, mapGet_mapPut]
    · have : q.val ≠ r.val := fun hc => h2 (Fin.ext hc)
      simp [h, h2, mapGet_mapPut, this]

/-- A vector register after a write of one. -/
theorem Engine.vget_vset (e : Engine) (r q : Fin 32) (v : List Half) : (e.vset r v).vget q = if q = r then v else e.vget q := by
  unfold Engine.vset Engine.vget
  by_cases h2 : q = r
  · subst h2; simp [mapGet_mapPut]
  · have : q.val ≠ r.val := fun hc => h2 (Fin.ext hc)
    simp [h2, mapGet_mapPut, this]

/-- A predicate after a write of one; p0 reads 0xFFFF. -/
theorem Engine.pget_pset (e : Engine) (r q : Fin 8) (x : Half) :
    (e.pset r x).pget q = if q = r then (if r = 0 then 0xFFFF else x) else e.pget q := by
  unfold Engine.pset Engine.pget
  by_cases h : r = 0
  · subst h; by_cases h2 : q = 0 <;> simp [h2]
  · by_cases h2 : q = r
    · subst h2; simp [h, mapGet_mapPut]
    · have : q.val ≠ r.val := fun hc => h2 (Fin.ext hc)
      simp [h, h2, mapGet_mapPut, this]

/-! ### Engines of the state -/

/-- An engine after a write of one. -/
theorem State.engine_setEngine (s : State) (e j : Nat) (x : Engine) :
    (s.setEngine e x).engine j = if j = e then x else s.engine j := by
  unfold State.setEngine State.engine
  simp only [mapGet_mapPut]
  split <;> rfl

/-- An instruction that ends in sequence retires its registers. -/
theorem State.gExec_seq (s : State) (e : Nat) (op : GOp) (x : Engine) (cyc : Nat) (h : Executes s e)
    (hx : (s.engine e).exec1 (s.gCfg e) op = .ok x cyc .seq) (hp : x.pc = (s.engine e).pc)
    (hl : x.loops = (s.engine e).loops) : s.gExec e op = retired s e x cyc := by
  unfold State.gExec State.gDo
  have hi := h.inside
  simp only [h.engine, if_true, hx, Engine.target, hp, hl]
  rw [if_neg (by simp; omega)]
  rfl

/-- An instruction that jumps inside the image. -/
theorem State.gExec_jump (s : State) (e : Nat) (op : GOp) (x : Engine) (cyc t : Nat) (h : s.gRuns e = true)
    (hx : (s.engine e).exec1 (s.gCfg e) op = .ok x cyc (.jump t)) (ht : t < s.codeWords)
    (hl : x.loops = (s.engine e).loops) : s.gExec e op = jumped s e x t (popLoops t (s.engine e).loops) cyc := by
  have e1 : s.gExec e op = s.gDo e op := by simp [State.gExec, h]
  rw [e1]
  unfold State.gDo
  simp only [hx, Engine.target, hl]
  rw [if_neg (by simp; omega)]
  rfl

/-- An instruction that raises an exception. -/
theorem State.gExec_exc (s : State) (e : Nat) (op : GOp) (c : Nat) (h : s.gRuns e = true)
    (hx : (s.engine e).exec1 (s.gCfg e) op = .exc c) : s.gExec e op = s.gExcept e c := by
  simp [State.gExec, h, State.gDo, hx]

/-! ### Data memory (R183, R219) -/

/-- One byte after a write of one. -/
theorem memRead_memWrite (m : List Host.Cell) (a b : Nat) (x : Byte) :
    memRead (memWrite m a x) b = if b = a then x else memRead m b := by
  unfold memWrite memRead
  split
  · rename_i h; simp only [mapGet_mapDel]; split <;> simp_all
  · simp only [mapGet_mapPut]; split <;> rfl

/-- One byte after a write of bytes at rising addresses. -/
theorem memRead_memWriteN (m : List Host.Cell) (a b : Nat) (l : List Byte) :
    memRead (memWriteN m a l) b = if a ≤ b ∧ b < a + l.length then l.getD (b - a) 0 else memRead m b := by
  induction l generalizing m a with
  | nil => simp [memWriteN]
  | cons x t ih =>
    simp only [memWriteN, ih, memRead_memWrite, List.length_cons]
    by_cases h1 : b = a
    · subst h1; simp
    · by_cases h2 : a + 1 ≤ b ∧ b < a + 1 + t.length
      · rw [if_pos h2, if_pos (by omega), show b - a = (b - (a + 1)) + 1 from by omega]; rfl
      · rw [if_neg h2, if_neg h1, if_neg (by omega)]

/-- A write of one byte keeps data memory in canonical form. -/
theorem memWrite_wf (m : List Host.Cell) (a : Nat) (x : Byte) (h : Memory.wf m = true) : Memory.wf (memWrite m a x) = true := by
  unfold Memory.wf at h ⊢
  simp only [Bool.and_eq_true, List.all_eq_true, decide_eq_true_eq] at h ⊢
  unfold memWrite
  split
  · refine ⟨mapSorted_filter _ _ h.1, fun c hc => h.2 c (List.mem_of_mem_filter hc)⟩
  · rename_i hx
    refine ⟨mapSorted_mapPut _ _ _ h.1, ?_⟩
    have : ∀ (m : List Host.Cell), (∀ c ∈ m, c.2 ≠ 0) → ∀ c ∈ mapPut m a x, c.2 ≠ 0 := by
      intro m hm
      induction m with
      | nil => intro c hc; simp only [mapPut, List.mem_singleton] at hc; subst hc; exact hx
      | cons p t ih =>
        intro c hc
        simp only [mapPut] at hc
        split at hc
        · rcases List.mem_cons.mp hc with rfl | hc
          · exact hx
          · exact hm c hc
        · split at hc
          · rcases List.mem_cons.mp hc with rfl | hc
            · exact hx
            · exact hm c (List.mem_cons_of_mem _ hc)
          · rcases List.mem_cons.mp hc with rfl | hc
            · exact hm _ (List.mem_cons_self ..)
            · exact ih (fun c hc => hm c (List.mem_cons_of_mem _ hc)) c hc
    exact this m h.2

/-- A write of bytes keeps data memory in canonical form. -/
theorem memWriteN_wf (m : List Host.Cell) (a : Nat) (l : List Byte) (h : Memory.wf m = true) : Memory.wf (memWriteN m a l) = true := by
  induction l generalizing m a with
  | nil => exact h
  | cons x t ih => exact ih _ _ (memWrite_wf m a x h)

end Sys2Proof.Machine
end

