-- ==== Sys2Proof/WellFormed.lean ====
section
/-!
DEFINITION. When a command is well formed: every number fits the field that carries it, and bytes and samples are bytes and
16-bit samples. Numbers that index a unit are bounded by their type.
-/
namespace Sys2Proof

/-- Every entry is a byte. -/
def bytesOk (l : List Nat) : Bool := l.all (· < 256)

/-- Every entry is a 16-bit value. -/
def samplesOk (l : List Nat) : Bool := l.all (· < 65536)

/-- A number of `n` bits. -/
def fits (n x : Nat) : Bool := x < 2 ^ n

/-- The sender of a request: a 48-bit address and a 16-bit SEQ (R332). -/
def Sender.ok (w : Sender) : Bool := fits 48 w.src && fits 16 w.seq

/-- The command is well formed. -/
def Instr.wellFormed : Instr → Bool
  | .encoderEdge _ _ _ _ => true
  | .decoderStepClose _ => true
  | .encoderLoss _ _ => true
  | .encoderRestored _ _ => true
  | .horizonExpiry => true
  | .epochInputEdge _ _ => true
  | .armEpoch w => w.ok
  | .lineTrigger _ => true
  | .queuedLineStart => true
  | .runStart w => w.ok
  | .stopAtSection w => w.ok
  | .stopNow w => w.ok
  | .runStopped => true
  | .stallTimeout => true
  | .flushTransfer => true
  | .flushTransferEnd => true
  | .softwareLine w => w.ok
  | .trigInEdge _ _ => true
  | .clearCrosscheckFault w => w.ok
  | .armUserEntry w _ typ => w.ok && fits 8 typ
  | .mark _ => true
  | .trigOutPulse _ => true
  | .trigOutPulseEnd => true
  | .phaseStart _ => true
  | .phaseEnd _ => true
  | .strobeOn _ _ => true
  | .strobeOff _ _ => true
  | .wFrameStart => true
  | .wSingleFrame w => w.ok
  | .wRowRead _ => true
  | .strobeReadbackFault _ => true
  | .clearStrobeFault w m => w.ok && fits 32 m
  | .rowDriverFault _ => true
  | .clearRowDriverFault w m => w.ok && fits 32 m
  | .slotEnd bank k _ _ _ _ _ => fits 8 bank && fits 8 k
  | .calStart w => w.ok
  | .calAbort w => w.ok
  | .calSave w => w.ok
  | .bankCalComplete _ _ _ _ _ => true
  | .recalibrationDue => true
  | .columnSuspect _ bank col => fits 8 bank && fits 16 col
  | .rawCaptureArm w => w.ok
  | .slipEstimate => true
  | .segmentLineProcess _ src line _ => fits 8 src && fits 64 line
  | .sideLinkFailed _ => true
  | .statsRecordClose => true
  | .windowReady _ line _ => fits 64 line
  | .imageLoadComplete => true
  | .engineRestart w _ m => w.ok && fits 32 m
  | .bar2Write off data _ => fits 32 off && bytesOk data
  | .bar2Read r => fits 32 r.off
  | .crumbDrain _ => true
  | .crumbMerge line => fits 64 line
  | .breakpointMatch _ => true
  | .add_ _ _ _ _ => true
  | .sub_ _ _ _ _ => true
  | .and_ _ _ _ _ => true
  | .or_ _ _ _ _ => true
  | .xor_ _ _ _ _ => true
  | .sll _ _ _ _ => true
  | .srl _ _ _ _ => true
  | .sra _ _ _ _ => true
  | .slt _ _ _ _ => true
  | .sltu _ _ _ _ => true
  | .min_ _ _ _ _ => true
  | .max_ _ _ _ _ => true
  | .minu _ _ _ _ => true
  | .maxu _ _ _ _ => true
  | .mul _ _ _ _ => true
  | .mulh _ _ _ _ => true
  | .mulhu _ _ _ _ => true
  | .addi _ _ _ _ => true
  | .andi _ _ _ _ => true
  | .ori _ _ _ _ => true
  | .xori _ _ _ _ => true
  | .slti _ _ _ _ => true
  | .sltiu _ _ _ _ => true
  | .slli _ _ _ _ => true
  | .srli _ _ _ _ => true
  | .srai _ _ _ _ => true
  | .lui _ _ _ => true
  | .beq _ _ _ _ => true
  | .bne _ _ _ _ => true
  | .blt _ _ _ _ => true
  | .bge _ _ _ _ => true
  | .bltu _ _ _ _ => true
  | .bgeu _ _ _ _ => true
  | .jal _ _ _ => true
  | .jalr _ _ _ _ => true
  | .loop_ _ _ _ => true
  | .loopi _ _ _ => true
  | .lw _ _ _ _ => true
  | .lh _ _ _ _ => true
  | .lhu _ _ _ _ => true
  | .lb _ _ _ _ => true
  | .lbu _ _ _ _ => true
  | .sw _ _ _ _ => true
  | .sh _ _ _ _ => true
  | .sb _ _ _ _ => true
  | .vld _ _ _ _ => true
  | .vst _ _ _ _ => true
  | .vadd _ _ _ _ _ => true
  | .vsub _ _ _ _ _ => true
  | .vadds _ _ _ _ _ => true
  | .vsubs _ _ _ _ _ => true
  | .vaddss _ _ _ _ _ => true
  | .vsubss _ _ _ _ _ => true
  | .vabsd _ _ _ _ _ => true
  | .vavg _ _ _ _ _ => true
  | .vminu _ _ _ _ _ => true
  | .vmaxu _ _ _ _ _ => true
  | .vmin _ _ _ _ _ => true
  | .vmax _ _ _ _ _ => true
  | .vand _ _ _ _ _ => true
  | .vor _ _ _ _ _ => true
  | .vxor _ _ _ _ _ => true
  | .vandn _ _ _ _ _ => true
  | .vshl _ _ _ _ _ => true
  | .vshr _ _ _ _ _ => true
  | .vsra _ _ _ _ _ => true
  | .vmul _ _ _ _ _ => true
  | .vmulhu _ _ _ _ _ => true
  | .vmulhs _ _ _ _ _ => true
  | .vsel _ _ _ _ _ => true
  | .vmov _ _ _ _ _ => true
  | .vcmpEq _ _ _ _ _ => true
  | .vcmpNe _ _ _ _ _ => true
  | .vcmpLtu _ _ _ _ _ => true
  | .vcmpLeu _ _ _ _ _ => true
  | .vcmpGtu _ _ _ _ _ => true
  | .vcmpGeu _ _ _ _ _ => true
  | .vcmpLt _ _ _ _ _ => true
  | .vcmpLe _ _ _ _ _ => true
  | .vcmpGt _ _ _ _ _ => true
  | .vcmpGe _ _ _ _ _ => true
  | .pand _ _ _ _ => true
  | .por _ _ _ _ => true
  | .pxor _ _ _ _ => true
  | .pandn _ _ _ _ => true
  | .pnot _ _ _ => true
  | .mtp _ _ _ => true
  | .mfp _ _ _ => true
  | .pcnt _ _ _ => true
  | .pfirst _ _ _ => true
  | .plast _ _ _ => true
  | .vmacu _ _ _ _ _ => true
  | .vmacs _ _ _ _ _ => true
  | .vmacsu _ _ _ _ _ => true
  | .vmsuu _ _ _ _ _ => true
  | .vmsus _ _ _ _ _ => true
  | .vmulu _ _ _ _ _ => true
  | .vmulsu _ _ _ _ _ => true
  | .aclr _ _ _ => true
  | .vrndu _ _ _ _ _ => true
  | .vrnds _ _ _ _ _ => true
  | .vtoa _ _ _ _ => true
  | .vtoas _ _ _ _ => true
  | .wld _ _ _ _ _ _ => true
  | .vrsum _ _ _ _ => true
  | .vrsums _ _ _ _ => true
  | .vrmaxu _ _ _ _ => true
  | .vrminu _ _ _ _ => true
  | .vrmaxix _ _ _ _ => true
  | .vrminix _ _ _ _ => true
  | .vrsuma _ _ _ _ => true
  | .vperm _ _ _ _ _ => true
  | .vslide _ _ _ _ _ _ => true
  | .vext _ _ _ _ => true
  | .vins _ _ _ _ => true
  | .vsplat _ _ _ _ => true
  | .vrev _ _ _ _ => true
  | .vsplati _ _ _ _ => true
  | .vput _ _ _ _ _ => true
  | .cemit _ _ _ _ => true
  | .nop _ => true
  | .waitline _ => true
  | .halt _ => true
  | .break_ _ => true
  | .fence _ => true
  | .mfs _ _ _ => true
  | .mts _ _ _ => true
  | .millraceBlockReceived _ rx => fits 9 rx.place && bytesOk rx.errs
  | .millraceRetryTimeout _ => true
  | .segmentFailure _ => true
  | .restoreSegment w m => w.ok && fits 32 m
  | .csiReceiverEnable w _ => w.ok
  | .csiReceiverOn => true
  | .csiFrameStart _ num ecc => fits 16 num && fits 8 ecc
  | .csiFrameEnd _ ecc => fits 8 ecc
  | .csiLongPacket _ dtype ecc _ samples => fits 8 dtype && fits 8 ecc && samplesOk samples
  | .csiEmbeddedData _ ecc pkt => fits 8 ecc && bytesOk pkt.bytes
  | .csiLineShortPacket _ ecc => fits 8 ecc
  | .auxFrameTimeout _ => true
  | .auxStripeComplete _ => true
  | .perstRelease => true
  | .configRequest _ off value be => fits 12 off && fits 32 value && fits 4 be
  | .linkUp speed width margins => fits 8 speed && fits 8 width && bytesOk margins
  | .functionReset cause => fits 8 cause
  | .d3hotEntry => true
  | .mailboxGo req => bytesOk req
  | .doorbell off value => fits 12 off && fits 32 value
  | .msixModerationTimer _ => true
  | .ringEnable w _ _ => w.ok
  | .completionQueueEnable w _ => w.ok
  | .descriptorFetchDone _ _ _ => true
  | .descriptorFetchTimeout _ => true
  | .bufferFlushTime _ => true
  | .recordWritten => true
  | .reachGrant w => w.ok
  | .reachExtend w => w.ok
  | .reachRevoke w => w.ok
  | .reachWithdraw w => w.ok
  | .reachFlush w => w.ok
  | .reachRelease w => w.ok
  | .pageListReadDone _ _ => true
  | .pageReturnDone slot => fits 32 slot
  | .lookup w => w.ok
  | .lookupReadDone _ data => bytesOk data
  | .holdPlace w _ => w.ok
  | .holdRelease w _ => w.ok
  | .holdExpiry _ => true
  | .read w idx sub txn => w.ok && fits 16 idx && fits 8 sub && fits 32 txn
  | .write w idx sub txn data => w.ok && fits 16 idx && fits 8 sub && fits 32 txn && bytesOk data
  | .begin_ w => w.ok
  | .commit w txn target data => w.ok && fits 32 txn && fits 32 target && bytesOk data
  | .rollback w txn => w.ok && fits 32 txn
  | .readSegment w idx sub txn off len => w.ok && fits 16 idx && fits 8 sub && fits 32 txn && fits 32 off && fits 32 len
  | .writeSegment w idx sub txn arg data => w.ok && fits 16 idx && fits 8 sub && fits 32 txn && fits 32 arg && bytesOk data
  | .txnInactivityTimeout _ => true
  | .profileWrite w data => w.ok && bytesOk data
  | .profileStoreDone _ => true
  | .integratorStoreDone _ => true
  | .enableTx serial src seq => fits 64 serial && fits 48 src && fits 16 seq
  | .posreportReceived serial body => fits 64 serial && bytesOk body
  | .notifyReceived => true
  | .barrierAbortReceived serial seq system => fits 64 serial && fits 16 seq && fits 32 system
  | .beaconTimeout => true
  | .silenceTimeout => true
  | .frameTransmit _ => true
  | .sluiceParticipation w _ => w.ok
  | .barrierPass edge _ => fits 32 edge
  | .sluicePullLow => true
  | .barrierTimerExpiry => true
  | .abortBarrier w => w.ok
  | .abortRepeat => true
  | .lockstepEvaluation => true
  | .clearLockstepFault w => w.ok
  | .twtRequest code data ending => fits 8 code && bytesOk data && fits 8 ending
  | .twtStateRead n => fits 16 n
  | .twtResponseRead n => fits 16 n
  | .twtIdentRead n => fits 16 n
  | .twtPointerRead n => fits 16 n
  | .twtPointerWrite ptr data ending => fits 16 ptr && bytesOk data && fits 8 ending
  | .twtStretchAbandon => true
  | .twtBusTimeout => true
  | .twtWake => true
  | .twcEnable w _ => w.ok
  | .twcBusReady => true
  | .twcRun w _ => w.ok
  | .twcCancel w _ => w.ok
  | .twcPeriodicTrigger _ => true
  | .twcJobStart => true
  | .twcJobComplete result data => fits 8 result && bytesOk data
  | .twcArbitrationLost => true
  | .twcStretchTimeout => true
  | .twcBusClear _ => true
  | .twcStuckWaitExpiry => true
  | .twcClearFailure w => w.ok
  | .calsetStore w => w.ok
  | .calsetEraseDone _ => true
  | .calsetProgramDone _ => true
  | .calsetHeaderDone _ => true
  | .startDark w => w.ok
  | .startFlat w => w.ok
  | .procedureAbort w => w.ok
  | .accept w => w.ok
  | .discard w => w.ok
  | .procedureEvaluationDone => true
  | .operatingHour _ => true
  | .hoursRecord => true
  | .ageingSample _ => true
  | .sensorDriftPeriod => true
  | .scheduledReplan => true
  | .replanRequest w => w.ok
  | .replanDone => true
  | .sensorReading _ _ => true
  | .valuePeriod => true
  | .throttleStepTimer => true
  | .thermalRestart w => w.ok
  | .clearSensorFailures w m => w.ok && fits 32 m
  | .adcStart w => w.ok
  | .adcStop w => w.ok
  | .adcCalibrate w => w.ok
  | .adcCalComplete _ _ => true
  | .adcSlotComplete codes => samplesOk codes
  | .adcClearLatch w ch m => w.ok && fits 8 ch && fits 32 m
  | .domainRequest w _ v => w.ok && fits 8 v
  | .domainStartComplete _ pads => fits 8 pads
  | .domainStartTimeout _ => true
  | .domainStopComplete _ => true
  | .railUndervoltage rail => fits 8 rail
  | .clearRailFaults w m => w.ok && fits 32 m
  | .chargerCurrentStep => true
  | .chargerSafetyTimer => true
  | .chargeTermination => true
  | .chargerFaultTimer bit => fits 8 bit
  | .chargerFaultRead w => w.ok
  | .recharge w => w.ok
  | .storeBelowReserve => true
  | .handover mv => fits 16 mv
  | .handoverLineDeadline => true
  | .lossRecordProgrammed _ => true
  | .storeCutoff => true
  | .goodTimerExpiry => true
  | .standby w => w.ok
  | .coldReset straps => fits 8 straps
  | .warmReset => true
  | .warmResetCommand w => w.ok
  | .sup1Heartbeat => true
  | .watchdogExpiry => true
  | .otpIntegrityCheckDone _ _ _ => true
  | .imageVerificationDone bootsel _ => fits 8 bootsel
  | .calsetLoadDone _ => true
  | .otpRead w => w.ok
  | .otpReadDone => true
  | .region7Program w => w.ok
  | .region7WriteCheck w => w.ok
  | .region7Seal w => w.ok
  | .fusePulseDone _ => true
  | .reburn => true
  | .lockRegisterWrite w v => w.ok && fits 32 v
  | .advanceSecurityVersion w => w.ok
  | .firmwareErase w => w.ok
  | .firmwareEraseDone => true
  | .firmwareDataWrite w data => w.ok && bytesOk data
  | .firmwareVerify w => w.ok
  | .firmwareVerifyDone _ => true
  | .extest _ => true
  | .samplePreload _ => true
  | .idcode => true
  | .highz _ => true
  | .clamp _ => true
  | .otpCause => true
  | .bypass => true
  | .dbgChallenge nonce => bytesOk nonce
  | .dbgResponse scope key sig => fits 32 scope && bytesOk key && bytesOk sig
  | .unlockRetryDelayExpiry => true
  | .dbgSetAddr a => fits 64 a
  | .dbgRead => true
  | .dbgWrite v => fits 32 v
  | .dbgHalt target => fits 16 target
  | .dbgResume target => fits 16 target
  | .dbgStep target => fits 16 target
  | .dbgSetBp target _ a => fits 16 target && fits 32 a
  | .dbgClrBp target _ => fits 16 target
  | .dictPut v => fits 64 v
  | .dictGet => true
  | .tapReset => true
  | .endSession w => w.ok
  | .illegalInstruction _ _ => true
  | .plcaBeacon => true
  | .frameIgnored _ => true
  | .csiReceiverStopped => true
  | .firmwareProgramDone => true
  | .goodThresholdCrossing _ => true
  | .railGood rail => fits 8 rail
  | .aerError _ => true
  | .sdaLowWhileIdle => true

end Sys2Proof
end

