-- ==== Sys2Proof/Tests/Slice0.lean ====
section
/-!
SUPPORT. Tests: words and terms that must be refused, single steps with results from the spec, and for every statement that has
hypotheses a concrete state and operands that meet them, clause by clause.
-/
set_option Elab.async false

namespace Sys2Proof.Tests
open Sys2Proof.Machine Sys2Proof.Safety

/-! ### Small states -/

/-- A device that runs, with a debug session of every scope, PD2 on and objects as listed. -/
def up (l : List (Nat × Int)) : State :=
  ({ State.reset with boot := { State.reset.boot with step := 4 } }).puts ([(0x682003, 15), (0x682001, 2), (pdKey 2, 2)] ++ l)

/-- The debug port as a sender. -/
def dbg : Sender := { port := 0, src := 0, seq := 0 }

/-- A request is served at once, as a computation. -/
def servedB (s : State) (w : Sender) (r : DReq) : Bool :=
  s.alive && portTakes s w r && (!s.dbg.sup1 || w.port.val = 0) && (taken s w r).gate w.port r

/-- A write is accepted, as a computation. -/
def acceptedB (s : State) (w : Sender) (k : Nat) (bs : List Nat) : Bool :=
  servedB s w (writeOf k bs) && (taken s w (writeOf k bs)).writeStatus k bs false = stOk
    && (match findRow k with
        | some row => decide ((taken s w (writeOf k bs)).stateStatus k row bs = stOk)
        | none => true)

theorem servedB_sound {s : State} {w : Sender} {r : DReq} (h : servedB s w r = true) : Served s w r := by
  simp only [servedB, Bool.and_eq_true, decide_eq_true_eq, Bool.or_eq_true] at h
  obtain ⟨⟨⟨h1, h2⟩, h3⟩, h4⟩ := h
  refine ⟨h1, h2, ?_, h4⟩
  rcases h3 with h3 | h3
  · left; simpa using h3
  · right; exact Fin.ext h3

theorem acceptedB_sound {s : State} {w : Sender} {k : Nat} {bs : List Nat} (h : acceptedB s w k bs = true) :
    Accepted s w k bs := by
  simp only [acceptedB, Bool.and_eq_true, decide_eq_true_eq] at h
  refine ⟨⟨servedB_sound h.1.1, h.1.2⟩, ?_⟩
  intro row hr
  have h6 := h.2
  rw [hr] at h6
  simpa using h6

/-- The debug port writes an object in a state with objects as listed. -/
def takes (l : List (Nat × Int)) (k : Nat) (bs : List Nat) : Bool := acceptedB (up l) dbg k bs

/-- Engine 0 executes at word 10 of an image of 100 words, with scalar registers as listed. -/
def engUp (regs : List (Nat × BitVec 32)) (x : Engine) : State :=
  { up [(pdKey 17, 2)] with
    eng := { EngState.reset with
      store := some (List.replicate 12 0 ++ [100, 0, 0, 0], [], [])
      engs := [(0, { x with st := esExecuting, pc := 10, sregs := regs })] } }

/-- An engine executes, as a computation. -/
def executesB (s : State) (e : Nat) : Bool :=
  s.alive && s.gRuns e && (loopNext (s.engine e).pc (s.engine e).loops).1 < s.codeWords

theorem executesB_sound {s : State} {e : Nat} (h : executesB s e = true) : Executes s e := by
  simp only [executesB, Bool.and_eq_true, decide_eq_true_eq] at h
  exact ⟨h.1.1, h.1.2, h.2⟩

/-- The register of engine 0. -/
def reg0 (s : State) (r : Fin 16) : Nat := ((s.engine 0).sget r).toNat

/-- A write passes the first steps of R302, to `LOCKED`, as a computation. -/
def checkedB (s : State) (w : Sender) (k : Nat) (bs : List Nat) : Bool :=
  servedB s w (writeOf k bs) && (taken s w (writeOf k bs)).writeStatus k bs false = stOk

theorem checkedB_sound {s : State} {w : Sender} {k : Nat} {bs : List Nat} (h : checkedB s w k bs = true) :
    Checked s w k bs := by
  simp only [checkedB, Bool.and_eq_true, decide_eq_true_eq] at h
  exact ⟨servedB_sound h.1, h.2⟩


/-! ### Witnesses: Grixis engines -/

/-- Every statement about an engine that executes (scalar, immediate, vector, compare, predicate, accumulator, permute, put and
system instructions) has its one hypothesis met, in sequence and at the last word but one of the image. -/
theorem witness_executes : Executes (engUp [] Engine.reset) 0
    ∧ Executes { engUp [] Engine.reset with eng := { (engUp [] Engine.reset).eng with
        engs := [(0, { Engine.reset with st := esExecuting, pc := 98 })] } } 0 := by
  exact ⟨executesB_sound (by decide), executesB_sound (by decide)⟩

/-- Loads: addresses 0, 0x1FFFC, 0x1FFFE and 0x1FFFF by base and offset, and the last vector. -/
theorem witness_loads :
    let s := engUp [(1, 0x1FFFC), (2, 0x1FFE0)] Engine.reset
    executesB s 0 = true ∧ reg0 s 1 % 4 = 0 ∧ reg0 s 1 < 0x20000 ∧ reg0 s 2 % 32 = 0 ∧ reg0 s 2 < 0x20000 := by decide

/-- Stores: the last word and the last vector below the protected block. -/
theorem witness_stores :
    let s := engUp [(1, 0x1FEFC), (2, 0x1FEE0), (3, 0x12345678)] Engine.reset
    executesB s 0 = true ∧ reg0 s 1 + 4 ≤ 0x1FF00 ∧ reg0 s 1 % 4 = 0 ∧ reg0 s 2 + 32 ≤ 0x1FF00 ∧ reg0 s 2 % 32 = 0
      ∧ memoriesOk s = true := by decide

/-- Checks of a data access: misaligned, past the memory, and in the protected block. -/
theorem witness_checks :
    let s := engUp [(1, 1), (2, 0x20000), (3, 0x1FF00)] Engine.reset
    s.alive = true ∧ s.gRuns 0 = true ∧ reg0 s 1 % 4 ≠ 0 ∧ reg0 s 2 % 32 = 0 ∧ 0x20000 ≤ reg0 s 2
      ∧ reg0 s 3 % 32 = 0 ∧ reg0 s 3 < 0x20000 ∧ 0x1FF00 < reg0 s 3 + 1 := by decide

/-- Branches: a target at the last word, one that is taken and one that is not; a jump by register to word 0. -/
theorem witness_branches :
    let s := engUp [(1, 7)] Engine.reset
    s.alive = true ∧ s.gRuns 0 = true ∧ executesB s 0 = true
      ∧ wrapU 32 (((s.engine 0).pc : Int) + 1 + (88 : BitVec 11).toInt) = 99 ∧ 99 < s.codeWords
      ∧ wrapU 32 (((s.engine 0).pc : Int) + 1 + (-11 : BitVec 21).toInt) = 0
      ∧ (s.engine 0).sget 1 ≠ (s.engine 0).sget 2 ∧ (s.engine 0).sget 1 = (s.engine 0).sget 1
      ∧ ((s.engine 0).sget 1 + (-7 : BitVec 11).signExtend 32).toNat = 0 := by decide

/-- Loops: a body that ends at the last word is entered under an enclosing loop, and one whose count is 0 is skipped. -/
theorem witness_loops :
    let s := engUp [(1, 3)] { Engine.reset with loops := [⟨5, 99, 2⟩] }
    s.alive = true ∧ s.gRuns 0 = true ∧ badLast ((mapGet (s.engine 0).imem 99).getD 0) = false
      ∧ (∀ l ∈ (s.engine 0).loops.head?, 99 ≤ l.last) ∧ 10 + (89 : BitVec 11).toNat = 99 ∧ 99 < s.codeWords
      ∧ (s.engine 0).loops.length < 2 ∧ reg0 s 1 ≠ 0 ∧ reg0 s 2 = 0 ∧ 10 + (88 : BitVec 11).toNat + 1 < s.codeWords := by decide

/-- The line offsets of a window load at both ends. -/
theorem witness_window : executesB (engUp [] Engine.reset) 0 = true ∧ (-4 : Int) ≤ (12 : BitVec 4).toInt ∧ (12 : BitVec 4).toInt ≤ 4
    ∧ (-4 : Int) ≤ (4 : BitVec 4).toInt ∧ (4 : BitVec 4).toInt ≤ 4 := by decide

/-- Crumbs: one that enters the buffer, one of class 0xFF, one while output is disabled, and one into a full buffer. -/
theorem witness_crumbs :
    let on : State := (engUp [(1, 0xFE000001)] Engine.reset).put 0x480001 1
    let off : State := engUp [(1, 0xFF000001)] Engine.reset
    let c : Crumb := { engine := 0, cls := 1, join := 0, extent := 1, first := 0, last := 0, features := [], line := 0, pos := 0
                       epoch := 0, sect := 0, source := 0, frags := 1, seq := 0, flags := 0 }
    let full : State := (engUp [(1, 0x01000001)] { Engine.reset with crumbs := List.replicate 256 c }).put 0x480001 1
    executesB on 0 = true ∧ on.o 0x480001 ≠ 0 ∧ reg0 on 1 / 2 ^ 24 = 0xFE ∧ (on.engine 0).crumbs.length < 256
      ∧ executesB off 0 = true ∧ reg0 off 1 / 2 ^ 24 = 0xFF ∧ off.o 0x480001 = 0
      ∧ executesB full 0 = true ∧ full.o 0x480001 ≠ 0 ∧ reg0 full 1 / 2 ^ 24 = 1 ∧ 256 ≤ (full.engine 0).crumbs.length := by decide +kernel

/-- WAITLINE ends line 3 while the engine stage runs and no other line is ready. -/
theorem witness_waitline :
    let s : State := (engUp [] { Engine.reset with cur := some 3 }).put 0x400002 3
    executesB s 0 = true ∧ (s.engine 0).cur = some 3 ∧ (s.engine 0).ready = none ∧ s.stage = 3 := by decide

/-- The special registers that do not exist. -/
theorem witness_special : executesB (engUp [] Engine.reset) 0 = true ∧ 5 < (6 : BitVec 5).toNat ∧ (1 : BitVec 5) ≠ 0 := by decide

/-- Words that can carry their operands: a vector move with no second source, and the ends of the line offset. -/
theorem witness_encodable : (GOp.valu .mov 1 2 (.vec 0) 0).encodable = true ∧ (GOp.wld 1 2 true 12 31).encodable = true
    ∧ (GOp.mfs 1 5).encodable = true ∧ decodeWord 0x00221800 = some (.alu .add 1 2 3) := by decide

/-! ### Witnesses: position keeping and run control -/

/-- A device whose position keeper is as given. -/
def posUp (l : List (Nat × Int)) (p : PosState) : State := { up l with pos := p }

/-- ENC1 is enabled, in a state as given. -/
def encUp (e : Encoder) (l : List (Nat × Int)) : State := posUp ((encCfg 1 + 1, 1) :: l) { PosState.reset with enc1 := e }

/-- An encoder with a step open. -/
def stepEnc (na nb : Nat) : Encoder := { Encoder.reset with step := some ⟨5, false, false, na, nb⟩ }

theorem witness_encoderEvents :
    let falls := encUp { Encoder.reset with z := true } []
    let rises := encUp Encoder.reset []
    let two := encUp (stepEnc 1 1) []
    let b1 := encUp (stepEnc 0 1) [(encCfg 1 + 3, 1)]
    let a1 := encUp (stepEnc 1 0) []
    let lost := encUp { Encoder.reset with lost := 4 } []
    let rev (s : State) (onA : Bool) : Bool := decide (edgeForward onA (s.enc 1).a (s.enc 1).b = s.b (encCfg 1 + 5))
    (falls.alive = true ∧ falls.encOn 1 = true ∧ falls.pow.rearm = false ∧ (falls.enc 1).z = true ∧ (falls.enc 1).lost.testBit 2 = false)
    ∧ (rises.encOn 1 = true ∧ (rises.enc 1).z = false ∧ rises.zQualifies 1 = true ∧ (rises.enc 1).a ≠ true
        ∧ (rises.enc 1).b ≠ true ∧ (rises.enc 1).step = none ∧ (rises.enc 1).lost.testBit 1 = false)
    ∧ (two.encOn 1 = true ∧ ((two.enc 1).step.map fun st => st.nA + st.nB) = some 2)
    ∧ (b1.encOn 1 = true ∧ (b1.enc 1).step = some ⟨5, false, false, 0, 1⟩
        ∧ edgeCounted (b1.o (encCfg 1 + 3)) false false (rev b1 false) = false)
    ∧ (a1.encOn 1 = true ∧ (a1.enc 1).step = some ⟨5, false, false, 1, 0⟩
        ∧ edgeCounted (a1.o (encCfg 1 + 3)) true false (rev a1 true) = true ∧ a1.isSource 1 = false)
    ∧ (rises.o (encCfg 1 + 2) = 0 ∧ rises.b (encCfg 1 + 7) = true ∧ (rises.enc 1).lost = 0)
    ∧ (lost.encOn 1 = true ∧ (lost.enc 1).lost = 2 ^ 2) := by decide +kernel

theorem witness_encoderEventsOn :
    let second := encUp { Encoder.reset with lost := 1 } []
    let gated := encUp Encoder.reset [(encCfg 1 + 6, 1)]
    let z0 (l : List (Nat × Int)) : State := posUp ([(encCfg 0 + 1, 1), (0x201801, 1)] ++ l) PosState.reset
    let src := posUp [(encCfg 0 + 1, 1), (0x202801, 2)] { PosState.reset with enc0 := stepEnc 1 0 }
    (5 < 5 + (encUp (stepEnc 1 0) []).stepLen 1 ∧ (encUp (stepEnc 1 0) []).encOn 1 = true ∧ (encUp (stepEnc 1 0) []).pow.rearm = false)
    ∧ (gated.encOn 1 = true ∧ (gated.enc 1).z = false ∧ gated.zQualifies 1 = false ∧ (gated.enc 1).lost.testBit 2 = false)
    ∧ ((z0 []).encOn 0 = true ∧ ((z0 []).enc 0).z = false ∧ (z0 []).o 0x201801 = 1 ∧ (z0 []).zQualifies 0 = true ∧ (z0 []).o 0x201804 ≠ 1)
    ∧ (let a := z0 [(0x201804, 1), (0x202801, 2)]
       a.encOn 0 = true ∧ a.zQualifies 0 = true ∧ a.o 0x201804 = 1 ∧ a.tmode ≠ 0 ∧ a.tmode ≠ 1 ∧ a.pos.recent = [])
    ∧ (src.encOn 0 = true ∧ (src.enc 0).step = some ⟨5, false, false, 1, 0⟩ ∧ src.isSource 0 = true ∧ src.pos.epochT = none
        ∧ edgeCounted (src.o (encCfg 0 + 3)) true false (decide (edgeForward true false false = src.b (encCfg 0 + 5))) = true)
    ∧ (second.encOn 1 = true ∧ second.o (encCfg 1 + 2) = 0 ∧ second.b (encCfg 1 + 7) = true ∧ (second.enc 1).lost.testBit 2 = false
        ∧ (second.enc 1).lost ≠ 0 ∧ (second.enc 1).lost.testBit 0 = true) := by decide +kernel

theorem witness_positionEvents :
    let moved := posUp [(0x201005, 0)] { PosState.reset with enc0 := { Encoder.reset with lastT := some 7 } }
    let inputs (l : List (Nat × Int)) : State := up ((pdKey 14, 2) :: l)
    let entry (typ : Nat) (l : List (Nat × Int)) : State :=
      posUp l { PosState.reset with armed := [{ no := 192, typ, pos := 0, dir := 0, param := 9, tag := 7, ahead := false }] }
    let pulse := posUp [] { PosState.reset with trigOut := true, trigOutEnd := 9 }
    let armed := inputs [(0x201801, 2), (0x201804, 1), (0x202801, 3), (0x204002, rsWaitEpoch), (0x201803, 655360)]
    (moved.alive = true ∧ moved.pos.enc0.lastT = some 7 ∧ moved.o 0x201005 = 0 ∧ moved.tmode ≠ 1 ∧ moved.o 0x152005 ≠ 4
        ∧ moved.pow.rearm = false)
    ∧ ((inputs []).pdOn 14 = true ∧ (inputs []).pos.epochIn ≠ true ∧ (inputs []).o 0x201801 ≠ 2
        ∧ (inputs [(0x201801, 2)]).o 0x201801 = 2 ∧ (inputs [(0x201801, 2)]).o 0x201804 ≠ 1 ∧ armed.o 0x201801 = 2 ∧ armed.o 0x201804 = 1)
    ∧ ((inputs []).pos.trigIn ≠ true ∧ (inputs []).tmode ≠ 2 ∧ (inputs []).tmode ≠ 4
        ∧ (inputs [(0x202801, 4)]).tmode = 4 ∧ (inputs [(0x202801, 4)]).epochSet = false
        ∧ true ≠ (inputs []).b 0x202802 ∧ (inputs [(0x202801, 2)]).tmode = 2 ∧ (inputs []).run = rsIdle)
    ∧ (let sheet := inputs [(0x202801, 4), (0x201804, 2)]
       sheet.tmode = 4 ∧ sheet.epochSet = true ∧ sheet.pos.sheet.running = false)
    ∧ (let ext := inputs [(0x202801, 2), (0x204002, rsRunning)]
       ext.tmode = 2 ∧ ext.run = rsRunning ∧ (ext.put 0x202003 6).nextLine % max 1 (ext.n 0x202002) ≠ 0)
    ∧ (((entry 0x11 []).entryFires 192 0x11).isSome = true ∧ ((entry 0x10 []).entryFires 192 0x10).isSome = true
        ∧ (entry 0x10 []).o 0x204801 ≠ 2 ∧ ((entry 0x10 [(0x204801, 2)]).entryFires 192 0x10).isSome = true
        ∧ (entry 0x10 [(0x204801, 2)]).o 0x204801 = 2)
    ∧ pulse.pos.trigOut = true
    ∧ (armed.alive = true ∧ armed.pow.rearm = false ∧ armed.pdOn 14 = true ∧ armed.pos.epochIn = false ∧ armed.pos.recent = []
        ∧ armed.o 0x201801 = 2 ∧ armed.o 0x201804 = 1 ∧ armed.tmode ≠ 0 ∧ armed.tmode ≠ 1 ∧ armed.run = rsWaitEpoch
        ∧ armed.o 0x152005 ≠ 4) := by decide +kernel

/-- A line that waits. -/
def queued : QTrig :=
  { line := 3, grid := 0, t := 0, flush := false, plan := [], len := 400
    held := { line := 3, sect := 0, epoch := 0, grid := 0, start := 0, tline := 0, rev := false, skipped := false, run := 0, off := 0, srcs := [] } }

theorem witness_lines :
    let grid (l : List (Nat × Int)) (q : Option QTrig) : State := posUp ([(0x201804, 2)] ++ l) { PosState.reset with trigQ := q }
    let run := [(0x204002, rsRunning)]
    let stop (st : Int) : State := posUp [(0x204002, st)] PosState.reset
    let first (s : State) : Bool := s.alive && !s.pow.rearm && s.o 0x152005 != 4 && s.tmode == 0 && s.gridDue
      && !s.entryBefore && s.nextLine % max 1 (s.n 0x202002) != 0 && s.now == 0
    let on := [(0x202003, 6)]
    let busy : State := posUp ([(0x201804, 2)] ++ on ++ run) { PosState.reset with convEnd := 9 }
    let virt := up [(0x201804, 2), (0x202801, 1), (0x202804, 7)]
    (first (grid on none) ∧ (grid on none).accepting = false ∧ first (grid on (some queued)) ∧ (grid on (some queued)).pos.trigQ.isSome = true)
    ∧ (first (grid (on ++ run) none) ∧ (grid (on ++ run) none).accepting = true ∧ (grid (on ++ run) none).lineBusy = false
        ∧ first (grid (on ++ run) (some queued)) ∧ (grid (on ++ run) (some queued)).accepting = true)
    ∧ (first busy ∧ busy.accepting = true ∧ busy.pos.trigQ = none ∧ busy.lineBusy = true ∧ busy.now < busy.pos.convEnd)
    ∧ (virt.tmode = 1 ∧ virt.o 0x202804 ≠ 0 ∧ virt.resumeMotion.gridDue = true ∧ virt.resumeMotion.entryBefore = false
        ∧ (grid [] none).gridDue = true ∧ (grid [] none).tmode = 0)
    ∧ (grid [] (some queued)).pos.trigQ = some queued
    ∧ ((stop rsStopping).run = rsStopping ∧ (stop rsStopping).pos.stopAt = false ∧ (stop rsStopping).linesDone = true
        ∧ (stop rsPendingStart).run = rsPendingStart ∧ (stop rsPendingStart).linesDone = true)
    ∧ ((grid run none).stallCondition = true ∧ (grid run none).run = rsRunning)
    ∧ (grid [(0x204002, rsStarting)] none).stallCondition = (grid [(0x204002, rsStarting)] none).accepting
    ∧ (posUp [] { PosState.reset with stalled := true }).pos.stalled = true
    ∧ (posUp [] { PosState.reset with flushEnd := some 9 }).pos.flushEnd = some 9 := by decide +kernel

/-! ### Witnesses: arrays and run control -/

theorem witness_phases :
    let ph : Phase := { field := 0x0A, len := 4000, strobes := [(0, 100, 200)] }
    let c : CurLine := { line := 3, start := 50, plan := [ph] }
    let s (l : List (Nat × Int)) : State := { up l with arr := { ArrState.reset with cur := some c } }
    (s []).alive = true ∧ (s []).arr.cur = some c ∧ c.plan[0]? = some ph ∧ (s [(0x204002, rsRunning)]).planRuns = true
      ∧ ph.strobes.find? (fun y => y.1 = 0) = some (0, 100, 200) ∧ (s [(0x243001, 1)]).strobeOk 0 = true := by decide +kernel

theorem witness_arrays :
    let w : State := up [(0x280402, 2), (0x241808, 1)]
    let f : WFrame := { no := 0, start := 0, first := 0, rows := 256, next := 254, segA := 0, segB := 23, fs := 288000, expo := 400
                        mask := 0, isPartial := false }
    let row (f : WFrame) : State := { w with arr := { ArrState.reset with wFrames := [f] } }
    let lit : State := { up [(0x243001, 1)] with arr := { ArrState.reset with strobes := 32 } }
    (w.bankD = 2 ∧ w.o 0x241808 = 1 ∧ w.alive = true)
    ∧ ((row f).wReading = some f ∧ (row f).bankD = 2 ∧ f.next + 1 < f.rows)
    ∧ (let g := { f with next := 255 }
       (row g).wReading = some g ∧ g.next + 1 = g.rows)
    ∧ (lit.bit 0x243004 5 = false ∧ (lit.strobePad 5).isSome = true)
    ∧ (w.bit 0x243801 29 = false ∧ w.rowPresent 29 = true) := by decide +kernel

theorem witness_runCommands :
    takes [] 0x204001 [1] = true ∧ (up []).run = rsIdle ∧ (up []).startRefusal ≠ stOk
    ∧ (let l := [(pdKey 5, 2), (pdKey 75, 2), (pdKey 76, 2)]
       takes l 0x204001 [1] = true ∧ (up l).startRefusal = stOk)
    ∧ (∀ st ∈ [rsStopping, rsPendingStart, rsStarting, rsRunning, rsStalled, rsWaitEpoch],
        takes [(0x204002, st)] 0x204001 [1] = true ∧ takes [(0x204002, st)] 0x204001 [2] = true
          ∧ takes [(0x204002, st)] 0x204001 [3] = true ∧ takes [(0x204002, st)] 0x201802 [1] = true ∧ (up [(0x204002, st)]).run = st)
    ∧ (let p : State := posUp [(0x204002, rsStopping)] { PosState.reset with stopAt := true }
       acceptedB p dbg 0x204001 [3] = true ∧ p.run = rsStopping ∧ p.pos.stopAt = true)
    ∧ takes [] 0x201802 [1] = true ∧ (up []).o 0x201804 ≠ 1
    ∧ (let l := [(0x202801, 3), (0x204002, rsRunning)]
       takes l 0x202809 [1] = true ∧ (up l).tmode = 3 ∧ (up l).triggerOpen = true ∧ takes [] 0x202809 [1] = true
         ∧ takes l 0x204001 [2] = true ∧ (up l).nextLine % max 1 ((up l).n 0x202002) = 0 ∧ (up [(0x204002, rsRunning)]).tmode = 0
         ∧ (up []).tmode ≠ 3 ∧ (up []).pow.rearm = false)
    ∧ takes [] 0x203807 [1] = true := by decide +kernel

theorem witness_userEntries :
    let q (typ : Nat) (l : List (Nat × Int)) : State := taken (up l) dbg (writeOf (userKey 192 2) [typ])
    takes [] (userKey 255 2) [0] = true
    ∧ (takes [] (userKey 192 2) [0x11] = true ∧ (q 0x11 []).o (userKey 192 4) = 0
        ∧ behind ((q 0x11 []).o (userKey 192 3)) (q 0x11 []).livePos ((q 0x11 []).o (userKey 192 1)) = false)
    ∧ (let l := [(userKey 192 4, 4), (userKey 192 3, 1), (userKey 192 1, -5)]
       takes l (userKey 192 2) [0x10] = true ∧ 4 ≤ (q 0x10 l).o (userKey 192 4)
        ∧ behind ((q 0x10 l).o (userKey 192 3)) (q 0x10 l).livePos ((q 0x10 l).o (userKey 192 1)) = true) := by decide +kernel

theorem witness_arrayCommands :
    let l := [(0x280402, 2), (0x241808, 2)]
    let f : WFrame := { no := 0, start := 0, first := 0, rows := 256, next := 254, segA := 0, segB := 23, fs := 288000, expo := 400
                        mask := 0, isPartial := false }
    let busy : State := { up l with arr := { ArrState.reset with wFrames := [f] } }
    takes l 0x241809 [1] = true ∧ (up l).bankD = 2 ∧ (up l).o 0x241808 = 2 ∧ (up l).wReading = none
    ∧ acceptedB busy dbg 0x241809 [1] = true ∧ busy.wReading.isSome = true ∧ busy.arr.wPend = false
    ∧ takes [] 0x243005 (leBytes 4 63) = true ∧ takes [] 0x243802 (leBytes 4 (2 ^ 30 - 1)) = true
    ∧ takes [] 0x287003 [1] = true := by decide +kernel

/-! ### Witnesses: converters, pipeline, engines, Confluence and the auxiliary input -/

/-- A source's part of a line. -/
def part (src slots : Nat) (segs : List Nat) : SrcLine :=
  { src, stages := 64, fs := 288000, pos := 0, flags := 0, segA := 0, segB := 23, slots, segs, rowFail := [] }

/-- A line with parts. -/
def lineWith (n : Nat) (srcs : List SrcLine) : LineRec :=
  { line := n, sect := 0, epoch := 0, grid := 0, start := 0, tline := 0, rev := false, skipped := false, run := 0, off := 0, srcs }

/-- The codes of a line that has reached stage 2. -/
def pixOf (src n : Nat) : LinePix :=
  { src, line := n, vals := [], bad := [], run := 0, flags := 0, fs := 288000, stages := 64, rev := false, tline := 0, lev := (0, 0)
    temps := [], gov := n }

theorem witness_slots :
    let c : CurLine := { line := 3, start := 0, plan := [] }
    let slot (l : List (Nat × Int)) (n : Nat) : State := { up l with
      arr := { ArrState.reset with cur := some c }, pipe := { PipeState.reset with lines := [lineWith 3 [part 0x0A n []]] } }
    let holds (s : State) (n : Nat) : Bool := s.alive && decide (s.arr.cur = some c)
      && decide (s.pipe.lines.find? (fun l => l.line = c.line && !l.skipped && !l.srcs.any (·.src = srcW)) = some (lineWith 3 [part 0x0A n []]))
      && decide ((lineWith 3 [part 0x0A n []]).srcs.find? (fun x => x.src < 0x40 && bankOf x.src = 0x0A && 0 < x.slots) = some (part 0x0A n []))
      && (part 0x0A n []).src != srcM
    (holds (slot [] 3) 3 = true ∧ 1 + (part 0x0A 3 []).slots = (part 0x0A 3 []).stages / 16 ∧ 1 < (part 0x0A 3 []).slots
        ∧ (slot [] 3).calibrating 0x0A = false)
    ∧ (holds (slot [] 1) 1 = true ∧ 3 + (part 0x0A 1 []).slots = (part 0x0A 1 []).stages / 16)
    ∧ (let l := [(0x281003, 1), (0x281004, 0x0A)]
       holds (slot l 4) 4 = true ∧ (slot l 4).calibrating 0x0A = true ∧ 0 + (part 0x0A 4 []).slots = (part 0x0A 4 []).stages / 16) := by
  decide +kernel

theorem witness_converters :
    let cal (l : List Nat) : State := { up [(0x281003, 1)] with conv := { ConvState.reset with calLeft := l } }
    let x : Suspect := { seg := 2, bank := 0x0B, col := 7, count := 3, firstLine := 0, marked := false }
    let sus (m : List (Nat × List Nat)) : State := { up [] with blobs := m, conv := { ConvState.reset with suspects := [x] } }
    let spent := [(mapKey 2, List.replicate 64 0xFE)]
    let z : SlipClosed := { sect := 0, sums := [], elig := [], due := 9, fields := [], minQ := 0, minLines := 0 }
    let closed : State := { up [] with rcb := { RecState.reset with closed := some z } }
    ((cal [0x0A]).conv.calLeft = [0x0A] ∧ (cal [0x0A]).o 0x281003 = 1 ∧ (cal [0x0A, 0x0C]).conv.calLeft = 0x0A :: [0x0C])
    ∧ ((up [(0x28100C, 10 ^ 6)]).o 0x28100E = 0 ∧ (up [(0x28100C, 10 ^ 6)]).o 0x28100B ≤ (up [(0x28100C, 10 ^ 6)]).o 0x28100C)
    ∧ ((sus []).conv.suspects.find? (fun x => x.seg = 2 && x.bank = 0x0B && x.col = 7) = some x ∧ x.marked = false
        ∧ (sus []).o 0x281803 ≤ x.count ∧ 2 ≤ ((sus []).freeSpares 2 0x0B).length
        ∧ (sus spent).conv.suspects.find? (fun x => x.seg = 2 && x.bank = 0x0B && x.col = 7) = some x
        ∧ ((sus spent).freeSpares 2 0x0B).length ≤ 1)
    ∧ closed.rcb.closed = some z := by decide +kernel

theorem witness_segments :
    let on := [(pdKey 17, 2)]
    let line : State := { up on with pipe := { PipeState.reset with lines := [lineWith 3 [part 0x0A 0 [0]]], pix := [pixOf 0x0A 3] } }
    let x (s : State) : State := ((s.procLine 0 0x0A 3).segmentStages 0 0x0A 3 []).segContrib 0 0x0A (lineKey 0x0A 3)
    let link : State := { up [] with pipe := { PipeState.reset with linkErr := [(22, 16)] } }
    let k : Kern := { start := 3, wStart := 0, on := true, sel := 0, h := 1, psrc := 0x0A, pplane := 0, ssrc := 0xFF, splane := 0, t0 := 0, t1 := 0
                      red := [] }
    let kern (st : Nat) (l : List LinePix) : State := { line.put 0x400002 3 with
      pipe := { line.pipe with pix := l }
      eng := { EngState.reset with kerns := [k], engs := [(0, { Engine.reset with st := st })] } }
    let w := kern esWaiting [pixOf 0x0A 3]
    (line.alive = true ∧ line.segmentReady 0 0x0A 3 = true ∧ (x line).kernAt (lineKey 0x0A 3) = none)
    ∧ (let y : State := { line with eng := { EngState.reset with
         kerns := [k], engs := (List.range 8).map fun e => (e, { Engine.reset with st := esHalted }) } }
       y.segmentReady 0 0x0A 3 = true ∧ (x y).kernAt (lineKey 0x0A 3) = some k)
    ∧ (link.bit 0x304003 22 = false ∧ 16 ≤ (mapGet link.pipe.linkErr 22).getD 0)
    ∧ (w.keyOfWindow 3 = some 3 ∧ w.kernAt 3 = some k ∧ (w.srcLine k.psrc 3) = some (part 0x0A 0 [0]) ∧ w.stage ≠ 0 ∧ w.stage ≠ 1
        ∧ w.windowThere k.psrc 3 (k.h / 2) = true ∧ k.ssrc = 0xFF ∧ (part 0x0A 0 [0]).segA ≤ 0 ∧ 0 ≤ (part 0x0A 0 [0]).segB)
    ∧ ((w.engine 0).st = esWaiting ∧ (w.engine 0).chg = none ∧ sameLines (w.engine 0).first 3 = true ∧ (w.engine 0).first ≤ 3) := by
  decide +kernel

theorem witness_imageLoads :
    let hdr := List.replicate 32 0
    let load (l : List (Nat × Int)) (h : List Nat) (st : Int) : State :=
      { (up l).put 0x400002 st with eng := { EngState.reset with loading := h } }
    let bare (s : State) : State := { s.put 0x400002 0 with eng := { s.eng with loading := [], parts := none } }
    let find (s : State) (h : List Nat) : Option Nat :=
      (bare s).allEngines.find? fun e => !((bare s).engine e).matchesHdr s.eng.parts h
    let on := [(pdKey 17, 2)]
    let bad := hdr.set 16 1
    ((load on hdr 1).stage = 1 ∧ (load on hdr 1).eng.loading ≠ [] ∧ (load on hdr 1).eng.loadPend = false ∧ find (load on hdr 1) hdr = none
        ∧ (bare (load on hdr 1)).allEngines ≠ [] ∧ find (load on bad 1) bad = some 0 ∧ (load on hdr 5).stage = 5)
    ∧ ((bare (load [] bad 1)).allEngines = [] ∧ ((bare (load [] bad 1)).blankEngine none).matchesHdr none bad = false
        ∧ ((bare (load [] hdr 1)).blankEngine none).matchesHdr none hdr = true ∧ (load [] hdr 1).eng.parts = none) := by decide +kernel

/-- A section that has closed. -/
def closedSection : StatSection :=
  { sect := 0, epoch := 0, firstLine := 0, firstPos := 0, lastLine := 0, truncated := false, accepted := 0, skipped := 0, acc := []
    dark := [], expo := [], mask := 0, failed := 0, sent := 0, merged := 0 }

theorem witness_statsClose :
    let s : State := { up [] with pipe := { PipeState.reset with closing := [closedSection] } }
    s.alive = true ∧ s.pipe.closing = closedSection :: [] ∧ s.sectionLeft closedSection = true ∧ s.auxLeft closedSection.sect = true
      ∧ closedSection.complete = true := by decide +kernel

/-- A crumb of line `n` from an engine. -/
def crumbOf (n e : Nat) : Crumb :=
  { line := n, pos := 0, sect := 0, epoch := 0, engine := e, first := 0, last := 0, cls := 1, join := 0, extent := 1, source := 0, frags := 1
    seq := 0, features := [], flags := 0 }

/-- A host whose function has left reset, with its link up. -/
def pcieUp (l : List (Nat × Int)) : State :=
  { up ([(pdKey 8, 2), (pdKey 9, 2), (0x500001, 5)] ++ l) with host := { HostState.reset with perst := false } }

theorem witness_engines :
    let link := [(pdKey 8, 2), (pdKey 9, 2), (pdKey 17, 2)]
    let pcie := pcieUp [(pdKey 17, 2)]
    let stops : ConfState := { ConfState.reset with stops := [{ seg := 0, blocks := [], seq := 0, credits := 32 }] }
    let crumb : State := { up link with conf := stops, eng := { EngState.reset with engs := [(0, { Engine.reset with crumbs := [crumbOf 3 0] })] } }
    let held : State := { up ((0x480002, 0) :: link) with eng := { EngState.reset with held := [crumbOf 4 0] } }
    let bp : State := { up link with eng := { EngState.reset with engs := [(0, { Engine.reset with st := esExecuting, pc := 7, bps := [(1, 7)] })] } }
    (pcie.alive = true ∧ pcie.pcieOn = true ∧ pcie.takesPart 0 = true ∧ (pcie.engine 0).st ≠ esExecuting
        ∧ 0x1FEFC < 0x20000 - 0x100 ∧ 0x1FEFC % 4 + [1, 2, 3, 4].length ≤ 4
        ∧ ((pcie.put 0x101001 4).variantInit).engPresent 191 = false ∧ 0x40000 * 191 < 0x3000000)
    ∧ (crumb.bit 0x50C004 0 = false ∧ crumb.eng.queue.length + crumb.eng.merged.length = 0
        ∧ ((List.range 8).map fun i => 8 * 0 + ((mapGet crumb.eng.served 0).getD 7 + 1 + i) % 8).findSome?
          (fun i => if crumb.takesPart i then ((crumb.engine i).crumbs[(crumb.engine i).inFlight]?).map fun c => (i, c) else none)
          = some (0, crumbOf 3 0)
        ∧ crumb.conf.stops.any (·.seg = 0) = true)
    ∧ (held.mergeReady (held.mergeKey 4) = true ∧ (∀ c ∈ held.eng.held, ¬(sameLines c.key (held.mergeKey 4) = true ∧ c.key < held.mergeKey 4))
        ∧ held.o 0x480002 = 0)
    ∧ (bp.takesPart 0 = true ∧ (bp.engine 0).st = esExecuting ∧ (bp.engine 0).bpHit = true)
    ∧ ((engUp [] Engine.reset).gRuns 0 = true ∧ decodeWord 0xFFFFFFFF = none) := by decide +kernel

/-- A block of a stream's contribution that is on the Millrace. -/
def blockOf (fails : Nat) : MBlock :=
  { kind := 1, stream := 0, line := 3, offset := 0, data := List.replicate 16 7, final := true, crumbs := [], sect := 0, sent := true, fails }

/-- Segment 2 has sent two blocks, of which the first has failed as often as given. -/
def milling (n : Nat) : State :=
  { up [] with conf := { ConfState.reset with stops := [{ seg := 2, blocks := [blockOf n, blockOf 0], seq := 5, credits := 30 }] } }

theorem witness_millrace :
    ((milling 7).alive = true ∧ ((milling 7).stop 2).blocks = blockOf 7 :: [blockOf 0] ∧ (blockOf 7).fails < 8
        ∧ ((milling 8).stop 2).blocks = blockOf 8 :: [blockOf 0] ∧ (blockOf 8).sent = true ∧ (blockOf 8).fails ≤ 8)
    ∧ (((milling 0).stop 2).blocks[0]? = some (blockOf 0) ∧ ((milling 0).stop 2).blocks[1]? = some (blockOf 0)
        ∧ ((milling 0).stop 2).seq = 5)
    ∧ ((milling 9).stop 2).blocks.find? (fun b => 9 ≤ b.fails) = some (blockOf 9) := by decide

/-- A block that arrives as sent is good, the first with the expected number and the second with another; a block with a bit error is
not good. -/
theorem witness_millraceBytes :
    (wireGood (xorBytes ((blockOf 0).wire 2 5) []) = true ∧ wireSeq (xorBytes ((blockOf 0).wire 2 5) []) = 5)
    ∧ (wireGood (xorBytes ((blockOf 0).wire 2 6) []) = true ∧ wireSeq (xorBytes ((blockOf 0).wire 2 6) []) ≠ 5) := by
  have h (n : Nat) := wireGood_wire (blockOf 0) 2 n (by decide) (by decide) (by decide) (by decide) (by decide)
  simp only [xorBytes_nil]
  exact ⟨h 5, (h 6).1, by rw [(h 6).2]; decide⟩

set_option maxRecDepth 100000 in
theorem witness_millraceError : wireGood (xorBytes ((blockOf 0).wire 2 5) [1]) = false := by decide +kernel

theorem witness_auxiliary :
    let f : AuxFrame := { no := 0, sect := 0, epoch := 0, width := 640, height := 32, dtype := 0x2A, colour := 0, black := 0, defects := [], gains := []
                          shade := false, bilinear := false, flags := 0, lines := [], closed := false, cut := false, startT := 0, timeout := 9
                          band := 0, col := 256 }
    let chan (fs : List AuxFrame) : ConfState := { ConfState.reset with
      aux := [{ ch := 3, frames := fs, nextNo := 1, lastStart := none, lastPkt := 0, embedded := [] }] }
    let s (l : List (Nat × Int)) (fs : List AuxFrame) : State := { up l with conf := chan fs }
    (∀ st ∈ ([1, 5, 3, 4] : List Int), (s [(0x390005, st)] []).o 0x390005 = st)
    ∧ (let t := s [(0x390005, 2), (auxCfg 3 1, 1)] [f]
       t.alive = true ∧ t.csiOn = true ∧ t.auxTakes 3 = true ∧ t.conf.aux.any (·.ch = 3) = true ∧ (t.auxCh 3).open_ = some f
         ∧ t.b (auxCfg 3 1) = true ∧ t.auxTakes 7 = false
         ∧ (let h := (t.csiHeader 1).1
            (h.setAux { h.auxCh 3 with lastPkt := t.now }).auxCh 3 = t.auxCh 3 ∧ f.cut = false ∧ 0x2A ≤ f.dtype ∧ f.dtype ≤ 0x2E))
    ∧ (let g := { f with closed := true }
       let last := { g with col := 512 }
       let first := { g with col := 0 }
       (s [] [g]).auxNext = some (3, g) ∧ g.col ≠ 0 ∧ g.col + 256 < g.width ∧ (s [] [last]).auxNext = some (3, last) ∧ last.width ≤ last.col + 256
         ∧ (s [] [first]).auxNext = some (3, first) ∧ ((s [] [first]).auxAdmit 3 first).2 = true) := by decide +kernel

/-! ### Witnesses: calibration commands, host interface and dictionary -/

theorem witness_calibrationCommands :
    let cold := [(pdKey 75, 2), (pdKey 76, 2)]
    let run (n : Int) := [(0x281003, n)]
    let st : CalStore := { origin := 2, save := false, step := 1, vals := [] }
    let storing : State := { up [] with cal := { CalState.reset with store := some st } }
    (takes cold 0x281001 [1] = true ∧ (up cold).calRefusal = stOk ∧ takes [] 0x281001 [1] = true ∧ (up []).calRefusal ≠ stOk)
    ∧ (takes (run 1) 0x281001 [2] = true ∧ (up (run 1)).o 0x281003 = 1 ∧ takes (run 4) 0x281001 [2] = true ∧ (up (run 4)).o 0x281003 = 4
        ∧ takes [] 0x281001 [2] = true ∧ (up []).o 0x281003 ≠ 1 ∧ (up []).o 0x281003 ≠ 4)
    ∧ (takes [] 0x281001 [3] = true ∧ (up []).cal.store = none ∧ takes (run 1) 0x281001 [3] = true
        ∧ acceptedB storing dbg 0x281001 [3] = true ∧ storing.cal.store.isSome = true) := by decide +kernel

theorem witness_restarts :
    let on := [(pdKey 5, 2), (pdKey 7, 2), (pdKey 17, 2)]
    let halted : State := { up on with eng := { EngState.reset with engs := [(7, { Engine.reset with st := esHalted })] } }
    takes on 0x400401 (leBytes 4 255) = true
    ∧ (up on).commitChecks (some (up on).applySection) [(0x400401, leBytes 4 255)] (up on).dict.serial = (stOk, [])
    ∧ takes on 0x50C005 (leBytes 4 1) = true
    ∧ (up on).commitChecks (some (up on).applySection) [(0x50C005, leBytes 4 1)] (up on).dict.serial = (stOk, [])
    ∧ halted.takesPart (8 * 0 + 7) = true ∧ esHalted ≤ (halted.engine (8 * 0 + 7)).st ∧ (up [(0x50C004, 2 ^ 23)]).bit 0x50C004 23 = true
    ∧ (∀ st ∈ ([0, 1, 2, 3, 4, 5] : List Int), takes ((0x390005, st) :: on) 0x390001 [1] = true
        ∧ takes ((0x390005, st) :: on) 0x390001 [0] = true ∧ (up ((0x390005, st) :: on)).pdOn 7 = true
        ∧ (up ((0x390005, st) :: on)).o 0x390005 = st) := by decide +kernel

theorem witness_pcie :
    let early : State := { pcieUp [] with boot := { BootState.reset with step := 2 } }
    (up []).host.perst = true ∧ early.pcieOn = true ∧ early.alive = true ∧ early.boot.step ≤ 2 ∧ (pcieUp []).pcieOn = true
    ∧ 2 < (pcieUp []).boot.step ∧ (pcieUp []).host.perst = false ∧ 0x218 / 4 * 4 = 0x218 := by decide

theorem witness_rings :
    let busy : State := { pcieUp [] with host := { (pcieUp []).host with mbState := 1 } }
    let vec : State := { pcieUp [] with host := { (pcieUp []).host with vecs := [{ vec := 63, count := 1, since := 5 }] } }
    let fetch : State := { pcieUp [(ringKey 9 9, 1), (ringKey 9 7, 4)] with host := { (pcieUp []).host with
      rings := [{ no := 9, descs := [], fetch := 0, fetching := some (5, 4), buf := none }] } }
    let b : OpenBuf := { desc := { idx := 0, addr := 0, len := 4096, tag := 0, bad := 0 }, used := 64, count := 1, first := 0, last := 0
                         sect := 0, since := 5 }
    let buf : State := { pcieUp [] with host := { (pcieUp []).host with
      rings := [{ no := 9, descs := [], fetch := 0, fetching := none, buf := some b }] } }
    let stat : State := { pcieUp [] with host := { (pcieUp []).host with statq := [{ src := 0x0A, typ := 1, sect := 0, first := 0, last := 0, data := [] }] } }
    let d : Desc := { idx := 0, addr := 0, len := 4096, tag := 0, bad := 0 }
    let crumb : State := { pcieUp [(0x503003, 1), (ringKey 8 9, 1)] with
      host := { (pcieUp []).host with rings := [{ no := 8, descs := [d], fetch := 0, fetching := none, buf := none }] }
      eng := { EngState.reset with queue := [crumbOf 3 0] } }
    let rec_ : SRec := { line := 3, last := 3, pos := 0, sect := 0, epoch := 0, flags := 0, src := 0x0A, tokens := 0, lines := 1, data := [] }
    let ready : State := { pcieUp [] with conf := { ConfState.reset with streams := [{ StreamSt.reset 7 with waiting := [rec_] }] } }
    (busy.pcieOn = true ∧ busy.o 0x500001 ≠ 0 ∧ busy.host.mbState = 1 ∧ (pcieUp []).host.mbState ≠ 1 ∧ busy.o 0x102001 ≠ dsRestricted)
    ∧ (1023 < busy.n (ringKey 9 2) ∧ 4095 < busy.n 0x503002 ∧ 1023 < busy.n 0x503102 ∧ busy.n (ringKey 9 2) ≤ 1024)
    ∧ (let om : State := { pcieUp [(0x503103, 1)] with host := { (pcieUp []).host with evOmitted := 3 } }
       let a := om.put 0x503105 1023
       a.host.evOmitted ≠ 0 ∧ a.evFull = false ∧ a.o 0x503103 ≠ 0 ∧ (busy.put 0x503105 0).host.evOmitted = 0)
    ∧ vec.host.vecs.find? (·.vec = 63) = some { vec := 63, count := 1, since := 5 }
    ∧ ((fetch.ring 9).fetching = some (5, 4) ∧ fetch.ringActive 9 = true)
    ∧ ((buf.ring 9).buf = some b ∧ buf.mayComplete = true)
    ∧ (stat.closeFull.statServes = true ∧ crumb.closeFull.statServes = false ∧ crumb.closeFull.crumbServes = true)
    ∧ (ready.closeFull.statServes = false ∧ ready.closeFull.crumbServes = false
        ∧ (List.range 8).filter ready.closeFull.streamServes = [7]
        ∧ isAux (((ready.closeFull.stream 7).ready.map (·.src)).getD 0) = false) := by decide +kernel

theorem witness_enables :
    let k := ringKey 9 5
    checkedB (up []) dbg k [1] = true ∧ (up []).o 0x503003 = 0
    ∧ takes [(0x503003, 1)] k [1] = true ∧ (up [(0x503003, 1)]).o 0x503003 ≠ 0 ∧ (up [(0x503003, 1)]).o k = 0
    ∧ (let l := [(k, 1), (0x503003, 1), (0x340001, 1)]
       checkedB (up l) dbg k [0] = true ∧ (up l).o k ≠ 0 ∧ (up l).ringUsed 9 = true ∧ checkedB (up l) dbg 0x503003 [0] = true)
    ∧ (let l := [(k, 1), (0x503003, 1)]
       takes l k [0] = true ∧ (up l).ringUsed 9 = false ∧ takes l k [1] = true ∧ (up l).o k ≠ 0 ∧ takes [] k [0] = true ∧ (up []).o k = 0)
    ∧ takes [] 0x503003 [1] = true ∧ (up []).host.detached = [] ∧ (up []).host.backlog = [] ∧ takes [(0x503003, 1)] 0x503003 [1] = true
    ∧ takes [(0x503003, 1)] 0x503003 [0] = true ∧ (∀ j ∈ List.range 10, (up [(0x503003, 1)]).o (ringKey j 5) = 0) := by decide

theorem witness_reach :
    let cmd : Nat := 0x504101
    let grant := [(0x504103, 16)]
    let ready := [(0x50400D, 1), (0x504103, 1)]
    let page (n st : Nat) : Page := { slot := n, addr := n * pageBytes, st, span := some (0, 9), seq := n }
    let with_ (l : List (Nat × Int)) (ps : List Page) : State := { up l with host := { HostState.reset with pages := ps } }
    let many := (List.range 17).map (page · pgClosed)
    (takes grant cmd [1] = true ∧ (up grant).o 0x504105 ≠ 1 ∧ (up grant).o 0x50400D = 0 ∧ 16 ≤ (up grant).n 0x504103
        ∧ (up grant).n 0x504103 ≤ 131072 ∧ takes ready cmd [1] = true ∧ (up ready).o 0x50400D ≠ 0)
    ∧ (takes ready cmd [2] = true ∧ (up ready).host.pages.length + (up ready).n 0x504103 ≤ 131072)
    ∧ (acceptedB (with_ ready [page 0 pgHeld]) dbg cmd [3] = true ∧ (∃ p ∈ [page 0 pgHeld], (decide (0 ≤ p.slot && p.slot < 1)) = true ∧ p.st = pgHeld)
        ∧ acceptedB (with_ ready [page 0 pgClosed]) dbg cmd [3] = true ∧ (∀ p ∈ [page 0 pgClosed], p.st ≠ pgHeld)
        ∧ ([page 0 pgClosed].filter fun p => !(p.slot < 1) && p.st ≠ pgReturning).length < 16 ∧ (∀ p ∈ many, p.st ≠ pgHeld)
        ∧ acceptedB (with_ ready many) dbg cmd [3] = true
        ∧ 16 ≤ (many.filter fun p => !(p.slot < 1) && p.st ≠ pgReturning).length ∧ (with_ ready many).host.open_ = none)
    ∧ (acceptedB (with_ ready many) dbg cmd [4] = true ∧ (with_ ready many).boundOff = true
        ∧ takes ((0x380006, 0) :: ((0x3820 * 256 + 1), 1) :: ready) cmd [4] = true
        ∧ (up ((0x380006, 0) :: ((0x3820 * 256 + 1), 1) :: ready)).boundOff = false)
    ∧ takes ready cmd [5] = true
    ∧ (acceptedB (with_ ready many) dbg cmd [6] = true ∧ (with_ ready many).page? ((with_ ready many).n 0x504104) = some (page 0 pgClosed)
        ∧ (with_ ready [page 0 pgHeld]).page? 0 = some (page 0 pgHeld) ∧ (with_ ready []).page? 0 = none)
    ∧ (takes [] 0x504803 [1] = true ∧ (up []).o 0x504804 ≠ 1 ∧ (up []).lookPage ((up []).o 0x504801) ((up []).n 0x504802) = none
        ∧ acceptedB (with_ [] [page 0 pgClosed]) dbg 0x504803 [1] = true
        ∧ (with_ [] [page 0 pgClosed]).lookPage 0 0xFFFFFFFF = some (page 0 pgClosed))
    ∧ (takes [(holdKey 31 1, 5)] (holdKey 31 4) [1] = true ∧ (up [(holdKey 31 1, 5)]).o (holdKey 31 2) < 5
        ∧ takes [] (holdKey 0 4) [1] = true ∧ (up []).heldWith 0 0 0 ≤ (up []).n 0x50400C ∧ (up []).o (holdKey 0 1) ≤ (up []).o (holdKey 0 2)
        ∧ takes [] (holdKey 63 4) [1] = true
        ∧ takes [(holdKey 63 5, 1)] (holdKey 63 4) [2] = true ∧ (up [(holdKey 63 5, 1)]).holdOn 63 = true) := by decide +kernel

theorem witness_reachEvents :
    let page (n st : Nat) : Page := { slot := n, addr := n * pageBytes, st, span := some (0, 9), seq := n }
    let cmd : State := { up [(0x504103, 2)] with host := { HostState.reset with reachCmd := some 2 } }
    let back : State := { up [] with host := { HostState.reset with pages := [page 5 pgReturning] } }
    let look : State := { up [] with host := { HostState.reset with look := some (5, 5) } }
    let hit := leBytes 8 7 ++ leBytes 8 0 ++ List.replicate 16 0
    (cmd.host.reachCmd = some 2 ∧ ([0, 1].take (cmd.n 0x504103)).any (· % pageBytes ≠ 0) = true
        ∧ ([0, pageBytes].take (cmd.n 0x504103)).any (· % pageBytes ≠ 0) = false)
    ∧ (back.page? 5 = some (page 5 pgReturning) ∧ back.host.look = none ∧ back.host.withdrawing = false)
    ∧ (look.host.look = some (5, 5) ∧ findRec 65536 (look.o 0x504801) none 0 [] = none
        ∧ findRec 65536 (look.o 0x504801) none 0 hit = some (0, 7, 0))
    ∧ (let s := up [(holdKey 63 5, 1), (holdKey 63 3, 4), (0x202003, 5)]
       s.o (holdKey 63 5) ≠ 0 ∧ 0 < s.n (holdKey 63 3) ∧ s.n (holdKey 63 3) < s.n 0x202003) := by decide +kernel

/-- A sender on the field network and one on the mailbox. -/
def net : Sender := { port := 2, src := 9, seq := 4 }

theorem witness_reads :
    let r (k : Nat) : DReq := readOf k
    let named (op id : Nat) : DReq := { op, key := 0x202002, len := 4, txn := id, arg := 0, data := [] }
    let txn : State := (up [(txnKey 0 1, 1), (txnKey 0 2, 7)])
    (servedB (up []) dbg (r (0x2020 * 256 + 255)) = true ∧ keyExists (0x2020 * 256 + 255) = false)
    ∧ (let s := (up [(0x101001, 4)]).variantInit
       servedB s dbg (r 0x42BF01) = true ∧ keyExists 0x42BF01 = true ∧ s.keyAbsent 0x42BF01 = true)
    ∧ (servedB (up []) dbg (r 0x204001) = true ∧ ((findRow 0x204001).map (·.acc)) = some .wo)
    ∧ (servedB (up []) dbg (r 0x202002) = true ∧ ((findRow 0x202002).map fun x => decide (x.acc ≠ .wo)) = some true
        ∧ ((up []).valueBytes 0x202002).length ≤ portLimit 0 ∧ (up []).keyAbsent 0x202002 = false
        ∧ portLimit 3 < (((up []).putBlob 0x110000 (List.replicate 244 0)).valueBytes 0x110000).length)
    ∧ (servedB txn dbg (named 1 7) = true ∧ txn.txnOpen 0 = true ∧ txn.txnId 0 = 7 ∧ servedB txn dbg (named 6 7) = true
        ∧ servedB txn dbg (named 1 8) = true ∧ txn.txnId 0 ≠ 8 ∧ 8 ∉ (txn.txn 0).rolled ∧ servedB txn dbg (named 6 0) = true) := by
  decide +kernel

theorem witness_writes :
    let r (k : Nat) (bs : List Nat) : DReq := writeOf k bs
    let seg (arg : Nat) : DReq := { op := 7, key := 0x202002, len := 1, txn := 0, arg, data := [1] }
    (servedB (up []) dbg (r 0x202003 [1]) = true ∧ (up []).writeStatus 0x202003 [1] false ≠ stOk)
    ∧ (let bs := leBytes 4 5
       servedB (up []) dbg (r 0x7C0002 [5]) = true ∧ (up []).writeStatus 0x7C0002 [5] false = stOk
         ∧ ((findRow 0x7C0002).map fun x => decide (x.acc ≠ .wo ∧ (x.app = .now ∨ x.app = .idle))) = some true
         ∧ ((findRow 0x7C0002).map fun x => decide ((up []).stateStatus 0x7C0002 x ((up []).normalBytes 0x7C0002 [5]) = stOk)) = some true
         ∧ ((up []).setKey 0x7C0002 [5]).1 = stOk ∧ bs.length ≤ portLimit 3)
    ∧ (let s := up [(0x204002, rsRunning)]
       let bs := leBytes 4 64
       servedB s dbg (r 0x202002 bs) = true ∧ s.writeStatus 0x202002 bs false = stOk
         ∧ ((findRow 0x202002).map fun x => decide (x.app ≠ .atSection ∧ x.app ≠ .reset ∧ s.stateStatus 0x202002 x bs ≠ stOk)) = some true)
    ∧ (servedB (up []) dbg (seg 0) = true ∧ servedB (up []) dbg (seg (2 ^ 31)) = true ∧ keyExists 0x202002 = true
        ∧ (up []).keyAbsent 0x202002 = false ∧ 2 ^ 31 % 2 ^ 24 = 0 ∧ 2 ^ 31 / 2 ^ 24 % 128 = 0
        ∧ ((taken (up []) dbg (seg (2 ^ 31))).dropAsmBuf 0).writeStatus 0x202002 [1] false ≠ stOk)
    ∧ (let s : State := { up [] with dict := { DictState.reset with asm := DictState.reset.asm.set 0 (some (0x202002, [0, 4, 0])) } }
       servedB s dbg (seg (2 ^ 31 + 3)) = true
         ∧ ((taken s dbg (seg (2 ^ 31 + 3))).dict.asm[0]?).getD none = some (0x202002, [0, 4, 0]) ∧ (2 ^ 31 + 3) % 2 ^ 24 = 3)
    ∧ (let gone : DReq := { op := 7, key := 0x42BF01, len := 1, txn := 0, arg := 0, data := [1] }
       let s := (up [(0x101001, 4)]).variantInit
       servedB s dbg gone = true ∧ s.keyAbsent 0x42BF01 = true ∧ keyExists 0x42BF01 = true
         ∧ servedB s dbg { gone with key := 0x2020 * 256 + 255 } = true ∧ keyExists (0x2020 * 256 + 255) = false) := by decide +kernel

theorem witness_transactions :
    let begin_ : DReq := { op := 3, key := 0, len := 0, txn := 0, arg := 0, data := [] }
    let on (op key : Nat) (data : List Nat) : DReq := { op, key, len := data.length, txn := 7, arg := 0, data }
    let open_ := up [(txnKey 0 1, 1), (txnKey 0 2, 7)]
    let back := on 5 0 []
    let rolled : State := { up [] with dict := { DictState.reset with
      txns := List.replicate 4 { staged := [], last := 0, since := 0, rolled := [7] } } }
    (servedB (up []) dbg begin_ = true ∧ (up []).o (txnKey 0 1) = 0 ∧ servedB open_ dbg begin_ = true ∧ open_.o (txnKey 0 1) ≠ 0)
    ∧ (servedB open_ dbg (on 2 0x280501 (leBytes 4 0)) = true ∧ servedB open_ dbg (on 4 0 []) = true ∧ servedB open_ dbg back = true
        ∧ open_.txnOpen 0 = true ∧ open_.txnId 0 = 7 ∧ 0 < open_.dict.txns.length)
    ∧ (let b := open_.setTxn 0 { open_.txn 0 with last := open_.now }
       b.commitChecks (some b.applySection) (b.txn 0).staged (b.txn 0).since = (stOk, [])
         ∧ b.writeStatus 0x202002 (leBytes 4 64) true = stOk ∧ (b.txnStage 0 0x202002 (leBytes 4 64)).1 = stOk
         ∧ b.keyAbsent 0x202002 = false ∧ ((findRow 0x202002).map fun x => decide (x.acc ≠ .rws)) = some true)
    ∧ (servedB rolled dbg back = true ∧ rolled.txnId 0 ≠ 7 ∧ 7 ∈ (rolled.txn 0).rolled) := by decide +kernel

theorem witness_flashStores :
    let prof : State := { up [] with dict := { DictState.reset with profStore := some [1] } }
    let int_ : State := { up [] with dict := { DictState.reset with intStore := some [] } }
    (let bs := [0x46, 0x50, 1, 0, 0, 0, 0, 0, 16, 0, 0, 0, 0, 0, 0, 0]
     takes [] 0x110000 bs = true ∧ bs.length ≤ portLimit dbg.port)
    ∧ prof.dict.profStore = some [1] ∧ int_.dict.intStore = some [] ∧ int_.dict.intAgain = false
    ∧ ({ int_ with dict := { int_.dict with intAgain := true } } : State).dict.intAgain = true := by
  decide +kernel

/-! ### Witnesses: the field network and the two-wire ports -/

/-- The same device with another state of its network port. -/
def netUp (l : List (Nat × Int)) (x : NetState) : State := { up l with net := x }

/-- A peer in the table. -/
def peerOf (serial line : Nat) : Peer :=
  { serial, head := 1, sect := 4, line, pos := 0, epoch := 0, pitch := 655360, flags := 0, missing := 0 }

theorem witness_frames :
    let on (l : List (Nat × Int)) (n : Nat) : State :=
      netUp ((0x540002, 2) :: l) { NetState.reset with peers := (List.range n).map fun i => peerOf (20 + i) 0 }
    let lost := netUp [(0x540002, 3)] { NetState.reset with before := 2 }
    let body := List.replicate 64 0
    let frame (off : Bool) : State := netUp [(0x540002, 2), (0x540001, 1)] { NetState.reset with txq := [⟨2, 1, [2]⟩], txOff := off }
    ((up [(0x541001, 1), (0x540002, 1)]).o 0x541001 = 1 ∧ (up [(0x541001, 1), (0x540002, 1)]).o 0x540002 ≠ 0)
    ∧ ((on [] 0).alive = true ∧ (on [] 0).o 0x540002 ≠ 0 ∧ (on [] 0).o 0x540002 ≠ 3 ∧ lost.o 0x540002 = 3 ∧ 5 ≠ (on [] 0).n 0x100003
        ∧ fieldAt body 36 4 = (on [] 0).n 0x808002 ∧ fieldAt body 36 4 ≠ (on [(0x808002, 7)] 0).n 0x808002)
    ∧ ((∀ p ∈ (on [] 1).net.peers, p.serial ≠ 5) ∧ (on [] 1).net.peers.length < 16 ∧ (∀ p ∈ (on [] 16).net.peers, p.serial ≠ 5)
        ∧ 16 ≤ (on [] 16).net.peers.length ∧ ∃ p ∈ (on [] 16).net.peers, p.serial = 35)
    ∧ (up [(0x541001, 1), (0x541002, 20), (0x540002, 1)]).beaconLoss = true ∧ (up [(0x540006, 20), (0x540002, 1)]).silenceLoss = true
    ∧ (∀ off : Bool, (frame off).o 0x540002 ≠ 0 ∧ (frame off).o 0x540001 ≠ 0 ∧ (frame off).net.txq[0]? = some ⟨2, 1, [2]⟩
        ∧ ([0, 1, 2, 3].findSome? fun k => (frame off).net.txq.findIdx? (·.kind = k)) = some 0 ∧ (frame off).net.txOff = off) := by
  decide +kernel

theorem witness_barrier :
    let b : Barrier := { port := 1, epoch := 4, deadline := 90, apply := none }
    let run := [(0x204002, rsRunning)]
    let waits := netUp ([(0x545002, 2), (0x540002, 2)] ++ run) { NetState.reset with barrier := some b }
    let late : State := { waits with now := 90 }
    let pulls := netUp [] { NetState.reset with pullAt := some 8 }
    let copies := netUp [] { NetState.reset with copies := some ⟨2, 8, []⟩ }
    (takes [] 0x545001 [1] = true ∧ (up []).o 0x545002 = 0 ∧ takes [(0x545002, 1)] 0x545001 [1] = true ∧ (up [(0x545002, 1)]).o 0x545002 ≠ 0
        ∧ takes [(0x545002, 1)] 0x545001 [0] = true ∧ (up [(0x545002, 1)]).sluice < 2)
    ∧ (checkedB waits dbg 0x545001 [0] = true ∧ 2 ≤ waits.sluice)
    ∧ (waits.alive = true ∧ waits.net.barrier = some b ∧ waits.o 0x545002 = 2 ∧ waits.now < b.deadline ∧ b.deadline ≤ late.now)
    ∧ pulls.net.pullAt = some 8
    ∧ (acceptedB waits dbg 0x54500C [1] = true ∧ takes [] 0x54500C [1] = true ∧ (up []).net.barrier = none)
    ∧ (waits.o 0x540002 ≠ 0 ∧ waits.net.aborts.contains (5, 6) = false ∧ (up [(0x540002, 2)]).sluice < 2
        ∧ (up [(0x540002, 2)]).o 0x540002 ≠ 0 ∧ 1 ≠ waits.n 0x808002)
    ∧ copies.net.copies = some ⟨2, 8, []⟩ := by decide +kernel

theorem witness_lockstep :
    let e : LockEval := { sect := 4, due := 9, line := 256, pos := 0, pitch := 655360 }
    let at_ (ps : List Peer) : State := netUp [] { NetState.reset with eval := some e, peers := ps }
    ((at_ []).alive = true ∧ (at_ []).net.eval = some e ∧ (at_ []).localNumbering = false ∧ (at_ []).net.peers = [] ∧ 0 ≤ (at_ []).o 0x544003
        ∧ (at_ []).o 0x544006 = 0 ∧ (at_ []).o 0x544005 ≠ 1)
    ∧ ((netUp [(0x202801, 2)] { NetState.reset with eval := some e }).localNumbering = true)
    ∧ ((peerOf 1 255).sect = e.sect ∧ (peerOf 1 255).flags.testBit 0 = false ∧ (peerOf 1 255).line ≠ e.line
        ∧ (at_ [peerOf 1 255]).net.peers = [peerOf 1 255] ∧ (at_ [peerOf 1 255]).localNumbering = false)
    ∧ ((at_ [peerOf 1 255, peerOf 2 255]).net.peers = [peerOf 1 255, peerOf 2 255] ∧ (peerOf 1 255).line = (peerOf 2 255).line
        ∧ (peerOf 1 255).pitch = (peerOf 2 255).pitch)
    ∧ takes [] 0x544008 [1] = true := by decide +kernel

theorem witness_targetPort :
    let cmd (st : Nat) : State := { up [] with two := { TwoState.reset with twState := st } }
    let ptr := [(0x580002, 1)]
    let mapped := (up ptr).putBlob 0x581000 (0x20 :: 0x20 :: 2 :: 0 :: List.replicate 1020 0xFF)
    let block := List.replicate 12 0
    let checked := up [(0x580003, 1)]
    ((cmd 2).twtLive = true ∧ (cmd 2).o 0x580002 = 0 ∧ (cmd 2).o 0x580003 = 0 ∧ (cmd 2).two.twState = 2 ∧ (cmd 0).two.twState ≠ 2
        ∧ (cmd 0).two.twState ≠ 1 ∧ 12 ≤ block.length ∧ [1].length < 12)
    ∧ (checked.twtLive = true ∧ checked.o 0x580003 ≠ 0 ∧ checked.two.twState ≠ 1 ∧ checked.o 0x580002 = 0
        ∧ [crc8 ([checked.twtAddr, 7, block.length] ++ block)].head? = some (crc8 ([checked.twtAddr, 7, block.length] ++ block))
        ∧ ([] : List Nat).head? ≠ some (crc8 ([checked.twtAddr, 7, block.length] ++ block)))
    ∧ ((up ptr).twtLive = true ∧ (up ptr).o 0x580002 = 1 ∧ (up ptr).o 0x580003 = 0 ∧ 32 < (List.replicate 33 0).length
        ∧ block.length ≤ 32 ∧ (up ((0x580003, 1) :: ptr)).o 0x580003 ≠ 0 ∧ (up ptr).dbg.sup1 = false
        ∧ ({ up ptr with dbg := { (up ptr).dbg with sup1 := true } } : State).dbg.sup1 = true)
    ∧ (mapped.windowKey? (mapped.two.pointer / 256) = some 0x202002 ∧ mapped.gate 3 (readOf 0x202002) = true
        ∧ (mapped.opRead 0 (readOf 0x202002)).status = stOk ∧ mapped.twtLive = true ∧ mapped.o 0x580002 = 1)
    ∧ ({ mapped with two := { mapped.two with pointer := 256 } } : State).windowKey? (256 / 256) = none
    ∧ (let s := up [(0x152005, 4)]
       s.o 0x152005 = 4 ∧ s.pow.onStore = false ∧ s.alive = true) := by decide +kernel

/-- The controller port is on, in a state, with objects as listed. -/
def twcUp (st : Int) (l : List (Nat × Int)) (x : TwoState) : State :=
  { up ([(pdKey 11, 2), (0x584001, 1), (0x584005, st)] ++ l) with two := x }

theorem witness_controllerPort :
    let on (st : Int) (l : List (Nat × Int)) : List (Nat × Int) := [(pdKey 11, 2), (0x584001, 1), (0x584005, st)] ++ l
    let at_ (st : Int) (l : List (Nat × Int)) : State := twcUp st l TwoState.reset
    let k := jobKey 3 1
    let reads := (jobKey 3 4, 1)
    let len := (jobKey 3 8, 4)
    let cut : State := { up [(pdKey 11, 2)] with two := { TwoState.reset with interrupted := true } }
    (takes [(pdKey 11, 2)] 0x584001 [1] = true ∧ (up [(pdKey 11, 2)]).o 0x584001 = 0 ∧ (up [(pdKey 11, 2)]).pdOn 11 = true
        ∧ (up []).two.interrupted = false ∧ acceptedB cut dbg 0x584001 [1] = true ∧ cut.two.interrupted = true ∧ cut.pdOn 11 = true
        ∧ takes (on tcIdle []) 0x584001 [0] = true ∧ (at_ tcIdle []).o 0x584001 ≠ 0)
    ∧ ((at_ tcBusy []).twc = tcBusy ∧ (at_ tcBusy []).two.running = none)
    ∧ (takes [] k [1] = true ∧ (up []).jobReads 3 = false ∧ (up []).twc = tcOff ∧ takes [reads] k [1] = true ∧ (up [reads]).jobReads 3 = true
        ∧ (up [reads]).o (jobKey 3 8) = 0 ∧ (up [reads, len]).o (jobKey 3 8) ≠ 0)
    ∧ (∀ t ∈ ([0, 1, 2] : List Int), ∀ st ∈ ([jbIdle, jbWaiting] : List Int), let l := [(jobKey 3 5, t), (jobKey 3 2, st)]
        takes (on tcIdle l) k [1] = true ∧ (at_ tcIdle l).twc ≠ tcOff ∧ (at_ tcIdle l).twc ≠ tcFailed ∧ (at_ tcIdle l).job 3 = st
          ∧ (at_ tcIdle l).o (jobKey 3 5) = t)
    ∧ (∀ st ∈ ([jbRunning, jbReady, jbIdle] : List Int),
        takes (on tcIdle [(jobKey 3 2, st)]) k [2] = true ∧ (at_ tcIdle [(jobKey 3 2, st)]).job 3 = st)
    ∧ (∀ st ∈ ([jbWaiting, jbIdle, jbReady] : List Int), let s := twcUp tcIdle [(jobKey 3 2, st)] { TwoState.reset with nextT := [(3, 0)] }
       mapGet s.two.nextT 3 = some 0 ∧ 0 ≤ s.now ∧ s.job 3 = st)
    ∧ ((at_ tcIdle [(jobKey 3 2, jbReady)]).twc = tcIdle
        ∧ (List.range 16).find? (fun i => (at_ tcIdle [(jobKey 3 2, jbReady)]).job i = jbReady) = some 3) := by decide +kernel

theorem witness_controllerTransactions :
    let busy (x : TwoState) : State := twcUp tcBusy [(jobKey 3 2, jbRunning), (jobKey 3 4, 1)] { x with running := some 3 }
    let plain := busy TwoState.reset
    let tired := busy { TwoState.reset with nacks := 255, losses := [(3, 255)] }
    let ends := busy { TwoState.reset with cancel := true }
    let clears (n : Nat) : State := twcUp tcClearing [] { TwoState.reset with attempts := n }
    (plain.two.running = some 3 ∧ plain.twc = tcBusy ∧ plain.o (jobKey 3 4) ≠ 0 ∧ plain.two.nacks < plain.n 0x58400A
        ∧ (mapGet plain.two.losses 3).getD 0 + 1 ≤ plain.n 0x584004 ∧ plain.two.cancel = false)
    ∧ (tired.two.running = some 3 ∧ tired.n 0x58400A ≤ tired.two.nacks ∧ tired.n 0x584004 < (mapGet tired.two.losses 3).getD 0 + 1)
    ∧ (ends.two.running = some 3 ∧ (mapGet ends.two.losses 3).getD 0 + 1 ≤ ends.n 0x584004 ∧ ends.two.cancel = true)
    ∧ ((clears 0).twc = tcClearing ∧ (clears 2).two.attempts < 3 ∧ 3 ≤ (clears 3).two.attempts)
    ∧ (twcUp tcStuckWait [] TwoState.reset).twc = tcStuckWait
    ∧ (acceptedB (twcUp tcFailed [] TwoState.reset) dbg 0x584006 [1] = true ∧ (twcUp tcFailed [] TwoState.reset).twc = tcFailed
        ∧ takes [] 0x584006 [1] = true ∧ (up []).twc ≠ tcFailed ∧ (twcUp tcIdle [] TwoState.reset).twc = tcIdle) := by decide +kernel

/-! ### Witnesses: calibration sets, procedures and ageing -/

/-- The same device with another state of its calibration unit. -/
def calUp (l : List (Nat × Int)) (x : CalState) : State := { up l with cal := x }

/-- A store at a step. -/
def storing (step : Nat) : CalStore := { origin := 1, save := false, step, vals := [] }

theorem witness_setStores :
    let at_ (n : Nat) : State := calUp [] { CalState.reset with store := some (storing n) }
    let overSt : CalStore := { storing 2 with origin := 2 }
    takes [] 0x320001 [1] = true ∧ (up []).cal.store = none ∧ acceptedB (at_ 1) dbg 0x320001 [1] = true
    ∧ (at_ 1).cal.store.isSome = true ∧ (at_ 1).alive = true ∧ (at_ 1).storeSuspended = false
    ∧ (at_ 1).cal.store = some (storing 1) ∧ (storing 1).step = 1
    ∧ (at_ 2).cal.store = some (storing 2) ∧ (storing 2).step = 2 ∧ overSt.step = 2
    ∧ (calUp [] { CalState.reset with store := some overSt }).storeSuspended = false
    ∧ (at_ 3).cal.store = some (storing 3) ∧ (storing 3).step = 3 ∧ (at_ 3).otp.queue.any (·.origin = BurnOrigin.overwrite) = false
    ∧ (at_ 3).targetSlot < (at_ 3).cal.slots.length := by decide +kernel

theorem witness_procedures :
    let run (l : List (Nat × Int)) : State := up ([(pdKey 72, 2), (0x204002, rsRunning), (0x10100D, 1)] ++ l)
    let ready (s : State) : Bool := s.procSources.all (fun f => s.srcPresent f) && s.pdOn 72 && s.run == rsRunning && s.proc != prAccum
      && s.proc != prEval && s.proc != prApplying && s.n 0x328003 ≤ s.n 0x328004
    let at_ (p : Int) (v : Nat) : Bool := takes [(0x328012, p)] 0x328001 [v] && (up [(0x328012, p)]).proc == p
    let one := [(0x328012, prEval), (0x328002, 1), (0x328003, 0), (0x328004, 0)]
    let fails := calUp one { CalState.reset with missing := [0x0A], kind := 1 }
    (acceptedB (run []) dbg 0x328001 [1] = true ∧ ready (run []) = true ∧ (run []).o 0x243001 = 0
        ∧ acceptedB (run []) dbg 0x328001 [2] = true ∧ (run []).tmode ≠ 1 ∧ (run []).tmode ≠ 3)
    ∧ (acceptedB (run [(0x243001, 1)]) dbg 0x328001 [1] = true ∧ ready (run [(0x243001, 1)]) = true ∧ (run [(0x243001, 1)]).o 0x243001 ≠ 0)
    ∧ (acceptedB (run [(0x202801, 1)]) dbg 0x328001 [2] = true ∧ ready (run [(0x202801, 1)]) = true ∧ (run [(0x202801, 1)]).tmode = 1)
    ∧ (at_ prAccum 3 && at_ prEval 3 && at_ prPending 3 && at_ prIdle 3 && at_ prApplying 3 && at_ prPending 4 && at_ prIdle 4
        && at_ prPending 5 && at_ prIdle 5) = true
    ∧ (fails.alive = true ∧ fails.proc = prEval ∧ fails.procSources = [0x0A] ∧ fails.cal.missing = [0x0A]) := by decide +kernel

set_option maxRecDepth 200000 in
theorem witness_procedurePasses :
    let passes := calUp [(0x328012, prEval), (0x328002, 1), (fieldBase 0x0A + 6, 1), (fieldBase 0x0A + 7, 0)] { CalState.reset with kind := 1 }
    passes.alive = true ∧ passes.proc = prEval ∧ passes.procSources = [0x0A] ∧ passes.cal.missing = [] ∧ passes.cal.kind = 1
      ∧ (passes.evalDark 0x0A).reason = 0 := by decide +kernel

theorem witness_ageing :
    let ptat (l : List (Nat × Int)) : State := up ([(pdKey 79, 2), (0x10100E, 0xFFFFFF), (resultKey 27 4, 1), (resultKey 27 3, 500)] ++ l)
    let drift : State := ptat ((List.range 32).map fun n => (sensorKey n 1, 500))
    let invalid : State := ptat ((List.range 32).map fun n => (sensorKey n 3, 1))
    let replan := [(0x700008, 1)]
    let plan : State := (up replan).putBlob 0x325800 (List.replicate 1024 1)
    ((up []).alive = true ∧ (up []).pdOn 2 = true ∧ 0 ≤ (up []).o 0x700001 ∧ (up []).o 0x700001 < 2 ^ 32 - 1
        ∧ ((up []).o 0x700001 + 1) % 1000 ≠ 0)
    ∧ ((ptat []).pdOn 79 = true ∧ (ptat []).segPresent 23 = true
        ∧ ((ptat []).ageOne 23 100 100).o (ageKey 23 3) < (ptat []).planned 23 + 50)
    ∧ (invalid.latestResult 27 = some 500 ∧ invalid.validSensors = [])
    ∧ (drift.latestResult 27 = some 500 ∧ drift.validSensors ≠ [] ∧ (∀ g, g < 24 → drift.pdOn (16 + 2 * g) = false)
        ∧ (∀ n ∈ drift.validSensors, 400 ≤ drift.o (sensorKey n 1) ∧ drift.o (sensorKey n 1) ≤ 400 + 128)
        ∧ (∀ n ∈ drift.sensors, (clampI (-32768) 32767 (drift.o (sensorKey n 1) - 500) - drift.plannedDrift n).natAbs < 64))
    ∧ ((up [(0x700005, 8760)]).o 0x700008 ≠ 1 ∧ (up [(0x700005, 8760)]).n 0x700006 ≤ (up [(0x700005, 8760)]).n 0x700005)
    ∧ (takes replan 0x700007 [1] = true ∧ (up replan).o 0x700008 = 1 ∧ takes [] 0x700007 [1] = true ∧ (up []).o 0x700008 ≠ 1
        ∧ (taken (up []) dbg (writeOf 0x700007 [1])).pdOn 2 = true)
    ∧ 1024 ≤ (plan.blob 0x325800).length ∧ plan.o 0x700008 = 1 := by decide +kernel

/-! ### Witnesses: temperature and the monitor ADC -/

/-- The same device with another state of its thermal unit. -/
def thermUp (l : List (Nat × Int)) (x : ThermState) : State := { up l with therm := x }

/-- The same device with another state of its power path. -/
def powUp (l : List (Nat × Int)) (x : PowState) : State := { up l with pow := x }

theorem witness_temperature :
    let timer (l : List (Nat × Int)) : State := thermUp l { ThermState.reset with thrT := some 7 }
    let shut := [(0x102001, dsShutdown)]
    let cold := up [(0x600803, 7), (0x600801, -1000)]
    let t := cold.therm
    let next (s : State) (l : Level) (j : Nat) : Level :=
      l.next (s.o 0x600801) (64 * s.o (0x600000 + j)) (64 * (s.o (0x600000 + j) - s.o (0x600000 + j + 1)))
    let late : State := { timer [(0x600804, 1)] with now := 7 + 2200 * tickMs }
    ((up []).o 0x152005 ≠ 4)
    ∧ ((timer [(0x600804, 1)]).alive = true ∧ (timer [(0x600804, 1)]).therm.thrT = some 7 ∧ (timer [(0x600804, 1)]).n 0x600804 < 2
        ∧ (timer [(0x600804, 1)]).now < 7 + 2200 * tickMs ∧ (timer [(0x600804, 2)]).n 0x600804 = 2
        ∧ late.n 0x600804 < 2 ∧ late.therm.thrT = some 7 ∧ 7 + 2200 * tickMs ≤ late.now)
    ∧ ({ cold with therm := { t with shut := next cold t.shut 5 } }.levelOf 2 (next cold t.shut 5) = none)
    ∧ (let warm := thermUp [(0x600801, 10000)] { ThermState.reset with warn := ⟨3, 0⟩, thr := ⟨3, 0⟩ }
       warm.levelOf 0 (next warm warm.therm.warn 1) = some true ∧ warm.levelOf 1 (next warm warm.therm.thr 3) = some true
         ∧ warm.levelOf 2 (next warm warm.therm.shut 5) = none)
    ∧ (let s := thermUp [(0x600801, 10000)] { ThermState.reset with warn := ⟨3, 0⟩ }
       s.levelOf 0 (next s s.therm.warn 1) = some true ∧ s.levelOf 1 (next s s.therm.thr 3) = none
         ∧ s.levelOf 2 (next s s.therm.shut 5) = none)
    ∧ (let s := thermUp [(0x600801, -1000), (0x600803, 1)] { ThermState.reset with warn := ⟨0, 3⟩ }
       s.levelOf 0 (next s s.therm.warn 1) = some false ∧ s.levelOf 1 (next s s.therm.thr 3) = none)
    ∧ (takes [(0x600806, 2 ^ 31)] 0x60080E (leBytes 4 (2 ^ 31)) = true ∧ (31 ∈ (up []).sensors) ∧ (up [(0x600806, 2 ^ 31)]).bit 0x600806 31 = true)
    ∧ (takes shut 0x60080B [1] = true ∧ (up shut).o 0x102001 = dsShutdown ∧ (up shut).bit 0x600803 2 = false
        ∧ (up shut).sensorsShort = false ∧ takes [] 0x60080B [1] = true ∧ (up []).o 0x102001 ≠ dsShutdown
        ∧ takes ((0x600803, 4) :: shut) 0x60080B [1] = true ∧ (up ((0x600803, 4) :: shut)).bit 0x600803 2 = true) := by decide +kernel

theorem witness_monitorAdc :
    let at_ (st : Int) (v : Nat) : Bool := takes [(0x640001, st)] 0x640002 [v] && (up [(0x640001, st)]).adc == st
    let cal (b : Bool) := thermUp [(0x640001, adCalibrating)] { ThermState.reset with stopAfter := b }
    let slots := thermUp [(0x640001, adRunning)] { ThermState.reset with plan := [(31, 39, 0, 2), (0, 1, 0, 1)] }
    (([adStopped, adRunning, adStopping, adPendingOn, adCalibrating].all fun st => at_ st 1 && at_ st 2 && at_ st 3) = true
        ∧ (up []).therm.calPend = false)
    ∧ (∀ b, (cal b).alive = true ∧ (cal b).adc = adCalibrating ∧ (cal b).therm.stopAfter = b)
    ∧ (slots.adc = adRunning ∧ slots.therm.plan = (31, 39, 0, 2) :: [(0, 1, 0, 1)] ∧ [65535, 0].length = 2
        ∧ (slots.adcSlot = some (31, 39, 0, 2)) ∧ ∀ c ∈ [65535, 0], c < 65536)
    ∧ takes [(windowKey 23 6, 3)] (windowKey 23 7) (leBytes 4 3) = true := by decide +kernel

/-! ### Witnesses: domains, rails and the charger -/

set_option maxRecDepth 200000 in
theorem witness_domains :
    let starting := up [(pdKey 79, pdStarting), (domKey 79 1, 1), (domKey 79 3, 2), (pdKey 76, 2)]
    let input := up [(pdKey 14, pdStarting), (domKey 14 1, 1), (domKey 14 3, 2)]
    let rail := [(0x148001, 0xFF), (0x148002, 1)]
    (takes [] (domKey 79 1) [1] = true ∧ takes [] (domKey 79 1) [0] = true ∧ (up []).domainAbsent 79 = false
        ∧ isDeviceDomain 79 = false ∧ (up []).o 0x102001 ≠ dsHoldup ∧ (up []).o 0x102001 ≠ dsShutdown ∧ (up []).railAllows 79 = true)
    ∧ (takes [] (domKey 13 1) [0] = true ∧ (up []).o 0x150001 = 0 ∧ (up []).domainAbsent 13 = false ∧ isDeviceDomain 13 = false
        ∧ takes [] (domKey 73 1) [0] = true ∧ (up []).o 0x2C1001 = 0 ∧ (up []).domainAbsent 73 = false)
    ∧ (takes [] (domKey 1 1) [0] = true ∧ isDeviceDomain 1 = true ∧ (up []).domainAbsent 1 = false)
    ∧ (checkedB (up []) dbg (domKey 0 1) [1] = true ∧ takes [] (domKey 0 1) [1] = true ∧ isDeviceDomain 0 = true
        ∧ (up []).domainAbsent 0 = false)
    ∧ (starting.pd 79 = pdStarting ∧ (∀ m ∈ starting.requires 79, starting.pdOn m = true)
        ∧ ((starting.put (domKey 79 2) pdOnState).unitReset 79).settleDomains.pdOn 79 = true)
    ∧ (input.pd 14 = pdStarting ∧ (∀ m ∈ input.requires 14, input.pdOn m = true)
        ∧ ((input.put (domKey 14 2) pdOnState).unitReset 14).settleDomains.pdOn 14 = true)
    ∧ ((up [(pdKey 2, pdStarting)]).pd 2 = pdStarting ∧ (up [(pdKey 2, pdStarting)]).boot.step ≠ 2
        ∧ (up [(pdKey 2, pdStarting)]).boot.step ≠ 3)
    ∧ ((up [(pdKey 79, pdStopping)]).pd 79 = pdStopping ∧ (up [(pdKey 79, pdPendingOn)]).pd 79 = pdPendingOn)
    ∧ ((up []).o 0x152005 = 0 ∧ (∀ r ∈ List.range 8, (up []).bit 0x148001 r = true))
    ∧ takes rail 0x148003 (leBytes 4 1) = true := by decide +kernel

theorem witness_charger :
    let cur := [(0x151001, chCurrent), (0x150001, 1), (0x150002, 1)]
    let drawn (ma : Int) : State := up ((0x152003, 1) :: (resultKey 31 4, 1) :: (resultKey 31 3, ma) :: cur)
    let steps := powUp cur { PowState.reset with chgSteps := 999 }
    let late := powUp cur { PowState.reset with chgTimer := 8 * 3600000000 }
    let volt := up [(0x151001, chVoltage), (0x150001, 2), (0x151003, 9), (0x150003, 91)]
    let cond := powUp [(pdKey 13, 2)] { PowState.reset with chgConds := 20 }
    let pre : State := { up [(0x151001, chPre), (0x150001, 2), (pdKey 13, 2)] with now := 1800 * tickS }
    let slow : State := { up ((pdKey 13, 2) :: cur) with now := 60 * tickS }
    let may := (pdKey 12, 2) :: (pdKey 13, 2) :: cur
    let full (st : Int) := up [(0x151001, st), (0x150001, 2), (0x151002, 100), (0x150008, 200)]
    ((up cur).alive = true ∧ (up cur).charging = true ∧ (up cur).pow.chgSteps ≠ 999 ∧ steps.charging = true ∧ steps.pow.chgSteps = 999)
    ∧ ((drawn 999).latestResult 31 = some 999 ∧ (drawn 1000).latestResult 31 = some 1000 ∧ (drawn 1001).latestResult 31 = some 1001
        ∧ (drawn 999).o 0x152003 * 1000 = 1000)
    ∧ (late.charging = true ∧ late.n 0x150007 * 3600000000 ≤ late.pow.chgTimer)
    ∧ (volt.charger = chVoltage ∧ volt.liIon = true ∧ 10 * volt.o 0x151003 < volt.o 0x150003)
    ∧ (cond.pow.chgConds.testBit 2 = true ∧ cond.pow.chgConds.testBit 4 = true ∧ cond.pdOn 13 = true)
    ∧ (pre.liIon = true ∧ pre.charger = chPre ∧ pre.pow.chgT + 1800 * tickS ≤ pre.now ∧ pre.pdOn 13 = true)
    ∧ (slow.liIon = false ∧ slow.charging = true ∧ slow.o 0x151002 < 500 ∧ slow.pow.chgT + 60 * tickS ≤ slow.now ∧ slow.pdOn 13 = true)
    ∧ (servedB (up []) dbg (readOf 0x151008) = true ∧ (up []).keyAbsent 0x151008 = false)
    ∧ (takes [] 0x15100A [1] = true ∧ (up []).pow.chgConds &&& 0x16 = 0 ∧ (up []).chargeAllowed = false
        ∧ takes may 0x15100A [1] = true ∧ (up may).chargeAllowed = true ∧ acceptedB cond dbg 0x15100A [1] = true
        ∧ cond.pow.chgConds &&& 0x16 ≠ 0)
    ∧ ((full chFull).charger = chFull ∧ (full chFull).o 0x150001 ≠ 0 ∧ (full chFull).o 0x151002 < (full chFull).o 0x150008
        ∧ (full chOff).charger = chOff ∧ (full chOff).o 0x150001 ≠ 0 ∧ (full chOff).o 0x151002 < (full chOff).o 0x150008) := by
  decide +kernel

/-! ### Witnesses: the power path, resets and start-up -/

/-- A device with an open session of every scope and a state of its debug port. -/
def dbgUp (l : List (Nat × Int)) (f : DebugState → DebugState) : State := let s := up l; { s with dbg := f s.dbg }

/-- A device at a step of start-up, with its fuses. -/
def bootUp (step : Nat) (l : List (Nat × Int)) (fuses : List Fuse) : State :=
  let s := up l
  { s with boot := { s.boot with step }, otp := { s.otp with fuses } }

/-- A fuse word read alike at every margin. -/
def fuseAt (word v : Nat) : Fuse := { word, hi := v, lo := v }

/-- Blank regions that are sealed. -/
def sealedArray : List Fuse :=
  (List.range 8).flatMap fun r =>
    [fuseAt (64 * r + 62) (if (dataWords r).isEmpty then 0 else crc32c (List.replicate (4 * (dataWords r).length) 0)), fuseAt (64 * r + 63) 1]

theorem witness_powerPath :
    let store (n : Int) := [(0x150001, 2), (pdKey 13, 2), (0x152005, n)]
    let path (n : Int) (t : Option Nat) : State := powUp [(0x152005, n)] { PowState.reset with goodT := t }
    let back := powUp [(0x152005, 2)] { PowState.reset with returnDue := true }
    let by_ := powUp [(0x152005, 4)] { PowState.reset with onStore := true }
    let held := calUp [] { CalState.reset with store := some (storing 1) }
    ((up (store 0)).alive = true ∧ (up (store 0)).o 0x152005 = 0 ∧ (up (store 0)).o 0x150001 ≠ 0 ∧ (up (store 0)).pdOn 13 = true
        ∧ (up (store 0)).n 0x15000D ≤ 60000 ∧ (up []).o 0x150001 = 0)
    ∧ ((up (store 3)).o 0x152005 = 3 ∧ (up (store 3)).pdOn 2 = true ∧ (up (store 4)).o 0x152005 = 4 ∧ (up (store 2)).o 0x152005 = 2
        ∧ (up ((pdKey 2, 0) :: store 3)).o 0x152005 = 3)
    ∧ ((path 1 (some 5)).o 0x152005 = 1 ∧ (path 1 (some 5)).pow.goodT = some 5 ∧ (path 2 (some 5)).o 0x152005 = 2
        ∧ (path 4 (some 5)).o 0x152005 = 4 ∧ (path 4 (some 5)).pow.goodT = some 5 ∧ (path 3 (some 5)).o 0x152005 = 3
        ∧ (path 3 none).pow.goodT = none)
    ∧ (back.o 0x152005 = 2 ∧ back.pow.returnDue = true)
    ∧ (by_.o 0x152005 = 4 ∧ by_.pow.onStore = true ∧ (path 4 none).pow.onStore = false)
    ∧ (takes [] 0x140005 [1] = true ∧ (up []).run = rsIdle ∧ (∀ p < 4, (up []).txnOpen p = false) ∧ (up []).cal.store = none)
    ∧ (takes [(0x204002, rsRunning)] 0x140005 [1] = true ∧ (up [(0x204002, rsRunning)]).run ≠ rsIdle
        ∧ takes [(0x152005, 3)] 0x140005 [1] = true ∧ takes [(txnKey 3 1, 1)] 0x140005 [1] = true
        ∧ (up [(txnKey 3 1, 1)]).txnOpen 3 = true ∧ acceptedB held dbg 0x140005 [1] = true ∧ held.cal.store ≠ none) := by
  decide +kernel

theorem witness_resets :
    let at_ (n : Nat) : State := bootUp n [] []
    let by_ (b : Bool) := powUp [(0x152005, 4)] { PowState.reset with onStore := b }
    let alone : State := dbgUp [] fun d => { d with sup1 := true }
    (2 ≤ (up []).boot.step ∧ (up []).o 0x152005 = 0 ∧ (up [(0x152005, 2)]).o 0x152005 = 2 ∧ (up [(0x152005, 3)]).o 0x152005 = 3
        ∧ takes [] 0x102004 [1] = true ∧ (at_ 1).boot.step ≤ 1 ∧ ∀ b, (by_ b).o 0x152005 = 4 ∧ (by_ b).pow.onStore = b)
    ∧ ({ up [] with resp := some { port := 0, status := stOk, txn := 0, arg := 0, data := [] } } : State).resp.map (·.status) = some stOk
    ∧ ((up []).boot.step = 4 ∧ (up []).pdOn 2 = true ∧ (up []).dbg.sup1 = false ∧ (up []).o 0x152005 ≠ 1 ∧ alone.dbg.sup1 = true
        ∧ alone.boot.step = 4 ∧ (up [(pdKey 2, 0)]).pdOn 2 = false)
    ∧ ((at_ 2).alive = true ∧ (at_ 2).boot.step = 2 ∧ (at_ 3).boot.step = 3 ∧ (at_ 1).boot.step = 1
        ∧ ∀ slot, slot < 2 → (at_ 2).fwCause false slot ≠ 0 ∧ (at_ 2).fwCause true slot ≠ 0) := by
  decide +kernel

theorem witness_integrityCheck :
    let y (fuses : List Fuse) : State :=
      let s := bootUp 1 [] fuses
      (List.range 8).foldl State.judgeRegion ((s.atTick (s.boot.resetT + 480000)).readArray [])
    (y []).integrityCauses true = [0x20, 0x21, 0x22, 0x23, 0x24, 0x25, 0x26]
    ∧ (y sealedArray).integrityCauses true = [] ∧ (y sealedArray).identityLoad.showFuses.o 0x680008 ≠ rgFailed
    ∧ (let bad := fuseAt 448 1 :: sealedArray
       (y bad).integrityCauses true = [] ∧ (y bad).identityLoad.showFuses.o 0x680008 = rgFailed) := by decide +kernel

/-! ### Witnesses: fuses and firmware -/

theorem witness_fuses :
    let reading (l : List (Nat × Int)) : State := { up l with otp := { OtpState.reset with reading := some (448, 1) } }
    let burning (f : Bool) : State :=
      { up [(0x600801, -64)] with otp := { OtpState.reset with queue := [⟨448, 3, 0, .program⟩], finishing := f } }
    let queue (p : Nat) (o : BurnOrigin) : State := { up [] with otp := { OtpState.reset with queue := [⟨448, 3, p, o⟩] } }
    let again (h : Option Nat) (hours : Int) : State :=
      let s := bootUp 4 [(0x700001, hours)] []
      { s with otp := { s.otp with reburn := [(448, 3)], reburnH := h } }
    (takes [] 0x680803 [1] = true ∧ (up []).otp.reading = none ∧ acceptedB (reading []) dbg 0x680803 [1] = true
        ∧ (reading []).otp.reading.isSome = true)
    ∧ ((reading []).alive = true ∧ (reading []).otp.reading = some (448, 1) ∧ (reading []).o 0x68000D = 0
        ∧ (reading [(0x68000D, 1)]).o 0x68000D ≠ 0 ∧ (reading [(0x68000D, 1)]).mayProgram = true
        ∧ (reading [(0x68000D, 1), (0x600801, -64)]).mayProgram = false)
    ∧ (∀ o ∈ [BurnOrigin.program, BurnOrigin.unlock], (queue 0 o).otp.queue = ⟨448, 3, 0, o⟩ :: [] ∧ (queue 2 o).otp.queue = ⟨448, 3, 2, o⟩ :: []
        ∧ (queue 0 o).mayProgram = true)
    ∧ (∀ f, (burning f).mayProgram = false ∧ (burning f).otp.finishing = f)
    ∧ ((again none 0).boot.step = 4 ∧ (again none 0).mayProgram = true ∧ (again none 0).otp.reburnH = none ∧ (again none 0).otp.reburn ≠ []
        ∧ (again (some 10) 34).otp.reburnH = some 10 ∧ 10 + 24 ≤ (again (some 10) 34).n 0x700001 ∧ (again (some 10) 33).n 0x700001 < 10 + 24
        ∧ (up []).otp.reburn = [])
    ∧ takes [(0x68000C, 1)] 0x68000C (leBytes 4 129) = true
    ∧ (let above := [(0x681002, 2)]
       takes [] 0x681003 [1] = true ∧ (up []).n 0x681002 ≤ (up []).counter .security ∧ takes above 0x681003 [1] = true
         ∧ (up above).counter .security < (up above).n 0x681002 ∧ (up above).mayProgram = true
         ∧ takes ((0x600801, -64) :: above) 0x681003 [1] = true ∧ (up ((0x600801, -64) :: above)).mayProgram = false) := by decide +kernel

theorem witness_region7 :
    let word := [(0x683001, 61), (0x683002, 5)]
    let held := (0x68000C, 128)
    let hot := (0x600801, -64)
    let at_ (l : List (Nat × Int)) (fuses : List Fuse) (v : Nat) : Bool := acceptedB (bootUp 4 l fuses) dbg 0x683003 [v]
    let free (l : List (Nat × Int)) (fuses : List Fuse) : Bool :=
      (List.range 32).all fun b => !(bootUp 4 l fuses).fuseLo (448 + 61) b || (bootUp 4 l fuses).bit 0x683002 b
    let blows (l : List (Nat × Int)) (fuses : List Fuse) : List Nat :=
      (List.range 32).filter fun b => (bootUp 4 l fuses).bit 0x683002 b && !(bootUp 4 l fuses).fuseHi (448 + 61) b
    let checks (fuses : List Fuse) : List Nat := (List.range 32).filter ((bootUp 4 [] fuses).regionCheck 7 Fuse.hi).testBit
    let done := [fuseAt 509 5]
    let open_ := sealedArray.filter (·.word ≠ 511)
    (at_ word [fuseAt 509 2] 1 = true ∧ (bootUp 4 word [fuseAt 509 2]).fuseLo (448 + 61) 1 = true
        ∧ (bootUp 4 word [fuseAt 509 2]).bit 0x683002 1 = false)
    ∧ (at_ (held :: word) [] 1 = true ∧ free (held :: word) [] = true ∧ (bootUp 4 (held :: word) []).bit 0x68000C 7 = true)
    ∧ (at_ (hot :: word) [] 1 = true ∧ free (hot :: word) [] = true ∧ (bootUp 4 (hot :: word) []).bit 0x68000C 7 = false
        ∧ (bootUp 4 (hot :: word) []).mayProgram = false)
    ∧ (at_ word done 1 = true ∧ free word done = true ∧ blows word done = [] ∧ at_ word [] 1 = true ∧ free word [] = true
        ∧ blows word [] = [0, 2] ∧ (bootUp 4 word []).mayProgram = true)
    ∧ (at_ [] [fuseAt 510 1] 2 = true ∧ ((bootUp 4 [] [fuseAt 510 1]).fuse 510).lo ≠ 0 ∧ at_ [held] [] 2 = true
        ∧ ((bootUp 4 [held] []).fuse 510).lo = 0 ∧ at_ [hot] [] 2 = true ∧ at_ [] [] 2 = true ∧ checks [] ≠ []
        ∧ at_ [] [fuseAt 509 0x887daa66] 2 = true ∧ checks [fuseAt 509 0x887daa66] = [])
    ∧ (at_ [] [fuseAt 448 1] 3 = true ∧ (bootUp 4 [] [fuseAt 448 1]).regionVerifies 7 Fuse.hi = false
        ∧ at_ [held] open_ 3 = true ∧ (bootUp 4 [held] open_).regionVerifies 7 Fuse.hi = true
        ∧ at_ [hot] open_ 3 = true ∧ (bootUp 4 [hot] open_).regionVerifies 7 Fuse.hi = true
        ∧ at_ [] open_ 3 = true ∧ (bootUp 4 [] open_).regionVerifies 7 Fuse.hi = true ∧ (bootUp 4 [] open_).fuseHi 511 0 = false
        ∧ at_ [] sealedArray 3 = true ∧ (bootUp 4 [] sealedArray).regionVerifies 7 Fuse.hi = true
        ∧ (bootUp 4 [] sealedArray).bit 0x68000C 7 = false ∧ (bootUp 4 [] sealedArray).fuseHi 511 0 = true) := by decide +kernel

theorem witness_firmware :
    let at_ (n : Int) : List (Nat × Int) := [(0x684004, n), (0x684001, 256)]
    let end_ := [(0x684001, 4194304 - 256)]
    takes (at_ 0) 0x684003 [1] = true ∧ (up (at_ 0)).o 0x684004 = 0 ∧ takes (at_ 1) 0x684003 [1] = true ∧ takes (at_ 0) 0x684003 [2] = true
    ∧ takes (at_ 1) 0x684003 [2] = true ∧ (up (at_ 1)).o 0x684004 = 1
    ∧ takes (at_ 0) 0x684002 [0, 255] = true ∧ (up (at_ 0)).n 0x684001 + 2 ≤ 4194304 ∧ takes (at_ 2) 0x684002 [1] = true
    ∧ takes end_ 0x684002 (List.replicate 257 0) = true ∧ 4194304 < (up end_).n 0x684001 + (List.replicate 257 0).length
    ∧ (up (at_ 2)).o 0x684004 = 2 ∧ (up (at_ 3)).o 0x684004 = 3 := by decide +kernel

/-! ### Witnesses: the debug port and the block as a whole -/

/-- A part whose region 6 is sealed with DEBUG_OPEN 0, without a session. -/
def closedUp : State := up [(0x680007, rgSealed), (0x682003, 0), (0x682001, 0)]

theorem witness_tap :
    let nonce := List.replicate 20 1
    let hold := bootUp 5 [] []
    let soon := { up [] with now := 0, dbg := { DebugState.reset with delayEnd := 9 } }
    let asked (fuses : List Fuse) : State :=
      let s := bootUp 4 [] fuses
      { s with dbg := { DebugState.reset with challenge := some nonce } }
    let full := (List.range (counterSpan .unlock).2).map fun i => fuseAt ((counterSpan .unlock).1 + i) 0xFFFFFFFF
    ((up []).boot.step ≠ 0 ∧ (up []).boot.step ≠ 5 ∧ hold.boot.step = 5 ∧ nonce.length = 20 ∧ (up []).dbg.delayEnd ≤ (up []).now
        ∧ soon.now < soon.dbg.delayEnd ∧ (up []).dbg.challenge = none)
    ∧ ((asked []).dbg.delayEnd ≤ (asked []).now ∧ (asked []).dbg.challenge = some nonce ∧ (asked []).counter .unlock < 256
        ∧ 256 ≤ (asked full).counter .unlock ∧ (asked full).dbg.challenge = some nonce)
    ∧ (dbgUp [] fun d => { d with opening := some 15 }).dbg.opening = some 15
    ∧ ((up []).alive = true ∧ (up []).n 0x682006 = 0 ∧ (up [(0x682006, 1)]).alive = true ∧ (up [(0x682006, 1)]).n 0x682006 ≠ 0) := by
  decide +kernel

theorem witness_debugOperations :
    let at_ (a : Nat) : State := dbgUp [] fun d => { d with addr := a, mem := [(0xFFFFF, 7)] }
    let eng (st pc : Nat) : State :=
      { up [(pdKey 17, 2)] with eng := { EngState.reset with engs := [(0, { Engine.reset with st, pc, resume := pc })] } }
    let out : State := { up [] with eng := { EngState.reset with engs := [(0, { Engine.reset with st := esBreak })] } }
    let low (scope : Int) : State := up [(0x682003, scope)]
    let open_ := up [(0x682003, 0), (0x682001, 0)]
    (closedUp.session = false ∧ closedUp.openPart = false ∧ closedUp.boot.step ≠ 0 ∧ open_.session = false ∧ open_.openPart = true
        ∧ open_.boot.step ≠ 1 ∧ open_.boot.step ≠ 5 ∧ (bootUp 1 [(0x682003, 0), (0x682001, 0)] []).session = false
        ∧ (bootUp 1 [(0x682003, 0), (0x682001, 0)] []).openPart = true)
    ∧ ((at_ 0x2003FFFFC).session = true ∧ (at_ 0x2003FFFFC).bit 0x682003 3 = true
        ∧ mapGet (at_ 0x2003FFFFC).dbg.mem (((at_ 0x2003FFFFC).dbg.addr - 0x200000000) / 4) = some 7
        ∧ (at_ 0xFFFFFF).dbg.addr < 0x1000000 ∧ (at_ 0x103FFFFFF).dbg.addr < 0x104000000 ∧ 0x300300000 ≤ (at_ 0x300300000).dbg.addr)
    ∧ ((low 1).session = true ∧ (low 1).bit 0x682003 3 = false)
    ∧ ((up []).bit 0x682003 1 = true ∧ (up []).engPresent 0 = true ∧ (eng esExecuting 10).takesPart 0 = true
        ∧ ((eng esExecuting 10).engine 0).st = esExecuting ∧ ((eng esWaiting 10).engine 0).st = esWaiting
        ∧ (eng esWaiting 10).takesPart 0 = true ∧ ((eng esWaiting 10).engine 0).resume = ((eng esWaiting 10).engine 0).pc
        ∧ 0 < ((eng esWaiting 10).engine 0).pc ∧ ((eng esBreak 10).engine 0).st = esBreak
        ∧ out.takesPart 0 = false ∧ (out.engine 0).st = esBreak)
    ∧ ((up []).bit 0x682003 2 = true ∧ (up []).dbg.sup1 = false ∧ (dbgUp [] fun d => { d with sup1 := true }).dbg.sup1 = true)
    ∧ ((up []).bit 0x682003 0 = true ∧ (leBytes 8 (2 ^ 16)).length < putLength (leBytes 8 (2 ^ 16))
        ∧ putLength (leBytes 8 0 ++ leBytes 8 0) ≤ 16)
    ∧ (takes [] 0x682004 [1] = true ∧ (taken (up []) dbg (writeOf 0x682004 [1])).session = true) := by decide +kernel

/-- A device in an integrity hold, with commands that wait. -/
def holdUp (l : List Instr) : State :=
  { State.reset with boot := { State.reset.boot with step := 5 }, pending := l }

theorem witness_integrityHold : ∀ l ∈ [[], [.idcode, .hoursRecord], [.hoursRecord]],
    integrityHold (holdUp l) ∧ (holdUp l).session = false ∧ (holdUp l).dict.waiting = [] ∧ (∀ c ∈ l, isColdReset c = false)
    ∧ isTap .hoursRecord = false := by
  intro l h
  refine ⟨rfl, rfl, rfl, ?_, rfl⟩
  revert l
  decide

theorem witness_block :
    let full : State := { up [] with dict := { DictState.reset with log := List.replicate 1024 ⟨0, 0x101, 0, 0, 0, 0, 0⟩ } }
    ((up []).push .hoursRecord).pending = [.hoursRecord] ∧ ((up []).pending = [] ∧ (up []).boot.step ≠ 0 ∧ (up []).o 0x152005 ≠ 4)
    ∧ ((bootUp 0 [] []).pending = [] ∧ (bootUp 0 [] []).boot.step = 0 ∧ (up [(0x152005, 4)]).o 0x152005 = 4)
    ∧ (GOp.encodable (.branch .eq 3 4 1024) = true ∧ memoriesOk (up []) = true)
    ∧ (full.pdOn 2 = true ∧ ¬ full.dict.log.length < 1024 ∧ full.dict.log.length ≤ 1024 ∧ full.o 0x503103 = 0
        ∧ State.reset.pdOn 2 = false ∧ State.reset.boot.step ≠ 3 ∧ State.reset.boot.held.length < 16) := by decide +kernel

/-! ### Words of the Grixis engines, from the encoding tables of R214 to R229 -/

/-- A word from its fields: opcode [31:26], rd [25:21], ra [20:16], rb [15:11] and the low bits [10:0] (R214). -/
def word (opcode rd ra rb low : Nat) : Word := BitVec.ofNat 32 (opcode * 2 ^ 26 + rd * 2 ^ 21 + ra * 2 ^ 16 + rb * 2 ^ 11 + low)

theorem test_decode_scalar :
    decodeWord (word 0 3 4 5 0x10) = some (.alu .mulhu 3 4 5) ∧ decodeWord (word 1 3 4 0 0x7FF) = some (.imm .add 3 4 0x7FF)
    ∧ decodeWord (word 9 3 4 0 31) = some (.shift .sra 3 4 31) ∧ decodeWord (word 0x0A 3 0x1F 0x1F 0x7FF) = some (.lui 3 0x1FFFFF)
    ∧ decodeWord (word 0x13 0 4 5 0x400) = some (.branch .ge 4 5 0x400) ∧ decodeWord (word 0x16 15 0x10 0 0) = some (.jal 15 0x100000)
    ∧ decodeWord (word 0x17 1 2 0 3) = some (.jalr 1 2 3) ∧ decodeWord (word 0x18 0 7 0 9) = some (.loop 7 9)
    ∧ decodeWord (word 0x19 0x1F 0x1E 0 9) = some (.loopi 1022 9) := by decide

theorem test_decode_memory :
    decodeWord (word 0x24 3 4 0 1) = some (.load .bu 3 4 1) ∧ decodeWord (word 0x26 0 4 5 0x400) = some (.store .h 5 4 0x400)
    ∧ decodeWord (word 0x28 31 4 0 2) = some (.vld 31 4 2) ∧ decodeWord (word 0x29 0 4 31 2) = some (.vst 31 4 2) := by decide

theorem test_decode_vector :
    decodeWord (word 0x2C 31 30 29 0x70F) = some (.valu .andn 31 30 (.vec 29) 7)
    ∧ decodeWord (word 0x2D 1 2 15 0x316) = some (.valu .sel 1 2 (.scalar 15) 3)
    ∧ decodeWord (word 0x2F 0x07 2 15 0x109) = some (.vcmp .ge 7 2 (.scalar 15) 1)
    ∧ decodeWord (word 0x38 7 6 5 3) = some (.pred .andn 7 6 5) ∧ decodeWord (word 0x38 9 6 0 8) = some (.pfirst 9 6)
    ∧ decodeWord (word 0x31 3 20 21 0x506) = some (.mac .mulsu 3 20 (.vec 21) 5)
    ∧ decodeWord (word 0x33 20 3 31 0x202) = some (.vrnd true 20 3 31 2)
    ∧ decodeWord (word 0x30 20 3 0 (0x400 + 0xC * 64 + 0x10)) = some (.wld 20 3 true 0xC 0x10)
    ∧ decodeWord (word 0x34 9 2 0 0x106) = some (.vrsuma 9 2 1) ∧ decodeWord (word 0x35 8 9 10 0x1F1) = some (.vslide 8 9 10 15 1)
    ∧ decodeWord (word 0x36 8 5 0x1F 0x7FF) = some (.vsplati 8 0xFFFF 5) := by decide

theorem test_decode_output_and_system :
    decodeWord (word 0x3C 8 9 1 0x200) = some (.vput 8 9 true 2) ∧ decodeWord (word 0x3C 8 9 10 1) = some (.cemit 8 9 10)
    ∧ decodeWord (word 0x3F 0 0 0 1) = some .waitline ∧ decodeWord (word 0x3F 3 5 0 8) = some (.mfs 3 5)
    ∧ decodeWord (word 0x3F 0 3 0 9) = some (.mts 0 3) := by decide

/-- R212, R214, R221, R224: fields that are not zero, registers above 15, codes that are not listed. -/
theorem test_illegal_words :
    decodeWord (word 0 3 4 5 0x11) = none ∧ decodeWord (word 0 3 4 5 0x40) = none ∧ decodeWord (word 1 16 4 0 0) = none
    ∧ decodeWord (word 7 3 4 0 32) = none ∧ decodeWord (word 0x0B 0 0 0 0) = none ∧ decodeWord (word 0x2E 1 2 3 0x0A) = none
    ∧ decodeWord (word 0x30 1 2 0 (5 * 64)) = none ∧ decodeWord (word 0x3F 1 0 0 0) = none := by decide

/-! ### Terms that are not well formed, one for each check -/

theorem test_ill_formed :
    (Instr.runStart { dbg with src := 2 ^ 48 }).wellFormed = false ∧ (Instr.runStart { dbg with seq := 2 ^ 16 }).wellFormed = false
    ∧ (Instr.windowReady 0 (2 ^ 64) []).wellFormed = false ∧ (Instr.bar2Write 0 [256] 0).wellFormed = false
    ∧ (Instr.bar2Read ⟨2 ^ 32, 0⟩).wellFormed = false ∧ (Instr.adcSlotComplete [65536]).wellFormed = false
    ∧ (Instr.twtStateRead (2 ^ 16)).wellFormed = false ∧ (Instr.doorbell (2 ^ 12) 0).wellFormed = false
    ∧ (Instr.armUserEntry dbg 0 256).wellFormed = false ∧ (Instr.write dbg (2 ^ 16) 0 0 []).wellFormed = false
    ∧ (Instr.write dbg 0xFFFF 0xFF 0 [255]).wellFormed = true := by decide

theorem test_no_word_of_the_table : decodeTableWord 32 0 = none ∧ (State.reset.withFetchWord 32 0).pending = [] := by decide

/-! ### Single steps -/

/-- R215: MULH of -1 and -1 is 0; MULHU of the same words is 0xFFFF_FFFE. -/
theorem test_multiply_high :
    AluOp.mulh.eval 0xFFFFFFFF 0xFFFFFFFF = 0 ∧ AluOp.mulhu.eval 0xFFFFFFFF 0xFFFFFFFF = 0xFFFFFFFE := by decide

/-- The published check value of CRC-32C over the digits 1 to 9 (log entry 12). -/
theorem test_crc32c : crc32c [0x31, 0x32, 0x33, 0x34, 0x35, 0x36, 0x37, 0x38, 0x39] = 0xE3069283 := by decide +kernel

/-- The state after one step that takes a command. -/
def after (s : State) (c : Instr) : Option State :=
  match step (s.push c) with
  | .next t => some t
  | _ => none

/-- R215: ADD wraps, its destination being one of its sources; control passes to the next word. -/
theorem test_add_wraps :
    (after (engUp [(3, 0xFFFFFFFF), (4, 2)] Engine.reset) (.add_ 0 3 3 4)).map (fun t => (reg0 t 3, reg0 t 4, (t.engine 0).pc))
      = some (1, 2, 11) := by decide +kernel

/-- R211: a write of s0 is discarded. -/
theorem test_s0_reads_zero :
    (after (engUp [(4, 2)] Engine.reset) (.addi 0 0 4 5)).map (fun t => (reg0 t 0, (t.engine 0).pc)) = some (0, 11) := by decide +kernel

/-- R217: a taken branch back from word 10. -/
theorem test_branch_back : (after (engUp [] Engine.reset) (.beq 0 0 0 0x7FE)).map (fun t => (t.engine 0).pc) = some 9 := by decide +kernel

/-- R219: a store at the protected block raises an exception and stores nothing. -/
theorem test_protected_store :
    (after (engUp [(3, 0x1FF00), (4, 7)] Engine.reset) (.sw 0 4 3 0)).map (fun t => (decide ((t.engine 0).st = esExecuting), (t.engine 0).dmem.length))
      = some (false, 0) := by decide +kernel

/-- With nothing in the queue a tick passes (log entry 1). -/
theorem test_idle_step : step (up []) = .next (up []).idleTick ∧ (up []).idleTick.now = 1 := ⟨rfl, rfl⟩

end Sys2Proof.Tests
end

section
/-!
The block as a whole (R15): the frame that every command acts in, and what one step does.
-/
namespace Sys2Proof.Machine
open Sys2Proof.Safety

/-! ### The frame of a command -/

/-- A command takes effect while the device runs. -/
theorem State.act_settles (s : State) (f : State → State) : ∃ t, s.act f = .next (s.settle t) := ⟨_, rfl⟩

/-- A command of the TAP takes effect while the device has power. -/
theorem State.actTap_settles (s : State) (f : State → State) : ∃ t, s.actTap f = .next (s.settle t) := ⟨_, rfl⟩

/-- Every command but the cold reset acts in a frame: a TAP command in the TAP's, any other in the common one. -/
theorem exec_framed (c : Instr) (h : isColdReset c = false) :
    ∃ f : State → State, ∀ s : State, exec c s = bif isTap c then s.actTap f else s.act f := by
  cases c with
  | coldReset straps => cases h
  | _ => exact ⟨_, fun _ => rfl⟩

/-- A command that is not the cold reset answers a settled state. -/
theorem exec_settles (c : Instr) (s : State) (h : isColdReset c = false) : ∃ t, exec c s = .next (s.settle t) := by
  obtain ⟨f, hf⟩ := exec_framed c h
  rw [hf s]
  cases isTap c with
  | true => exact s.actTap_settles f
  | false => exact s.act_settles f

/-- The cold reset starts anew with the queue as it stands. -/
theorem exec_coldReset (straps : Nat) (s : State) :
    exec (.coldReset straps) s = .next { s.coldReset straps with pending := s.pending } := rfl

theorem eq_coldReset_of_isColdReset {c : Instr} (h : isColdReset c = true) : ∃ straps, c = .coldReset straps := by
  cases c with
  | coldReset straps => exact ⟨straps, rfl⟩
  | _ => cases h

/-- Settles O3: the cold reset puts the queue back itself, and every other command ends in a settled state. -/
theorem everyCommandGoesOnWithTheQueueKept : Obligations.EveryCommandGoesOnWithTheQueueKept := by
  unfold Obligations.EveryCommandGoesOnWithTheQueueKept
  intro c s
  cases hc : isColdReset c with
  | true =>
    obtain ⟨straps, rfl⟩ := eq_coldReset_of_isColdReset hc
    exact ⟨_, exec_coldReset straps s, rfl, nofun⟩
  | false =>
    obtain ⟨t, ht⟩ := exec_settles c s hc
    exact ⟨s.settle t, ht, s.settle_pending t, fun _ => s.settle_now t ▸ Nat.le_max_left s.now t.now⟩

/-! ### One step -/

theorem step_of_pending_cons {s : State} {c : Instr} {rest : List Instr} (h : s.pending = c :: rest) :
    step s = exec c { s with pending := rest } := by
  simp only [step, h]

theorem step_of_pending_nil {s : State} (h : s.pending = []) : step s = .next s.idleTick := by
  simp only [step, h]

/-- Pushing a command and taking it again leaves the queue as it was. -/
theorem step_push (s : State) (c : Instr) : step (s.push c) = exec c s := rfl

/-- An idle tick without power or in standby does nothing. -/
theorem State.idleTick_of_stopped {s : State} (h : s.boot.step = 0 ∨ s.o 0x152005 = 4) : s.idleTick = s := by
  unfold State.idleTick
  rw [if_pos]
  simpa [State.is] using h

/-- An idle tick with power, out of standby: the clock goes on, and L1 entry is requested where it has come to be allowed. -/
theorem State.idleTick_of_running {s : State} (hp : s.boot.step ≠ 0) (hs : s.o 0x152005 ≠ 4) :
    s.idleTick = { s with
      now := s.now + 1
      host := { s.host with l1 := s.mayEnterL1 }
      out := s.out ++ if s.mayEnterL1 && !s.host.l1 then [Out.l1Request] else [] } := by
  have clock : ¬ (decide (s.boot.step = 0) || s.is 0x152005 4) = true := by simp [State.is, hp, hs]
  unfold State.idleTick
  rw [if_neg clock]
  cases hl : s.mayEnterL1 && !s.host.l1 with
  | true => simp [hl, State.emit]
  | false => simp [hl]

/-- Settles O1: the queue decides which case of the step it is, and on an empty queue the clock decides. -/
theorem aStepRunsTheCommandInFront : Obligations.AStepRunsTheCommandInFront := by
  unfold Obligations.AStepRunsTheCommandInFront
  refine ⟨fun s c rest h => step_of_pending_cons h, fun s h hp hs => ?_, fun s h hs => ?_, step_push⟩
  · rw [step_of_pending_nil h, State.idleTick_of_running hp hs]
  · rw [step_of_pending_nil h, State.idleTick_of_stopped hs]

end Sys2Proof.Machine
end

section
/-!
Rules of the position keeper's operations (R18 to R31, R53 to R55): the frame its commands act in, and what each shared
operation leaves of the objects and of the position keeper's registers.
-/
namespace Sys2Proof.Machine

/-! ### The frame of a clocked command -/

/-- A clocked command answers its effect while the device runs out of standby. -/
theorem State.actClocked_running (s : State) (f : State → State) (h : s.alive = true) (hs : s.o 0x152005 ≠ 4) :
    s.actClocked f = .next (s.settle (f s)) := by
  have on : s.is 0x152005 4 = false := by simpa [State.is] using hs
  simp [State.actClocked, State.act_alive _ _ h, on]

/-- An encoder that is decoded stands in a device out of standby. -/
theorem State.standby_of_encOn {s : State} {i : Nat} (h : s.encOn i = true) : s.o 0x152005 ≠ 4 := by
  simp only [State.encOn, State.is, Bool.and_eq_true, Bool.not_eq_true', beq_eq_false_iff_ne] at h
  exact h.2

/-- With no START to issue after a return from hold-up, a command's effect stands (R442). -/
theorem State.rearmAfter_of_unarmed (s : State) {x : State} (h : x.pow.rearm = false) : s.rearmAfter x = x := by
  simp [State.rearmAfter, h]

/-- A command that is no boundary issues no START (R442). -/
theorem State.rearmAfter_of_same_section {s x : State} (hs : x.o 0x202004 = s.o 0x202004) (hc : x.pos.counted = s.pos.counted) :
    s.rearmAfter x = x := by
  simp [State.rearmAfter, hs, hc]

/-! ### Updates beside the store -/

@[simp] theorem State.o_with_pos (s : State) (p : PosState) (k : Nat) : ({ s with pos := p } : State).o k = s.o k := rfl
@[simp] theorem State.o_with_pipe (s : State) (p : PipeState) (k : Nat) : ({ s with pipe := p } : State).o k = s.o k := rfl
@[simp] theorem State.o_with_dict (s : State) (d : DictState) (k : Nat) : ({ s with dict := d } : State).o k = s.o k := rfl

@[simp] theorem State.puts_nil (s : State) : s.puts [] = s := rfl
@[simp] theorem State.puts_cons (s : State) (p : Nat × Int) (l : List (Nat × Int)) : s.puts (p :: l) = (s.put p.1 p.2).puts l := rfl

@[simp] theorem State.bump_pos (s : State) (k d : Nat) : (s.bump k d).pos = s.pos := by simp [State.bump]
@[simp] theorem State.bump_pow (s : State) (k d : Nat) : (s.bump k d).pow = s.pow := by simp [State.bump]
@[simp] theorem State.bump_now (s : State) (k d : Nat) : (s.bump k d).now = s.now := by simp [State.bump]
@[simp] theorem State.bump_dict (s : State) (k d : Nat) : (s.bump k d).dict = s.dict := by simp [State.bump]
theorem State.o_bump_ne (s : State) {k k' : Nat} (d : Nat) (h : k' ≠ k) : (s.bump k d).o k' = s.o k' := by
  rw [State.bump_eq, State.o_put_ne _ _ h]

@[simp] theorem State.sat_pos (s : State) (k d : Nat) : (s.sat k d).pos = s.pos := by simp [State.sat]
@[simp] theorem State.sat_pow (s : State) (k d : Nat) : (s.sat k d).pow = s.pow := by simp [State.sat]

/-! ### An encoder -/

@[simp] theorem State.enc_setEnc (s : State) (i : Nat) (e : Encoder) : (s.setEnc i e).enc i = e := by
  unfold State.enc State.setEnc; split <;> rfl
@[simp] theorem State.o_setEnc (s : State) (i : Nat) (e : Encoder) (k : Nat) : (s.setEnc i e).o k = s.o k := by
  unfold State.setEnc; split <;> rfl
@[simp] theorem State.setEnc_pow (s : State) (i : Nat) (e : Encoder) : (s.setEnc i e).pow = s.pow := by
  unfold State.setEnc; split <;> rfl
@[simp] theorem State.setEnc_now (s : State) (i : Nat) (e : Encoder) : (s.setEnc i e).now = s.now := by
  unfold State.setEnc; split <;> rfl
@[simp] theorem State.setEnc_dict (s : State) (i : Nat) (e : Encoder) : (s.setEnc i e).dict = s.dict := by
  unfold State.setEnc; split <;> rfl
@[simp] theorem State.setEnc_counted (s : State) (i : Nat) (e : Encoder) : (s.setEnc i e).pos.counted = s.pos.counted := by
  unfold State.setEnc; split <;> rfl
@[simp] theorem State.setEnc_cnt (s : State) (i : Nat) (e : Encoder) : (s.setEnc i e).pos.cnt = s.pos.cnt := by
  unfold State.setEnc; split <;> rfl
@[simp] theorem State.setEnc_epochT (s : State) (i : Nat) (e : Encoder) : (s.setEnc i e).pos.epochT = s.pos.epochT := by
  unfold State.setEnc; split <;> rfl
@[simp] theorem State.setEnc_recent (s : State) (i : Nat) (e : Encoder) : (s.setEnc i e).pos.recent = s.pos.recent := by
  unfold State.setEnc; split <;> rfl

theorem State.setEnc_pos_congr {s x : State} (h : x.pos = s.pos) (i : Nat) (e : Encoder) :
    (x.setEnc i e).pos = (s.setEnc i e).pos := by
  unfold State.setEnc; split <;> simp only [h]

/-- An encoder is part of the position keeper's registers. -/
theorem State.enc_of_pos_eq {s x : State} (h : x.pos = s.pos) (i : Nat) : x.enc i = s.enc i := by simp [State.enc, h]

@[simp] theorem State.enc_put (s : State) (k : Nat) (v : Int) (i : Nat) : (s.put k v).enc i = s.enc i :=
  State.enc_of_pos_eq (by simp) i
@[simp] theorem State.enc_bump (s : State) (k d i : Nat) : (s.bump k d).enc i = s.enc i := State.enc_of_pos_eq (by simp) i
@[simp] theorem State.enc_raise (s : State) (c : Nat) (d : Int) (i : Nat) : (s.raise c d).enc i = s.enc i :=
  State.enc_of_pos_eq (by simp) i
@[simp] theorem State.enc_raiseFirst (s : State) (c x : Nat) (d : Int) (i : Nat) : (s.raiseFirst c x d).enc i = s.enc i :=
  State.enc_of_pos_eq (by simp) i
@[simp] theorem State.enc_atTick (s : State) (t i : Nat) : (s.atTick t).enc i = s.enc i := rfl

end Sys2Proof.Machine
end

section
/-!
What the position keeper's own operations leave (R19 to R29, R54, R55): the objects they keep, the encoders, the count.
-/
namespace Sys2Proof.Machine

/-! ### Objects that motion moves -/

/-- Objects that a counted edge of the position source can move beside the encoder's own: velocity and motion state, direction,
the count of reversals, the run state, the slip loop's state, and what events change. -/
def motionKey (k : Nat) : Bool :=
  k = 0x201002 || k = 0x201005 || k = 0x201006 || k = 0x203005 || k = 0x204002 || k = 0x2C1006 || logKey k

theorem ne_of_motionKey {k j : Nat} (h : motionKey k = false) (hj : motionKey j = true) : k ≠ j := by
  rintro rfl; simp_all

theorem logKey_of_motionKey {k : Nat} (h : motionKey k = false) : logKey k = false := by
  simp only [motionKey, Bool.or_eq_false_iff] at h; exact h.2

@[simp] theorem State.o_hysteresis (s : State) (k : Nat) : s.hysteresis.1.o k = s.o k := rfl
@[simp] theorem State.o_standSnap (s : State) (b : Int) (t k : Nat) : (s.standSnap b t).o k = s.o k := rfl

section
variable {k : Nat} (h : motionKey k = false)
include h

theorem State.o_put_motion (s : State) {j : Nat} (hj : motionKey j = true) (v : Int) : (s.put j v).o k = s.o k :=
  State.o_put_ne s v (ne_of_motionKey h hj)

theorem State.o_raise_motion (s : State) (c : Nat) (d : Int) : (s.raise c d).o k = s.o k := s.o_raise c d (logKey_of_motionKey h)

theorem State.o_slipHold (s : State) : s.slipHold.o k = s.o k := by
  unfold State.slipHold
  split
  · rw [State.o_raise_motion h]; exact State.o_put_motion h s rfl 3
  · rfl

theorem State.o_resumeMotion (s : State) : s.resumeMotion.o k = s.o k := by
  unfold State.resumeMotion
  split
  · rfl
  · extract_lets _ a b
    have hb : b.o k = s.o k := by
      unfold b; split
      · exact State.o_put_motion h a rfl _
      · rfl
    rw [State.o_raise_motion h, State.o_put_motion h b rfl, hb]

theorem State.o_declareReversal (s : State) (p : Int) : (s.declareReversal p).o k = s.o k := by
  unfold State.declareReversal
  extract_lets rev last mark _ a _ b c _ d
  have hc : c.o k = s.o k := State.o_put_motion h b rfl _
  rw [State.o_raise_motion h, State.o_slipHold h, State.bump_eq, State.o_put_motion h d rfl]
  exact hc

theorem State.o_countPos (s : State) (t : Nat) (rev : Bool) : (s.countPos t rev).o k = s.o k := by
  unfold State.countPos
  extract_lets c ivals used span num a _ b d
  rw [State.o_put_motion h d rfl]
  exact State.o_put_motion h b rfl _

theorem State.o_edgeMoves (s : State) (t : Nat) (rev : Bool) : (s.edgeMoves t rev).o k = s.o k := by
  simp only [State.edgeMoves]
  split
  · rw [State.o_put_motion h _ rfl, State.o_standSnap, State.o_declareReversal h, State.o_hysteresis, State.o_countPos h]
  · rw [State.o_hysteresis, State.o_countPos h]

end

/-! ### Registers that motion keeps -/

@[simp] theorem State.slipHold_pos (s : State) : s.slipHold.pos = s.pos := by unfold State.slipHold; split <;> simp
@[simp] theorem State.slipHold_now (s : State) : s.slipHold.now = s.now := by unfold State.slipHold; split <;> simp

/-- Motion that resumes changes the marks of the stall alone (R54). -/
theorem State.resumeMotion_pos (s : State) : s.resumeMotion.pos = if s.pos.stalled
    then { s.pos with stalled := false, afterStall := true, motionT := s.now } else s.pos := by
  unfold State.resumeMotion
  cases hs : s.pos.stalled
  · simp
  · simp only [Bool.not_true, Bool.false_eq_true, if_false, if_true, State.raise_pos, State.put_pos]
    split <;> simp

@[simp] theorem State.resumeMotion_now (s : State) : s.resumeMotion.now = s.now := by
  unfold State.resumeMotion; split
  · rfl
  · simp only [State.raise_now, State.put_now]; split <;> simp

@[simp] theorem State.enc_resumeMotion (s : State) (i : Nat) : s.resumeMotion.enc i = s.enc i := by
  simp only [State.enc, State.resumeMotion_pos]; split <;> split <;> rfl

@[simp] theorem State.resumeMotion_cnt (s : State) : s.resumeMotion.pos.cnt = s.pos.cnt := by
  rw [State.resumeMotion_pos]; split <;> rfl

@[simp] theorem State.enc_declareReversal (s : State) (p : Int) (i : Nat) : (s.declareReversal p).enc i = s.enc i := by
  unfold State.declareReversal State.enc; simp [State.putB]

@[simp] theorem State.declareReversal_cnt (s : State) (p : Int) : (s.declareReversal p).pos.cnt = s.pos.cnt := by
  unfold State.declareReversal; simp [State.putB]

@[simp] theorem State.enc_countPos (s : State) (t : Nat) (rev : Bool) (i : Nat) : (s.countPos t rev).enc i = s.enc i := by
  unfold State.countPos State.enc; simp [State.pushSnap]

/-- A counted edge of the position source moves the count to the next whole one (R25). -/
@[simp] theorem State.countPos_cnt (s : State) (t : Nat) (rev : Bool) : (s.countPos t rev).pos.cnt = nextCount s.pos.cnt rev := by
  unfold State.countPos; simp

@[simp] theorem State.enc_hysteresis (s : State) (i : Nat) : s.hysteresis.1.enc i = s.enc i := rfl
@[simp] theorem State.hysteresis_cnt (s : State) : s.hysteresis.1.pos.cnt = s.pos.cnt := rfl
@[simp] theorem State.enc_standSnap (s : State) (b : Int) (t i : Nat) : (s.standSnap b t).enc i = s.enc i := rfl
@[simp] theorem State.standSnap_cnt (s : State) (b : Int) (t : Nat) : (s.standSnap b t).pos.cnt = s.pos.cnt := rfl

@[simp] theorem State.enc_edgeMoves (s : State) (t : Nat) (rev : Bool) (i : Nat) : (s.edgeMoves t rev).enc i = s.enc i := by
  simp only [State.edgeMoves]; split <;> simp

@[simp] theorem State.edgeMoves_cnt (s : State) (t : Nat) (rev : Bool) :
    (s.edgeMoves t rev).pos.cnt = nextCount s.pos.cnt rev := by
  simp only [State.edgeMoves]; split <;> simp

/-! ### The raw count of an encoder (R20) -/

section
variable (s : State) (i t : Nat) (rev : Bool)

theorem State.o_countRaw_ne {k : Nat} (h1 : k ≠ encSt i + 1) (h4 : k ≠ encSt i + 4) : (s.countRaw i t rev).o k = s.o k := by
  unfold State.countRaw
  extract_lets e j v x
  rw [State.o_setEnc]
  unfold x; split
  · rw [State.o_put_ne _ _ h4]; exact State.o_put_ne _ _ h1
  · exact State.o_put_ne _ _ h1

/-- A counted edge adds one to the raw count, or takes one from it, modulo 2^64. -/
theorem State.o_countRaw_raw : (s.countRaw i t rev).o (encSt i + 1) = wrapS 64 (s.o (encSt i + 1) + if rev then -1 else 1) := by
  unfold State.countRaw
  extract_lets e j v x
  have hv : v.o (encSt i + 1) = wrapS 64 (s.o (encSt i + 1) + if rev then -1 else 1) := by
    show (s.put (encSt i + 1) _).o (encSt i + 1) = _
    rw [State.o_put_self]; cases rev <;> rfl
  rw [State.o_setEnc]
  unfold x; split
  · rw [State.o_put_ne _ _ (by unfold j; omega), hv]
  · exact hv

/-- A counted edge keeps its stamp in its encoder; the position keeper's other registers stay. -/
theorem State.countRaw_pos : (s.countRaw i t rev).pos = (s.setEnc i { s.enc i with lastT := some t }).pos := by
  unfold State.countRaw
  extract_lets e j v x
  refine State.setEnc_pos_congr ?_ i _
  unfold x v; split <;> simp

@[simp] theorem State.countRaw_pow : (s.countRaw i t rev).pow = s.pow := by
  unfold State.countRaw
  extract_lets e j v x
  rw [State.setEnc_pow]
  unfold x v; split <;> simp

@[simp] theorem State.enc_countRaw : (s.countRaw i t rev).enc i = { s.enc i with lastT := some t } := by
  rw [State.enc_of_pos_eq (State.countRaw_pos s i t rev), State.enc_setEnc]

@[simp] theorem State.countRaw_cnt : (s.countRaw i t rev).pos.cnt = s.pos.cnt := by
  rw [State.countRaw_pos, State.setEnc_cnt]

@[simp] theorem State.countRaw_epochT : (s.countRaw i t rev).pos.epochT = s.pos.epochT := by
  rw [State.countRaw_pos, State.setEnc_epochT]

end

/-! ### A counted edge (R20, R25) -/

theorem State.isSource_of_o_eq {s x : State} (h : x.o 0x202801 = s.o 0x202801) (i : Nat) : x.isSource i = s.isSource i := by
  unfold State.isSource State.tmode; rw [h]

theorem State.isSource_countRaw (s : State) (i : Fin 2) (j t : Nat) (rev : Bool) : (s.countRaw i t rev).isSource j = s.isSource j :=
  State.isSource_of_o_eq (State.o_countRaw_ne s i t rev (by unfold encSt; omega) (by unfold encSt; omega)) j

/-- An edge that moves no position counts in the raw count alone. -/
theorem State.countEdge_of_other (s : State) (i : Fin 2) (t : Nat) (rev : Bool) (h : s.isSource i = false) :
    s.countEdge i t rev = s.countRaw i t rev := by
  simp [State.countEdge, State.isSource_countRaw, h]

/-- What a move of the position leaves: the objects that motion does not move, the encoders, and the count. -/
structure MotionKept (c : Int) (r x : State) : Prop where
  objs : ∀ k, motionKey k = false → x.o k = r.o k
  enc : ∀ i, x.enc i = r.enc i
  cnt : x.pos.cnt = c

theorem MotionKept.put {c : Int} {r x : State} (h : MotionKept c r x) {k : Nat} (hk : motionKey k = true) (v : Int) :
    MotionKept c r (x.put k v) :=
  ⟨fun j hj => (State.o_put_motion hj x hk v).trans (h.objs j hj), fun i => by simp [h.enc], by simp [h.cnt]⟩

theorem MotionKept.edgeMoves {c : Int} {r x : State} (h : MotionKept c r x) (t : Nat) (rev : Bool) :
    MotionKept (nextCount c rev) r (x.edgeMoves t rev) :=
  ⟨fun j hj => (State.o_edgeMoves hj x t rev).trans (h.objs j hj), fun i => by simp [h.enc], by simp [h.cnt]⟩

/-- An edge counts in the raw count alone, or moves the position too. -/
theorem State.countEdge_cases (s : State) (i : Fin 2) (t : Nat) (rev : Bool) :
    (s.countEdge i t rev = s.countRaw i t rev ∧ (s.isSource i = true → s.pos.epochT ≠ none))
    ∨ (s.isSource i = true ∧ MotionKept (nextCount s.pos.cnt rev) (s.countRaw i t rev) (s.countEdge i t rev)) := by
  unfold State.countEdge
  extract_lets r old _ a enc b _ c stall m
  split
  · next h =>
    refine .inl ⟨rfl, fun hi he => ?_⟩
    have ho : old = false := by unfold old r; simp [he]
    simp [ho, r, State.isSource_countRaw, hi] at h
  · next h =>
    have hi : s.isSource i = true := by
      simp only [r, State.isSource_countRaw, Bool.or_eq_true, Bool.not_eq_true', not_or, Bool.not_eq_false] at h
      exact h.1
    have ha : MotionKept s.pos.cnt r a := ⟨fun _ _ => rfl, fun _ => rfl, State.countRaw_cnt s i t rev⟩
    have hb : MotionKept s.pos.cnt r b := by
      unfold b; split
      · exact ⟨fun k hk => State.o_resumeMotion hk a, fun j => State.enc_resumeMotion a j, by simpa using ha.cnt⟩
      · exact ha
    have hc : MotionKept s.pos.cnt r c := by
      unfold c; split
      · exact ⟨hb.objs, hb.enc, hb.cnt⟩
      · exact hb
    have hm : MotionKept (nextCount s.pos.cnt rev) r m := hc.edgeMoves t rev
    refine .inr ⟨hi, ?_⟩
    split
    · exact hm.put rfl 2
    · exact hm

end Sys2Proof.Machine
end

section
/-!
The epoch (R29) in the modes that take no lines from the grid: what setting it leaves.
-/
namespace Sys2Proof.Machine

/-- Streams that are numbered anew are all that changes. -/
theorem State.streamRenumber_eq (s : State) (n : Nat) : ∃ c, s.streamRenumber n = { s with conf := c } := by
  unfold State.streamRenumber
  refine List.foldlRecOn (motive := fun t => ∃ c, t = { s with conf := c }) _ _ ⟨s.conf, rfl⟩ ?_
  rintro t ⟨c, rfl⟩ k -
  dsimp only
  split <;> exact ⟨_, rfl⟩

/-- POS64 stands at the base of a piece without velocity from the piece's start on. -/
theorem State.posAt_of_standing {x : State} {t tick : Nat} {p : Int} {l : List Snap}
    (h : x.pos.snaps = { t := t, base := p, num := 0, den := 1, cap := 0, lim := 0 } :: l) (ht : t ≤ tick) : x.posAt tick = p := by
  simp [State.posAt, h, ht, posOf]

theorem State.standSnap_snaps (s : State) (b : Int) (t : Nat) : ∃ l, (s.standSnap b t).pos.snaps =
    { t := t, base := b, num := 0, den := 1, cap := 0, lim := 0 } :: l := ⟨_, rfl⟩

@[simp] theorem State.o_with_conf (s : State) (c : ConfState) (k : Nat) : ({ s with conf := c } : State).o k = s.o k := rfl
@[simp] theorem State.o_renumber (s : State) (k : Nat) : s.renumber.o k = s.o k := rfl
@[simp] theorem State.renumber_pos (s : State) : s.renumber.pos = { s.pos with lastLine := none } := rfl
@[simp] theorem State.renumber_pow (s : State) : s.renumber.pow = s.pow := rfl

/-- What setting the epoch leaves: the position at the preset from the epoch's stamp on, line 0, section 0, epoch `SET`, and a run
state. -/
structure EpochSet (s : State) (t : Nat) (run : Int) (x : State) : Prop where
  cnt : x.pos.cnt = s.o 0x201803
  furthest : x.pos.furthest = s.o 0x201803
  counted : x.pos.counted = false
  lastLine : x.pos.lastLine = none
  line : x.o 0x202003 = 0
  sect : x.o 0x202004 = 0
  epoch : x.o 0x201804 = 2
  run : x.run = run
  stands : ∀ tick, t ≤ tick → x.posAt tick = s.o 0x201803
  rearm : x.pow.rearm = s.pow.rearm

/-- The objects after the epoch's own are set. -/
theorem State.o_setEpoch (s : State) (t : Nat) {k : Nat} (hk : logKey k = false) : (s.setEpoch t).o k =
    if k = 0x201804 then 2 else if k ∈ [0x202003, 0x202004, 0x201008] then 0 else s.o k := by
  unfold State.setEpoch
  extract_lets p a _ _ b c
  have hb : ∀ j, b.o j = s.o j := by
    intro j; show a.o j = s.o j
    unfold a; split <;> rfl
  rw [State.o_raise _ _ _ hk]
  simp only [c, State.puts_cons, State.puts_nil, State.o_put, hb, List.mem_cons, List.not_mem_nil, or_false]
  split_ifs <;> simp_all

/-- The position keeper's registers after the epoch is set from edges. -/
theorem State.setEpoch_pos (s : State) (t : Nat) (h : s.tmode ≠ 1) : (s.setEpoch t).pos = { (s.standSnap (s.o 0x201803) t).pos with
    cnt := s.o 0x201803, furthest := s.o 0x201803, ivals := [], ivT := none, gridA := s.o 0x201803 * 65536, gridJ := 0
    counted := false, pendPitch := none, epochT := some t } := by
  unfold State.setEpoch
  simp only [h, if_false, State.raise_pos, State.puts_cons, State.puts_nil, State.put_pos]

theorem State.setEpoch_pow (s : State) (t : Nat) : (s.setEpoch t).pow = s.pow := by
  unfold State.setEpoch
  simp only [State.raise_pow, State.puts_cons, State.puts_nil, State.put_pow]
  split <;> rfl

/-- A run starts to run: its state, and event 0x0112. -/
theorem State.o_enterRunning (s : State) {k : Nat} (hk : logKey k = false) :
    s.enterRunning.o k = if k = 0x204002 then rsRunning else s.o k := by
  unfold State.enterRunning
  extract_lets a _ b
  rw [State.o_raise _ _ _ hk]
  exact State.o_put s 0x204002 k rsRunning

theorem State.enterRunning_pos (s : State) : s.enterRunning.pos = { s.pos with
    runFirst := true, motionT := if s.tmode = 2 ∨ s.tmode = 3 then s.now else s.pos.motionT, stopAt := false, stalled := false } := by
  have mode : (s.put 0x204002 rsRunning).tmode = s.tmode := State.o_put_ne _ _ (by decide)
  unfold State.enterRunning
  simp only [State.raise_pos, State.emit_pos, State.put_pos, State.emit_now, State.put_now, Bool.or_eq_true, decide_eq_true_eq]
  exact congrArg (fun m : Int => { s.pos with
    runFirst := true, motionT := if m = 2 ∨ m = 3 then s.now else s.pos.motionT, stopAt := false, stalled := false }) mode

@[simp] theorem State.enterRunning_pow (s : State) : s.enterRunning.pow = s.pow := by
  unfold State.enterRunning; simp

/-- The state in which the epoch has been set, with lines and streams numbered anew and the pitch in force, before the run goes on. -/
def State.epochBegun (s : State) (t : Nat) : State :=
  let x := (s.setEpoch t).renumber.streamEpoch
  x.put 0x202005 x.effPitch

theorem State.o_epochBegun (s : State) (t : Nat) {k : Nat} (hk : k ≠ 0x202005) : (s.epochBegun t).o k = (s.setEpoch t).o k := by
  obtain ⟨c, hc⟩ := (s.setEpoch t).renumber.streamRenumber_eq 0
  unfold State.epochBegun State.streamEpoch
  rw [State.o_put_ne _ _ hk, hc, State.o_with_conf, State.o_renumber]

theorem State.epochBegun_pos (s : State) (t : Nat) : (s.epochBegun t).pos = { (s.setEpoch t).pos with lastLine := none } := by
  obtain ⟨c, hc⟩ := (s.setEpoch t).renumber.streamRenumber_eq 0
  unfold State.epochBegun State.streamEpoch
  rw [State.put_pos, hc, ← State.renumber_pos]

theorem State.epochBegun_pow (s : State) (t : Nat) : (s.epochBegun t).pow = s.pow := by
  obtain ⟨c, hc⟩ := (s.setEpoch t).renumber.streamRenumber_eq 0
  unfold State.epochBegun State.streamEpoch
  rw [State.put_pow, hc, State.renumber_pow, State.setEpoch_pow]

/-- The state in which the epoch has been set, and a run that waited for it runs. -/
def State.epochRuns (s : State) (t : Nat) : State :=
  if (s.epochBegun t).run = rsWaitEpoch then (s.epochBegun t).enterRunning else s.epochBegun t

/-- The epoch is set; then line 0 is triggered where the grid gives the lines, and edges after the epoch count. -/
theorem State.epochEdge_eq (s : State) (t : Nat) : s.epochEdge t =
    let x := s.epochRuns t
    let y := if x.tmode = 0 || x.tmode = 1 then x.gridLine else x
    if y.tmode = 1 then y
    else (s.pos.recent.filter fun p => t < p.1).reverse.foldl (fun (s : State) p => s.edgeMoves p.1 p.2) y := rfl

theorem State.epochRuns_tmode (s : State) (t : Nat) : (s.epochRuns t).tmode = s.tmode := by
  have begun : (s.epochBegun t).tmode = s.tmode := by
    unfold State.tmode
    rw [State.o_epochBegun _ _ (by decide), State.o_setEpoch _ _ rfl, if_neg (by decide), if_neg (by decide)]
  unfold State.epochRuns
  split
  · rw [← begun]; exact State.o_enterRunning _ rfl
  · exact begun

/-- In a mode without a grid, an epoch that no later edge was counted after triggers no line and moves no position. -/
theorem State.epochEdge_external (s : State) (t : Nat) (h0 : s.tmode ≠ 0) (h1 : s.tmode ≠ 1) (hr : ∀ p ∈ s.pos.recent, p.1 ≤ t) :
    s.epochEdge t = s.epochRuns t := by
  have later : (s.pos.recent.filter fun p => t < p.1).reverse = [] := by simpa [List.filter_eq_nil_iff] using hr
  rw [State.epochEdge_eq, later]
  simp only [State.epochRuns_tmode, h0, h1, decide_false, Bool.or_self, Bool.false_eq_true, if_false, List.foldl_nil]

/-- What setting the epoch leaves, before a run that waited for it runs. -/
theorem State.epochBegun_sets (s : State) (t : Nat) (h1 : s.tmode ≠ 1) : EpochSet s t s.run (s.epochBegun t) := by
  have objs : ∀ k, logKey k = false → k ≠ 0x202005 → (s.epochBegun t).o k =
      if k = 0x201804 then 2 else if k ∈ [0x202003, 0x202004, 0x201008] then 0 else s.o k :=
    fun k hk hp => (s.o_epochBegun t hp).trans (s.o_setEpoch t hk)
  have pos := s.epochBegun_pos t
  rw [s.setEpoch_pos t h1] at pos
  obtain ⟨l, hl⟩ := s.standSnap_snaps (s.o 0x201803) t
  have snaps : (s.epochBegun t).pos.snaps = (s.standSnap (s.o 0x201803) t).pos.snaps := by rw [pos]
  have stands : ∀ tick, t ≤ tick → (s.epochBegun t).posAt tick = s.o 0x201803 :=
    fun tick => State.posAt_of_standing (snaps.trans hl)
  exact {
    cnt := by rw [pos], furthest := by rw [pos], counted := by rw [pos], lastLine := by rw [pos]
    line := objs 0x202003 rfl (by decide), sect := objs 0x202004 rfl (by decide), epoch := objs 0x201804 rfl (by decide)
    run := objs 0x204002 rfl (by decide), stands := stands, rearm := by rw [s.epochBegun_pow] }

/-- A run that starts to run keeps the epoch. -/
theorem EpochSet.enterRunning {s x : State} {t : Nat} {run : Int} (h : EpochSet s t run x) : EpochSet s t rsRunning x.enterRunning where
  cnt := by rw [x.enterRunning_pos]; exact h.cnt
  furthest := by rw [x.enterRunning_pos]; exact h.furthest
  counted := by rw [x.enterRunning_pos]; exact h.counted
  lastLine := by rw [x.enterRunning_pos]; exact h.lastLine
  line := (x.o_enterRunning rfl).trans h.line
  sect := (x.o_enterRunning rfl).trans h.sect
  epoch := (x.o_enterRunning rfl).trans h.epoch
  run := x.o_enterRunning rfl
  stands := fun tick ht => by unfold State.posAt; rw [x.enterRunning_pos]; exact h.stands tick ht
  rearm := by rw [x.enterRunning_pow]; exact h.rearm

/-- What setting the epoch leaves, in a mode without a grid. -/
theorem State.epochEdge_sets (s : State) (t : Nat) (h0 : s.tmode ≠ 0) (h1 : s.tmode ≠ 1) (hr : ∀ p ∈ s.pos.recent, p.1 ≤ t) :
    EpochSet s t (if s.run = rsWaitEpoch then rsRunning else s.run) (s.epochEdge t) := by
  have sets := s.epochBegun_sets t h1
  rw [s.epochEdge_external t h0 h1 hr]
  unfold State.epochRuns
  rw [sets.run]
  split
  · exact sets.enterRunning
  · exact sets

end Sys2Proof.Machine
end

section
/-!
Encoder events (R19 to R22): one rule for each way an edge, a decoder step, a loss or a return goes, and the statement about them.
-/
namespace Sys2Proof.Machine

/-! ### Edges (R19) -/

section
variable {s : State} {i ch t : Nat} {level : Bool} (hon : s.encOn i = true)
include hon

/-- An edge of A or B, of a channel that is not lost, enters a decoder step. -/
theorem State.encoderEdge_ab (hc : ch < 2) (hl : (s.enc i).lost.testBit ch = false)
    (hv : (if ch = 0 then (s.enc i).a else (s.enc i).b) ≠ level) :
    s.encoderEdge i ch level t = (s.atTick (t + s.n (encCfg i + 4))).stepEdge i (decide (ch = 0)) level t := by
  have now : (if ch = 0 then (s.enc i).a else if ch = 1 then (s.enc i).b else (s.enc i).z) ≠ level := by
    rcases (by omega : ch = 0 ∨ ch = 1) with rfl | rfl <;> simpa using hv
  unfold State.encoderEdge
  simp [hon, hl, now, hc]

/-- An edge of Z, not lost, sets its level; a rising one may count. -/
theorem State.encoderEdge_z (hl : (s.enc i).lost.testBit 2 = false) (hv : (s.enc i).z ≠ level) :
    s.encoderEdge i 2 level t =
      let x := (s.atTick (t + s.n (encCfg i + 4))).setEnc i { s.enc i with z := level }
      if level then x.zRise i t else x := by
  unfold State.encoderEdge
  simp [hon, hl, hv]

end

/-- Z gating looks at the levels of A and B alone, which an edge of Z keeps. -/
theorem State.zQualifies_setEnc_z (s : State) (i : Nat) (z : Bool) :
    (s.setEnc i { s.enc i with z := z }).zQualifies i = s.zQualifies i := by
  simp [State.zQualifies]

/-- A rising edge of Z counts an index where the gating lets it qualify; one of the epoch source goes to the epoch. -/
theorem State.encoderEdge_zRise {s : State} {i t : Nat} (hon : s.encOn i = true) (hl : (s.enc i).lost.testBit 2 = false)
    (hz : (s.enc i).z = false) :
    s.encoderEdge i 2 true t =
      let x := (s.atTick (t + s.n (encCfg i + 4))).setEnc i { s.enc i with z := true }
      if s.zQualifies i then
        if i = 0 ∧ s.o 0x201801 = 1 then (x.bump (encSt i + 5)).epochSource t else x.bump (encSt i + 5)
      else x := by
  rw [State.encoderEdge_z hon hl (by simp [hz])]
  extract_lets _ x
  have gate : x.zQualifies i = s.zQualifies i := State.zQualifies_setEnc_z _ i true
  have source : (x.bump (encSt i + 5)).o 0x201801 = s.o 0x201801 := by
    rw [State.o_bump_ne _ _ (by unfold encSt; omega)]; simp [x]
  cases hq : s.zQualifies i <;> simp [State.zRise, gate, hq, State.is, source]

/-! ### Decoder steps (R21) -/

/-- An edge of A or B counts in the step that is open, or opens one. -/
theorem State.stepEdge_open {s : State} {i t : Nat} (onA level : Bool) (h : ∀ st, (s.enc i).step = some st → t < st.t + s.stepLen i) :
    s.stepEdge i onA level t =
      let e := s.enc i
      let st := e.step.getD { t := t, a := e.a, b := e.b, nA := 0, nB := 0 }
      s.setEnc i { e with a := if onA then level else e.a, b := if onA then e.b else level
                          step := some (if onA then { st with nA := st.nA + 1 } else { st with nB := st.nB + 1 }) } := by
  unfold State.stepEdge
  cases hs : (s.enc i).step with
  | none => simp [hs]
  | some st =>
    have hlt : ¬ (st.t + s.stepLen i ≤ t) := by have := h st hs; omega
    simp [hs, hlt]

/-- An edge of A or B, of a channel that is not lost, while no step is open that has passed its length. -/
theorem State.encoderEdge_step {s : State} {i ch t : Nat} {level : Bool} (hon : s.encOn i = true) (hc : ch < 2)
    (hl : (s.enc i).lost.testBit ch = false) (hv : (if ch = 0 then (s.enc i).a else (s.enc i).b) ≠ level)
    (h : ∀ st, (s.enc i).step = some st → t < st.t + s.stepLen i) :
    s.encoderEdge i ch level t =
      let e := s.enc i
      let st := e.step.getD { t := t, a := e.a, b := e.b, nA := 0, nB := 0 }
      (s.atTick (t + s.n (encCfg i + 4))).setEnc i
        { e with a := if decide (ch = 0) then level else e.a, b := if decide (ch = 0) then e.b else level
                 step := some (if decide (ch = 0) then { st with nA := st.nA + 1 } else { st with nB := st.nB + 1 }) } :=
  (State.encoderEdge_ab hon hc hl hv).trans (State.stepEdge_open _ level h)

/-- Whatever step an edge enters, its channel has the new level. -/
theorem State.stepEdge_level (s : State) (i t : Nat) (onA level : Bool) :
    (if onA then ((s.stepEdge i onA level t).enc i).a else ((s.stepEdge i onA level t).enc i).b) = level := by
  unfold State.stepEdge
  cases onA <;> simp

/-- A step of one edge is judged by its channel; any other is illegal. -/
theorem judgeStep_eq (st : EncStep) : judgeStep st = if st.nA + st.nB = 1 then some (decide (st.nA = 1)) else none := by
  unfold judgeStep
  rcases st with ⟨t, a, b, nA, nB⟩
  split_ifs <;> simp_all
  omega

section
variable {s : State} {i : Nat} {st : EncStep} (hs : (s.enc i).step = some st)
include hs

/-- A step of other than one edge is illegal. -/
theorem State.stepClose_illegal (h : st.nA + st.nB ≠ 1) :
    s.stepClose i = ((s.atTick (st.t + s.stepLen i)).setEnc i { s.enc i with step := none }).illegalStep i := by
  unfold State.stepClose
  simp [hs, judgeStep_eq, h]

/-- A step of one edge counts it where the multiplier does. -/
theorem State.stepClose_legal (h : st.nA + st.nB = 1) :
    s.stepClose i =
      let x := (s.atTick (st.t + s.stepLen i)).setEnc i { s.enc i with step := none }
      let onA := decide (st.nA = 1)
      let rev := decide (edgeForward onA (s.enc i).a (s.enc i).b = s.b (encCfg i + 5))
      if edgeCounted (s.o (encCfg i + 3)) onA (s.enc i).a rev then x.countEdge i st.t rev else x := by
  unfold State.stepClose
  simp [hs, judgeStep_eq, h, State.b]

end

/-- An illegal step is counted, up to the greatest value (R21). -/
theorem State.o_illegalStep (s : State) (i : Fin 2) : (s.illegalStep i).o (encSt i + 2) = min (s.o (encSt i + 2) + 1) (2 ^ 32 - 1) := by
  have width : maxOf (encSt i + 2) = 2 ^ 32 - 1 := by revert i; decide
  have log : logKey (encSt i + 2) = false := by revert i; decide
  unfold State.illegalStep
  rw [State.o_raiseFirst _ _ _ _ log]
  split
  · rw [State.o_bump_ne _ _ (by unfold encSt; omega), State.sat_eq, State.o_put_self, width]; rfl
  · rw [State.sat_eq, State.o_put_self, width]; rfl

@[simp] theorem State.illegalStep_pow (s : State) (i : Nat) : (s.illegalStep i).pow = s.pow := by
  simp only [State.illegalStep, State.raiseFirst_pow]
  split <;> simp

@[simp] theorem State.enc_illegalStep (s : State) (i j : Nat) : (s.illegalStep i).enc j = s.enc j := by
  simp only [State.illegalStep, State.enc_raiseFirst]
  split <;> simp [State.sat]

theorem motionKey_raw (i : Fin 2) : motionKey (encSt i + 1) = false := by revert i; decide

/-- A step that closes is open no more, and what it counts is in the raw count; the position follows where the encoder is its source
and the edge is not older than the epoch. -/
theorem State.stepClose_counts {s : State} {i : Fin 2} {st : EncStep} (hs : (s.enc i).step = some st) :
    let onA := decide (st.nA = 1)
    let rev := decide (edgeForward onA (s.enc i).a (s.enc i).b = s.b (encCfg i + 5))
    ((s.stepClose i).enc i).step = none
    ∧ (st.nA + st.nB = 1 → edgeCounted (s.o (encCfg i + 3)) onA (s.enc i).a rev = true →
        (s.stepClose i).o (encSt i + 1) = wrapS 64 (s.o (encSt i + 1) + if rev then -1 else 1)
        ∧ (s.isSource i = true → s.pos.epochT = none → (s.stepClose i).pos.cnt = nextCount s.pos.cnt rev)
        ∧ (s.isSource i = false → (s.stepClose i).pos.cnt = s.pos.cnt)) := by
  intro onA rev
  by_cases h : st.nA + st.nB = 1
  · rw [State.stepClose_legal hs h]
    extract_lets _ x
    have source : x.isSource i = s.isSource i := State.isSource_of_o_eq (by simp [x]) i
    have raw : (x.countRaw i st.t rev).o (encSt i + 1) = wrapS 64 (s.o (encSt i + 1) + if rev then -1 else 1) := by
      rw [State.o_countRaw_raw]; simp [x]
    cases hc : edgeCounted (s.o (encCfg i + 3)) onA (s.enc i).a rev with
    | false => simp [x]
    | true =>
      simp only [if_true, h, true_implies]
      rcases State.countEdge_cases x i st.t rev with ⟨he, hn⟩ | ⟨hi, he⟩
      · rw [he]
        refine ⟨by simp [x], raw, fun hi ht => absurd (by simpa [x] using ht) (hn (source ▸ hi)), fun _ => by simp [x]⟩
      · refine ⟨by rw [he.enc]; simp [x], (he.objs _ (motionKey_raw i)).trans raw, fun _ _ => by rw [he.cnt]; simp [x], fun hf => ?_⟩
        rw [source, hf] at hi
        cases hi
  · rw [State.stepClose_illegal hs h]
    exact ⟨by simp, fun h' => absurd h' h⟩

/-! ### Losses and returns (R22) -/

/-- The loss of a channel is held; that of the first is reported, and one of ENC0 noted while the device holds up. -/
theorem State.encoderLoss_eq {s : State} {i ch : Nat} (hon : s.encOn i = true) (hd : s.o (encCfg i + 2) = 0)
    (hb : s.b (encCfg i + 7) = true) (hc : ch < 3) (hl : (s.enc i).lost.testBit ch = false) :
    s.encoderLoss i ch =
      let a := (s.setEnc i { s.enc i with lost := (s.enc i).lost ||| 2 ^ ch }).put (encSt i + 3) 1
      let b := if i = 0 ∧ (s.o 0x152005 = 1 ∨ s.o 0x152005 = 2) then { a with pow := { a.pow with lossSeen := true } } else a
      if (s.enc i).lost = 0 then b.raise (0x0104 + i) ch else b := by
  have hc' : ¬ (3 ≤ ch) := by omega
  have standby : ∀ v e, ((s.setEnc i e).put (encSt i + 3) v).o 0x152005 = s.o 0x152005 := fun v e => by
    rw [State.o_put_ne _ _ (by unfold encSt; omega), State.o_setEnc]
  unfold State.encoderLoss
  simp [hon, hd, hb, hc', hl, State.is, standby]

/-- The return of a lost channel clears its loss; that of the last is reported. -/
theorem State.encoderBack_eq {s : State} {i ch : Nat} (hc : ch < 3) (hl : (s.enc i).lost.testBit ch = true) :
    s.encoderBack i ch =
      let x := s.setEnc i { s.enc i with lost := (s.enc i).lost ^^^ 2 ^ ch }
      if (s.enc i).lost ^^^ 2 ^ ch = 0 then (x.put (encSt i + 3) 2).raise (0x0106 + i) else x := by
  have hc' : ¬ (3 ≤ ch) := by omega
  unfold State.encoderBack
  simp [hc', hl]

theorem logKey_lossState (i : Fin 2) : logKey (encSt i + 3) = false := by revert i; decide

/-- A loss is held and shown; a later one reports nothing. -/
theorem State.encoderLoss_leaves {s : State} {i : Fin 2} {ch : Nat} (hon : s.encOn i = true) (hd : s.o (encCfg i + 2) = 0)
    (hb : s.b (encCfg i + 7) = true) (hc : ch < 3) (hl : (s.enc i).lost.testBit ch = false) :
    ((s.encoderLoss i ch).enc i).lost = (s.enc i).lost ||| 2 ^ ch ∧ (s.encoderLoss i ch).o (encSt i + 3) = 1
    ∧ ((s.enc i).lost ≠ 0 → (s.encoderLoss i ch).dict = s.dict) := by
  rw [State.encoderLoss_eq hon hd hb hc hl]
  extract_lets _ a _ b
  have hb : b.enc i = a.enc i ∧ b.o (encSt i + 3) = a.o (encSt i + 3) ∧ b.dict = a.dict := by
    unfold b; split <;> exact ⟨rfl, rfl, rfl⟩
  obtain ⟨enc, obj, dict⟩ := hb
  have lost : (a.enc i).lost = (s.enc i).lost ||| 2 ^ ch := by simp [a]
  split
  · next h =>
    exact ⟨by rw [State.enc_raise, enc, lost], by rw [State.o_raise _ _ _ (logKey_lossState i), obj]; simp [a], fun hn => absurd h hn⟩
  · exact ⟨by rw [enc, lost], by rw [obj]; simp [a], fun _ => by rw [dict]; simp [a]⟩

/-- A return clears its loss; one that leaves another reports nothing and shows nothing. -/
theorem State.encoderBack_leaves {s : State} {i : Fin 2} {ch : Nat} (hc : ch < 3) (hl : (s.enc i).lost.testBit ch = true) :
    ((s.encoderBack i ch).enc i).lost = (s.enc i).lost ^^^ 2 ^ ch
    ∧ ((s.enc i).lost = 2 ^ ch → (s.encoderBack i ch).o (encSt i + 3) = 2)
    ∧ ((s.enc i).lost ≠ 2 ^ ch →
        (s.encoderBack i ch).o (encSt i + 3) = s.o (encSt i + 3) ∧ (s.encoderBack i ch).dict = s.dict) := by
  rw [State.encoderBack_eq hc hl]
  simp only [Nat.xor_eq_zero_iff]
  split
  · next h => exact ⟨by simp, fun _ => by rw [State.o_raise _ _ _ (logKey_lossState i), State.o_put_self], fun hn => absurd h hn⟩
  · next h => exact ⟨by simp, fun he => absurd he h, fun _ => ⟨by simp, by simp⟩⟩

/-! ### The statement -/

section
variable {s : State} {i : Fin 2} (ha : s.alive = true) (hon : s.encOn i = true)
include ha hon

theorem exec_encoderEdge (ch : Fin 3) (level : Bool) (t : Nat) :
    exec (.encoderEdge i ch level t) s = .next (s.settle (s.rearmAfter (s.encoderEdge i ch level t))) :=
  s.actClocked_running (fun s => s.rearmAfter (s.encoderEdge i ch level t)) ha (State.standby_of_encOn hon)

theorem exec_decoderStepClose : exec (.decoderStepClose i) s = .next (s.settle (s.rearmAfter (s.stepClose i))) :=
  s.actClocked_running (fun s => s.rearmAfter (s.stepClose i)) ha (State.standby_of_encOn hon)

theorem exec_encoderLoss (ch : Fin 3) : exec (.encoderLoss i ch) s = .next (s.settle (s.encoderLoss i ch)) :=
  s.actClocked_running (fun s => s.encoderLoss i ch) ha (State.standby_of_encOn hon)

theorem exec_encoderRestored (ch : Fin 3) : exec (.encoderRestored i ch) s = .next (s.settle (s.encoderBack i ch)) :=
  s.actClocked_running (fun s => s.encoderBack i ch) ha (State.standby_of_encOn hon)

end

/-- Settles O8: each clause is the rule of its operation; no operation but the epoch's touches the re-arming or the section. -/
theorem encoderEventsActAsDecoded : Obligations.EncoderEventsActAsDecoded := by
  unfold Obligations.EncoderEventsActAsDecoded
  refine ⟨fun s i ch level t ha hon hr => ?_, fun s i ch level t ha hon => ?_⟩
  · intro e at_ out
    have unarmed {x : State} (hx : x.pow = s.pow) : s.rearmAfter x = x := s.rearmAfter_of_unarmed (by rw [hx, hr])
    rw [exec_encoderEdge ha hon, exec_decoderStepClose ha hon, exec_encoderLoss ha hon, exec_encoderRestored ha hon]
    refine ⟨?_, ?_, ?_, ?_, fun st hs => ?_, ?_, ?_⟩
    · rintro rfl rfl hz hl
      have edge : s.encoderEdge i 2 false t = at_.setEnc i { e with z := false } := State.encoderEdge_z hon hl (by simp [e, hz])
      rw [show ((2 : Fin 3) : Nat) = 2 from rfl, edge, unarmed (by simp [at_])]
    · rintro rfl rfl hz hl hq hn
      have edge : s.encoderEdge i 2 true t = (at_.setEnc i { e with z := true }).bump (encSt i + 5) := by
        rw [State.encoderEdge_zRise hon hl hz]
        simp only [hq, if_true]
        exact if_neg (by simpa using hn)
      rw [show ((2 : Fin 3) : Nat) = 2 from rfl, edge, unarmed (by simp [at_])]
    · rintro rfl hv hl hs
      have edge : s.encoderEdge i 0 level t = at_.setEnc i { e with
          a := level, step := some { t := t, a := e.a, b := e.b, nA := 1, nB := 0 } } := by
        rw [State.encoderEdge_step hon (by omega) hl hv (by simp [show (s.enc i).step = none from hs])]
        simp [show (s.enc i).step = none from hs, e, at_]
      rw [show ((0 : Fin 3) : Nat) = 0 from rfl, edge, unarmed (by simp [at_])]
    · rintro rfl hv hl hs
      have edge : s.encoderEdge i 1 level t = at_.setEnc i { e with
          b := level, step := some { t := t, a := e.a, b := e.b, nA := 0, nB := 1 } } := by
        rw [State.encoderEdge_step hon (by omega) hl hv (by simp [show (s.enc i).step = none from hs])]
        simp [show (s.enc i).step = none from hs, e, at_]
      rw [show ((1 : Fin 3) : Nat) = 1 from rfl, edge, unarmed (by simp [at_])]
    · intro shut onA rev
      refine ⟨fun h => ?_, fun h hc => ?_, fun h hc hi => ?_⟩
      · rw [State.stepClose_illegal hs h, unarmed (by simp)]
        exact ⟨rfl, (shut.o_illegalStep i).trans (by simp [shut])⟩
      · rw [State.stepClose_legal hs h]
        simp only [e, onA, rev] at hc
        simp only [hc, Bool.false_eq_true, if_false]
        rw [unarmed (by simp)]
      · have source : shut.isSource i = false := (State.isSource_of_o_eq (by simp [shut]) i).trans hi
        have close : s.stepClose i = shut.countRaw i st.t rev := by
          rw [State.stepClose_legal hs h]
          exact (if_pos hc).trans (State.countEdge_of_other shut i st.t rev source)
        refine ⟨_, rfl, ?_⟩
        rw [close, unarmed (by simp [shut])]
        exact ⟨by rw [State.o_countRaw_raw]; simp [shut], by simp, by simp [shut]⟩
    · intro hd hb (hl : (s.enc i).lost = 0) hn
      have standby : ¬ ((i : Nat) = 0 ∧ (s.o 0x152005 = 1 ∨ s.o 0x152005 = 2)) := by
        simpa only [Fin.ext_iff, Fin.val_zero] using hn
      rw [State.encoderLoss_eq hon hd hb ch.isLt (by simp [hl])]
      simp only [if_neg standby, hl, if_true, Nat.zero_or, out, e]
    · intro (hl : (s.enc i).lost = 2 ^ ch.val)
      rw [State.encoderBack_eq ch.isLt (by simp [hl])]
      simp [hl, out, e]
  · intro e at_
    rw [exec_encoderEdge ha hon, exec_decoderStepClose ha hon, exec_encoderLoss ha hon, exec_encoderRestored ha hon]
    have below (hc : ch ≠ 2) : (ch : Nat) < 2 := by omega
    have at_level (hv : (if ch = 0 then e.a else e.b) ≠ level) : (if (ch : Nat) = 0 then (s.enc i).a else (s.enc i).b) ≠ level := by
      simpa only [Fin.ext_iff, Fin.val_zero] using hv
    refine ⟨fun hl hc hv => ⟨_, rfl, ?_, fun st hs ht => ?_⟩, ?_, ?_, fun st hs => ?_, ?_, ?_⟩
    · rw [State.encoderEdge_ab hon (below hc) hl (at_level hv)]
      have set := State.stepEdge_level at_ i t (decide ((ch : Nat) = 0)) level
      simpa only [Fin.ext_iff, Fin.val_zero, decide_eq_true_eq] using set
    · have open_ : ∀ st', (s.enc i).step = some st' → t < st'.t + s.stepLen i := fun st' h' =>
        Option.some.inj (h'.symm.trans hs) ▸ ht
      rw [State.encoderEdge_step hon (below hc) hl (at_level hv) open_]
      by_cases h0 : ch = 0 <;> simp [show (s.enc i).step = some st from hs, h0, at_]
    · rintro hl rfl hz rfl hq
      rw [show ((2 : Fin 3) : Nat) = 2 from rfl, State.encoderEdge_zRise hon hl hz]
      simp only [hq, Bool.false_eq_true, if_false]
      rw [State.rearmAfter_of_same_section] <;> simp
    · rintro hl rfl hz rfl rfl hsrc hq
      let y := (at_.setEnc (0 : Fin 2) { e with z := true }).bump (encSt (0 : Fin 2) + 5)
      have kept (k : Nat) (hk : k ≠ encSt (0 : Fin 2) + 5) : y.o k = s.o k := by
        rw [State.o_bump_ne _ _ hk, State.o_setEnc, State.o_atTick]
      have state : y.o 0x201804 = s.o 0x201804 := kept _ (by decide)
      have edge : s.encoderEdge (0 : Fin 2) (2 : Fin 3) true t = y.epochSource t := by
        refine (State.encoderEdge_zRise hon hl hz).trans ?_
        simp only [hq, if_true]
        exact if_pos ⟨rfl, hsrc⟩
      rw [edge]
      refine ⟨fun hn => ?_, fun hs h0 h1 hr => ⟨_, rfl, ?_⟩⟩
      · have unarmed : y.epochSource t = y.bump 0x201805 := by simp [State.epochSource, State.is, state, hn]
        rw [unarmed, State.rearmAfter_of_same_section]
        · rw [State.o_bump_ne _ _ (by decide), kept _ (by decide)]
        · simp [y, at_]
      · have armed : y.epochSource t = y.epochEdge t := by simp [State.epochSource, State.is, state, hs]
        have sets := y.epochEdge_sets t (by unfold State.tmode; rwa [kept _ (by decide)])
          (by unfold State.tmode; rwa [kept _ (by decide)]) (by simpa [y, at_] using hr)
        rw [armed]
        exact ⟨sets.cnt.trans (kept _ (by decide)), sets.line, sets.sect, sets.epoch⟩
    · intro onA rev
      obtain ⟨hstep, hcount⟩ := State.stepClose_counts hs
      exact ⟨_, rfl, hstep, hcount⟩
    · intro hd hb hl
      exact ⟨_, rfl, State.encoderLoss_leaves hon hd hb ch.isLt hl⟩
    · intro hl
      exact ⟨_, rfl, State.encoderBack_leaves ch.isLt hl⟩

end Sys2Proof.Machine
end

section
/-!
Commands of position keeping and run control (R29, R40, R41, R46, R57): what an accepted write of a command object answers, and
how each command moves the run.
-/
namespace Sys2Proof.Machine
open Sys2Proof.Safety

/-! ### Writes of one byte -/

theorem State.normalBytes_of_lt (s : State) {k : Nat} (bs : List Nat) (hk : k < 0x284000) : s.normalBytes k bs = bs := by
  have h1 : ¬ 0x2840 ≤ k / 256 := by omega
  have h2 : ¬ 0x2C40 ≤ k / 256 := by omega
  have h3 : ¬ 0x3210 ≤ k / 256 := by omega
  simp [State.normalBytes, h1, h2, h3]

theorem one_le_portLimit (p : Nat) : 1 ≤ portLimit p := by unfold portLimit; split_ifs <;> decide

/-- What a command object answers: its command's status, over the state that it leaves. -/
def commandReply (s : State) (w : Sender) (k v : Nat) : State :=
  let x := (taken s w (writeOf k [v])).command k v [v]
  reply w (writeOf k [v]) { status := x.1, ids := none, data := [], next := x.2 }

/-- An accepted write of one byte of a command object runs its command. -/
theorem act_command {s : State} {w : Sender} {k v : Nat} {row : ObjRow} (h : Accepted s w k [v]) (hr : findRow k = some row)
    (hw : row.acc = .wo) (hn : row.app = .now) (hk : k < 0x284000) (hv : v < 256) :
    s.act (fun s => s.write w k [v]) = .next (s.settle (commandReply s w k v)) := by
  have byte : leNat [v] = v := by simp [leNat, Nat.mod_eq_of_lt hv]
  rw [State.act_alive _ _ h.runs, write_command s w k [v] row h hr hw (by simp [hn]) (by omega) (one_le_portLimit _)
    (State.normalBytes_of_lt _ _ hk), byte]
  rfl

/-- What a byte object of class NOW answers whose value has been set, leaving `x`. -/
theorem act_applied {s x : State} {w : Sender} {k v : Nat} {row : ObjRow} (h : Accepted s w k [v]) (hr : findRow k = some row)
    (hw : row.acc ≠ .wo) (hn : row.app = .now) (hk : k < 0x284000)
    (hx : (taken s w (writeOf k [v])).setKey k [v] = (stOk, x)) :
    s.act (fun s => s.write w k [v]) =
      .next (s.settle (replyOk w (writeOf k [v]) (applied (taken s w (writeOf k [v])) k [v] x))) := by
  rw [State.act_alive _ _ h.runs, write_applied s w k [v] row h hr hw (by simp [hn]) (by omega) (one_le_portLimit _)
    (State.normalBytes_of_lt _ _ hk) (by omega)]
  simp [State.applyNow, hx, replyOk, applied]

/-! ### The run (R41) -/

section
variable {s : State}

theorem State.runStart_idle (h : s.run = rsIdle) :
    s.runStart = if s.startRefusal = stOk then (stOk, s.startRun) else (s.startRefusal, s) := by
  simp [State.runStart, h]

theorem State.runStart_stopping (h : s.run = rsStopping) :
    s.runStart = (stOk, ({ (if s.pos.stopAt then s.cutWindows else s) with
      pos := { s.pos with stopAt := false, stalled := false } }.put 0x204002 rsPendingStart).settleRun) := by
  have pos : (if s.pos.stopAt then s.cutWindows else s).pos = s.pos := by split <;> rfl
  simp only [State.runStart, h, pos]
  rfl

theorem State.runStart_pending (h : s.run = rsPendingStart) : s.runStart = (stOk, s) := by
  simp [State.runStart, h, rsIdle, rsStopping, rsPendingStart]

theorem State.runStart_running (h : s.run = rsStarting ∨ s.run = rsRunning ∨ s.run = rsStalled ∨ s.run = rsWaitEpoch) :
    s.runStart = (stState, s) := by
  rcases h with h | h | h | h <;>
    simp [State.runStart, h, rsIdle, rsStopping, rsPendingStart, rsStarting, rsRunning, rsStalled, rsWaitEpoch]

/-- A stop before the run accepts lines ends it. -/
theorem State.stopAtSection_waiting (h : s.run = rsStarting ∨ s.run = rsWaitEpoch) :
    s.stopAtSection = (s.put 0x204003 1).enterIdle := by
  rcases h with h | h <;> simp [State.stopAtSection, h, rsRunning, rsStalled, rsStarting, rsWaitEpoch]

theorem State.stopAtSection_pending (h : s.run = rsPendingStart) : s.stopAtSection = s.put 0x204002 rsStopping := by
  simp [State.stopAtSection, h, rsRunning, rsStalled, rsStarting, rsWaitEpoch, rsPendingStart]

/-- A stop at the section of a run that accepts lines. -/
theorem State.stopAtSection_running (h : s.run = rsRunning ∨ s.run = rsStalled) :
    s.stopAtSection =
      let t := { s.put 0x204003 1 with pos := { s.pos with stopAt := true } }.put 0x204002 rsStopping
      if (s.tmode = 2 ∨ s.tmode = 3) ∧ s.nextLine % max 1 (s.n 0x202002) = 0 then t.fixLast else t.procWatch := by
  simp [State.stopAtSection, h]

theorem State.stopNow_waiting (c : Nat) (h : s.run = rsStarting ∨ s.run = rsWaitEpoch) :
    s.stopNow c = (s.put 0x204003 c).enterIdle := by
  rcases h with h | h <;> simp [State.stopNow, h, rsRunning, rsStalled, rsStarting, rsWaitEpoch, rsStopping]

theorem State.stopNow_pending (c : Nat) (h : s.run = rsPendingStart) : s.stopNow c = s.put 0x204002 rsStopping := by
  simp [State.stopNow, h, rsRunning, rsStalled, rsStarting, rsWaitEpoch, rsPendingStart, rsStopping]

theorem State.stopNow_running (c : Nat) (h : s.run = rsRunning ∨ s.run = rsStalled ∨ s.run = rsStopping ∧ s.pos.stopAt = true) :
    s.stopNow c = ({ s.put 0x204003 c with pos := { s.pos with stopAt := false, stalled := false } }.put
      0x204002 rsStopping).cutWindows.settleRun.procWatch := by
  rw [← or_assoc] at h
  simp [State.stopNow, h]

end

/-- A run that is told to stop shows it, with its cause. -/
theorem run_of_stopping (s : State) (c : Int) (p : PosState) :
    ({ s.put 0x204003 c with pos := p }.put 0x204002 rsStopping).run = rsStopping
    ∧ ({ s.put 0x204003 c with pos := p }.put 0x204002 rsStopping).o 0x204003 = c :=
  ⟨State.o_put_self _ _ _, by rw [State.o_put_ne _ _ (by decide), State.o_with_pos, State.o_put_self]⟩

/-! ### Arming the epoch and software lines (R29, R46) -/

/-- Arming in IDLE arms the epoch, ends the sheet, and clears a failed position verification. -/
theorem State.armEpoch_arms {s : State} (hi : s.run = rsIdle) (hn : s.o 0x201804 ≠ 1) :
    s.armEpoch = (stOk, { (s.put 0x201804 1).put 0x15200B (if s.n 0x15200B % 16 = 2 then 0 else s.o 0x15200B) with
      pos := { s.pos with sheet := { s.pos.sheet with running := false, queued := none } } }) := by
  simp [State.armEpoch, hi, State.is, hn]

theorem State.softwareLine_open {s : State} (hm : s.tmode = 3) (ho : s.triggerOpen = true) : s.softwareLine = (stOk, s.externalLine) := by
  simp [State.softwareLine, hm, ho]

theorem State.softwareLine_refused {s : State} (h : s.tmode ≠ 3 ∨ s.triggerOpen = false) : s.softwareLine = (stState, s) := by
  simp [State.softwareLine, h]

/-! ### User entries (R40) -/

theorem findRow_userType (n : Fin 64) :
    findRow (userKey (192 + n) 2) = some ⟨0x21C0, 64, 0x02, 1, .u8, .rw, .now, 0, .oneOf [0, 16, 17]⟩ := by
  revert n; decide +kernel

/-- A write of a user entry's type arms or disarms the entry. -/
theorem State.setKey_userType (s : State) (n : Fin 64) {v : Nat} (hv : v < 256) :
    s.setKey (userKey (192 + n) 2) [v] = s.armUser (192 + n) v := by
  have byte : decodeVal .u8 [v] = (v : Int) := by simp [decodeVal, OTy.signed, leNat, Nat.mod_eq_of_lt hv]
  have index : userKey (192 + n) 2 / 256 = 0x2100 + (192 + n) := by unfold userKey; omega
  have sub : userKey (192 + n) 2 % 256 = 2 := by unfold userKey; omega
  have lo : 0x21C0 ≤ 0x2100 + (192 + (n : Nat)) := by omega
  have hi : 0x2100 + (192 + (n : Nat)) ≤ 0x21FF := by omega
  have entry : 0x2100 + (192 + (n : Nat)) - 0x2100 = 192 + n := by omega
  unfold State.setKey
  simp only [findRow_userType n, OTy.isBlob, byte]
  unfold State.setScalar
  simp only [index, sub, lo, hi, entry, decide_true, Bool.and_self, if_true, reduceCtorEq, if_false, Bool.false_eq_true]

section
variable {s : State} {n : Nat}

theorem State.armUser_free : s.armUser n 0 = (stOk, s.setUserType n 0) := by simp [State.armUser]

/-- A user entry as it is armed: the values that its sub-indices hold. -/
def State.userEntry (s : State) (n typ : Nat) : Armed :=
  { no := n, pos := s.o (userKey n 1), typ := typ, dir := s.n (userKey n 3), param := s.n (userKey n 4)
    tag := s.n (userKey n 5), ahead := decide (s.livePos ≤ s.o (userKey n 1)) }

/-- An entry whose parameter suits its type is armed, or counted as missed where its position lies behind. -/
theorem State.armUser_suits {typ : Nat} (ht : typ = 0x10 ∨ typ = 0x11)
    (hp : if typ = 0x10 then 4 ≤ s.o (userKey n 4) else s.o (userKey n 4) = 0) :
    s.armUser n typ =
      if behind (s.o (userKey n 3)) s.livePos (s.o (userKey n 1)) then
        (stOk, ((s.setUserType n 0).bump 0x220003).raise 0x010F n)
      else (stOk, { s.setUserType n typ with pos := { (s.setUserType n typ).pos with
        armed := s.userEntry n typ :: (s.setUserType n typ).pos.armed } }) := by
  have free : ¬ (typ : Int) = 0 := by rcases ht with rfl | rfl <;> decide
  have kind : ¬ (((typ : Int) ≠ 0x10 && (typ : Int) ≠ 0x11) = true) := by rcases ht with rfl | rfl <;> decide
  have pulse : ¬ ((decide ((typ : Int) = 0x10) && decide (s.o (userKey n 4) < 4)) = true) := by
    rcases ht with rfl | rfl <;> simp_all
  have mark : ¬ ((decide ((typ : Int) = 0x11) && decide (s.o (userKey n 4) ≠ 0)) = true) := by
    rcases ht with rfl | rfl <;> simp_all
  unfold State.armUser
  rw [if_neg free, if_neg kind, if_neg pulse, if_neg mark]
  rfl

/-- Setting a user entry's type shows it. -/
theorem State.o_setUserType (s : State) {n : Nat} (hn : n < 256) (typ : Int) : (s.setUserType n typ).o (userKey n 2) = typ := by
  have other : userKey n 2 ≠ 0x220002 := by unfold userKey; omega
  unfold State.setUserType
  rw [State.o_put_ne _ _ other, State.o_with_pos, State.o_put_self]

end

/-! ### The statement -/

/-- Settles O13: an accepted command answers what its operation does, and the operation's case gives the clause. -/
theorem runCommandsMoveTheRun : Obligations.RunCommandsMoveTheRun := by
  unfold Obligations.RunCommandsMoveTheRun
  intro s w q done refused
  have command {c : Instr} {k v : Nat} {row : ObjRow} (h : Accepted s w k [v]) (hc : exec c s = s.act (fun s => s.write w k [v]))
      (hr : findRow k = some row) (hw : row.acc = .wo) (hn : row.app = .now) (hk : k < 0x284000) (hv : v < 256) {st : Nat} {x : State}
      (hx : (q k [v]).command k v [v] = (st, x)) :
      exec c s = .next (s.settle (reply w (writeOf k [v]) { status := st, ids := none, data := [], next := x })) := by
    rw [hc, act_command h hr hw hn hk hv, commandReply, hx]
  have run {c : Instr} {v : Nat} (h : Accepted s w 0x204001 [v]) (hc : exec c s = s.act (fun s => s.write w 0x204001 [v]))
      (hv : v < 256) {st : Nat} {x : State} (hx : (q 0x204001 [v]).runCommand v = (st, x)) := command h hc rfl rfl rfl (by decide) hv hx
  refine ⟨fun h => ?_, fun h => ?_, fun h => ?_, fun h => ?_, fun h => ?_, fun h => ?_, fun n => ?_⟩
  · intro a
    refine ⟨fun hi hs => ?_, fun hi hs => ?_, fun hi => ?_, fun hi => ?_, fun hi => ?_⟩
    · exact run h rfl (by decide) ((State.runStart_idle hi).trans (if_pos hs))
    · exact run h rfl (by decide) ((State.runStart_idle hi).trans (if_neg hs))
    · exact run h rfl (by decide) (State.runStart_stopping hi)
    · exact run h rfl (by decide) (State.runStart_pending hi)
    · exact run h rfl (by decide) (State.runStart_running hi)
  · intro a
    refine ⟨fun hi => ?_, fun hi => ?_, fun hi => ?_⟩
    · exact run h rfl (by decide) (congrArg (Prod.mk stOk) (State.stopAtSection_waiting hi))
    · exact run h rfl (by decide) (congrArg (Prod.mk stOk) (State.stopAtSection_pending hi))
    · intro b now
      obtain ⟨stopping, cause⟩ := run_of_stopping a 1 { a.pos with stopAt := true }
      exact ⟨stopping, cause,
        fun hn => run h rfl (by decide) (congrArg (Prod.mk stOk) ((State.stopAtSection_running hi).trans (if_neg hn))),
        fun hn => run h rfl (by decide) (congrArg (Prod.mk stOk) ((State.stopAtSection_running hi).trans (if_pos hn)))⟩
  · intro a
    refine ⟨fun hi => ?_, fun hi => ?_, fun hi => ?_⟩
    · exact run h rfl (by decide) (congrArg (Prod.mk stOk) (State.stopNow_waiting 1 hi))
    · exact run h rfl (by decide) (congrArg (Prod.mk stOk) (State.stopNow_pending 1 hi))
    · exact ⟨run h rfl (by decide) (congrArg (Prod.mk stOk) (State.stopNow_running 1 hi)), run_of_stopping a 1 _⟩
  · intro a
    refine ⟨fun hi hn => ?_, fun hi => ?_⟩
    · refine ⟨_, command h rfl rfl rfl rfl (by decide) (by decide) (State.armEpoch_arms hi hn), ?_, rfl, rfl, fun hv => ?_⟩
      · rw [State.o_with_pos, State.o_put_ne _ _ (by decide), State.o_put_self]
      · rw [State.o_with_pos, State.o_put_self, if_pos hv]
    · exact command h rfl rfl rfl rfl (by decide) (by decide) (if_pos hi)
  · intro a
    refine ⟨fun hm ho => ?_, fun hm hr => ?_⟩
    · have open_ := State.softwareLine_open hm ho
      exact command h rfl rfl rfl rfl (by decide) (by decide) (congrArg (fun r => (r.1, a.rearmAfter r.2)) open_)
    · have closed := congrArg (fun r => (r.1, a.rearmAfter r.2)) (State.softwareLine_refused hm)
      exact command h rfl rfl rfl rfl (by decide) (by decide)
        (closed.trans (congrArg (Prod.mk stState) (a.rearmAfter_of_unarmed hr)))
  · exact command h rfl rfl rfl rfl (by decide) (by decide) rfl
  · intro k
    have below : k < 0x284000 := by unfold k userKey; omega
    refine ⟨fun h => ?_, fun typ ht h => ?_⟩
    · exact act_applied h (findRow_userType n) nofun rfl below
        ((State.setKey_userType _ n (by decide)).trans State.armUser_free)
    · intro a p hp
      have set := (State.setKey_userType a n (v := typ) (by omega)).trans (State.armUser_suits ht hp)
      refine ⟨fun hb => ?_, fun hb => ?_⟩
      · rw [if_neg (by simp only [hb, Bool.false_eq_true, not_false_eq_true, p] at hb ⊢)] at set
        refine ⟨_, act_applied h (findRow_userType n) nofun rfl below set, ?_, ?_⟩
        · exact State.o_setUserType a (n := 192 + n) (by omega) typ
        · exact List.mem_cons_self
      · rw [if_pos hb] at set
        exact act_applied h (findRow_userType n) nofun rfl below set

end Sys2Proof.Machine
end

section
/-!
What a line leaves alone (R30, R42, R53): from its trigger to its record and its part of the section's statistics, a line
writes no object of position keeping's settings and counters, keeps the last motion and issues no START. A state reached
from another by such steps alone is `LineKept`.
-/
namespace Sys2Proof.Machine

/-! ### The relation -/

/-- The objects, the last motion and the START to issue. -/
def State.lineView (s : State) : List (Nat × Int) × Nat × Bool := (s.objs, s.pos.motionT, s.pow.rearm)

/-- The second state differs from the first in what a line can change, at most. -/
structure LineKept (s t : State) : Prop where
  objs : ∀ k, k < 0x202804 → t.o k = s.o k
  motion : t.pos.motionT = s.pos.motionT
  rearm : t.pow.rearm = s.pow.rearm

theorem LineKept.refl (s : State) : LineKept s s := ⟨fun _ _ => rfl, rfl, rfl⟩

theorem LineKept.trans {s t u : State} (h : LineKept s t) (g : LineKept t u) : LineKept s u :=
  ⟨fun k hk => (g.objs k hk).trans (h.objs k hk), g.motion.trans h.motion, g.rearm.trans h.rearm⟩

section
variable {s t u : State}

/-- An update beside the objects, the last motion and the START to issue. -/
theorem LineKept.beside {x : State} (h : LineKept s t) (same : x.lineView = t.lineView) : LineKept s x := by
  obtain ⟨objs, motion, rearm⟩ : x.objs = t.objs ∧ x.pos.motionT = t.pos.motionT ∧ x.pow.rearm = t.pow.rearm := by
    simpa [State.lineView] using same
  exact h.trans ⟨fun k _ => by simp only [State.o, objs], motion, rearm⟩

theorem LineKept.log (h : LineKept s t) (g : LogSame t u) : LineKept s u :=
  h.trans ⟨fun k hk => g.objs k (by simp only [logKey, Bool.or_eq_false_iff, decide_eq_false_iff_not, Bool.and_eq_false_iff]; omega),
    by rw [g.pos], by rw [g.pow]⟩

theorem LineKept.put (h : LineKept s t) {k : Nat} (v : Int) (hk : 0x202804 ≤ k) : LineKept s (t.put k v) :=
  h.trans ⟨fun _ hj => State.o_put_ne t v (by omega), by rw [State.put_pos], by rw [State.put_pow]⟩

theorem LineKept.putB (h : LineKept s t) {k : Nat} (b : Bool) (hk : 0x202804 ≤ k) : LineKept s (t.putB k b) := h.put _ hk

theorem LineKept.bump (h : LineKept s t) {k : Nat} (d : Nat) (hk : 0x202804 ≤ k) : LineKept s (t.bump k d) :=
  h.put _ hk

theorem LineKept.sat (h : LineKept s t) {k : Nat} (d : Nat) (hk : 0x202804 ≤ k) : LineKept s (t.sat k d) := h.put _ hk

theorem LineKept.ite {c : Prop} [Decidable c] (h : LineKept s t) (g : LineKept s u) : LineKept s (if c then t else u) := by
  split
  · exact h
  · exact g

theorem LineKept.foldl {α : Type} {f : State → α → State} (h : LineKept s t) (g : ∀ {u}, LineKept s u → ∀ a, LineKept s (f u a))
    (l : List α) : LineKept s (l.foldl f t) :=
  List.foldlRecOn l f h fun _ hu a _ => g hu a

/-! ### Events and the host's queues -/

theorem LineKept.raiseAt (h : LineKept s t) (code seg elem : Nat) (data : Int) : LineKept s (t.raiseAt code seg elem data) :=
  h.log (t.raiseAt_same _ _ _ _)

theorem LineKept.raise (h : LineKept s t) (code : Nat) (data : Int) : LineKept s (t.raise code data) := h.log (t.raise_same _ _)

theorem LineKept.raiseFirst (h : LineKept s t) (code disc : Nat) (data : Int) : LineKept s (t.raiseFirst code disc data) :=
  h.log (t.raiseFirst_same _ _ _)

theorem LineKept.raiseFirstAt (h : LineKept s t) (code seg : Nat) (data : Int) : LineKept s (t.raiseFirstAt code seg data) :=
  LineKept.ite h (LineKept.raiseAt (h.beside (by rfl)) _ _ _ _)

theorem LineKept.signal (h : LineKept s t) (v : Nat) : LineKept s (t.signal v) := h.log (t.signal_same v)

theorem LineKept.dma (h : LineKept s t) (a b c : Nat) (bs : List Nat) : LineKept s (t.dma a b c bs) :=
  h.log ((LogSame.refl t).dma a b c bs)

theorem LineKept.detach (h : LineKept s t) (e : CqEntry) : LineKept s (t.detach e) := by
  unfold State.detach
  exact LineKept.ite ((h.beside (by rfl)).put _ (by omega))
    (LineKept.bump (LineKept.ite ((h.beside (by rfl)).raise _ _) (h.beside (by rfl))) 1 (by omega))

theorem LineKept.cqWrite (h : LineKept s t) (e : CqEntry) : LineKept s (t.cqWrite e) := by
  unfold State.cqWrite
  extract_lets p a b _ c
  have put : LineKept s b := (h.dma _ _ _ _).put _ (by omega)
  have turned : LineKept s c := LineKept.ite (put.beside (by rfl)) put
  exact turned.signal _

theorem LineKept.complete (h : LineKept s t) (e : CqEntry) : LineKept s (t.complete e) := by
  unfold State.complete
  exact LineKept.ite (h.detach e) (LineKept.ite (h.cqWrite e) (LineKept.ite (((h.raiseFirst _ _ _).beside (by rfl)).put _ (by omega))
    (LineKept.bump (LineKept.beside (LineKept.ite (h.raise _ _) h) (by rfl)) 1 (by omega))))

/-! ### The section's statistics -/

theorem LineKept.statCount (h : LineKept s t) (n : Nat) (skipped : Bool) : LineKept s (t.statCount n skipped) := by
  unfold State.statCount
  split
  · exact h.beside (by rfl)
  · exact h

theorem LineKept.updSection (h : LineKept s t) (n : Nat) (f : StatSection → StatSection) : LineKept s (t.updSection n f) :=
  h.beside (by rfl)

theorem LineKept.updStat (h : LineKept s t) (n src seg : Nat) (f : StatAcc → StatAcc) : LineKept s (t.updStat n src seg f) :=
  LineKept.ite (h.updSection _ _) (LineKept.ite (h.beside (by rfl)) h)

theorem LineKept.statLine (h : LineKept s t) (n src flags : Nat) (prim : Bool) : LineKept s (t.statLine n src flags prim) :=
  h.updStat _ _ _ _

theorem LineKept.skipLine (h : LineKept s t) (n : Nat) (p : Int) : LineKept s (t.skipLine n p) :=
  LineKept.foldl (LineKept.statCount (h.beside (by rfl)) n true) (fun hu x => LineKept.ite (hu.statLine _ _ _ _) hu) _

/-! ### Repairs, the turn of the arrays and the strobes' schedule -/

theorem LineKept.pulse (h : LineKept s t) (width : Nat) : LineKept s (t.pulse width) := h.beside (by rfl)

theorem LineKept.linePulse (h : LineKept s t) : LineKept s t.linePulse := LineKept.ite (h.pulse _) h

theorem LineKept.refreshExclusions (h : LineKept s t) : LineKept s t.refreshExclusions :=
  LineKept.foldl h (fun hu _ => ((hu.put _ (by omega)).put _ (by omega)).put _ (by omega)) _

theorem LineKept.refreshPlan (h : LineKept s t) : LineKept s t.refreshPlan :=
  LineKept.foldl (h.put _ (by omega)) (fun hu f => ((hu.put _ (by unfold fieldBase; omega)).put _ (by omega)).putB _ (by omega)) _

theorem LineKept.turnArrays (h : LineKept s t) : LineKept s t.turnArrays :=
  LineKept.ite h (h.putB _ (by omega)).refreshPlan.refreshExclusions

theorem LineKept.putBlob (h : LineKept s t) (k : Nat) (v : List Nat) : LineKept s (t.putBlob k v) :=
  LineKept.ite (h.beside (by rfl)) (h.beside (by rfl))

theorem LineKept.assignSpare (h : LineKept s t) (seg bank i c : Nat) (runtime : Bool) :
    LineKept s (t.assignSpare seg bank i c runtime) := by
  have set : LineKept s (t.setSpare seg bank i (c + if runtime then 0x8000 else 0)) := h.putBlob _ _
  unfold State.assignSpare
  extract_lets a _ b
  have done : LineKept s b := set.beside (by rfl)
  exact LineKept.ite (done.raiseAt _ _ _ _) done

theorem LineKept.unrepair (h : LineKept s t) (col bank cause line : Nat) : LineKept s (t.unrepair col bank cause line) :=
  LineKept.ite h (h.beside (by rfl))

theorem LineKept.replanStart (h : LineKept s t) (cause : Nat) : LineKept s (t.replanStart cause) :=
  LineKept.ite h ((h.beside (by rfl)).put _ (by omega))

theorem LineKept.growthCheck (h : LineKept s t) : LineKept s t.growthCheck :=
  LineKept.ite (LineKept.ite h ((h.raise _ _).replanStart _)) h

theorem LineKept.refreshRepairs (h : LineKept s t) : LineKept s t.refreshRepairs := by
  unfold State.refreshRepairs
  extract_lets a b c d
  have ha : LineKept s a := h.foldl (fun hu g => hu.foldl (fun hv b => ((hv.put _ (by omega)).put _ (by omega)).put _ (by omega)) _) _
  have hb : LineKept s b := ha.foldl (fun hu b => (hu.put _ (by unfold bankBase; omega)).put _ (by unfold bankBase; omega)) _
  have hc : LineKept s c := hb.foldl (fun hu i => hu.put _ (by omega)) _
  exact ((hc.put _ (by omega)).put _ (by omega)).growthCheck

theorem LineKept.applyRepairs (h : LineKept s t) (line : Nat) : LineKept s (t.applyRepairs line) := by
  unfold State.applyRepairs
  refine LineKept.ite h (LineKept.refreshRepairs (LineKept.foldl (h.beside (by rfl)) (fun {u} hu d => ?_) _))
  obtain ⟨seg, bank, _, c⟩ := d
  dsimp only
  split
  · exact (hu.assignSpare _ _ _ _ _).raiseAt _ _ _ _
  · exact hu.unrepair _ _ _ _

theorem LineKept.addRun (h : LineKept s t) (src bit last : Nat) : LineKept s (t.addRun src bit last) := h.beside (by rfl)

theorem LineKept.refillSource (h : LineKept s t) (src b n : Nat) : LineKept s (t.refillSource src b n) :=
  LineKept.addRun (h.beside (by rfl)) _ _ _

theorem LineKept.addSched (h : LineKept s t) (pos : Int) (typ dir param tag : Nat) :
    LineKept s (t.addSched pos typ dir param tag) :=
  (h.beside (by rfl)).put _ (by omega)

theorem LineKept.dropSched (h : LineKept s t) (f : SchedEntry → Bool) : LineKept s (t.dropSched f) :=
  (h.beside (by rfl)).put _ (by omega)

theorem LineKept.schedStrobes (h : LineKept s t) (line : Nat) (plan : List Phase) (grid : Int) :
    LineKept s (t.schedStrobes line plan grid) := by
  refine h.foldl (fun {u} hu p => ?_) _
  split
  · exact LineKept.ite hu (hu.addSched _ _ _ _ _)
  · exact hu

theorem LineKept.takeLine (h : LineKept s t) (n : Nat) (p : Int) : LineKept s (t.takeLine n p).1 := by
  unfold State.takeLine
  extract_lets a b c d
  have turned : LineKept s a := (h.applyRepairs n).turnArrays
  have refilled : LineKept s b := LineKept.ite (turned.foldl (fun hu f => hu.refillSource f n _) _) turned
  exact ((LineKept.statCount (refilled.beside (by rfl)) n false).linePulse).schedStrobes n _ p

/-! ### Calibration procedures -/

theorem LineKept.procEnd (h : LineKept s t) (reason : Nat) : LineKept s (t.procEnd reason) :=
  (((h.beside (by rfl)).put (k := 0x328013) _ (by omega)).put _ (by omega)).raise _ _

theorem LineKept.procStop (h : LineKept s t) (reason : Nat) : LineKept s (t.procStop reason) := LineKept.ite (h.procEnd _) h

theorem LineKept.procMotion (h : LineKept s t) : LineKept s t.procMotion := LineKept.ite (h.procStop _) h

theorem LineKept.procWatch (h : LineKept s t) : LineKept s t.procWatch :=
  LineKept.ite h (LineKept.ite (LineKept.ite (h.procStop _) h) (h.procStop _))

/-! ### The line's records -/

theorem strSt_high (k j : Nat) : 0x202804 ≤ strSt k j := by unfold strSt; omega

theorem LineKept.setStream (h : LineKept s t) (x : StreamSt) : LineKept s (t.setStream x) := h.beside (by rfl)

theorem LineKept.runEnd (h : LineKept s t) (k : Nat) : LineKept s (t.runEnd k) := by
  unfold State.runEnd
  extract_lets st
  split
  · exact h
  · exact ((h.setStream _).sat 1 (by omega)).complete _

theorem LineKept.runSettle (h : LineKept s t) (k : Nat) : LineKept s (t.runSettle k) := by
  unfold State.runSettle
  split
  · exact LineKept.ite h (h.runEnd _)
  · exact h

theorem LineKept.book (h : LineKept s t) (k sect due acc : Nat) : LineKept s (t.book k sect due acc) := h.beside (by rfl)

theorem LineKept.dropRecord (h : LineKept s t) (k first last lines sect cause : Nat) :
    LineKept s (t.dropRecord k first last lines sect cause) := by
  unfold State.dropRecord
  extract_lets a b st r
  have ha : LineKept s a := LineKept.ite (h.bump _ (strSt_high _ _)) (((h.bump 1 (by omega)).bump _ (strSt_high _ _)).raiseFirst _ _ _)
  have hb : LineKept s b := by
    unfold b
    split
    · exact LineKept.ite ha (ha.runEnd _)
    · exact ha
  exact ((hb.setStream _).book _ _ _ _).runSettle _

theorem LineKept.pushRecord (h : LineKept s t) (k : Nat) (r : SRec) : LineKept s (t.pushRecord k r) := h.setStream _

theorem LineKept.streamAdmitted (h : LineKept s t) (k : Nat) : LineKept s (t.streamAdmitted k) := by
  unfold State.streamAdmitted
  exact LineKept.ite (((h.runEnd k).put _ (strSt_high _ _)).raise _ _)
    (LineKept.ite ((h.runEnd k).put _ (strSt_high _ _)) (h.runEnd k))

theorem LineKept.takeTokens (h : LineKept s t) (n : Nat) : LineKept s (t.takeTokens n) :=
  (h.put (k := 0x380004) _ (by omega)).beside (by rfl)

theorem LineKept.offerRecord (h : LineKept s t) (k : Nat) (x : Shape) (r : SRec) : LineKept s (t.offerRecord k x r) :=
  LineKept.ite (((h.takeTokens _).streamAdmitted _).pushRecord _ _) (h.dropRecord _ _ _ _ _ _)

theorem LineKept.decideAsm (h : LineKept s t) (k : Nat) (a : Asm) : LineKept s (t.decideAsm k a) := by
  unfold State.decideAsm
  extract_lets x n ok sect b st
  have hb : LineKept s b := LineKept.ite ((h.takeTokens _).streamAdmitted _) (h.dropRecord _ _ _ _ _ _)
  exact LineKept.ite h ((hb.setStream _).runSettle _)

theorem LineKept.finishAsm (h : LineKept s t) (k line : Nat) : LineKept s (t.finishAsm k line) := by
  unfold State.finishAsm
  split
  · exact h
  · next a _ =>
    have decided := h.decideAsm k a
    refine LineKept.ite h ?_
    extract_lets b
    split
    · exact decided
    · exact LineKept.ite ((decided.setStream _).pushRecord _ _) (decided.setStream _)

theorem LineKept.setAsm (h : LineKept s t) (k line : Nat) (f : Asm → Asm) : LineKept s (t.setAsm k line f) := h.setStream _

theorem LineKept.padAsm (h : LineKept s t) (k line seg : Nat) : LineKept s (t.padAsm k line seg) := (h.setAsm _ _ _).finishAsm _ _

theorem LineKept.setStop (h : LineKept s t) (x : Stop) : LineKept s (t.setStop x) := h.beside (by rfl)

theorem LineKept.contribute (h : LineKept s t) (k line seg : Nat) : LineKept s (t.contribute k line seg) := by
  unfold State.contribute
  extract_lets x planes bytes blocks st new
  exact LineKept.ite (((h.bump 1 (by omega)).raiseFirstAt _ _ _).padAsm _ _ _) ((h.setAsm _ _ _).setStop _)

theorem LineKept.closeGroup (h : LineKept s t) (k g : Nat) : LineKept s (t.closeGroup k g) := by
  unfold State.closeGroup
  extract_lets st x ms lines last sect a b all fail need asm st' c m done
  have ha : LineKept s a := h.setStream _
  have hb : LineKept s b := ha.book _ _ _ _
  have hc : LineKept s c := hb.setStream _
  exact LineKept.ite h (LineKept.ite ((ha.book _ _ _ _).dropRecord _ _ _ _ _ _) (LineKept.ite ha
    (LineKept.ite (hb.offerRecord _ _ _) ((hc.foldl (fun hu g => hu.contribute k _ g) _).finishAsm _ _))))

theorem LineKept.streamLine (h : LineKept s t) (src key : Nat) : LineKept s (t.streamLine src key) :=
  h.foldl (fun hu k => LineKept.ite (hu.closeGroup k _) hu) _

theorem LineKept.streamLines (h : LineKept s t) (a b : Nat) : LineKept s (t.streamLines a b) :=
  h.foldl (fun hu _ => hu.foldl (fun hv f => hv.streamLine f _) _) _

theorem LineKept.settleGroups (h : LineKept s t) (src key : Nat) : LineKept s (t.settleGroups src key) :=
  h.foldl (fun hu k => LineKept.ite (hu.closeGroup k _) hu) _

theorem LineKept.settleRun (h : LineKept s t) : LineKept s t.settleRun := by
  unfold State.settleRun
  extract_lets ns
  split
  · exact LineKept.ite (h.foldl (fun hu f => hu.settleGroups f _) _) h
  · exact h

/-! ### The line's start -/

theorem blackBase_high (f : Nat) : 0x202804 ≤ blackBase f := by unfold blackBase; omega

theorem LineKept.darkState (h : LineKept s t) (src : Nat) (st : Int) : LineKept s (t.darkState src st) := by
  have set := h.put st (k := blackBase src + 6) (by have := blackBase_high src; omega)
  unfold State.darkState
  exact LineKept.ite (set.raise _ _) (LineKept.ite (set.raise _ _) set)

theorem LineKept.setDark (h : LineKept s t) (d : DarkAcc) : LineKept s (t.setDark d) := h.beside (by rfl)

theorem LineKept.darkRefill (h : LineKept s t) (src : Nat) : LineKept s (t.darkRefill src) := by
  refine LineKept.ite ((h.setDark _).darkState _ _) ?_
  split
  · exact (h.setDark _).darkState _ _
  · exact (h.setDark _).darkState _ _

theorem LineKept.refill (h : LineKept s t) (f b : Nat) : LineKept s (t.refill f b) := h.beside (by rfl)

theorem LineKept.refillStart (h : LineKept s t) (n : Nat) : LineKept s (t.refillStart n) :=
  LineKept.foldl (h.beside (by rfl)) (fun hu p => (hu.refill p.1 p.2).darkRefill p.1) _

theorem LineKept.pruneLines (h : LineKept s t) (n : Nat) : LineKept s (t.pruneLines n) := h.beside (by rfl)

theorem LineKept.substitute (h : LineKept s t) (f line : Nat) : LineKept s (t.substitute f line) :=
  h.foldl (fun hu _ => LineKept.beside hu (by rfl)) _

theorem LineKept.fillSkipped (h : LineKept s t) (n : Nat) : LineKept s (t.fillSkipped n) := by
  unfold State.fillSkipped
  split
  · exact h
  · exact h.foldl (fun hu m => hu.foldl (fun hv f => LineKept.ite (hv.substitute f m) hv) _) _

theorem LineKept.strobeLineStart (h : LineKept s t) : LineKept s t.strobeLineStart := h.beside (by rfl)

theorem LineKept.startLine (h : LineKept s t) (q : QTrig) (waited : Bool) : LineKept s (t.startLine q waited) := by
  have pruned := ((h.fillSkipped q.line).refillStart q.line).pruneLines q.line
  unfold State.startLine
  extract_lets n start a tline extra _ r c _ _ _ b d
  have hb : LineKept s b := pruned.beside (by rfl)
  have hd : LineKept s d := (hb.dropSched _).strobeLineStart
  exact LineKept.ite (hd.beside (by rfl)) hd

theorem LineKept.acceptLine (h : LineKept s t) (n : Nat) (p : Int) : LineKept s (t.acceptLine n p) := by
  have taken := h.procMotion.takeLine n p
  unfold State.acceptLine
  extract_lets flush r a
  have ha : LineKept s a := LineKept.ite taken ((taken.bump 1 (by omega)).raiseFirst _ _ _)
  exact LineKept.ite (((h.linePulse.bump 1 (by omega)).raiseFirst _ _ _).skipLine _ _)
    (LineKept.ite (ha.beside (by rfl)) ((taken.startLine _ _).streamLines _ _))

theorem LineKept.cutWindows (h : LineKept s t) : LineKept s t.cutWindows := h.beside (by rfl)

/-- What follows when a run's last line is fixed (R41). -/
theorem LineKept.lastLineFixed (h : LineKept s t) : LineKept s t.cutWindows.settleRun.procWatch :=
  h.cutWindows.settleRun.procWatch

theorem LineKept.fixLast (h : LineKept s t) : LineKept s t.fixLast := LineKept.lastLineFixed (h.beside (by rfl))

end
end Sys2Proof.Machine
end

section
/-!
Lines (R30 to R33, R39, R41, R50 to R54): the cases of a grid point's line, of the queued line, of the run's end and of a stall,
and the statement about them.
-/
namespace Sys2Proof.Machine

/-! ### The grid's line -/

/-- The grid point that has been reached, with no user entry before it, triggers its line. -/
theorem State.gridTrigger_due {s : State} {t : Nat} :
    let a := if s.tmode = 1 ∧ s.o 0x202804 ≠ 0 then (s.atTick t).resumeMotion else s.atTick t
    a.gridDue = true → a.entryBefore = false → s.gridTrigger t = a.gridLine := by
  intro a hd he
  have step : s.gridTrigger t = if a.gridDue && !a.entryBefore then a.gridLine else s := by
    unfold State.gridTrigger
    simp only [Bool.and_eq_true, decide_eq_true_eq]
    rfl
  rw [step, hd, he]
  rfl

/-- The line counter stands at a line that the grid or a trigger reaches. -/
def State.lineCounted (s : State) (n : Nat) : State :=
  { s.put 0x202003 n with pos := { s.pos with counted := true, lastLine := some n } }

section
variable {s : State} {n : Nat} {p : Int}

@[simp] theorem State.lineCounted_tmode : (s.lineCounted n).tmode = s.tmode := State.o_put_ne _ _ (by decide)
@[simp] theorem State.lineCounted_run : (s.lineCounted n).run = s.run := State.o_put_ne _ _ (by decide)
@[simp] theorem State.lineCounted_accepting : (s.lineCounted n).accepting = s.accepting := by
  unfold State.accepting; rw [State.lineCounted_run]; rfl
@[simp] theorem State.lineCounted_now : (s.lineCounted n).now = s.now := State.put_now s _ _
@[simp] theorem State.lineCounted_lineBusy : (s.lineCounted n).lineBusy = s.lineBusy := by
  unfold State.lineBusy State.flushing; rw [State.lineCounted_now]; rfl

/-- A line that is no boundary is taken, skipped or counted by what the run and the trigger queue allow. -/
theorem State.triggerLine_within (h : n % max 1 (s.n 0x202002) ≠ 0) : s.triggerLine n p =
    if s.accepting then (s.lineCounted n).acceptLine n p
    else if s.pos.trigQ.isNone then (s.lineCounted n).streamLines n n else s.lineCounted n := by
  have length : (s.lineCounted n).n 0x202002 = s.n 0x202002 := congrArg Int.toNat (State.o_put_ne _ _ (by decide))
  have same : s.triggerLine n p =
      let y := s.lineCounted n
      let x := if n % max 1 (y.n 0x202002) = 0 then y.boundary n p else y
      let x := if y.pos.stopAt && !x.pos.stopAt then x.cutWindows.settleRun.procWatch else x
      if x.accepting then x.acceptLine n p else if x.pos.trigQ.isNone then x.streamLines n n else x := rfl
  rw [same]
  simp only [length, h, if_false, Bool.and_not_self, Bool.false_eq_true, State.lineCounted_accepting]
  rfl

/-- A trigger that meets a full queue is skipped. -/
theorem State.acceptLine_queued (h : s.pos.trigQ.isSome = true) :
    s.acceptLine n p = ((s.linePulse.bump 0x203002).raiseFirst 0x010C 0 n).skipLine n p := by simp [State.acceptLine, h]

/-- A trigger during the sequence before it waits in the queue. -/
theorem State.acceptLine_waits (h : s.pos.trigQ = none) (hb : s.lineBusy = true) (hc : s.now < s.pos.convEnd) : s.acceptLine n p =
    let r := s.procMotion.takeLine n p
    let b := (r.1.bump 0x203001).raiseFirst 0x010B 0 n
    { b with pos := { b.pos with trigQ := some { r.2 with flush := false } } } := by
  unfold State.acceptLine
  simp only [h, hb, Option.isSome_none, decide_eq_false (not_le.mpr hc), Bool.false_eq_true, if_false, if_true]

/-- A trigger with no sequence before it starts its line. -/
theorem State.acceptLine_starts (h : s.pos.trigQ = none) (hb : s.lineBusy = false) : s.acceptLine n p =
    let r := s.procMotion.takeLine n p
    (r.1.startLine r.2 false).streamLines n n := by
  simp [State.acceptLine, h, hb]

/-- A line that is no boundary keeps the settings of position keeping and the last motion. -/
theorem State.triggerLine_kept (h : n % max 1 (s.n 0x202002) ≠ 0) : LineKept (s.lineCounted n) (s.triggerLine n p) := by
  have counted := LineKept.refl (s.lineCounted n)
  rw [State.triggerLine_within h]
  exact LineKept.ite (counted.acceptLine n p) (LineKept.ite (counted.streamLines n n) counted)

end

theorem State.o_pitchAfter (s : State) (n : Nat) (e : Int) {k : Nat} (h : k ≠ 0x202005) : (s.pitchAfter n e).o k = s.o k := by
  unfold State.pitchAfter
  extract_lets step eff
  split
  · exact State.o_put_ne _ _ h
  · rfl

/-- In PITCH mode the grid's line is triggered, and the grid moves on by one. -/
theorem State.gridLine_within {s : State} (hm : s.tmode = 0) (h : s.nextLine % max 1 (s.n 0x202002) ≠ 0) : s.gridLine =
    (s.triggerLine s.nextLine s.nextGrid).pitchAfter s.nextLine (s.pos.gridA + s.pos.gridJ * s.pitch) := by
  have number : s.gridNumber = s.nextLine := by simp [State.gridNumber, hm]
  have mode : ∀ e, ((s.triggerLine s.nextLine s.nextGrid).pitchAfter s.nextLine e).tmode = 0 := fun e =>
    calc ((s.triggerLine s.nextLine s.nextGrid).pitchAfter s.nextLine e).tmode
      _ = (s.triggerLine s.nextLine s.nextGrid).tmode := State.o_pitchAfter _ _ _ (by decide)
      _ = (s.lineCounted s.nextLine).tmode := (State.triggerLine_kept h).objs _ (by decide)
      _ = 0 := State.lineCounted_tmode.trans hm
  unfold State.gridLine
  simp only [number, mode, OfNat.zero_ne_ofNat, if_false]

/-! ### The queued line and the end of a run -/

/-- The line that waits in the queue starts when the sequence or the flush transfer before it ends. -/
theorem State.queuedStart_waiting {s : State} {q : QTrig} (h : s.pos.trigQ = some q) : s.queuedStart =
    let a := s.atTick (max s.pos.convEnd (s.pos.flushEnd.getD 0))
    let x := ({ a with pos := { a.pos with trigQ := none } }.startLine q (!q.flush)).streamLines q.line (s.pos.lastLine.getD q.line)
    if x.accepting then x else x.settleRun := by
  unfold State.queuedStart
  rw [h]
  rfl

theorem State.runStopped_stopping {s : State} (hr : s.run = rsStopping) (ha : s.pos.stopAt = false) (hd : s.linesDone = true) :
    s.runStopped = ((s.atTick s.pos.convEnd).raise 0x0113).enterIdle := by
  have run : (s.atTick s.pos.convEnd).run = rsStopping := hr
  simp [State.runStopped, hr, ha, hd, run]

theorem State.runStopped_pending {s : State} (hr : s.run = rsPendingStart) (hd : s.linesDone = true) :
    s.runStopped = (s.atTick s.pos.convEnd).enterIdle := by
  have run : (s.atTick s.pos.convEnd).run = rsPendingStart := hr
  have other : rsPendingStart ≠ rsStopping := by decide
  simp [State.runStopped, hr, hd, run, other]

/-! ### Stalls (R33) -/

theorem State.o_slipHold_ne (s : State) {k : Nat} (hk : k ≠ 0x2C1006) (hl : logKey k = false) : s.slipHold.o k = s.o k := by
  unfold State.slipHold
  split
  · rw [State.o_raise _ _ _ hl]; exact State.o_put_ne _ _ hk
  · rfl

@[simp] theorem State.cutWindows_pos (s : State) : s.cutWindows.pos = s.pos := rfl
@[simp] theorem State.cutWindows_now (s : State) : s.cutWindows.now = s.now := rfl
@[simp] theorem State.o_cutWindows (s : State) (k : Nat) : s.cutWindows.o k = s.o k := rfl

/-- The state in which the stall time ends, before its first flush transfer. -/
def State.stallEntered (s : State) : State :=
  let a := s.atTick (s.pos.motionT + s.n 0x201004 * tickUs)
  let b := if a.run = rsRunning then a.put 0x204002 rsStalled else a
  let c := { b with pos := { b.pos with stalled := true, ivals := [], ivT := none } }
  ((((c.put 0x201005 2).put 0x201002 0).bump 0x203003).raise 0x0108).cutWindows.slipHold

theorem State.stallTimeout_stalls {s : State} (h : s.stallCondition = true) :
    s.stallTimeout = s.stallEntered.flushTransfer.procWatch := by
  have step : s.stallTimeout = if !s.stallCondition then s else s.stallEntered.flushTransfer.procWatch := rfl
  exact step.trans (if_neg (by simp [h]))

theorem State.stallEntered_pos (s : State) :
    s.stallEntered.pos = { s.pos with stalled := true, ivals := [], ivT := none } := by
  unfold State.stallEntered
  extract_lets a b _ c
  have same : b.pos = s.pos := by unfold b; split <;> simp [a]
  have marks : c.pos = { s.pos with stalled := true, ivals := [], ivT := none } := by
    show { b.pos with stalled := true, ivals := [], ivT := none } = _
    rw [same]
  rw [State.slipHold_pos, State.cutWindows_pos, State.raise_pos, State.bump_pos, State.put_pos, State.put_pos]
  exact marks

theorem State.stallEntered_now (s : State) : s.stallEntered.now = max s.now (s.pos.motionT + s.n 0x201004 * tickUs) := by
  unfold State.stallEntered
  extract_lets a b _ c
  have same : b.now = a.now := by unfold b; split <;> simp
  rw [State.slipHold_now, State.cutWindows_now, State.raise_now, State.bump_now, State.put_now, State.put_now]
  exact same

/-- The objects that a stall sets, beside the slip loop's state and the log. -/
theorem State.o_stallEntered (s : State) {k : Nat} (hk : k ≠ 0x2C1006) (hl : logKey k = false) : s.stallEntered.o k =
    if k = 0x203003 then (s.o 0x203003 + 1) % 2 ^ 32 else if k = 0x201002 then 0 else if k = 0x201005 then 2
    else if k = 0x204002 ∧ s.run = rsRunning then rsStalled else s.o k := by
  unfold State.stallEntered
  extract_lets a b _ c
  have same : ∀ j, c.o j = if j = 0x204002 ∧ s.run = rsRunning then rsStalled else s.o j := by
    intro j
    show b.o j = _
    have run : a.run = s.run := rfl
    by_cases hr : s.run = rsRunning
    · simp only [b, run, hr, if_true, and_true, State.o_put]; rfl
    · simp only [b, run, hr, if_false, and_false]; rfl
  have width : maxOf 0x203003 + 1 = 2 ^ 32 := by decide +kernel
  rw [State.o_slipHold_ne _ hk hl, State.o_cutWindows, State.o_raise _ _ _ hl, State.bump_eq, width]
  simp only [State.o_put, same]
  rfl

/-- A flush transfer that is due in a stall begins, and the next is due a millisecond later. -/
theorem State.flushDue_stalled {s : State} (h : s.pos.stalled = true) : s.flushDue =
    let a := s.atTick s.pos.nextFlush
    { a.bump 0x203004 with pos := { a.pos with
      flushEnd := some (a.now + (a.bump 0x203004).flushLen), nextFlush := a.now + tickMs } } := by
  unfold State.flushDue State.flushTransfer
  simp only [h, if_true, State.bump_pos, State.bump_now]

theorem State.flushDone_ends {s : State} {e : Nat} (h : s.pos.flushEnd = some e) :
    s.flushDone = { s.atTick e with pos := { s.pos with flushEnd := none } } := by
  unfold State.flushDone
  rw [h]

/-! ### The statement -/

/-- Settles O10: each clause is the case of its operation. -/
theorem linesStartStallAndStop : Obligations.LinesStartStallAndStop := by
  unfold Obligations.LinesStartStallAndStop
  intro s t alive unarmed awake out
  have clocked (f : State → State) := s.actClocked_running f alive awake
  have grid {x : State} (h : s.gridTrigger t = x) : exec (.lineTrigger t) s = out (s.rearmAfter x) :=
    h ▸ clocked fun s => s.rearmAfter (s.gridTrigger t)
  refine ⟨?_, ?_, ?_, ?_, ?_, ?_, ?_, ?_⟩
  · intro a y
    have counted : y = a.lineCounted a.nextLine := rfl
    clear_value y
    subst counted
    intro hm hd he hb go
    have trigger : s.gridTrigger t = (a.triggerLine a.nextLine a.nextGrid).pitchAfter a.nextLine (a.pos.gridA + a.pos.gridJ * a.pitch) := by
      have due := State.gridTrigger_due (s := s) (t := t)
      rw [if_neg (by simp [hm])] at due
      exact (due hd he).trans (State.gridLine_within hm hb)
    have goes {x : State} (hx : a.triggerLine a.nextLine a.nextGrid = x) : go x :=
      grid (hx ▸ trigger)
    have line := State.triggerLine_within (s := a) (p := a.nextGrid) hb
    refine ⟨fun ha hq => ?_, fun ha hq => ?_, fun ha hq => ?_, fun ha hq hf => ?_, fun ha hq hf hc => ?_⟩
    · exact goes (line.trans ((if_neg (Bool.eq_false_iff.mp ha)).trans (if_neg fun hn =>
        Option.isSome_iff_ne_none.mp hq (Option.isNone_iff_eq_none.mp hn))))
    · exact goes (line.trans ((if_neg (Bool.eq_false_iff.mp ha)).trans (if_pos (Option.isNone_iff_eq_none.mpr hq))))
    · exact goes (line.trans ((if_pos ha).trans (State.acceptLine_queued hq)))
    · exact goes (line.trans ((if_pos ha).trans (State.acceptLine_starts hq (State.lineCounted_lineBusy.trans hf))))
    · exact goes (line.trans ((if_pos ha).trans (State.acceptLine_waits hq (State.lineCounted_lineBusy.trans hf)
        (State.lineCounted_now.trans_lt hc))))
  · intro a hd he
    exact grid (State.gridTrigger_due hd he)
  · intro q hq a x
    exact (clocked _).trans (congrArg out (State.queuedStart_waiting hq))
  · intro hr ha hd
    exact (s.act_alive _ alive).trans (congrArg (fun x => out x.thermalSettle) (State.runStopped_stopping hr ha hd))
  · intro hr hd
    exact (s.act_alive _ alive).trans (congrArg (fun x => out x.thermalSettle) (State.runStopped_pending hr hd))
  · intro h
    have pos := s.stallEntered_pos
    refine ⟨s.stallEntered, (clocked _).trans (congrArg out (State.stallTimeout_stalls h)), by rw [pos], by rw [pos],
      s.o_stallEntered (by decide) rfl, s.o_stallEntered (by decide) rfl, s.o_stallEntered (by decide) rfl, s.stallEntered_now, ?_, ?_⟩
    · intro hr
      exact (s.o_stallEntered (by decide) rfl).trans (by simp [hr])
    · intro hr
      exact (s.o_stallEntered (by decide) rfl).trans (by simp only [true_and, hr, if_false]; rfl)
  · intro h a
    exact (clocked _).trans (congrArg out (State.flushDue_stalled h))
  · intro e he
    exact (clocked _).trans (congrArg out (State.flushDone_ends he))

end Sys2Proof.Machine
end

section
/-!
What issues no START (R442): the START that is kept for the return from hold-up is issued, or forgotten, by commands of the
run alone. A state reached from another without either is `RearmKept`; here, the operations of the units that a section's
boundary and its commits call upon.
-/
namespace Sys2Proof.Machine

/-! ### The relation -/

/-- The second state keeps the START to issue. -/
def RearmKept (s t : State) : Prop := t.pow.rearm = s.pow.rearm

theorem RearmKept.refl (s : State) : RearmKept s s := Eq.refl _

theorem RearmKept.trans {s t u : State} (h : RearmKept s t) (g : RearmKept t u) : RearmKept s u := Eq.trans g h

section
variable {s t u : State}

/-- An update beside the START to issue. -/
theorem RearmKept.beside {x : State} (h : RearmKept s t) (rearm : x.pow.rearm = t.pow.rearm) : RearmKept s x := rearm.trans h

theorem RearmKept.line (h : RearmKept s t) (g : LineKept t u) : RearmKept s u := h.beside g.rearm

theorem RearmKept.log (h : RearmKept s t) (g : LogSame t u) : RearmKept s u := h.beside (by rw [g.pow])

theorem RearmKept.put (h : RearmKept s t) (k : Nat) (v : Int) : RearmKept s (t.put k v) := h.beside (by rw [State.put_pow])

theorem RearmKept.putB (h : RearmKept s t) (k : Nat) (b : Bool) : RearmKept s (t.putB k b) := h.put _ _

theorem RearmKept.bump (h : RearmKept s t) (k : Nat) (d : Nat := 1) : RearmKept s (t.bump k d) := h.put _ _

theorem RearmKept.sat (h : RearmKept s t) (k : Nat) (d : Nat := 1) : RearmKept s (t.sat k d) := h.put _ _

theorem RearmKept.setBits (h : RearmKept s t) (k m : Nat) : RearmKept s (t.setBits k m) := h.put _ _

theorem RearmKept.clrBits (h : RearmKept s t) (k m : Nat) : RearmKept s (t.clrBits k m) := h.put _ _

theorem RearmKept.ite {c : Prop} [Decidable c] (h : RearmKept s t) (g : RearmKept s u) : RearmKept s (if c then t else u) := by
  split
  · exact h
  · exact g

/-- An operation that answers with a status. -/
theorem RearmKept.iteReply {c : Prop} [Decidable c] {x y : Nat × State} (h : RearmKept s x.2) (g : RearmKept s y.2) :
    RearmKept s (if c then x else y).2 := by
  split
  · exact h
  · exact g

theorem RearmKept.reply (h : RearmKept s t) (status : Nat) : RearmKept s (status, t).2 := h

theorem RearmKept.foldl {α : Type} {f : State → α → State} (h : RearmKept s t)
    (g : ∀ {u}, RearmKept s u → ∀ a, RearmKept s (f u a))
    (l : List α) : RearmKept s (l.foldl f t) :=
  List.foldlRecOn l f h fun _ hu a _ => g hu a

theorem RearmKept.puts (h : RearmKept s t) (l : List (Nat × Int)) : RearmKept s (t.puts l) :=
  h.foldl (fun hu p => hu.put p.1 p.2) l

theorem RearmKept.raiseAt (h : RearmKept s t) (code seg elem : Nat) (data : Int) : RearmKept s (t.raiseAt code seg elem data) :=
  h.log (t.raiseAt_same _ _ _ _)

theorem RearmKept.raise (h : RearmKept s t) (code : Nat) (data : Int) : RearmKept s (t.raise code data) :=
  h.log (t.raise_same _ _)

theorem RearmKept.raiseFirst (h : RearmKept s t) (code disc : Nat) (data : Int) : RearmKept s (t.raiseFirst code disc data) :=
  h.log (t.raiseFirst_same _ _ _)

theorem RearmKept.dma (h : RearmKept s t) (a b c : Nat) (bs : List Nat) : RearmKept s (t.dma a b c bs) :=
  h.log ((LogSame.refl t).dma a b c bs)

theorem RearmKept.queueFrame (h : RearmKept s t) (f : TxFrame) : RearmKept s (t.queueFrame f) :=
  h.log ((LogSame.refl t).queueFrame f)

/-! ### The host's rings and Reach -/

theorem RearmKept.complete (h : RearmKept s t) (e : CqEntry) : RearmKept s (t.complete e) := h.line ((LineKept.refl t).complete e)

theorem RearmKept.cqWrite (h : RearmKept s t) (e : CqEntry) : RearmKept s (t.cqWrite e) := h.line ((LineKept.refl t).cqWrite e)

theorem RearmKept.setRing (h : RearmKept s t) (x : RingSt) : RearmKept s (t.setRing x) := h.beside (by rfl)

theorem RearmKept.bufDone (h : RearmKept s t) (r : Nat) : RearmKept s (t.bufDone r) := by
  unfold State.bufDone
  split
  · exact h
  · exact ((h.setRing _).put _ _).complete _

theorem RearmKept.bufClose (h : RearmKept s t) (r : Nat) : RearmKept s (t.bufClose r) := RearmKept.ite (h.bufDone r) h

theorem RearmKept.gapReport (h : RearmKept s t) (slot : Nat) : RearmKept s (t.gapReport slot) := by
  unfold State.gapReport
  split
  · exact h
  · exact (RearmKept.bump (RearmKept.bump (h.beside (by rfl)) _) _ _).complete _

theorem RearmKept.setPage (h : RearmKept s t) (slot : Nat) (f : Page → Page) : RearmKept s (t.setPage slot f) := h.beside (by rfl)

theorem RearmKept.reachCounts (h : RearmKept s t) : RearmKept s t.reachCounts := h.puts _

theorem RearmKept.holdCounts (h : RearmKept s t) : RearmKept s t.holdCounts := h.foldl (fun hu _ => hu.put _ _) _

theorem RearmKept.closePage (h : RearmKept s t) (short returning : Bool) : RearmKept s (t.closePage short returning) := by
  unfold State.closePage
  split
  · exact h
  · split
    · exact h
    · next o _ p _ =>
      extract_lets a _ b covering room st c d e
      have hb : RearmKept s b := (h.dma _ _ _ _).beside (by rfl)
      have hc : RearmKept s c := hb.setPage _ _
      have hd : RearmKept s d := RearmKept.ite ((hc.foldl (fun hu k => hu.put _ _) _).raise _ _) hc
      exact (hd.complete _).holdCounts.reachCounts

theorem RearmKept.reachUnbind (h : RearmKept s t) : RearmKept s t.reachUnbind :=
  have closed := (h.closePage true false).gapReport 0xFFFFFFFF
  RearmKept.ite (closed.put _ _) closed

theorem RearmKept.ringEnable (h : RearmKept s t) (r : Nat) (on : Bool) : RearmKept s (t.ringEnable r on).2 :=
  RearmKept.iteReply
    (RearmKept.iteReply h (RearmKept.iteReply h ((h.puts _).setRing _)))
    (RearmKept.iteReply h (RearmKept.iteReply h (((h.bufDone r).puts _).setRing _)))

theorem RearmKept.drainBacklog (h : RearmKept s t) (n : Nat) : RearmKept s (State.drainBacklog n t) := by
  induction n generalizing t with
  | zero => exact h
  | succ n ih =>
    unfold State.drainBacklog
    split
    · exact h
    · exact RearmKept.ite h (ih ((RearmKept.put (h.beside (by rfl)) _ _).cqWrite _))

theorem RearmKept.cqEnable (h : RearmKept s t) (on : Bool) : RearmKept s (t.cqEnable on).2 := by
  unfold State.cqEnable
  extract_lets a all _ b c
  have hb : RearmKept s b := (h.puts _).beside (by rfl)
  have hc : RearmKept s c := hb.drainBacklog _
  exact RearmKept.iteReply (RearmKept.iteReply h (hc.put _ _)) (RearmKept.iteReply h (h.put _ _))

theorem RearmKept.evEnable (h : RearmKept s t) (on : Bool) : RearmKept s (t.evEnable on) :=
  RearmKept.ite ((h.puts _).beside (by rfl)) (h.putB _ _)

/-! ### Auxiliary video, the network and the Sluice -/

theorem RearmKept.setAux (h : RearmKept s t) (x : AuxChan) : RearmKept s (t.setAux x) := h.beside (by rfl)

theorem RearmKept.auxStates (h : RearmKept s t) : RearmKept s t.auxStates := h.foldl (fun hu _ => hu.put _ _) _

theorem RearmKept.auxClose (h : RearmKept s t) (v : Nat) : RearmKept s (t.auxClose v) := by
  unfold State.auxClose
  extract_lets x
  split
  · exact h
  · extract_lets n flag pad a b c
    have hb : RearmKept s b := (h.setAux _).bump _
    have hc : RearmKept s c := RearmKept.ite hb ((hb.bump _ _).raiseFirst _ _ _)
    exact hc.auxStates

theorem RearmKept.csiEnable (h : RearmKept s t) (on : Bool) : RearmKept s (t.csiEnable on).2 := by
  unfold State.csiEnable
  extract_lets st a b
  have ha : RearmKept s a := h.putB _ _
  have hb : RearmKept s b := RearmKept.ite
    (RearmKept.ite (ha.put _ _) (RearmKept.ite (ha.put _ _) (RearmKept.ite (ha.put _ _) ha)))
    (RearmKept.ite (ha.put _ _) (RearmKept.ite ((ha.foldl (fun hu v => hu.auxClose v) _).put _ _) (RearmKept.ite (ha.put _ _) ha)))
  exact RearmKept.iteReply h (hb.auxStates.reply _)

theorem RearmKept.streamRenumber (h : RearmKept s t) (n : Nat) : RearmKept s (t.streamRenumber n) :=
  h.beside (by obtain ⟨c, hc⟩ := t.streamRenumber_eq n; rw [hc])

theorem RearmKept.auxEnabled (h : RearmKept s t) (v : Nat) (was : Bool) : RearmKept s (t.auxEnabled v was) :=
  RearmKept.ite ((h.setAux _).streamRenumber _).auxStates h.auxStates

theorem RearmKept.netEnable (h : RearmKept s t) (on : Bool) : RearmKept s (t.netEnable on) := by
  unfold State.netEnable
  extract_lets a _ b
  have ha : RearmKept s a := h.putB _ _
  have hb : RearmKept s b := RearmKept.ite ha (RearmKept.ite (ha.beside (by rfl)) (ha.put _ _))
  exact RearmKept.ite (hb.beside (by rfl)) (hb.beside (by rfl))

theorem RearmKept.pull (h : RearmKept s t) (low : Bool) : RearmKept s (t.pull low) :=
  have shown := RearmKept.ite (c := low = true) (h.put 0x545005 0) h
  shown.beside (by rfl)

theorem RearmKept.sluiceJoin (h : RearmKept s t) (on : Bool) : RearmKept s (t.sluiceJoin on).2 :=
  RearmKept.iteReply (RearmKept.iteReply (((h.put _ _).put _ _).pull true) (h.put _ _)) (RearmKept.iteReply h ((h.puts _).pull false))

theorem RearmKept.plcaChanged (h : RearmKept s t) : RearmKept s t.plcaChanged := h.put _ _

theorem RearmKept.barrierApplied (h : RearmKept s t) (c : Commit) : RearmKept s (t.barrierApplied c) := by
  unfold State.barrierApplied
  split
  · exact RearmKept.ite ((h.put _ _).beside (by rfl)) h
  · exact h

/-! ### Two-wire jobs -/

theorem RearmKept.jobTrigger (h : RearmKept s t) (j : Nat) : RearmKept s (t.jobTrigger j) :=
  RearmKept.ite (h.put _ _) (RearmKept.ite h ((h.bump _).raiseFirst _ _ _))

theorem RearmKept.twcBoundary (h : RearmKept s t) : RearmKept s t.twcBoundary :=
  h.foldl (fun hu j => RearmKept.ite (hu.jobTrigger j) hu) _

theorem RearmKept.jobStatus (h : RearmKept s t) (j status : Nat) : RearmKept s (t.jobStatus j status) := by
  unfold State.jobStatus
  extract_lets failed was a b
  have ha : RearmKept s a := (h.put _ _).put _ _
  have hb : RearmKept s b := RearmKept.ite (ha.bump _) ha
  exact RearmKept.ite (hb.raise _ _) hb

theorem RearmKept.jobEnd (h : RearmKept s t) (j status : Nat) : RearmKept s (t.jobEnd j status) := by
  unfold State.jobEnd
  extract_lets a _ b
  have ha : RearmKept s a := ((h.jobStatus _ _).bump _).put _ _
  have hb : RearmKept s b := ha.beside (by rfl)
  exact RearmKept.ite (hb.put _ _) hb

theorem RearmKept.twcDown (h : RearmKept s t) : RearmKept s t.twcDown := by
  unfold State.twcDown
  extract_lets a
  have ha : RearmKept s a := by
    unfold a
    split
    · exact h.jobEnd _ _
    · exact h
  exact ha.put _ _

theorem RearmKept.twcShed (h : RearmKept s t) : RearmKept s t.twcShed :=
  RearmKept.foldl (h.twcDown.beside (by rfl)) (fun hu _ => hu.put _ _) _

theorem RearmKept.clearBegin (h : RearmKept s t) : RearmKept s t.clearBegin := by
  unfold State.clearBegin
  extract_lets a
  have ha : RearmKept s a := by
    unfold a
    split
    · exact h.jobEnd _ _
    · exact h
  exact RearmKept.put (ha.beside (by rfl)) _ _

theorem RearmKept.twcUp (h : RearmKept s t) : RearmKept s t.twcUp :=
  RearmKept.ite h (RearmKept.ite (RearmKept.clearBegin (h.beside (by rfl))) (h.put _ _))

theorem RearmKept.twcEnable (h : RearmKept s t) (on : Bool) : RearmKept s (t.twcEnable on) :=
  RearmKept.ite (h.putB _ _).twcUp (RearmKept.ite (h.putB _ _).twcDown (h.putB _ _))

/-! ### The charger and the ADC -/

theorem RearmKept.chargerTo (h : RearmKept s t) (st : Int) : RearmKept s (t.chargerTo st) := h.put _ _

theorem RearmKept.chargeFault (h : RearmKept s t) (bit : Nat) : RearmKept s (t.chargeFault bit) := by
  unfold State.chargeFault
  extract_lets again a _ b
  have ha : RearmKept s a := RearmKept.ite h ((h.setBits _ _).raise _ _)
  have hb : RearmKept s b := ha.beside (by rfl)
  exact RearmKept.ite (hb.chargerTo _) hb

theorem RearmKept.chargeCycle (h : RearmKept s t) : RearmKept s t.chargeCycle :=
  RearmKept.chargerTo (RearmKept.put (h.beside (by rfl)) _ _) _

theorem RearmKept.chargeFull (h : RearmKept s t) : RearmKept s t.chargeFull := (h.chargerTo _).raise _ _

theorem RearmKept.chargerStep (h : RearmKept s t) : RearmKept s t.chargerStep :=
  RearmKept.ite h <| RearmKept.ite (h.chargerTo _) <| RearmKept.ite (h.chargeFault _) <|
  RearmKept.ite (RearmKept.chargerTo (h.beside (by rfl)) _) <|
  RearmKept.ite (RearmKept.ite h.chargeCycle (h.chargerTo _)) <|
  RearmKept.ite (RearmKept.ite (h.chargerTo _) h) <| RearmKept.ite (RearmKept.ite (h.chargerTo _) h) <|
  RearmKept.ite (RearmKept.ite h.chargeFull h) <|
  RearmKept.ite (RearmKept.ite (RearmKept.chargerTo (RearmKept.put (h.beside (by rfl)) _ _) _) h) <|
  RearmKept.ite (RearmKept.ite h (h.chargerTo _)) <| RearmKept.ite h.chargeCycle h

theorem RearmKept.chargerEval (h : RearmKept s t) : RearmKept s t.chargerEval :=
  RearmKept.put (RearmKept.chargerStep (h.beside (by rfl))) _ _

theorem RearmKept.adcDown (h : RearmKept s t) : RearmKept s t.adcDown := (h.put 0x640001 adOff).beside (by rfl)

/-! ### Power domains -/

theorem RearmKept.linkDown (h : RearmKept s t) : RearmKept s t.linkDown :=
  RearmKept.ite h ((((h.put _ _).put _ _).bump _).raise _ _)

theorem RearmKept.wAbandon (h : RearmKept s t) : RearmKept s t.wAbandon := by
  unfold State.wAbandon
  extract_lets _ a
  have ha : RearmKept s a := h.beside (by rfl)
  split
  · exact ha.raise _ _
  · exact ha

theorem RearmKept.pagesLost (h : RearmKept s t) : RearmKept s t.pagesLost := h.beside (by rfl)

theorem RearmKept.setStop (h : RearmKept s t) (x : Stop) : RearmKept s (t.setStop x) := h.beside (by rfl)

theorem RearmKept.segmentLost (h : RearmKept s t) (seg : Nat) : RearmKept s (((t.engPowerDown seg).storesLost seg).stopLost seg) :=
  h.beside (by rfl)

theorem RearmKept.unitOff (h : RearmKept s t) (n : Nat) : RearmKept s (t.unitOff n) :=
  RearmKept.ite (h.beside (by rfl)) <| RearmKept.ite (h.put _ _) <| RearmKept.ite h.linkDown <| RearmKept.ite (h.put _ _) <|
  RearmKept.ite h.twcShed <| RearmKept.ite h.adcDown.chargerEval <| RearmKept.ite (h.put _ _) <| RearmKept.ite h.wAbandon <|
  RearmKept.ite h.pagesLost <| RearmKept.ite (RearmKept.ite (h.beside (by rfl)) h) <| RearmKept.ite (h.segmentLost _) h

theorem RearmKept.domainStep (h : RearmKept s t) (n : Nat) : RearmKept s (t.domainStep n) :=
  RearmKept.ite h <| RearmKept.ite ((h.put _ _).bump _) <| RearmKept.ite (h.put _ _) <| RearmKept.ite (h.put _ _) <|
  RearmKept.ite ((h.put _ _).unitOff n) <| RearmKept.ite (h.put _ _) <| RearmKept.ite (h.put _ _) h

theorem RearmKept.domainPass (h : RearmKept s t) : RearmKept s t.domainPass :=
  h.foldl (fun hu n => (hu.put _ _).domainStep n) _

theorem RearmKept.settleDomains (h : RearmKept s t) : RearmKept s t.settleDomains :=
  h.domainPass.domainPass.domainPass.domainPass.domainPass.domainPass.puts _

theorem RearmKept.hold (h : RearmKept s t) (bit : Nat) (on : Bool) (ns : List Nat) : RearmKept s (t.hold bit on ns) :=
  (h.foldl (fun hu _ => RearmKept.ite (hu.setBits _ _) (hu.clrBits _ _)) _).settleDomains

theorem RearmKept.domainRequest (h : RearmKept s t) (n v : Nat) : RearmKept s (t.domainRequest n v).2 :=
  RearmKept.iteReply h <| RearmKept.iteReply h <| RearmKept.iteReply h <| RearmKept.iteReply h <| RearmKept.iteReply h <|
  RearmKept.iteReply h <| RearmKept.iteReply h ((h.put _ _).hold _ _ _)

theorem RearmKept.refreshBudget (h : RearmKept s t) : RearmKept s t.refreshBudget := by
  unfold State.refreshBudget
  extract_lets a b need short
  have hb : RearmKept s b := RearmKept.foldl (h.put _ _) (fun hu _ => hu.put _ _) _
  exact RearmKept.ite ((hb.put _ _).raise _ _) (hb.putB _ _)

theorem RearmKept.refreshClock (h : RearmKept s t) : RearmKept s t.refreshClock :=
  ((h.foldl (fun hu _ => hu.put _ _) _).put _ _).refreshBudget

end
end Sys2Proof.Machine
end

section
/-!
What issues no START (R442), continued: the commits that a boundary applies (R320 to R322), with the effects of the objects
they write.
-/
namespace Sys2Proof.Machine

section
variable {s t : State}

/-! ### Steps that a line takes too -/

theorem RearmKept.runEnd (h : RearmKept s t) (k : Nat) : RearmKept s (t.runEnd k) := h.line ((LineKept.refl t).runEnd k)

theorem RearmKept.setDark (h : RearmKept s t) (d : DarkAcc) : RearmKept s (t.setDark d) := h.line ((LineKept.refl t).setDark d)

theorem RearmKept.darkState (h : RearmKept s t) (src : Nat) (st : Int) : RearmKept s (t.darkState src st) :=
  h.line ((LineKept.refl t).darkState src st)

theorem RearmKept.addRun (h : RearmKept s t) (src bit last : Nat) : RearmKept s (t.addRun src bit last) :=
  h.line ((LineKept.refl t).addRun src bit last)

theorem RearmKept.refillSource (h : RearmKept s t) (src b n : Nat) : RearmKept s (t.refillSource src b n) :=
  h.line ((LineKept.refl t).refillSource src b n)

theorem RearmKept.refreshPlan (h : RearmKept s t) : RearmKept s t.refreshPlan := h.line (LineKept.refl t).refreshPlan

theorem RearmKept.refreshExclusions (h : RearmKept s t) : RearmKept s t.refreshExclusions :=
  h.line (LineKept.refl t).refreshExclusions

theorem RearmKept.refreshRepairs (h : RearmKept s t) : RearmKept s t.refreshRepairs := h.line (LineKept.refl t).refreshRepairs

theorem RearmKept.procStop (h : RearmKept s t) (reason : Nat) : RearmKept s (t.procStop reason) :=
  h.line ((LineKept.refl t).procStop reason)

theorem RearmKept.putBlob (h : RearmKept s t) (k : Nat) (v : List Nat) : RearmKept s (t.putBlob k v) :=
  h.line ((LineKept.refl t).putBlob k v)

theorem RearmKept.setSpare (h : RearmKept s t) (seg bank i v : Nat) : RearmKept s (t.setSpare seg bank i v) := h.putBlob _ _

theorem RearmKept.unrepair (h : RearmKept s t) (col bank cause line : Nat) : RearmKept s (t.unrepair col bank cause line) :=
  h.line ((LineKept.refl t).unrepair col bank cause line)

theorem RearmKept.setStream (h : RearmKept s t) (x : StreamSt) : RearmKept s (t.setStream x) := h.beside (by rfl)

/-! ### Streams -/

theorem RearmKept.streamSpan (h : RearmKept s t) (k b : Nat) (on : Option Bool) : RearmKept s (t.streamSpan k b on) :=
  h.setStream _

theorem RearmKept.streamBind (h : RearmKept s t) (k : Nat) : RearmKept s (t.streamBind k) :=
  RearmKept.ite (RearmKept.ite ((h.put _ _).put _ _) (h.put _ _)) h

theorem RearmKept.streamBegin (h : RearmKept s t) (k b : Nat) (state : Int) : RearmKept s (t.streamBegin k b state) :=
  ((h.streamSpan _ _ _).streamBind _).put _ _

theorem RearmKept.streamOff (h : RearmKept s t) (k : Nat) : RearmKept s (t.streamOff k) := by
  unfold State.streamOff
  extract_lets a b c
  have hb : RearmKept s b := (h.runEnd k).bufClose k
  have hc : RearmKept s c := RearmKept.ite (hb.reachUnbind.put _ _) hb
  exact (hc.put _ _).raise _ _

theorem RearmKept.streamCheck (h : RearmKept s t) (k : Nat) : RearmKept s (t.streamCheck k) := by
  unfold State.streamCheck
  extract_lets st a b _ c
  have hb : RearmKept s b := RearmKept.ite ((h.runEnd k).reachUnbind.put _ _) (h.runEnd k)
  have hc : RearmKept s c := (hb.setStream _).streamBind k
  exact RearmKept.ite h <| RearmKept.ite (h.streamOff k) <| RearmKept.ite (RearmKept.ite ((hc.put _ _).raise _ _) (hc.put _ _)) <|
    RearmKept.ite ((h.closePage true false).gapReport _) h

theorem RearmKept.streamApplied (h : RearmKept s t) (k b : Nat) : RearmKept s (t.streamApplied k b) := by
  unfold State.streamApplied
  extract_lets st l old x num base g start a c on state latch _ d
  have hc : RearmKept s c := RearmKept.puts (t := a) (h.setStream _) _
  have latched {u : State} (hu : RearmKept s u) (v : Option Nat) : RearmKept s (latch u v) := hu.setStream _
  have hd : RearmKept s d := (hc.setStream _).put _ _
  exact RearmKept.ite h <| RearmKept.ite (RearmKept.ite (hc.streamBegin _ _ _) hc) <|
    RearmKept.ite (RearmKept.ite hc (latched ((hc.streamSpan _ _ _).put _ _) _)) <|
    RearmKept.ite (RearmKept.ite hc (((hc.streamSpan _ _ _).put _ _).streamCheck k)) <|
    RearmKept.ite (RearmKept.ite (latched ((hc.streamSpan _ _ _).put _ _) _) hc) <|
    RearmKept.ite (RearmKept.ite hc (hd.streamCheck k)) <|
    RearmKept.ite (RearmKept.ite (latched ((hc.streamSpan _ _ _).put _ _) _) hc) <|
    RearmKept.ite (RearmKept.ite ((hc.streamSpan _ _ _).streamOff k) (RearmKept.ite hc (hc.streamBegin _ _ _))) hc

theorem RearmKept.restoreSegments (h : RearmKept s t) (mask : Nat) : RearmKept s (t.restoreSegments mask) :=
  h.foldl (fun hu _ => ((hu.clrBits _ _).setStop _).raiseAt _ _ _ _) _

/-! ### Maps, user entries and the encoders -/

theorem RearmKept.mapBank (h : RearmKept s t) (seg bank : Nat) (new : List Nat) : RearmKept s (t.mapBank seg bank new) := by
  unfold State.mapBank
  extract_lets old had a lost b
  have ha : RearmKept s a := h.foldl (fun {u} hu i => by
    dsimp only
    exact RearmKept.ite (hu.setSpare _ _ _ _) (RearmKept.ite (RearmKept.ite hu ((hu.setSpare _ _ _ _).raiseAt _ _ _ _))
      (RearmKept.ite hu (((hu.setSpare _ _ _ _).beside (by rfl)).raiseAt _ _ _ _)))) _
  have hb : RearmKept s b := ha.foldl (fun hu c => hu.unrepair _ _ _ _) _
  exact RearmKept.ite (hb.raiseAt _ _ _ _) hb

theorem RearmKept.mapWritten (h : RearmKept s t) (seg : Nat) (new : List Nat) : RearmKept s (t.mapWritten seg new) :=
  (h.foldl (fun hu b => hu.mapBank seg b new) _).refreshRepairs

theorem RearmKept.integratorWritten (h : RearmKept s t) : RearmKept s t.integratorWritten :=
  RearmKept.ite (h.beside (by rfl)) ((h.put 0x80F001 1).beside (by rfl))

theorem RearmKept.setBytes_ (h : RearmKept s t) (k : Nat) (bs : List Nat) : RearmKept s (t.setBytes_ k bs) :=
  RearmKept.ite (h.mapWritten _ _) <| RearmKept.ite (h.beside (by rfl)) <| RearmKept.ite (h.putBlob _ _).integratorWritten (h.putBlob _ _)

theorem RearmKept.setUserType (h : RearmKept s t) (n : Nat) (typ : Int) : RearmKept s (t.setUserType n typ) :=
  ((h.put (userKey n 2) typ).beside (by rfl)).put _ _

theorem RearmKept.armUser (h : RearmKept s t) (n : Nat) (typ : Int) : RearmKept s (t.armUser n typ).2 :=
  RearmKept.iteReply (h.setUserType n 0) <| RearmKept.iteReply h <| RearmKept.iteReply h <| RearmKept.iteReply h <|
  RearmKept.iteReply (((h.setUserType n 0).bump _).raise _ _) ((h.setUserType n typ).beside (by rfl))

theorem RearmKept.setEnc (h : RearmKept s t) (i : Nat) (e : Encoder) : RearmKept s (t.setEnc i e) :=
  h.beside (by rw [State.setEnc_pow])

theorem RearmKept.encoderSet (h : RearmKept s t) (i : Nat) : RearmKept s (t.encoderSet i) := (h.setEnc _ _).put _ _

/-! ### The trigger mode -/

theorem RearmKept.slipHold (h : RearmKept s t) : RearmKept s t.slipHold :=
  RearmKept.ite (((h.put 0x2C1006 3).beside (by rfl)).raise _ _) h

theorem RearmKept.declareReversal (h : RearmKept s t) (p : Int) : RearmKept s (t.declareReversal p) := by
  unfold State.declareReversal
  extract_lets rev last mark _ a _ b c _ d
  have hc : RearmKept s c := RearmKept.putB (t := b) (h.beside (by rfl)) _ _
  have hd : RearmKept s d := hc.beside (by rfl)
  exact ((hd.bump _).slipHold).raise _ _

theorem RearmKept.virtualTurn (h : RearmKept s t) (p : Int) : RearmKept s (t.virtualTurn p) :=
  RearmKept.ite (h.declareReversal p) h

theorem RearmKept.modeSet (h : RearmKept s t) (old : Int) : RearmKept s (t.modeSet old) := by
  unfold State.modeSet
  extract_lets p now _ _ a far i j _ b c _ d e _
  have ha : RearmKept s a := RearmKept.ite (h.beside (by rfl)) h
  have hb : RearmKept s b := RearmKept.ite (ha.beside (by rfl)) ha
  have hc : RearmKept s c := RearmKept.put (t := b.virtualSnap p now) (hb.beside (by rfl)) _ _
  have hd : RearmKept s d := hc.beside (by rfl)
  have he : RearmKept s e := RearmKept.put (t := b.standSnap p now) (hb.beside (by rfl)) _ _
  exact RearmKept.ite hb (RearmKept.ite ((RearmKept.ite hd (hd.put _ _)).virtualTurn p) (RearmKept.ite (he.beside (by rfl)) hb))

theorem RearmKept.velocitySet (h : RearmKept s t) (old : Int) : RearmKept s (t.velocitySet old) := by
  unfold State.velocitySet
  extract_lets v p a _ b
  have ha : RearmKept s a := RearmKept.put (t := t.virtualSnap p t.now) (h.beside (by rfl)) _ _
  have hb : RearmKept s b := RearmKept.ite (RearmKept.ite ha (ha.beside (by rfl))) (ha.put _ _)
  exact RearmKept.ite h (hb.virtualTurn p)

theorem RearmKept.wModeSet (h : RearmKept s t) (old : Int) : RearmKept s (t.wModeSet old) :=
  RearmKept.ite (h.beside (by rfl)) (RearmKept.ite (h.beside (by rfl)) h)

theorem RearmKept.darkRescale (h : RearmKept s t) (src a b : Nat) : RearmKept s (t.darkRescale src a b) :=
  RearmKept.ite h (h.puts _)

theorem RearmKept.procStrobes (h : RearmKept s t) : RearmKept s t.procStrobes := RearmKept.ite (h.procStop _) h

/-! ### An object that a commit writes -/

theorem RearmKept.setScalar (h : RearmKept s t) (k : Nat) (v : Int) : RearmKept s (t.setScalar k v).2 := by
  unfold State.setScalar
  extract_lets i j on r r' old a _ _ b
  have ha : RearmKept s a := h.put k v
  have hb : RearmKept s b := by
    refine RearmKept.ite (ha.encoderSet _) <| RearmKept.ite (ha.modeSet _).settleDomains <| RearmKept.ite (ha.velocitySet _) <|
      RearmKept.ite (RearmKept.ite (ha.put _ _) ha) <| RearmKept.ite ha.settleDomains <|
      RearmKept.ite (RearmKept.settleDomains (RearmKept.ite (ha.beside (by rfl)) ha)) <|
      RearmKept.ite (RearmKept.ite ((ha.wModeSet _).streamRenumber _) (ha.wModeSet _)) <| RearmKept.ite (ha.darkRescale _ _ _) <|
      RearmKept.ite (RearmKept.settleDomains (RearmKept.ite ha.procStrobes (ha.beside (by rfl)))) <|
      RearmKept.ite (RearmKept.ite (ha.auxEnabled _ _).auxStates ha) <| RearmKept.ite (RearmKept.ite ha ha.plcaChanged) <|
      RearmKept.ite ha.chargerEval <| RearmKept.ite ha.integratorWritten ha
  exact RearmKept.iteReply (h.armUser _ _) <| RearmKept.iteReply (h.ringEnable _ _) <| RearmKept.iteReply (h.cqEnable _) <|
    RearmKept.iteReply ((h.evEnable _).reply _) <| RearmKept.iteReply (h.csiEnable _) <| RearmKept.iteReply ((h.netEnable _).reply _) <|
    RearmKept.iteReply ((h.sluiceJoin _).settleDomains.reply _) <| RearmKept.iteReply ((h.twcEnable _).reply _) <|
    RearmKept.iteReply ((h.domainRequest _ _).refreshClock.reply _) <| RearmKept.iteReply ((h.setBits _ _).reply _) <|
    RearmKept.iteReply (h.reply _) (hb.reply _)

theorem RearmKept.setKey (h : RearmKept s t) (k : Nat) (bs : List Nat) : RearmKept s (t.setKey k bs).2 := by
  unfold State.setKey
  split
  · exact h
  · exact RearmKept.iteReply ((RearmKept.ite (h.putBlob _ _) (h.setBytes_ _ _)).reply _)
      (RearmKept.iteReply ((RearmKept.ite h (h.put _ _)).reply _) (h.setScalar _ _))

/-! ### The processing stage -/

theorem RearmKept.setEngine (h : RearmKept s t) (e : Nat) (x : Engine) : RearmKept s (t.setEngine e x) := h.beside (by rfl)

theorem RearmKept.loadBegin (h : RearmKept s t) (st : Int) : RearmKept s (t.loadBegin st) := by
  unfold State.loadBegin
  extract_lets a
  have ha : RearmKept s a := by
    unfold a
    split
    · exact h.foldl (fun hu e => hu.setEngine e _) _
    · exact h
  exact (ha.beside (by rfl)).put _ _

theorem RearmKept.imageCommit (h : RearmKept s t) (p : ImageParts) : RearmKept s (t.imageCommit p) := by
  unfold State.imageCommit
  extract_lets hdr _ a
  have ha : RearmKept s a := h.beside (by rfl)
  exact RearmKept.ite (ha.loadBegin 1) (ha.beside (by rfl))

theorem RearmKept.enterKern (h : RearmKept s t) (b : Nat) (on : Bool) : RearmKept s (t.enterKern b on) := h.beside (by rfl)

theorem RearmKept.changeAt (h : RearmKept s t) (e key : Nat) : RearmKept s (t.changeAt e key) :=
  RearmKept.ite (h.setEngine _ _) (h.setEngine _ _)

theorem RearmKept.kernHistory (h : RearmKept s t) (b : Nat) : RearmKept s (t.kernHistory b) := by
  unfold State.kernHistory
  split
  · exact RearmKept.ite (h.foldl (fun hu f => hu.addRun f _ _) _) h
  · exact h

theorem RearmKept.kernelChange (h : RearmKept s t) (b : Nat) : RearmKept s (t.kernelChange b) :=
  (RearmKept.kernHistory ((h.enterKern b true).foldl (fun hu e => hu.changeAt e _) _) b).put _ _

theorem RearmKept.engStart (h : RearmKept s t) (b : Nat) : RearmKept s (t.engStart b) :=
  (((h.beside (by rfl)).put 0x400002 2).kernelChange b).refreshBudget

theorem RearmKept.stageStopped (h : RearmKept s t) (n : Nat) : RearmKept s (t.stageStopped n) := by
  unfold State.stageStopped
  extract_lets pend a b
  have ha : RearmKept s a := (h.put _ _).bufClose 8
  have hb : RearmKept s b := RearmKept.ite ha (ha.raise _ _)
  exact RearmKept.ite (hb.loadBegin _) (RearmKept.ite (hb.engStart _) hb)

theorem RearmKept.stageCheck (h : RearmKept s t) : RearmKept s t.stageCheck := by
  unfold State.stageCheck
  extract_lets cands lines busy a
  have ha : RearmKept s a := h.foldl (fun hu e => hu.setEngine e _) _
  exact RearmKept.ite (RearmKept.ite ((h.put _ _).raise _ _) h) (RearmKept.ite (RearmKept.ite h (ha.stageStopped _)) h)

theorem RearmKept.enableApplied (h : RearmKept s t) (b : Nat) : RearmKept s (t.enableApplied b) :=
  RearmKept.ite (RearmKept.ite (RearmKept.ite (h.engStart b) h) (RearmKept.ite (h.put _ _) h))
    (RearmKept.ite ((h.put _ _).enterKern b false).stageCheck (RearmKept.ite (h.put _ _) h))

theorem RearmKept.kernelApplied (h : RearmKept s t) (b : Nat) : RearmKept s (t.kernelApplied b) :=
  RearmKept.ite ((h.kernelChange b).raise _ _) h

theorem RearmKept.reductionApplied (h : RearmKept s t) (b : Nat) : RearmKept s (t.reductionApplied b) := by
  unfold State.reductionApplied
  split
  · exact h.enterKern _ _
  · exact h

theorem RearmKept.restartApplied (h : RearmKept s t) (seg mask b : Nat) : RearmKept s (t.restartApplied seg mask b) :=
  RearmKept.foldl (RearmKept.ite h (h.kernHistory b)) (fun hu _ => (hu.changeAt _ _).raiseAt _ _ _ _) _

theorem RearmKept.enginesApplied (h : RearmKept s t) (s0 : State) (kvs : List (Nat × List Nat)) (b : Nat) :
    RearmKept s (s0.enginesApplied t kvs b) := by
  unfold State.enginesApplied
  extract_lets ks val a started c conf d red e f
  have ha : RearmKept s a := RearmKept.ite (h.imageCommit _) h
  have hc : RearmKept s c := RearmKept.ite (ha.enableApplied b) ha
  have hd : RearmKept s d := RearmKept.ite (hc.kernelApplied b) hc
  have he : RearmKept s e := RearmKept.ite (hd.reductionApplied b) hd
  have hf : RearmKept s f := he.foldl (fun {u} hu g => by
    split
    · exact hu.restartApplied _ _ _
    · exact hu) _
  exact RearmKept.ite hf.refreshBudget hf

/-! ### The effects of a commit -/

theorem RearmKept.switchD (h : RearmKept s t) : RearmKept s t.switchD := by
  unfold State.switchD
  extract_lets old new a b
  have ha : RearmKept s a := RearmKept.ite h.wAbandon h
  have hb : RearmKept s b := (ha.put _ _).raise _ _
  exact RearmKept.ite h (RearmKept.ite (hb.beside (by rfl)) hb)

theorem RearmKept.planFlags (h : RearmKept s t) (s0 : State) (b : Nat) : RearmKept s (s0.planFlags t b) :=
  h.foldl (fun hu f => RearmKept.ite (hu.refillSource f b _) (RearmKept.ite (hu.addRun f _ _) hu)) _

theorem RearmKept.scaleFlags (h : RearmKept s t) (s0 : State) : RearmKept s (s0.scaleFlags t) :=
  h.foldl (fun hu f => hu.darkRescale f _ _) _

theorem RearmKept.gainFlags (h : RearmKept s t) (s0 : State) (b : Nat) : RearmKept s (s0.gainFlags t b) :=
  h.foldl (fun hu _ => RearmKept.ite hu (RearmKept.ite (hu.addRun _ _ _) (RearmKept.ite (hu.addRun _ _ _) (hu.addRun _ _ _)))) _

theorem RearmKept.exclusionsApplied (h : RearmKept s t) (s0 : State) (ks : List Nat) : RearmKept s (s0.exclusionsApplied t ks) :=
  h.foldl (fun hu _ => RearmKept.ite hu (hu.raiseAt _ _ _ _)) _

theorem RearmKept.slipPreset (h : RearmKept s t) (st : Int) : RearmKept s (t.slipPreset st) :=
  RearmKept.foldl ((h.puts _).beside (by rfl)) (fun hu _ => hu.foldl (fun hv _ => hv.put _ _) _) _

theorem RearmKept.slipModeApplied (h : RearmKept s t) : RearmKept s t.slipModeApplied :=
  RearmKept.ite (h.slipPreset 0) (RearmKept.ite (h.slipPreset 1) h)

theorem RearmKept.trimDisabled (h : RearmKept s t) : RearmKept s t.trimDisabled := (h.put 0x2C1802 0).beside (by rfl)

theorem RearmKept.showDefects (h : RearmKept s t) : RearmKept s t.showDefects := (h.foldl (fun hu _ => hu.put _ _) _).put _ _

theorem RearmKept.setCtl (h : RearmKept s t) (c : CtlState) : RearmKept s (t.setCtl c) := h.beside (by rfl)

theorem RearmKept.ctlLeft (h : RearmKept s t) (src : Nat) : RearmKept s (t.ctlLeft src) := h.beside (by rfl)

theorem RearmKept.ctlBegin (h : RearmKept s t) (src : Nat) : RearmKept s (t.ctlBegin src) :=
  RearmKept.ite ((h.setCtl _).put _ _) ((h.setCtl _).put _ _)

theorem RearmKept.controlsApplied (h : RearmKept s t) (s0 : State) : RearmKept s (s0.controlsApplied t) :=
  h.foldl (fun hu f =>
    have left := RearmKept.ite (c := s0.o (if f = 0xFF then 0x348801 else expKey f + 1) = 0) (hu.ctlLeft f) hu
    RearmKept.ite hu (RearmKept.ite left (left.ctlBegin f))) _

theorem RearmKept.procChanged (h : RearmKept s t) (s0 : State) (keys : List Nat) : RearmKept s (s0.procChanged t keys) :=
  RearmKept.ite (h.procStop 3) h

theorem RearmKept.effects (h : RearmKept s t) (s0 : State) (kvs : List (Nat × List Nat)) (b : Nat) :
    RearmKept s (s0.effects t kvs b) := by
  unfold State.effects
  extract_lets ks x1 planKeys x2 x3 x4 x5 x6 x7 x8 x9 x10 x11 x12 x13 x14 x15 x16 x17
  have h1 : RearmKept s x1 := h.switchD
  have h2 : RearmKept s x2 := RearmKept.ite (h1.planFlags s0 b).refreshPlan h1
  have h3 : RearmKept s x3 := RearmKept.ite h2 ((h2.put _ _).raise _ _)
  have h4 : RearmKept s x4 := (h3.gainFlags s0 b).scaleFlags s0
  have h5 : RearmKept s x5 := h4.exclusionsApplied s0 ks
  have h6 : RearmKept s x6 := RearmKept.ite h5.refreshExclusions h5
  have h7 : RearmKept s x7 := RearmKept.ite h6.slipModeApplied h6
  have h8 : RearmKept s x8 := RearmKept.ite (h7.slipPreset _) h7
  have h9 : RearmKept s x9 := RearmKept.ite h8.trimDisabled h8
  have h10 : RearmKept s x10 := RearmKept.ite h9.showDefects h9
  have h11 : RearmKept s x11 := h10.controlsApplied s0
  have h12 : RearmKept s x12 := RearmKept.ite (h11.bufClose 8) h11
  have h13 : RearmKept s x13 := RearmKept.ite (h12.bufClose 9) h12
  have h14 : RearmKept s x14 := RearmKept.ite (h13.enginesApplied s0 kvs b) h13
  have h15 : RearmKept s x15 := RearmKept.ite h14 h14.refreshBudget
  have h16 : RearmKept s x16 := h15.foldl (fun hu k => hu.streamApplied k b) _
  have h17 : RearmKept s x17 := by
    unfold x17
    split
    · exact h16.restoreSegments _
    · exact h16
  exact h17.procChanged s0 ks

/-! ### Commits -/

theorem RearmKept.applyKeys (h : RearmKept s t) (kvs : List (Nat × List Nat)) (b : Nat) : RearmKept s (t.applyKeys kvs b) :=
  RearmKept.effects (h.foldl (fun hu p => hu.setKey p.1 p.2) _) t kvs b

theorem RearmKept.controlDone (h : RearmKept s t) (c : Commit) : RearmKept s (t.controlDone c) := by
  unfold State.controlDone
  split
  · exact h.setCtl _
  · exact h.setCtl _

theorem RearmKept.applyCommit (h : RearmKept s t) (c : Commit) (b : Nat) : RearmKept s (t.applyCommit c b) := by
  unfold State.applyCommit
  extract_lets ep x1 _ x2 x3 x4
  have h1 : RearmKept s x1 := RearmKept.ite (h.put _ _) h
  have h2 : RearmKept s x2 := h1.beside (by rfl)
  have h3 : RearmKept s x3 := (h2.put _ _).raise _ _
  have h4 : RearmKept s x4 := ((h3.applyKeys _ b).puts _).barrierApplied c
  refine RearmKept.ite h ?_
  split
  · exact h4.controlDone c
  · exact (h4.raise _ _).put _ _
  · exact h4
  · exact h4

theorem RearmKept.applyWhere (h : RearmKept s t) (f : Commit → Bool) (b : Nat) : RearmKept s (t.applyWhere f b) :=
  RearmKept.foldl (h.foldl (fun hu c => hu.applyCommit c b) _) (fun hu _ => RearmKept.ite (hu.put _ _) hu) _

end
end Sys2Proof.Machine
end

section
/-!
What issues no START (R442), concluded: a section's boundary (R42), and the lines and edges after an epoch (R29).
-/
namespace Sys2Proof.Machine

section
variable {s t : State}

/-! ### The units' parts of a boundary -/

theorem RearmKept.enterRunning (h : RearmKept s t) : RearmKept s t.enterRunning := h.beside (by rw [State.enterRunning_pow])

theorem RearmKept.crosscheck (h : RearmKept s t) : RearmKept s t.crosscheck := by
  unfold State.crosscheck
  extract_lets r0 r1 d0 d1 _ _ _ a x b
  have ha : RearmKept s a := h.beside (by rfl)
  have hb : RearmKept s b := ha.put _ _
  exact RearmKept.ite ha (RearmKept.ite ((hb.put _ _).raise _ _) hb)

theorem RearmKept.statClose (h : RearmKept s t) (truncated : Bool) : RearmKept s (t.statClose truncated) := by
  unfold State.statClose
  split
  · exact h.beside (by rfl)
  · exact h

theorem RearmKept.statSend (h : RearmKept s t) : RearmKept s t.statSend :=
  h.foldl (fun hu _ => hu.foldl (fun hv _ => hv.beside (by rfl)) _) _

theorem RearmKept.slipClose (h : RearmKept s t) (sect : Nat) : RearmKept s (t.slipClose sect) := h.beside (by rfl)

theorem RearmKept.rowReenable (h : RearmKept s t) (b w : Nat) : RearmKept s (t.rowReenable b w).1 := by
  unfold State.rowReenable
  extract_lets bits _ a c arrays d
  have ha : RearmKept s a := h.beside (by rfl)
  have hc : RearmKept s c := ha.foldl (fun hu _ => (hu.clrBits _ _).raiseAt _ _ _ _) _
  exact RearmKept.ite ((hc.addRun _ _ _).addRun _ _ _) hc

theorem RearmKept.slipBoundary (h : RearmKept s t) (j : Nat) : RearmKept s (t.slipBoundary j) := by
  unfold State.slipBoundary
  extract_lets off trim _ a c
  clear_value off trim
  have ha : RearmKept s a := by
    unfold a
    split
    · exact RearmKept.foldl ((h.put _ _).beside (by rfl)) (fun hu _ => hu.foldl (fun hv _ => hv.put _ _) _) _
    · exact h.beside (by rfl)
  have hc : RearmKept s c := by
    unfold c
    split
    · exact ha.put _ _
    · exact ha
  exact hc.beside (by rfl)

theorem RearmKept.lowGainBoundary (h : RearmKept s t) : RearmKept s t.lowGainBoundary := by
  have shown := h.foldl (f := fun (s : State) b => s.put (bankBase b + 5) ((mapGet t.conv.lowGain b).getD 0))
    (fun hu b => hu.put _ _) [0x0A, 0x0B, 0x0C, 0x0D]
  exact shown.beside (by rfl)

theorem RearmKept.ptmLatch (h : RearmKept s t) (sect : Nat) (pos : Int) : RearmKept s (t.ptmLatch sect pos) :=
  RearmKept.ite h (RearmKept.puts (t := (t.free 0 (2 ^ 64)).2) (h.beside (by rfl)) _)

theorem RearmKept.bookFails (h : RearmKept s t) (code sub no : Nat) (diff : Int) : RearmKept s (t.bookFails code sub no diff) :=
  RearmKept.ite h (((h.bump _).puts _).raiseFirst _ _ _)

theorem RearmKept.ledgerAudit (h : RearmKept s t) (sect : Nat) : RearmKept s (t.ledgerAudit sect) := by
  unfold State.ledgerAudit
  extract_lets a closed b _ c pages d crumbs e f off
  have hb : RearmKept s b := (h.put _ _).foldl (fun hu x => hu.bookFails _ _ _ _) _
  have hc : RearmKept s c := hb.beside (by rfl)
  exact (((hc.bookFails _ _ _ _).bookFails _ _ _ _).bookFails _ _ _ _).bookFails _ _ _ _

theorem RearmKept.stagingAudit (h : RearmKept s t) : RearmKept s t.stagingAudit := by
  unfold State.stagingAudit
  extract_lets d e a
  have ha : RearmKept s a := RearmKept.ite h (h.raise _ _)
  exact RearmKept.ite ha (ha.raise _ _)

theorem RearmKept.streamBoundary (h : RearmKept s t) (b : Nat) : RearmKept s (t.streamBoundary b) := by
  unfold State.streamBoundary
  extract_lets x1 elapsed x2 x3 _ x4 optional ks ks'
  have h1 : RearmKept s x1 := h.foldl (fun {u} hu k => hu.line ((LineKept.refl u).runSettle k)) _
  have h2 : RearmKept s x2 := h1.foldl (fun hu k => RearmKept.ite (((hu.setStream _).put _ _).streamCheck k) hu) _
  have h3 : RearmKept s x3 := h2.put _ _
  clear_value x3
  have h4 : RearmKept s x4 := h3.beside (by rfl)
  exact RearmKept.ite
    (RearmKept.ite h4 ((h4.foldl (fun hu k => ((hu.streamSpan k b _).put _ _).streamCheck k) _).raise _ _))
    (RearmKept.ite h4 ((h4.foldl (fun hu k => hu.streamBegin k b 2) _).raise _ _))

theorem RearmKept.reportBoundary (h : RearmKept s t) (sect line : Nat) (pos : Int) :
    RearmKept s (t.reportBoundary sect line pos) := by
  unfold State.reportBoundary
  extract_lets e _ a b
  have ha : RearmKept s a := h.beside (by rfl)
  exact RearmKept.ite (((ha.queueFrame _).bump _).beside (by rfl)) ha

theorem RearmKept.sectionUnits (h : RearmKept s t) (sect b : Nat) (pos : Int) : RearmKept s (t.sectionUnits sect b pos) := by
  unfold State.sectionUnits
  extract_lets old x1 _ x2 x3 _ x4 x5 r x6 x7 x8 x9 x10
  have h1 : RearmKept s x1 := (h.put _ _).crosscheck
  have h2 : RearmKept s x2 := RearmKept.ite h1 (h1.beside (by rfl))
  have h3 : RearmKept s x3 := ((h2.statClose false).statSend).slipClose old
  have h4 : RearmKept s x4 := RearmKept.ite (h3.beside (by rfl)) h3
  have h5 : RearmKept s x5 := RearmKept.ite h4.enterRunning h4
  have h6 : RearmKept s x6 := (h5.rowReenable b _).foldl (fun hu f => hu.refillSource f b _) _
  have h7 : RearmKept s x7 := (h6.slipBoundary sect).lowGainBoundary
  have h8 : RearmKept s x8 := RearmKept.ite (h7.beside (by rfl)) h7
  have h9 : RearmKept s x9 := (h8.ptmLatch sect pos).ledgerAudit old
  have h10 : RearmKept s x10 := (h9.stagingAudit.streamBoundary b).twcBoundary
  exact h10.reportBoundary sect b pos

/-! ### The boundary -/

theorem RearmKept.keepPast (h : RearmKept s t) (s0 : State) (b : Nat) : RearmKept s (s0.keepPast t b) :=
  RearmKept.ite h (h.beside (by rfl))

theorem RearmKept.auxBoundary (h : RearmKept s t) : RearmKept s t.auxBoundary := h.beside (by rfl)

theorem RearmKept.darkForm (h : RearmKept s t) (src b : Nat) : RearmKept s (t.darkForm src b) := by
  unfold State.darkForm
  extract_lets k v d now scale
  refine RearmKept.ite ((h.setDark _).darkState _ _) ?_
  split
  · exact RearmKept.ite (((h.setDark _).puts _).darkState _ _)
      (RearmKept.ite ((h.setDark _).darkState _ _) (((h.setDark _).darkState _ _).sat _))
  · exact ((h.setDark _).darkState _ _).sat _

theorem RearmKept.darkBoundary (h : RearmKept s t) (src b : Nat) (refill : Bool) : RearmKept s (t.darkBoundary src b refill) :=
  have refilled := h.line ((LineKept.refl t).darkRefill src)
  RearmKept.ite (RearmKept.ite (refilled.sat _) refilled) (RearmKept.ite (h.setDark _) (h.darkForm _ _))

theorem RearmKept.darkBoundaries (h : RearmKept s t) (b : Nat) : RearmKept s (t.darkBoundaries b) :=
  h.foldl (fun hu f => hu.darkBoundary f b _) _

theorem RearmKept.boundary (h : RearmKept s t) (b : Nat) (pos : Int) : RearmKept s (t.boundary b pos) := by
  unfold State.boundary
  extract_lets sect x1 x2
  have h1 : RearmKept s x1 := h.sectionUnits _ b pos
  have h2 : RearmKept s x2 := (((h1.applyWhere _ b).keepPast t b).auxBoundary).darkBoundaries b
  exact RearmKept.ite (h2.beside (by rfl)) h2

/-! ### Lines and edges -/

theorem RearmKept.triggerLine (h : RearmKept s t) (n : Nat) (p : Int) : RearmKept s (t.triggerLine n p) := by
  have counted : RearmKept s (t.lineCounted n) := (h.put 0x202003 n).beside (by rfl)
  unfold State.triggerLine
  extract_lets _ _ a was b c
  have hb : RearmKept s b := RearmKept.ite (counted.boundary n p) counted
  have hc : RearmKept s c := RearmKept.ite (hb.line (LineKept.refl b).lastLineFixed) hb
  exact RearmKept.ite (hc.line ((LineKept.refl c).acceptLine n p)) (RearmKept.ite (hc.line ((LineKept.refl c).streamLines n n)) hc)

theorem RearmKept.pitchAfter (h : RearmKept s t) (n : Nat) (e : Int) : RearmKept s (t.pitchAfter n e) :=
  RearmKept.ite ((h.put 0x202005 _).beside (by rfl)) (h.beside (by rfl))

theorem RearmKept.sheetStart (h : RearmKept s t) (first : Int) (anchor : Bool) : RearmKept s (t.sheetStart first anchor) := by
  unfold State.sheetStart
  extract_lets a b sh _ c
  have hb : RearmKept s b := by
    unfold b
    split
    · exact (h.bump _).put _ _
    · exact h.bump _
  have hc : RearmKept s c := hb.beside (by rfl)
  exact RearmKept.ite (hc.beside (by rfl)) hc

theorem RearmKept.sheetEnd (h : RearmKept s t) : RearmKept s t.sheetEnd := by
  unfold State.sheetEnd
  extract_lets q _ _ a
  clear_value q
  have ha : RearmKept s a := h.beside (by rfl)
  split
  · exact RearmKept.ite (ha.sheetStart _ _) (ha.sheetStart _ _)
  · exact ha

theorem RearmKept.sheetLine (h : RearmKept s t) : RearmKept s t.sheetLine := by
  unfold State.sheetLine
  extract_lets left _ _ a
  have ha : RearmKept s a := h.beside (by rfl)
  exact RearmKept.ite ha.sheetEnd ha

theorem RearmKept.gridLine (h : RearmKept s t) : RearmKept s t.gridLine := by
  unfold State.gridLine
  extract_lets p e n a
  have ha : RearmKept s a := (h.triggerLine n p).pitchAfter n e
  exact RearmKept.ite ha.sheetLine ha

theorem RearmKept.countPos (h : RearmKept s t) (e : Nat) (rev : Bool) : RearmKept s (t.countPos e rev) := by
  unfold State.countPos
  extract_lets c ivals used span num a _ b d
  have hb : RearmKept s b := h.beside (by rfl)
  exact (hb.put _ _).put _ _

theorem RearmKept.hysteresis (h : RearmKept s t) : RearmKept s t.hysteresis.1 := h.beside (by rfl)

theorem RearmKept.standSnap (h : RearmKept s t) (base : Int) (e : Nat) : RearmKept s (t.standSnap base e) := h.beside (by rfl)

theorem RearmKept.edgeMoves (h : RearmKept s t) (e : Nat) (rev : Bool) : RearmKept s (t.edgeMoves e rev) := by
  unfold State.edgeMoves
  extract_lets r
  have counted : RearmKept s r.1 := (h.countPos e rev).hysteresis
  exact RearmKept.ite ((counted.declareReversal _).standSnap _ _ |>.put _ _) counted

/-- Setting the epoch, with the lines that its edges trigger, keeps the START to issue. -/
theorem RearmKept.epochEdge (h : RearmKept s t) (e : Nat) : RearmKept s (t.epochEdge e) := by
  have runs : RearmKept s (t.epochRuns e) :=
    have begun : RearmKept s (t.epochBegun e) := h.beside (by rw [State.epochBegun_pow])
    RearmKept.ite begun.enterRunning begun
  rw [State.epochEdge_eq]
  extract_lets x y
  have hy : RearmKept s y := RearmKept.ite runs.gridLine runs
  exact RearmKept.ite hy (hy.foldl (fun hu p => hu.edgeMoves p.1 p.2) _)

end
end Sys2Proof.Machine
end

section
/-!
Position and epoch events (R26, R29, R40, R41, R45 to R47, R58): the horizon, the epoch and trigger inputs, the user entries and
TRIG_OUT, and the statement about them.
-/
namespace Sys2Proof.Machine

/-! ### The horizon (R26) -/

/-- Where no edge came within the horizon, the estimator stops at the position reached. -/
theorem State.horizonExpiry_stops {s : State} {t0 : Nat} (ht : s.pos.enc0.lastT = some t0) (hm : s.o 0x201005 = 0) (h1 : s.tmode ≠ 1) :
    s.horizonExpiry =
      let a := s.atTick (t0 + s.horizon)
      ((a.pushSnap { t := a.now, base := a.livePos, num := 0, den := 1, cap := 0, lim := 0 }).put 0x201005 1).put 0x201002 0 := by
  have moving : (s.is 0x201005 0 && decide (s.tmode ≠ 1)) = true := by simp [State.is, hm, h1]
  unfold State.horizonExpiry
  rw [ht]
  exact if_pos moving

/-! ### The epoch input (R29) -/

/-- The state in which an edge of the epoch input has set its level. -/
def State.epochLevel (s : State) (level : Bool) (t : Nat) : State :=
  { s.atTick (t + s.n 0x201806) with pos := { s.pos with epochIn := level } }

section
variable {s : State} {t : Nat} {level : Bool}

/-- An edge of the epoch input sets its level; the active one of the epoch source goes to the epoch. -/
theorem State.epochInEdge_eq (hd : s.pdOn 14 = true) (hl : s.pos.epochIn ≠ level) : s.epochInEdge level t =
    if level = true ∧ s.o 0x201801 = 2 then (s.epochLevel level t).epochSource t else s.epochLevel level t := by
  have step : s.epochInEdge level t = if !s.pdOn 14 || decide (s.pos.epochIn = level) then s
      else if level && s.is 0x201801 2 then (s.epochLevel level t).epochSource t else s.epochLevel level t := rfl
  rw [step, if_neg (by simp [hd, hl])]
  simp [State.is]

theorem State.epochSource_armed (h : s.o 0x201804 = 1) : s.epochSource t = s.epochEdge t := by simp [State.epochSource, State.is, h]

theorem State.epochSource_unarmed (h : s.o 0x201804 ≠ 1) : s.epochSource t = s.bump 0x201805 := by simp [State.epochSource, State.is, h]

/-! ### The trigger input (R46) -/

/-- The state in which an edge of TRIG_IN has set its level. -/
def State.trigLevel (s : State) (level : Bool) (t : Nat) : State :=
  { s.atTick (t + s.n 0x202803) with pos := { s.pos with trigIn := level } }

/-- An edge of TRIG_IN sets its level; the active one triggers a line or requests a sheet. -/
theorem State.trigInEdge_eq (hd : s.pdOn 14 = true) (hl : s.pos.trigIn ≠ level) : s.trigInEdge level t =
    let a := s.trigLevel level t
    if level = s.b 0x202802 then a else if s.tmode = 2 then a.externalLine
    else if s.tmode = 4 then a.sheetRequest (a.posAt t) else a := by
  have step : s.trigInEdge level t = if !s.pdOn 14 || decide (s.pos.trigIn = level) then s
      else
        let a := s.trigLevel level t
        if !decide (level = !s.b 0x202802) then a else if s.tmode = 2 then a.externalLine
        else if s.tmode = 4 then a.sheetRequest (a.posAt t) else a := rfl
  have active : (!decide (level = !s.b 0x202802)) = true ↔ level = s.b 0x202802 := by
    cases level <;> cases s.b 0x202802 <;> decide
  rw [step, if_neg (by simp [hd, hl])]
  simp only [active]

end

/-! ### Lines in EXTERNAL mode (R46) -/

section
variable {s : State} {p : Int}

theorem State.externalLine_idle (h : s.run = rsIdle) : s.externalLine = s := by
  have closed : (!s.triggerOpen) = true := by simp [State.triggerOpen, h, rsIdle, rsStarting, rsRunning, rsStalled, rsStopping]
  exact if_pos closed

/-- The state in which a trigger has restarted the motion time. -/
def State.motionSeen (s : State) : State := { s.resumeMotion with pos := { s.resumeMotion.pos with motionT := s.resumeMotion.now } }

/-- A running line that is no boundary sets the line counter and restarts the motion time. -/
theorem State.externalLine_running (h : s.run = rsRunning) (hb : s.nextLine % max 1 (s.n 0x202002) ≠ 0) :
    LineKept (s.motionSeen.lineCounted s.nextLine) s.externalLine := by
  have opens : ¬ (!s.triggerOpen) = true := by simp [State.triggerOpen, h]
  have number : (if s.run = rsStarting then s.nextMultiple s.nextLine else s.nextLine) = s.nextLine := if_neg (by rw [h]; decide)
  have length : s.motionSeen.n 0x202002 = s.n 0x202002 := congrArg Int.toNat (State.o_resumeMotion rfl s)
  have line : LineKept (s.motionSeen.lineCounted s.nextLine) (s.motionSeen.triggerLine s.nextLine s.motionSeen.livePos) :=
    State.triggerLine_kept (by rwa [length])
  unfold State.externalLine
  rw [if_neg opens, number]
  extract_lets n _ _ b c d
  have hd : LineKept (s.motionSeen.lineCounted s.nextLine) d := LineKept.ite (LineKept.fixLast line) line
  have kept : d.n 0x202002 = s.n 0x202002 := congrArg Int.toNat ((hd.objs _ (by decide)).trans
    ((State.o_put_ne _ _ (by decide)).trans (State.o_resumeMotion rfl s)))
  rwa [if_neg (by rwa [kept])]

theorem RearmKept.resumeMotion {t : State} (h : RearmKept s t) : RearmKept s t.resumeMotion := by
  unfold State.resumeMotion
  extract_lets _ a b
  have ha : RearmKept s a := h.beside (by rfl)
  have hb : RearmKept s b := RearmKept.ite (ha.put _ _) ha
  exact RearmKept.ite h ((hb.put _ _).raise _ _)

theorem State.externalLine_counts (h : s.run = rsRunning) (hb : s.nextLine % max 1 (s.n 0x202002) ≠ 0) :
    s.externalLine.o 0x202003 = s.nextLine ∧ s.externalLine.pos.motionT = s.now ∧ RearmKept s s.externalLine := by
  have line := State.externalLine_running h hb
  have counted : RearmKept s (s.motionSeen.lineCounted s.nextLine) :=
    have seen : RearmKept s s.motionSeen := (RearmKept.refl s).resumeMotion.beside (by rfl)
    (seen.put 0x202003 _).beside (by rfl)
  exact ⟨(line.objs _ (by decide)).trans (State.o_put_self _ _ _), line.motion.trans s.resumeMotion_now, counted.line line⟩

end

/-! ### Sheets (R47) -/

/-- A request outside a sheet starts one, with the count and the policy that are set. -/
theorem State.sheetStart_starts (s : State) (first : Int) :
    (s.sheetStart first true).pos.sheet.running = true ∧ (s.sheetStart first true).pos.sheet.left = s.n 0x202805
    ∧ (s.sheetStart first true).pos.sheet.policy = s.n 0x202806
    ∧ (s.sheetStart first true).o 0x20280A = (s.o 0x20280A + 1) % 2 ^ 32 := by
  have width : maxOf 0x20280A + 1 = 2 ^ 32 := by decide +kernel
  unfold State.sheetStart
  extract_lets a b sh _ c
  have pitch : ∀ k, k ≠ 0x202005 → b.o k = a.o k := by
    intro k hk
    unfold b
    split
    · exact State.o_put_ne _ _ hk
    · rfl
  have kept : ∀ k, k ≠ 0x202005 → k ≠ 0x20280A → b.o k = s.o k := fun k hk hc => (pitch k hk).trans (State.o_bump_ne _ _ hc)
  have count : b.o 0x20280A = (s.o 0x20280A + 1) % 2 ^ 32 := by
    rw [pitch _ (by decide)]
    unfold a
    rw [State.bump_eq, width, State.o_put_self]
    rfl
  exact ⟨rfl, congrArg Int.toNat (kept _ (by decide) (by decide)), congrArg Int.toNat (kept _ (by decide) (by decide)), count⟩

theorem State.sheetRequest_unset {s : State} {p : Int} (h : s.epochSet = false) : s.sheetRequest p = s.bump 0x20280B := by
  simp [State.sheetRequest, h]

theorem State.sheetRequest_starts {s : State} {p : Int} (h : s.epochSet = true) (hr : s.pos.sheet.running = false) :
    s.sheetRequest p = s.sheetStart (s.sheetPos p) true := by
  simp [State.sheetRequest, h, hr]

/-! ### User entries and TRIG_OUT (R40, R58) -/

section
variable {s : State} {n : Nat} {typ : Int}

theorem State.setUserType_pos : (s.setUserType n typ).pos = { s.pos with armed := s.pos.armed.filter (·.no ≠ n) } := by
  unfold State.setUserType
  rw [State.put_pos, ← State.put_pos s (userKey n 2) typ]

@[simp] theorem State.setUserType_now : (s.setUserType n typ).now = s.now := by
  unfold State.setUserType
  rw [State.put_now]
  exact State.put_now _ _ _

theorem State.o_setUserType_ne {k : Nat} (h : k ≠ userKey n 2) (hu : k ≠ 0x220002) : (s.setUserType n typ).o k = s.o k := by
  unfold State.setUserType
  rw [State.o_put_ne _ _ hu, State.o_with_pos, State.o_put_ne _ _ h]

theorem State.markFires_entry {e : Armed} (h : s.entryFires n 0x11 = some e) : s.markFires n = (s.setUserType n 0).raise 0x0110 e.tag := by
  unfold State.markFires
  rw [h]

/-- A pulse lasts its width; a pulse in progress lasts at least as long. -/
theorem State.pulse_eq {x : State} {now till : Nat} {active : Bool} (hn : x.now = now) (ha : x.pos.trigOut = active)
    (ht : x.pos.trigOutEnd = till) (width : Nat) : x.pulse width = { x with pos := { x.pos with
      trigOut := true, trigOutEnd := if active then max till (now + width) else now + width } } := by
  subst hn ha ht
  rfl

theorem State.pulseFires_entry {e : Armed} (hn : 0x204801 ≠ userKey n 2) (h : s.entryFires n 0x10 = some e) : s.pulseFires n =
    if s.o 0x204801 = 2 then { s.setUserType n 0 with pos := { (s.setUserType n 0).pos with
      trigOut := true, trigOutEnd := if s.pos.trigOut then max s.pos.trigOutEnd (s.now + e.param) else s.now + e.param } }
    else s.setUserType n 0 := by
  have mode : (s.setUserType n 0).o 0x204801 = s.o 0x204801 := State.o_setUserType_ne hn (by decide)
  have pulse := State.pulse_eq (x := s.setUserType n 0) State.setUserType_now (active := s.pos.trigOut)
    (by rw [State.setUserType_pos]) (till := s.pos.trigOutEnd) (by rw [State.setUserType_pos]) e.param
  unfold State.pulseFires
  rw [h, ← pulse]
  simp only [State.is, mode, beq_iff_eq]

theorem State.pulseEnds_active (h : s.pos.trigOut = true) :
    s.pulseEnds = { s.atTick s.pos.trigOutEnd with pos := { s.pos with trigOut := false } } := if_pos h

end

/-! ### The time of an epoch (R29) -/

theorem State.setEpoch_now (s : State) (t : Nat) : (s.setEpoch t).now = s.now := by
  unfold State.setEpoch
  simp only [State.raise_now, State.puts_cons, State.puts_nil, State.put_now]
  split <;> rfl

theorem State.epochBegun_now (s : State) (t : Nat) : (s.epochBegun t).now = s.now := by
  obtain ⟨c, hc⟩ := (s.setEpoch t).renumber.streamRenumber_eq 0
  unfold State.epochBegun State.streamEpoch
  rw [State.put_now, hc]
  exact s.setEpoch_now t

theorem State.enterRunning_now (s : State) : s.enterRunning.now = s.now := by
  unfold State.enterRunning
  simp only [State.raise_now, State.emit_now, State.put_now]

theorem State.epochRuns_now (s : State) (t : Nat) : (s.epochRuns t).now = s.now := by
  unfold State.epochRuns
  split
  · rw [State.enterRunning_now, s.epochBegun_now]
  · exact s.epochBegun_now t

/-! ### The statement -/

/-- A clocked instruction answers its effect while the device runs out of standby. -/
theorem exec_clocked {s x : State} {c : Instr} {f : State → State} (alive : s.alive = true) (awake : s.o 0x152005 ≠ 4)
    (hc : exec c s = s.actClocked f) (hx : f s = x) : exec c s = .next (s.settle x) := by
  rw [hc, s.actClocked_running f alive awake, hx]

section
variable {s x : State} {t : Nat} {level : Bool} (alive : s.alive = true) (unarmed : s.pow.rearm = false) (awake : s.o 0x152005 ≠ 4)
include alive unarmed awake

/-- With no START to issue, an edge of the epoch input answers its effect. -/
theorem exec_epochInputEdge (hx : s.epochInEdge level t = x) (hk : RearmKept s x) :
    exec (.epochInputEdge level t) s = .next (s.settle x) :=
  exec_clocked (f := fun s => s.rearmAfter (s.epochInEdge level t)) alive awake rfl
    ((congrArg s.rearmAfter hx).trans (s.rearmAfter_of_unarmed (Eq.trans hk unarmed)))

/-- With no START to issue, an edge of TRIG_IN answers its effect. -/
theorem exec_trigInEdge (hx : s.trigInEdge level t = x) (hk : RearmKept s x) : exec (.trigInEdge level t) s = .next (s.settle x) :=
  exec_clocked (f := fun s => s.rearmAfter (s.trigInEdge level t)) alive awake rfl
    ((congrArg s.rearmAfter hx).trans (s.rearmAfter_of_unarmed (Eq.trans hk unarmed)))

end

/-- Settles O9: each clause is the case of its event's operation; what keeps the START to issue lets the operation's effect stand. -/
theorem positionAndEpochEventsActAtTheirTime : Obligations.PositionAndEpochEventsActAtTheirTime := by
  unfold Obligations.PositionAndEpochEventsActAtTheirTime
  refine ⟨fun s t level n alive unarmed awake => ?_, fun s t alive unarmed awake hd hl hr hs ha h0 h1 => ?_⟩
  · intro out gone
    have epoch {x : State} (hx : s.epochInEdge level t = x) (hk : RearmKept s x) := exec_epochInputEdge alive unarmed awake hx hk
    have trig {x : State} (hx : s.trigInEdge level t = x) (hk : RearmKept s x) := exec_trigInEdge alive unarmed awake hx hk
    have entry : 192 + (n : Nat) < 256 := by omega
    refine ⟨fun t0 ht hm h1 => ?_, fun hd hl => ?_, fun hd hl => ?_, fun e he => ⟨?_, ?_⟩, fun e he => ?_, fun h => ?_⟩
    · exact exec_clocked alive awake rfl (State.horizonExpiry_stops ht hm h1)
    · intro a
      have kept : RearmKept s a := Eq.refl _
      have edge : s.epochInEdge level t = if level = true ∧ s.o 0x201801 = 2 then a.epochSource t else a :=
        State.epochInEdge_eq hd hl
      refine ⟨fun hn => ?_, fun hv hs hn => ?_, fun hv hs ha => ?_⟩
      · have away : ¬ (level = true ∧ s.o 0x201801 = 2) := by rcases hn with h | h <;> simp [h]
        exact epoch (edge.trans (if_neg away)) kept
      · exact epoch (edge.trans ((if_pos ⟨hv, hs⟩).trans (State.epochSource_unarmed hn))) (kept.bump _)
      · exact epoch (edge.trans ((if_pos ⟨hv, hs⟩).trans (State.epochSource_armed ha))) (kept.epochEdge t)
    · intro a
      have kept : RearmKept s a := Eq.refl _
      have edge : s.trigInEdge level t = if level = s.b 0x202802 then a else if s.tmode = 2 then a.externalLine
          else if s.tmode = 4 then a.sheetRequest (a.posAt t) else a := State.trigInEdge_eq hd hl
      refine ⟨fun hn => ?_, fun hv hm hs => ?_, fun hv hm hs hr => ?_, fun hv hm hr => ?_, fun hv hm hr hb => ?_⟩
      · have level_only : s.trigInEdge level t = a := by
          rw [edge]
          rcases hn with h | ⟨h2, h4⟩
          · rw [if_pos h]
          · rw [if_neg h2, if_neg h4, ite_self]
        exact trig level_only kept
      · have sheet := edge.trans ((if_neg hv).trans ((if_neg (by omega)).trans (if_pos hm)))
        exact trig (sheet.trans (State.sheetRequest_unset hs)) (kept.bump _)
      · have sheet := edge.trans ((if_neg hv).trans ((if_neg (by omega)).trans (if_pos hm)))
        exact ⟨_, trig (sheet.trans (State.sheetRequest_starts hs hr)) (kept.sheetStart _ _), a.sheetStart_starts _⟩
      · have line := edge.trans ((if_neg hv).trans (if_pos hm))
        exact trig (line.trans (State.externalLine_idle hr)) kept
      · obtain ⟨line, motion, running⟩ := State.externalLine_counts (s := a) hr hb
        exact ⟨_, trig (edge.trans ((if_neg hv).trans (if_pos hm))) (kept.trans running), line, motion⟩
    · exact exec_clocked (f := fun s => s.markFires (192 + n)) alive awake rfl (State.markFires_entry he)
    · exact State.o_setUserType s entry 0
    · have fires := State.pulseFires_entry (by unfold userKey; omega) he
      have act {x : State} (hx : s.pulseFires (192 + n) = x) : exec (.trigOutPulse n) s = out x :=
        exec_clocked (f := fun s => s.pulseFires (192 + n)) alive awake rfl hx
      exact ⟨fun hm => act (fires.trans (if_neg hm)), fun hm => act (fires.trans (if_pos hm))⟩
    · exact exec_clocked alive awake rfl (State.pulseEnds_active h)
  · have kept : RearmKept s (s.epochLevel true t) := Eq.refl _
    have edge : s.epochInEdge true t = (s.epochLevel true t).epochEdge t :=
      (State.epochInEdge_eq hd (by simp [hl])).trans ((if_pos ⟨rfl, hs⟩).trans (State.epochSource_armed ha))
    have sets := (s.epochLevel true t).epochEdge_sets t h0 h1 hr
    have now : ((s.epochLevel true t).epochEdge t).now = max s.now (t + s.n 0x201806) := by
      rw [(s.epochLevel true t).epochEdge_external t h0 h1 hr]
      exact State.epochRuns_now _ t
    have held := kept.epochEdge t
    generalize (s.epochLevel true t).epochEdge t = y at edge sets now held
    refine ⟨s.settle y, exec_epochInputEdge alive unarmed awake edge held, sets.cnt, sets.furthest, sets.counted, sets.lastLine,
      sets.line, sets.sect, sets.epoch, sets.run, fun tick ht => sets.stands tick ?_⟩
    have after : max s.now y.now ≤ tick := ht
    omega

end Sys2Proof.Machine
end

section
/-!
Phases and strobes (R70 to R72, R89): what their events' operations leave of the line in progress, its records and the outputs, and
the statement about the phase plan.
-/
namespace Sys2Proof.Machine

/-! ### Updates beside the arrays -/

@[simp] theorem State.sat_arr (s : State) (k d : Nat) : (s.sat k d).arr = s.arr := by simp [State.sat]
@[simp] theorem State.bump_arr (s : State) (k d : Nat) : (s.bump k d).arr = s.arr := by simp [State.bump]
@[simp] theorem State.setBits_arr (s : State) (k m : Nat) : (s.setBits k m).arr = s.arr := by simp [State.setBits]

@[simp] theorem State.dropSched_arr (s : State) (f : SchedEntry → Bool) : (s.dropSched f).arr = s.arr := by simp [State.dropSched]
@[simp] theorem State.dropSched_now (s : State) (f : SchedEntry → Bool) : (s.dropSched f).now = s.now := by simp [State.dropSched]
theorem State.o_dropSched_ne (s : State) (f : SchedEntry → Bool) {k : Nat} (h : k ≠ 0x220001) : (s.dropSched f).o k = s.o k := by
  rw [State.dropSched, State.o_put_ne _ _ h, State.o_with_pos]

/-- A command answers its effect while the device runs. -/
theorem exec_acts {s x : State} {c : Instr} (f : State → State) (alive : s.alive = true) (hc : exec c s = s.act f) (hx : f s = x) :
    exec c s = .next (s.settle x) := by
  rw [hc, s.act_alive f alive, hx]

/-! ### Phases (R70) -/

section
variable {s : State} {c : CurLine} {p : Nat} {ph : Phase}

theorem State.phaseBegin_runs (hc : s.arr.cur = some c) (hp : c.plan[p]? = some ph) (hr : s.planRuns = true) :
    s.phaseBegin p = { s.atTick (c.phaseT p) with
      arr := { s.arr with gate := if ph.field = 0xFF then none else some ph.field } } := by
  simp [State.phaseBegin, hc, hp, hr]

theorem State.phaseFinish_eq (hc : s.arr.cur = some c) (hp : c.plan[p]? = some ph) :
    s.phaseFinish p = { (s.atTick (c.phaseT p + ph.len)).latchPos c.line ph.field (c.phaseT p + ph.len / 2) with
      arr := { s.arr with gate := none } } := by
  unfold State.phaseFinish
  rw [hc]
  simp only [hp]
  rfl

end

/-- Latching a position renumbers no line. -/
theorem State.latchPos_lines (s : State) (n src centre : Nat) :
    (s.latchPos n src centre).pipe.lines.map (·.line) = s.pipe.lines.map (·.line) := by
  unfold State.latchPos
  rw [List.map_map]
  refine List.map_congr_left fun l _ => ?_
  dsimp only [Function.comp]
  split <;> rfl

/-- A latched position stands in every record of its source in the line. -/
theorem State.latchPos_latches (s : State) (n src centre : Nat) {l : LineRec} (hl : l ∈ (s.latchPos n src centre).pipe.lines)
    (hn : l.line = n) (hs : l.skipped = false) {y : SrcLine} (hy : y ∈ l.srcs) (hsrc : y.src = src) : y.pos = s.posAt centre := by
  obtain ⟨l₀, -, rfl⟩ := List.mem_map.mp hl
  by_cases here : (decide (l₀.line = n) && !l₀.skipped) = true
  · simp only [here, if_true] at hy
    obtain ⟨y₀, -, rfl⟩ := List.mem_map.mp hy
    by_cases own : (decide (y₀.src = src) || (decide (0x40 ≤ y₀.src) && decide (src = s.n 0x400005))) = true
    · rw [if_pos own]
    · rw [if_neg own] at hsrc
      simp [hsrc] at own
  · rw [if_neg here] at hn hs
    simp [hn, hs] at here

/-! ### Strobes (R71, R89) -/

/-- The state in which the plan holds strobe `k` active. -/
def State.strobeUp (s : State) (k : Nat) : State := { s with arr := { s.arr with strobes := s.arr.strobes ||| 2 ^ k } }

section
variable {s : State} {k : Nat}

/-- A strobe that may be driven and that the plan holds active has the active level of its polarity. -/
theorem State.strobePad_strobeUp (hok : s.strobeOk k = true) : (s.strobeUp k).strobePad k = some (!s.bit 0x243002 k) := by
  simp only [State.strobeOk, Bool.and_eq_true, Bool.not_eq_true'] at hok
  obtain ⟨⟨enabled, driven⟩, -⟩ := hok
  have held : (s.strobeUp k).strobeActive k = true := by
    have raised : (s.arr.strobes ||| 2 ^ k).testBit k = true := by simp [Nat.testBit_or, Nat.testBit_two_pow_self]
    unfold State.strobeActive
    rw [show (s.strobeUp k).b 0x243001 = true from enabled, show (s.strobeUp k).arr.strobes.testBit k = true from raised]
    simp
  unfold State.strobePad
  rw [if_neg (by simpa [State.strobeUp] using driven), held, Bool.true_bne]
  rfl

variable {c : CurLine} {p d w : Nat} {ph : Phase}

/-- A strobe whose delay has passed is active where it may be driven; entries of the event table that are done go. -/
theorem State.strobeRise_runs (hc : s.arr.cur = some c) (hp : c.plan[p]? = some ph)
    (hd : ph.strobes.find? (fun y => y.1 = k) = some (k, d, w)) (hr : s.planRuns = true) :
    ∃ done, s.strobeRise k p =
      let a := (s.atTick (c.phaseT p + d)).dropSched done
      if a.strobeOk k then a.strobeUp k else a := by
  apply Exists.intro
  unfold State.strobeRise
  rw [hc]
  simp only [hp, Option.map_some, Option.getD_some, hd, hr, Bool.not_true, Bool.false_eq_true, if_false]
  rfl

theorem State.strobeFall_eq (hc : s.arr.cur = some c) (hp : c.plan[p]? = some ph)
    (hd : ph.strobes.find? (fun y => y.1 = k) = some (k, d, w)) :
    s.strobeFall k p = { s.atTick (c.phaseT p + d + w) with
      arr := { s.arr with strobes := s.arr.strobes ^^^ (s.arr.strobes &&& 2 ^ k) } } := by
  unfold State.strobeFall
  rw [hc]
  simp only [hp, Option.map_some, Option.getD_some, hd]
  rfl

/-- What a strobe needs to be driven is beside the clock and the scheduler's entries. -/
theorem State.strobeOk_dropSched (t : Nat) (f : SchedEntry → Bool) : ((s.atTick t).dropSched f).strobeOk k = s.strobeOk k := by
  simp only [State.strobeOk, State.b, State.o_dropSched_ne _ f (show 0x243001 ≠ 0x220001 by decide), State.dropSched_arr,
    State.o_atTick, State.atTick_arr]

/-- A strobe that rises changes its bit of the outputs alone, and its pad takes the active level. -/
theorem State.strobeRise_drives (hc : s.arr.cur = some c) (hp : c.plan[p]? = some ph)
    (hd : ph.strobes.find? (fun y => y.1 = k) = some (k, d, w)) (hr : s.planRuns = true) :
    (s.strobeRise k p).now = max s.now (c.phaseT p + d)
    ∧ (s.strobeRise k p).arr = { s.arr with strobes := if s.strobeOk k then s.arr.strobes ||| 2 ^ k else s.arr.strobes }
    ∧ (s.strobeOk k = true → (s.strobeRise k p).strobePad k = some (!s.bit 0x243002 k)) := by
  obtain ⟨done, rise⟩ := State.strobeRise_runs hc hp hd hr
  have drivable := s.strobeOk_dropSched (k := k) (c.phaseT p + d) done
  have clock : ((s.atTick (c.phaseT p + d)).dropSched done).now = max s.now (c.phaseT p + d) := State.dropSched_now _ _
  have outputs : ((s.atTick (c.phaseT p + d)).dropSched done).arr = s.arr := State.dropSched_arr _ _
  have polarity : ((s.atTick (c.phaseT p + d)).dropSched done).bit 0x243002 k = s.bit 0x243002 k :=
    congrArg (fun v : Int => v.toNat.testBit k) (State.o_dropSched_ne _ done (by decide))
  generalize (s.atTick (c.phaseT p + d)).dropSched done = a at rise drivable clock outputs polarity
  rw [rise]
  cases hok : s.strobeOk k with
  | true =>
    rw [hok] at drivable
    simp only [drivable, if_true]
    refine ⟨clock, by rw [State.strobeUp, outputs], fun _ => ?_⟩
    rw [State.strobePad_strobeUp drivable, polarity]
  | false =>
    rw [hok] at drivable
    simp only [drivable, Bool.false_eq_true, if_false]
    exact ⟨clock, outputs, nofun⟩

/-- A strobe that does not follow its drive goes to high impedance with its latch set. -/
theorem State.strobeFault_latches (hk : k < 6) (hl : s.bit 0x243004 k = false) (hp : (s.strobePad k).isSome = true) :
    s.strobeFault k = ({ s with arr := { s.arr with
      hiZ := s.arr.hiZ ||| 2 ^ k, strobes := s.arr.strobes ^^^ (s.arr.strobes &&& 2 ^ k) } }.setBits 0x243004 (2 ^ k)).raise
        0x0202 (k + 256 * s.exposedLine : Nat) := by
  have follows : ¬ (decide (6 ≤ k) || s.bit 0x243004 k || (s.strobePad k).isNone) = true := by
    simp [hl, Option.isSome_iff_ne_none.mp hp, hk]
  exact if_neg follows

end

/-- Settles O11: each clause is the case of its event's operation. -/
theorem phasesAndStrobesFollowThePlan : Obligations.PhasesAndStrobesFollowThePlan := by
  unfold Obligations.PhasesAndStrobesFollowThePlan
  intro s k p c ph alive hc hp out
  refine ⟨fun hr => ?_, ?_, fun d w hd => ⟨fun hr => ?_, ?_⟩⟩
  · exact exec_acts (·.phaseBegin p) alive rfl (State.phaseBegin_runs hc hp hr)
  · refine ⟨_, exec_acts (·.phaseFinish p) alive rfl (State.phaseFinish_eq hc hp), rfl, rfl, rfl, ?_, ?_, ?_⟩
    · exact Nat.max_eq_right (Nat.le_max_left s.now _)
    · exact State.latchPos_lines _ _ _ _
    · exact fun l hl hn hs y hy hsrc => State.latchPos_latches _ _ _ _ hl hn hs hy hsrc
  · exact ⟨_, exec_acts (·.strobeRise k p) alive rfl rfl, State.strobeRise_drives hc hp hd hr⟩
  · exact exec_acts (·.strobeFall k p) alive rfl (State.strobeFall_eq hc hp hd)

end Sys2Proof.Machine
end

section
/-!
Frames of W and faults of the arrays (R82 to R84, R89, R90): when a frame begins, what the read of a row leaves, the row drivers' latch,
and the statement about them.
-/
namespace Sys2Proof.Machine

/-! ### The latest of several ticks -/

/-- The greatest of a list and a start is one of them, and no less than each. -/
theorem foldl_max_greatest (l : List Nat) (b : Nat) : l.foldl max b ∈ b :: l ∧ ∀ x ∈ b :: l, x ≤ l.foldl max b :=
  List.max?_eq_some_iff.mp List.max?_cons'

theorem le_foldl_max_of_mem {l : List Nat} {x : Nat} (h : x ∈ l) (b : Nat) : x ≤ l.foldl max b :=
  (foldl_max_greatest l b).2 x (List.mem_cons_of_mem b h)

theorem foldl_max_of_le {l : List Nat} {b : Nat} (h : ∀ x ∈ l, x ≤ b) : l.foldl max b = b := by
  obtain ⟨one, all⟩ := foldl_max_greatest l b
  refine Nat.le_antisymm ?_ (all b List.mem_cons_self)
  rcases List.mem_cons.mp one with eq | mem
  · exact eq.le
  · exact h _ mem

/-! ### A frame begins (R82, R83) -/

/-- The frames that are being read or wait at tick `t`. -/
def State.wLive (s : State) (t : Nat) : List WFrame := s.arr.wFrames.filter fun f => f.next < f.rows || t < f.endT

/-- The frame of W that begins at tick `t`, with the settings in force. -/
def State.wFrameAt (s : State) (t : Nat) : WFrame where
  no := s.arr.wNo
  start := max (t + s.n 0x241806) (((s.wLive t).map WFrame.endT).foldl max 0)
  first := s.n 0x241801
  rows := s.n 0x241802
  next := 0
  segA := s.n 0x241803
  segB := s.n 0x241804
  fs := s.n 0x24180B
  expo := s.n 0x241806
  mask := s.n 0x243003
  isPartial := s.arr.wFirst

theorem State.wBegin_eq (s : State) (t : Nat) : s.wBegin t = { s with arr := { s.arr with
    wFrames := s.wLive t ++ [s.wFrameAt t], wNo := s.arr.wNo + 1, wFirst := false, wNextT := t + s.n 0x241807, wPend := false } } :=
  rfl

theorem State.wFrameAt_mem (s : State) (t : Nat) : s.wFrameAt t ∈ (s.wBegin t).arr.wFrames := by
  rw [s.wBegin_eq t]
  exact List.mem_append_right _ (List.mem_singleton_self _)

/-- A frame is read after those before it: one that is gone by tick `t` has ended by then. -/
theorem State.endT_le_wFrameAt (s : State) (t : Nat) {g : WFrame} (hg : g ∈ s.arr.wFrames) : g.endT ≤ (s.wFrameAt t).start := by
  by_cases live : (decide (g.next < g.rows) || decide (t < g.endT)) = true
  · exact (le_foldl_max_of_mem (List.mem_map_of_mem (List.mem_filter.mpr ⟨hg, live⟩)) 0).trans (Nat.le_max_right _ _)
  · have ended : g.endT ≤ t := by
      simp only [Bool.or_eq_true, decide_eq_true_eq, not_or, Nat.not_lt] at live
      exact live.2
    exact (ended.trans (Nat.le_add_right _ _)).trans (Nat.le_max_left _ _)

theorem State.wFrameStart_freeRun {s : State} (hb : s.bankD = 2) (hm : s.o 0x241808 = 1) :
    s.wFrameStart = (s.atTick s.arr.wNextT).wBegin s.arr.wNextT := by
  simp [State.wFrameStart, hb, State.is, hm]

/-! ### A row is read (R82, R83) -/

/-- The count of low-gain samples is beside the clock and the arrays. -/
theorem State.countLow_kept (s v : State) (bank sect : Nat) (w : Nat × Nat) (lv : Levels) :
    (s.countLow v bank sect w lv).now = s.now ∧ (s.countLow v bank sect w lv).arr = s.arr := by
  unfold State.countLow
  extract_lets n
  split
  · exact ⟨State.bump_now _ _ _, State.bump_arr _ _ _⟩
  · exact ⟨rfl, rfl⟩

/-- The frames with the next row of frame `no` read. -/
def rowTaken (no : Nat) (fs : List WFrame) : List WFrame := fs.map fun z => if z.no = no then { z with next := z.next + 1 } else z

/-- A row that is read becomes a line of W at its step of 250 ticks, and its codes go on. -/
structure RowRead (s : State) (f : WFrame) (x : State) (p : LinePix) (l : LineRec) : Prop where
  now : x.now = max s.now (f.start + 250 * f.next)
  arr : x.arr = { s.arr with wFrames := rowTaken f.no s.arr.wFrames }
  entered : l ∈ x.pipe.lines
  line : l.line = 256 * f.no + f.first + f.next
  start : l.start = f.start + 250 * f.next
  src : p.src = srcW
  pixLine : p.line = 256 * f.no + f.first + f.next
  stages : p.stages = 1
  scale : p.fs = f.fs

/-- Each row that is read becomes a line of W; after the last row the frame ends. -/
theorem State.wRow_reads {s : State} {f : WFrame} (hf : s.wReading = some f) (hb : s.bankD = 2) (lv : Levels) :
    ∃ (x : State) (p : LinePix) (l : LineRec) (prev : Option Nat), RowRead s f x p l ∧
      s.wRow lv =
        let n := 256 * f.no + f.first + f.next
        let read := (x.pushPix p).streamRow prev n
        if f.next + 1 = f.rows then (read.streamFrameEnd f.no n).wFrameEnd f else read := by
  unfold State.wRow
  split
  next idle => cases hf.symm.trans idle
  next g reading =>
    obtain rfl : f = g := Option.some.inj (hf.symm.trans reading)
    rw [if_neg (not_not_intro hb)]
    extract_lets t a off lv' n pos fl run y l vals p prev b done pipe entered taken arr x read
    have ⟨clock, frames⟩ : b.now = max s.now t ∧ b.arr = s.arr := by
      unfold b
      split
      · exact ⟨rfl, rfl⟩
      · exact a.countLow_kept _ _ _ _ _
    refine ⟨x, p, l, prev, ⟨clock, ?_, List.mem_append_right _ (List.mem_singleton_self l), rfl, rfl, rfl, rfl, rfl, rfl⟩, rfl⟩
    show { b.arr with wFrames := rowTaken f.no b.arr.wFrames } = _
    rw [frames]

/-! ### Row drivers (R90) -/

/-- A row driver outside its window sets its latch; one that waits to be re-enabled no longer does. -/
theorem State.rowFault_latches {s : State} {bit : Nat} (hl : s.bit 0x243801 bit = false) (hp : s.rowPresent bit = true) :
    s.rowFault bit =
      let a := (s.setBits 0x243801 (2 ^ bit)).sat 0x243803
      ({ a with arr := { s.arr with rowReen := s.arr.rowReen &&& (2 ^ 30 - 1 - 2 ^ bit) } }).raiseAt
        0x0203 (4 * (bit / 5)) (12 + bit % 5) bit := by
  have latches : ¬ (!s.rowPresent bit || s.bit 0x243801 bit) = true := by simp [hl, hp]
  have arrays : ((s.setBits 0x243801 (2 ^ bit)).sat 0x243803).arr = s.arr := by simp
  unfold State.rowFault
  rw [if_neg latches]
  simp only [arrays]

/-- Settles O12: each clause is the case of its event's operation. -/
theorem framesAndFaultsOfTheArrays : Obligations.FramesAndFaultsOfTheArrays := by
  unfold Obligations.FramesAndFaultsOfTheArrays
  intro s k bit lv alive out
  refine ⟨fun hb hm => ?_, fun f hf hb => ?_, fun hl hp => ?_, fun hl hp => ?_⟩
  · let a := s.atTick s.arr.wNextT
    refine ⟨_, a.wFrameAt s.arr.wNextT, exec_acts State.wFrameStart alive rfl (State.wFrameStart_freeRun hb hm),
      a.wFrameAt_mem _, rfl, rfl, rfl, rfl, rfl, rfl, rfl, rfl, ?_, ?_, rfl, rfl, rfl⟩
    · exact Nat.le_max_left _ _
    · exact fun g hg => a.endT_le_wFrameAt _ hg
  · obtain ⟨x, p, l, prev, row, read⟩ := State.wRow_reads hf hb lv
    refine ⟨x, p, l, prev, fun more => ?_, fun last => ?_, row.now, row.arr, row.entered, row.line, row.start, row.src, row.pixLine,
      row.stages, row.scale⟩
    · exact exec_acts (·.wRow lv) alive rfl (read.trans (if_neg (by omega)))
    · exact exec_acts (·.wRow lv) alive rfl (read.trans (if_pos last))
  · exact exec_acts (·.strobeFault k) alive rfl (State.strobeFault_latches k.isLt hl hp)
  · exact exec_acts (·.rowFault bit) alive rfl (State.rowFault_latches hl hp)

end Sys2Proof.Machine
end

section
/-!
Commands of the arrays (R83, R89, R90, R118): single frames of W, the latches' clears and the raw capture, and the statement about
them.
-/
namespace Sys2Proof.Machine
open Sys2Proof.Safety

/-! ### Writes of command objects -/

/-- An accepted write of a command object whose command ends in `OK` answers so, over the state that the command leaves. -/
theorem act_commandOk {s x : State} {w : Sender} {k : Nat} {bs : List Nat} {row : ObjRow} (h : Accepted s w k bs)
    (hr : findRow k = some row) (hw : row.acc = .wo) (hn : row.app = .now) (hk : k < 2 ^ 24) (hl : bs.length ≤ 4)
    (hb : (taken s w (writeOf k bs)).normalBytes k bs = bs)
    (hx : (taken s w (writeOf k bs)).command k (leNat bs) bs = (stOk, x)) :
    s.act (fun s => s.write w k bs) = .next (s.settle (replyOk w (writeOf k bs) x)) := by
  have room : 4 ≤ portLimit w.port := by unfold portLimit; split_ifs <;> decide
  rw [State.act_alive _ _ h.runs, write_command s w k bs row h hr hw (by simp [hn]) hk (hl.trans room) hb, hx]
  rfl

theorem State.normalBytes_rawArm (s : State) (bs : List Nat) : s.normalBytes 0x287003 bs = bs := by simp [State.normalBytes]

/-! ### Single frames (R83) -/

section
variable {s : State}

/-- With no frame being read, a single frame begins when the last one read has ended, or now. -/
theorem State.wSingle_begins (hb : s.bankD = 2) (hm : s.o 0x241808 = 2) (hr : s.wReading = none) :
    s.wSingle = s.wBegin ((s.arr.wFrames.map WFrame.endT).foldl max s.now) := by
  have single : ¬ (decide (s.bankD ≠ 2) || decide (s.o 0x241808 ≠ 2)) = true := by simp [hb, hm]
  have idle : s.wReading.isNone = true := by simp [hr]
  unfold State.wSingle
  rw [if_neg single, if_pos idle, ite_eq_right_iff]
  intro ended
  rw [foldl_max_of_le]
  simp only [List.mem_map, forall_exists_index, and_imp, forall_apply_eq_imp_iff₂]
  simp only [Bool.not_eq_true', List.any_eq_false, Bool.or_eq_true, decide_eq_true_eq, not_or, Nat.not_lt] at ended
  exact fun f hf => (ended f hf).2

/-- While a frame is being read, a single frame waits. -/
theorem State.wSingle_waits (hb : s.bankD = 2) (hm : s.o 0x241808 = 2) (hr : s.wReading.isSome = true) (hp : s.arr.wPend = false) :
    s.wSingle = { s with arr := { s.arr with wPend := true } } := by
  obtain ⟨f, reading⟩ := Option.isSome_iff_exists.mp hr
  have rows : f.next < f.rows := by simpa using List.find?_some reading
  have single : ¬ (decide (s.bankD ≠ 2) || decide (s.o 0x241808 ≠ 2)) = true := by simp [hb, hm]
  have busy : (s.arr.wFrames.any fun f => decide (f.next < f.rows) || decide (s.now < f.endT)) = true :=
    List.any_eq_true.mpr ⟨f, List.mem_of_find?_eq_some reading, by simp [rows]⟩
  unfold State.wSingle
  rw [if_neg single, if_neg (by simp [busy]), if_neg (by simp [reading]), if_neg (by simp [hp])]

/-! ### Latches and the raw capture (R89, R90, R118) -/

theorem State.bit_clrBits (k m i : Nat) : (s.clrBits k m).bit k i = (s.bit k i && !m.testBit i) := by
  have bits : (s.clrBits k m).n k = s.n k ^^^ (s.n k &&& m) := by simp [State.n, State.clrBits]
  simp only [State.bit, bits, Nat.testBit_xor, Nat.testBit_and]
  cases (s.n k).testBit i <;> simp

theorem State.testBit_clearStrobe_reenable (m i : Nat) :
    (s.clearStrobe m).arr.reenable.testBit i = (s.arr.reenable.testBit i || (m.testBit i && s.arr.hiZ.testBit i)) := by
  simp [State.clearStrobe]

/-- The raw capture waits for a line with its buffer empty. -/
theorem State.rawArm_armed : s.rawArm.o 0x287004 = 1 ∧ s.rawArm.blob 0x287005 = [] := by
  unfold State.rawArm
  exact ⟨(State.o_putBlob _ _ _ _).trans (State.o_put_self _ _ _), (State.blob_putBlob _ _ _ _).trans (if_pos rfl)⟩

end

/-- Settles O14: an accepted command answers what its operation leaves. -/
theorem arrayCommandsAct : Obligations.ArrayCommandsAct := by
  unfold Obligations.ArrayCommandsAct
  intro s w m hm q done
  have value : leNat (leBytes 4 m) = m := leNat_leBytes_of_lt 4 m hm
  have command {c : Instr} {k : Nat} {bs : List Nat} {row : ObjRow} {x : State} (h : Accepted s w k bs)
      (hc : exec c s = s.act fun s => s.write w k bs) (hr : findRow k = some row) (hw : row.acc = .wo) (hn : row.app = .now)
      (hk : k < 0x284000) (hl : bs.length ≤ 4) (hx : (q k bs).command k (leNat bs) bs = (stOk, x)) : done c k bs x :=
    hc.trans (act_commandOk h hr hw hn (by omega) hl (State.normalBytes_of_lt _ _ hk) hx)
  refine ⟨fun h => ?_, fun h => ?_, fun h => ?_, fun h => ?_⟩
  · intro a hb hs
    refine ⟨fun hr => ⟨?_, ?_⟩, fun hr hp => ?_⟩
    · exact command h rfl rfl rfl rfl (by decide) (by decide) (congrArg (Prod.mk stOk) (State.wSingle_begins hb hs hr))
    · exact ⟨_, a.wFrameAt_mem _, rfl, rfl, rfl⟩
    · exact command h rfl rfl rfl rfl (by decide) (by decide) (congrArg (Prod.mk stOk) (State.wSingle_waits hb hs hr hp))
  · intro a
    refine ⟨a.clearStrobe m, ?_, fun i => ?_, fun i => ?_⟩
    · exact command h rfl rfl rfl rfl (by decide) (by simp) (congrArg (fun v => (stOk, a.clearStrobe v)) value)
    · exact State.bit_clrBits 0x243004 m i
    · exact State.testBit_clearStrobe_reenable m i
  · intro a
    let cleared (v : Nat) : State := { a with arr := { a.arr with rowReen := a.arr.rowReen ||| (v &&& a.n 0x243801) } }
    refine ⟨cleared m, ?_, rfl, fun i => ?_⟩
    · exact command h rfl rfl rfl rfl (by decide) (by simp) (congrArg (fun v => (stOk, cleared v)) value)
    · simp [cleared, State.bit]
  · refine ⟨(q 0x287003 [1]).rawArm, ?_, State.rawArm_armed.1, State.rawArm_armed.2, rfl, rfl⟩
    exact act_commandOk h rfl rfl rfl (by decide) (by decide) (State.normalBytes_rawArm _ _) rfl

end Sys2Proof.Machine
end

section
/-!
Commands of the converter calibration (R101, R106, R107): what START begins, what ABORT ends and when SAVE stores, and the statement
about them.
-/
namespace Sys2Proof.Machine
open Sys2Proof.Safety

@[simp] theorem State.o_with_conv (s : State) (c : ConvState) (k : Nat) : ({ s with conv := c } : State).o k = s.o k := rfl

/-- An accepted command of the converter calibration answers its status, over the state that it leaves. -/
theorem exec_calCommand {s x : State} {c : Instr} {w : Sender} {v st : Nat} (h : Accepted s w 0x281001 [v])
    (hc : exec c s = s.act fun s => s.write w 0x281001 [v]) (hv : v < 256)
    (hx : (taken s w (writeOf 0x281001 [v])).calCommand v = (st, x)) :
    exec c s = .next (s.settle (reply w (writeOf 0x281001 [v]) { status := st, ids := none, data := [], next := x })) := by
  have command : (taken s w (writeOf 0x281001 [v])).command 0x281001 v [v] = (st, x) := hx
  rw [hc, act_command h rfl rfl rfl (by decide) hv, commandReply, command]

section
variable {s : State}

/-! ### START (R101) -/

/-- A bank that begins is shown, and ends 12 ms later. -/
theorem State.calBank_begins (s : State) (b : Nat) (t : List Nat) :
    (s.calBank (b :: t)).o 0x281004 = b ∧ (s.calBank (b :: t)).conv.calLeft = b :: t
    ∧ (s.calBank (b :: t)).conv.calEnd = s.now + 12 * tickMs :=
  ⟨State.o_put_self _ _ _, rfl, rfl⟩

theorem State.o_calBank_ne (s : State) (l : List Nat) {k : Nat} (h : k ≠ 0x281004) : (s.calBank l).o k = s.o k := by
  cases l with
  | nil => rfl
  | cons b t => exact State.o_put_ne s _ h

/-- A START that is not refused masks a bank. -/
theorem State.masksBank_of_calRefusal (h : s.calRefusal = stOk) : ∃ b t, maskBanks (s.n 0x281002) = b :: t := by
  refine List.exists_cons_of_ne_nil fun none => absurd h ?_
  have refused : s.calRefusal = stConstraint := by simp [State.calRefusal, none]
  rw [refused]
  decide

/-- START begins the first of the masked banks. -/
theorem State.calStart_begins {b : Nat} {t : List Nat} (h : maskBanks (s.n 0x281002) = b :: t) :
    s.calStart.o 0x281003 = 1 ∧ s.calStart.o 0x281004 = b ∧ s.calStart.conv.calLeft = b :: t
    ∧ s.calStart.conv.calEnd = s.now + 12 * tickMs := by
  unfold State.calStart
  extract_lets skipped x _ y
  have running : x.o 0x281003 = 1 := by simp [x, State.o_put]
  have mask : x.n 0x281002 = s.n 0x281002 := by simp [x, State.n, State.o_put]
  have clock : y.now = s.now := (State.put_now _ _ _).trans (State.put_now _ _ _)
  obtain ⟨bank, left, ends⟩ := y.calBank_begins b t
  rw [show maskBanks (y.n 0x281002) = b :: t from (congrArg maskBanks mask).trans h]
  exact ⟨(y.o_calBank_ne _ (by decide)).trans running, bank, left, clock ▸ ends⟩

theorem State.calCommand_start : s.calCommand 1 = if s.calRefusal = stOk then (stOk, s.calStart) else (s.calRefusal, s) := rfl

/-! ### ABORT (R106) -/

/-- A running calibration ends with its event; the factors stay. -/
theorem State.calAbortCmd_running (h : s.o 0x281003 = 1) : ∃ x : State, s.calAbortCmd = (stOk, x.raise 0x0303)
    ∧ x.o 0x281003 = 3 ∧ x.o 0x281004 = 0 ∧ x.o 0x281005 = 4 ∧ x.conv.calLeft = [] ∧ x.blobs = s.blobs := by
  let ended : State := s.puts [(0x281003, 3), (0x281004, 0), (0x281005, 4)]
  have shown : ended.o 0x281003 = 3 ∧ ended.o 0x281004 = 0 ∧ ended.o 0x281005 = 4 := by simp [ended, State.o_put]
  have factors : ended.blobs = s.blobs := by simp [ended]
  obtain ⟨state, bank, result⟩ := shown
  refine ⟨{ ended with conv := { ended.conv with calLeft := [] } }, ?_, state, bank, result, rfl, factors⟩
  simp only [State.calAbortCmd, State.calAbort, h, if_true]
  rfl

theorem State.calAbortCmd_saving (h : s.o 0x281003 = 4) : s.calAbortCmd = (stBusy, s) := by
  simp [State.calAbortCmd, h]

theorem State.calAbortCmd_idle (h1 : s.o 0x281003 ≠ 1) (h4 : s.o 0x281003 ≠ 4) : s.calAbortCmd = (stState, s) := by
  simp [State.calAbortCmd, h1, h4]

/-! ### SAVE (R107) -/

theorem State.calCommand_save : s.calCommand 3 =
    if s.o 0x281003 = 1 ∨ s.o 0x281003 = 4 ∨ s.cal.store.isSome = true then (stBusy, s) else (stOk, s.calSaveStore) := by
  simp only [State.calCommand, Bool.or_eq_true, decide_eq_true_eq, or_assoc]

end

/-- Settles O33: an accepted command answers what its operation does, and the operation's case gives the clause. -/
theorem calibrationCommandsAct : Obligations.CalibrationCommandsAct := by
  unfold Obligations.CalibrationCommandsAct
  intro s w q done refused
  refine ⟨fun h => ⟨fun ok => ?_, fun no => ?_⟩, fun h => ⟨fun run => ?_, fun save => ?_, fun h1 h4 => ?_⟩,
    fun h => ⟨fun h1 h4 free => ?_, fun busy => ?_⟩⟩
  · obtain ⟨b, t, mask⟩ := State.masksBank_of_calRefusal ok
    exact ⟨(q 1).calStart, b, t, exec_calCommand h rfl (by decide) (State.calCommand_start.trans (if_pos ok)), mask,
      State.calStart_begins mask⟩
  · exact exec_calCommand h rfl (by decide) (State.calCommand_start.trans (if_neg no))
  · obtain ⟨x, ends, leaves⟩ := State.calAbortCmd_running run
    exact ⟨x, exec_calCommand h rfl (by decide) ends, leaves⟩
  · exact exec_calCommand h rfl (by decide) (State.calAbortCmd_saving save)
  · exact exec_calCommand h rfl (by decide) (State.calAbortCmd_idle h1 h4)
  · have idle : ¬ ((q 3).o 0x281003 = 1 ∨ (q 3).o 0x281003 = 4 ∨ (q 3).cal.store.isSome = true) := by simp [h1, h4, free]
    exact exec_calCommand h rfl (by decide) (State.calCommand_save.trans (if_neg idle))
  · exact exec_calCommand h rfl (by decide) (State.calCommand_save.trans (if_pos busy))

end Sys2Proof.Machine
end

section
/-!
Conversion slots (R98, R110, R111): the clock that the operations of a slot keep, what a slot does before its read is stored, and
what its end leaves.
-/
namespace Sys2Proof.Machine

/-! ### Operations that keep the clock -/

theorem foldl_now {α : Type} {f : State → α → State} (h : ∀ t a, (f t a).now = t.now) (s : State) (l : List α) :
    (l.foldl f s).now = s.now :=
  List.foldlRecOn (motive := fun t => t.now = s.now) l f rfl fun t ht a _ => (h t a).trans ht

section
variable (s : State)

@[simp] theorem State.sat_now (k d : Nat) : (s.sat k d).now = s.now := by simp [State.sat]

@[simp] theorem State.setBits_now (k m : Nat) : (s.setBits k m).now = s.now := by simp [State.setBits]

@[simp] theorem State.marginThreshold_now : s.marginThreshold.now = s.now := by
  unfold State.marginThreshold State.replanStart
  split_ifs <;> simp

@[simp] theorem State.growthCheck_now : s.growthCheck.now = s.now := by
  unfold State.growthCheck
  split <;> simp

@[simp] theorem State.refreshRepairs_now : s.refreshRepairs.now = s.now := by
  unfold State.refreshRepairs
  extract_lets a b c d
  have ha : a.now = s.now := foldl_now (fun t _ => foldl_now (fun u _ => by simp) t _) s _
  have hb : b.now = a.now := foldl_now (fun t _ => by simp) a _
  have hc : c.now = b.now := foldl_now (fun t _ => by simp) b _
  rw [State.growthCheck_now, State.put_now, State.put_now, hc, hb, ha]

@[simp] theorem State.setSpare_now (seg bank i v : Nat) : (s.setSpare seg bank i v).now = s.now := s.putBlob_now _ _

@[simp] theorem State.retireSpare_now (seg bank i : Nat) : (s.retireSpare seg bank i).now = s.now := by simp [State.retireSpare]

@[simp] theorem State.noteFailed_now (col bank : Nat) : (s.noteFailed col bank).now = s.now := by
  unfold State.noteFailed
  split <;> rfl

@[simp] theorem State.unrepair_now (col bank cause line : Nat) : (s.unrepair col bank cause line).now = s.now := by
  unfold State.unrepair
  split <;> rfl

@[simp] theorem State.failColumn_now (seg bank col line : Nat) : (s.failColumn seg bank col line).now = s.now := by
  unfold State.failColumn
  extract_lets col a b
  have hb : b.now = s.now := (a.noteFailed_now _ _).trans (s.raiseAt_now _ _ _ _)
  split
  · exact hb
  · rw [State.refreshRepairs_now, State.unrepair_now, hb]

@[simp] theorem State.suspendShadow_now (seg bank : Nat) : (s.suspendShadow seg bank).now = s.now := by
  unfold State.suspendShadow
  split <;> simp

@[simp] theorem State.shadowOne_now (line bank seg diff : Nat) : (s.shadowOne line bank seg diff).now = s.now := by
  unfold State.shadowOne
  extract_lets a c mine old rest
  have counted : a.now = s.now := s.bump_now _ _
  split
  · exact s.suspendShadow_now _ _
  · split
    · exact (a.bump_now _ _).trans counted
    · clear_value old
      cases old with
      | none => exact counted
      | some x =>
        dsimp only
        split <;> exact counted

@[simp] theorem State.shadowCheck_now (line bank : Nat) (diffs : List (Nat × Nat)) : (s.shadowCheck line bank diffs).now = s.now := by
  unfold State.shadowCheck
  split
  · rfl
  · exact foldl_now (fun t g => by split <;> simp) s _

@[simp] theorem State.secondCheck_now (line bank : Nat) (second : List (Nat × Nat)) :
    (s.secondCheck line bank second).now = s.now := by
  unfold State.secondCheck
  extract_lets due order
  split
  · rfl
  · refine foldl_now (fun t x => ?_) s _
    extract_lets diff a
    have ha : a.now = t.now := by
      unfold a
      split <;> simp
    split
    · exact t.failColumn_now _ _ _ _
    · exact ha

@[simp] theorem State.rawSlot_now (line bank slot : Nat) (sample : Nat → Bool × Nat) :
    (s.rawSlot line bank slot sample).now = s.now := by
  unfold State.rawSlot
  extract_lets seg chk words raw a
  split_ifs
  · rfl
  · rw [State.putBlob_now, State.put_now]
  · rfl

@[simp] theorem State.storeErrors_now (f line singles : Nat) (words : List Nat) :
    (s.storeErrors f line singles words).now = s.now := by
  unfold State.storeErrors
  extract_lets a
  have ha : a.now = s.now := by
    unfold a
    split <;> simp
  exact (foldl_now (fun t w => by simp) a _).trans ha

end

/-! ### The parts of a slot -/

/-- What a slot of a bank that converts does before its read is stored: second checks, shadow checks, the count of low-gain samples
and the raw capture. -/
def State.slotChecks (a v : State) (bank k line sect : Nat) (w : Nat × Nat) (lv : Levels) (diffs second : List (Nat × Nat)) : State :=
  (((if k = 0 then a.secondCheck line bank second else a).shadowCheck line bank diffs).countLow v bank sect w lv).rawSlot line bank k
    (v.sampleOf bank lv)

/-- The read that slot `k` of a source stores, with the settings `v` in force for its line. -/
def State.slotRead (v : State) (x : SrcLine) (line bank k : Nat) (lv : Levels) (words : List Nat) (tag : Nat) : GroupRead where
  field := x.src
  line := line
  group := if x.src = srcM then k else 4 - x.stages / 16 + k
  tag := tag
  vals := v.storeForms bank lv
  bad := words.flatMap fun w => [4 * w, 4 * w + 1, 4 * w + 2, 4 * w + 3]

/-- The state in which a read is stored and its slot done. -/
def State.slotStored (d : State) (x : SrcLine) (line singles : Nat) (words : List Nat) (r : GroupRead) : State :=
  ((d.storeErrors x.src line singles words).storeRead r).slotDone x.src line

/-- A slot ends: its read is stored, and the last one of a line converts the line. -/
def State.slotFinish (d : State) (l : LineRec) (x : SrcLine) (line singles : Nat) (words : List Nat) (r : GroupRead) : State :=
  if x.slots = 1 then (d.slotStored x line singles words r).lineConverted l x else d.slotStored x line singles words r

section
variable {s : State} {bank k singles : Nat} {lv diffs second : List (Nat × Nat)} {words : List Nat} {c : CurLine} {l : LineRec}
  {x : SrcLine}

@[simp] theorem State.slotChecks_now (a v : State) (line sect : Nat) (w : Nat × Nat) :
    (a.slotChecks v bank k line sect w lv diffs second).now = a.now := by
  unfold State.slotChecks
  rw [State.rawSlot_now, (State.countLow_kept _ _ _ _ _ _).1, State.shadowCheck_now]
  split
  · exact a.secondCheck_now _ _ _
  · rfl

/-- A slot that is not the last of its line leaves the clock, and its read among those held. -/
theorem State.slotFinish_stores (d : State) (r : GroupRead) (line : Nat) (h : 1 < x.slots) :
    (d.slotFinish l x line singles words r).now = d.now ∧ r ∈ (d.slotFinish l x line singles words r).rcb.reads := by
  have more : d.slotFinish l x line singles words r = d.slotStored x line singles words r := if_neg (by omega)
  rw [more]
  exact ⟨d.storeErrors_now _ _ _ _, List.mem_append_right _ (List.mem_singleton_self r)⟩

/-- The group of a slot, counted by the slots of its source. -/
theorem slotGroup_eq (x : SrcLine) (k : Nat) : (if x.src = srcM then k else 4 - (if x.src = srcM then 2 else x.stages / 16) + k)
    = if x.src = srcM then k else 4 - x.stages / 16 + k := by
  split <;> rfl

variable (hc : s.arr.cur = some c)
  (hl : s.pipe.lines.find? (fun l => l.line = c.line && !l.skipped && !l.srcs.any (·.src = srcW)) = some l)
  (hx : l.srcs.find? (fun x => x.src < 0x40 && bankOf x.src = bank && 0 < x.slots) = some x)
  (hk : k + x.slots = if x.src = srcM then 2 else x.stages / 16)
include hc hl hx hk

/-- A slot of a bank that calibrates passes no sample, and its read is invalid. -/
theorem State.slotEnd_calibrating (cal : s.calibrating bank = true) : s.slotEnd bank k lv diffs second singles words =
    let a := s.atTick (c.start + 280 + 240 * k)
    a.slotFinish l x c.line singles words ((a.asOf c.line).slotRead x c.line bank k [] words 1) := by
  have off : (s.atTick (c.start + 280 + 240 * k)).calibrating bank = true := cal
  unfold State.slotEnd
  rw [hc]
  simp only [hl, hx, hk, off, slotGroup_eq, ne_eq, not_true_eq_false, if_false, if_true, Bool.true_or]
  rfl

/-- A slot of a bank that converts is checked, and its read is valid unless its field refills. -/
theorem State.slotEnd_converting (cal : s.calibrating bank = false) : s.slotEnd bank k lv diffs second singles words =
    let a := s.atTick (c.start + 280 + 240 * k)
    let v := a.asOf c.line
    let lv2 := lv.filter fun p => a.converts (x.segA, x.segB) p.1
    let b := a.slotChecks v bank k c.line l.sect (x.segA, x.segB) lv2 diffs second
    b.slotFinish l x c.line singles words
      (v.slotRead x c.line bank k lv2 words (if x.src ≠ srcM ∧ c.line < b.refillLine x.src + 15 then 1 else 0)) := by
  have on : (s.atTick (c.start + 280 + 240 * k)).calibrating bank = false := cal
  unfold State.slotEnd
  rw [hc]
  simp only [hl, hx, hk, on, slotGroup_eq, ne_eq, not_true_eq_false, if_false, Bool.false_eq_true, Bool.false_or, Bool.and_eq_true,
    decide_eq_true_eq]
  rfl

end

end Sys2Proof.Machine
end

section
/-!
Calibration, faults of converters and the slip estimate (R105, R108, R110, R111, R131, R132): what a bank's calibration leaves, the
recalibration flag, suspect columns, what an estimate publishes, and the statement about the converters' events.
-/
namespace Sys2Proof.Machine

/-! ### A bank's calibration completes (R105) -/

/-- What the last bank of a calibration leaves: the result, and its events. -/
def State.calDone (s : State) : State :=
  let res : Int := if s.conv.calUnrep then 3 else if s.conv.calRepaired then 2 else 1
  let s := s.puts [(0x281003, 2), (0x281004, 0), (0x281005, res), (0x28100E, 0)]
  let s := { s with conv := { s.conv with calLeft := [] } }.raise 0x0301
  if s.conv.calUnrep then s.raise 0x0302 else s

/-- The calibration of a bank takes its factors. -/
def State.takeFactors (s : State) (bank : Nat) (factors : List (Nat × List Nat)) : State :=
  let key (p : Nat × List Nat) : Nat := (0x3300 + 4 * p.1 + bankIx bank) * 256
  (factors.filter fun p => s.segPresent p.1 && !s.bit 0x281009 p.1).foldl (fun (x : State) p => x.putBlob (key p)
    (((p.2.map (· % 256)) ++ (x.blob (key p)).drop p.2.length).take 17152)) s

section
variable {s : State} {bank : Nat} {rest : List Nat} {cols : List (Nat × Nat × Int)} {spares : List (Nat × Nat × Nat × Int)}
  {blacks : List (Bool × Nat × Nat × Int)}

theorem State.calDone_leaves (s : State) :
    s.calDone.o 0x281003 = 2 ∧ s.calDone.o 0x28100E = 0 ∧ s.calDone.conv.calLeft = [] := by
  unfold State.calDone
  extract_lets res x _ y
  have state : x.o 0x281003 = 2 := by simp [x, State.o_put]
  have flag : x.o 0x28100E = 0 := by simp [x]
  have state' : y.o 0x281003 = 2 := (State.o_raise _ _ _ (by decide)).trans state
  have flag' : y.o 0x28100E = 0 := (State.o_raise _ _ _ (by decide)).trans flag
  have left : y.conv.calLeft = [] := congrArg ConvState.calLeft (State.raise_conv _ _ _)
  split
  · exact ⟨(y.o_raise _ _ (by decide)).trans state', (y.o_raise _ _ (by decide)).trans flag', by rw [State.raise_conv, left]⟩
  · exact ⟨state', flag', left⟩

/-- A bank's calibration that completes goes to the next bank, or completes the calibration. -/
theorem State.calComplete_goes (left : s.conv.calLeft = bank :: rest) (runs : s.o 0x281003 = 1) :
    ∃ y : State, s.calComplete cols spares blacks = if rest.isEmpty then y.calDone else y.calBank rest := by
  unfold State.calComplete
  split
  next idle => cases left.symm.trans idle
  next b r next =>
    obtain ⟨rfl, rfl⟩ : bank = b ∧ rest = r := by simpa [left] using next
    rw [if_neg (not_not_intro runs)]
    extract_lets a segs bad cols' blacks'
    split
    next d freed _ =>
      extract_lets failed noted need repaired masked promoted counted stamped y
      clear_value y
      exact ⟨y, rfl⟩

theorem State.calComplete_last (left : s.conv.calLeft = [bank]) (runs : s.o 0x281003 = 1) :
    (s.calComplete cols spares blacks).o 0x281003 = 2 ∧ (s.calComplete cols spares blacks).o 0x28100E = 0
    ∧ (s.calComplete cols spares blacks).conv.calLeft = [] := by
  obtain ⟨y, goes⟩ := State.calComplete_goes (cols := cols) (spares := spares) (blacks := blacks) left runs
  rw [goes]
  exact y.calDone_leaves

theorem State.calComplete_next {b : Nat} {t : List Nat} (left : s.conv.calLeft = bank :: b :: t) (runs : s.o 0x281003 = 1) :
    (s.calComplete cols spares blacks).conv.calLeft = b :: t ∧ (s.calComplete cols spares blacks).o 0x281004 = b := by
  obtain ⟨y, goes⟩ := State.calComplete_goes (cols := cols) (spares := spares) (blacks := blacks) left runs
  obtain ⟨shown, next, -⟩ := y.calBank_begins b t
  rw [goes]
  exact ⟨next, shown⟩

/-- Factors are BLOB objects: the progress of the calibration and the scalar objects stand. -/
theorem State.takeFactors_kept (s : State) (bank : Nat) (factors : List (Nat × List Nat)) :
    (s.takeFactors bank factors).conv = s.conv ∧ (s.takeFactors bank factors).objs = s.objs :=
  List.foldlRecOn (motive := fun t : State => t.conv = s.conv ∧ t.objs = s.objs) _ _ ⟨rfl, rfl⟩ fun t ht _ _ =>
    ⟨(t.putBlob_conv _ _).trans ht.1, (t.putBlob_objs _ _).trans ht.2⟩

theorem State.bankCalComplete_running {factors : List (Nat × List Nat)} {change : Nat} (left : s.conv.calLeft = bank :: rest)
    (runs : s.o 0x281003 = 1) : s.bankCalComplete cols spares blacks factors change =
      ((s.takeFactors bank factors).calComplete cols spares blacks).bankDrift bank change := by
  have on : ¬ (!s.is 0x281003 1) = true := by simp [State.is, runs]
  unfold State.bankCalComplete
  rw [left]
  exact if_neg on

end

/-! ### The recalibration flag and suspect columns (R108, R110, R111) -/

section
variable {s : State} {seg bank col : Nat} {x : Suspect}

theorem State.recalByHours_due (clear : s.o 0x28100E = 0) (hours : s.o 0x28100B ≤ s.o 0x28100C) :
    s.recalByHours = (s.put 0x28100E 1).raise 0x030D := by
  have unset : ¬ s.b 0x28100E = true := by simp [State.b, clear]
  exact (if_pos hours).trans (if_neg unset)

/-- A column at its limit fails at once with a single free spare, and becomes suspect with more. -/
theorem State.markSuspect_atLimit
    (hx : s.conv.suspects.find? (fun x => x.seg = seg && x.bank = bank && x.col = col) = some x) (fresh : x.marked = false)
    (limit : s.o 0x281803 ≤ x.count) : s.markSuspect seg bank col =
      if (s.freeSpares seg bank).length ≤ 1 then s.failColumn seg bank col x.firstLine
      else { s with conv := { s.conv with suspects := s.conv.suspects.map fun y =>
        if y.seg = seg && y.bank = bank && y.col = col then { y with marked := true } else y } } := by
  have counts : ¬ (x.marked || decide ((x.count : Int) < s.o 0x281803)) = true := by simp [fresh, limit]
  unfold State.markSuspect
  rw [hx]
  exact if_neg counts

end

/-! ### What an estimate keeps (R134, R136) -/

/-- The second state differs from the first beside the clock and what an estimate publishes. -/
structure EstimateKept (s t : State) : Prop where
  shown : ∀ k, 0x2C1008 ≤ k → k ≤ 0x2C100E → t.o k = s.o k
  now : t.now = s.now
  closed : t.rcb.closed = s.rcb.closed
  wasOor : t.rcb.wasOor = s.rcb.wasOor

theorem EstimateKept.refl (s : State) : EstimateKept s s := ⟨fun _ _ _ => rfl, rfl, rfl, rfl⟩

theorem EstimateKept.trans {s t u : State} (h : EstimateKept s t) (g : EstimateKept t u) : EstimateKept s u :=
  ⟨fun k lo hi => (g.shown k lo hi).trans (h.shown k lo hi), g.now.trans h.now, g.closed.trans h.closed, g.wasOor.trans h.wasOor⟩

section
variable {s t u : State}

theorem EstimateKept.put (h : EstimateKept s t) {k : Nat} (v : Int) (hk : k < 0x2C1008 ∨ 0x2C100E < k) :
    EstimateKept s (t.put k v) :=
  h.trans ⟨fun _ _ _ => State.o_put_ne t v (by omega), t.put_now k v, by rw [State.put_rcb], by rw [State.put_rcb]⟩

theorem EstimateKept.raise (h : EstimateKept s t) (code : Nat) (data : Int) : EstimateKept s (t.raise code data) :=
  h.trans ⟨fun k _ _ => t.o_raise code data (by
      simp only [logKey, Bool.or_eq_false_iff, decide_eq_false_iff_not, Bool.and_eq_false_iff]; omega),
    t.raise_now code data, by rw [State.raise_rcb], by rw [State.raise_rcb]⟩

/-- The offsets, trims and bounds that wait are beside what is kept. -/
theorem EstimateKept.pending (h : EstimateKept s t) (off trim : List (Nat × Int)) (bound : Bool) :
    EstimateKept s { t with rcb := { t.rcb with pendOff := off, pendTrim := trim, atBound := bound } } :=
  h.trans ⟨fun _ _ _ => rfl, rfl, rfl, rfl⟩

theorem EstimateKept.ite {c : Prop} [Decidable c] (h : EstimateKept s t) (g : EstimateKept s u) :
    EstimateKept s (if c then t else u) := by
  split
  · exact h
  · exact g

theorem EstimateKept.foldl {α : Type} {f : State → α → State} (h : EstimateKept s t)
    (g : ∀ {u}, EstimateKept s u → ∀ a, EstimateKept s (f u a)) (l : List α) : EstimateKept s (l.foldl f t) :=
  List.foldlRecOn l f h fun _ hu a _ => g hu a

theorem EstimateKept.slipHold (h : EstimateKept s t) : EstimateKept s t.slipHold := by
  unfold State.slipHold
  exact EstimateKept.ite (((h.put 3 (by decide)).pending [] _ _).raise _ _) h

theorem EstimateKept.trimUpdate (h : EstimateKept s t) (k delta : Nat) : EstimateKept s (t.trimUpdate k delta) := by
  unfold State.trimUpdate
  extract_lets target next rate bound r trim _ a b c
  have ha : EstimateKept s a := h.pending _ _ _
  have hb : EstimateKept s b := ha.put _ (by decide)
  have hc : EstimateKept s c := EstimateKept.ite hb (hb.raise _ _)
  exact EstimateKept.ite h (EstimateKept.ite ha (hc.pending _ _ _))

theorem EstimateKept.slipTrack (h : EstimateKept s t) (k : Nat) (r : SlipResult) : EstimateKept s (t.slipTrack k r) := by
  unfold State.slipTrack
  extract_lets d a _ b
  have ha : EstimateKept s a := EstimateKept.ite h ((h.put 2 (by decide)).raise _ _)
  have hb : EstimateKept s b := ha.pending _ _ _
  exact EstimateKept.ite h (EstimateKept.ite (hb.trimUpdate k r.delta) h.slipHold)

end

/-! ### The slip estimate (R131, R132) -/

/-- The result of a section as it is shown: its code and quality, of an OK one the delta, the section and no section since, and after
any other the delta `old` that stood before. -/
structure EstimateShown (x : State) (z : SlipClosed) (r : SlipResult) (old : Int) : Prop where
  code : x.o 0x2C100B = r.code
  quality : x.o 0x2C1009 = r.q
  ok : r.code = 1 → x.o 0x2C1008 = r.delta ∧ x.o 0x2C100C = z.sect ∧ x.o 0x2C100E = 0
  held : r.code ≠ 1 → x.o 0x2C1008 = old

theorem EstimateShown.keep {x y : State} {z : SlipClosed} {r : SlipResult} {old : Int} (h : EstimateShown x z r old)
    (g : EstimateKept x y) : EstimateShown y z r old where
  code := (g.shown _ (by decide) (by decide)).trans h.code
  quality := (g.shown _ (by decide) (by decide)).trans h.quality
  ok hr :=
    have ⟨delta, sect, since⟩ := h.ok hr
    ⟨(g.shown _ (by decide) (by decide)).trans delta, (g.shown _ (by decide) (by decide)).trans sect,
      (g.shown _ (by decide) (by decide)).trans since⟩
  held hr := (g.shown _ (by decide) (by decide)).trans (h.held hr)

/-- What an estimate publishes of the fields and segments lies beside the section's result. -/
theorem State.slipPublish_shows (s : State) (z : SlipClosed) (r : SlipResult) (open_ : Nat) :
    EstimateShown (s.slipPublish z r open_) z r (s.o 0x2C1008) ∧ (s.slipPublish z r open_).now = s.now
    ∧ (s.slipPublish z r open_).rcb.closed = s.rcb.closed := by
  unfold State.slipPublish
  extract_lets a b c
  have ha : EstimateKept s a :=
    (EstimateKept.refl s).foldl (fun hu p => ((hu.put _ (by omega)).put _ (by omega)).put _ (by omega)) _
  have hb : EstimateKept s b := ha.foldl (fun hu g => hu.put _ (by omega)) _
  have delta : b.o 0x2C1008 = s.o 0x2C1008 := hb.shown _ (by decide) (by decide)
  have clock : b.now = s.now := hb.now
  have closed : b.rcb.closed = s.rcb.closed := hb.closed
  split
  · next ok =>
    refine ⟨⟨?_, ?_, fun _ => ?_, fun no => absurd ok no⟩, ?_, ?_⟩ <;> simp [c, State.o_put, clock, closed]
  · next no =>
    refine ⟨⟨?_, ?_, fun ok => absurd ok no, fun _ => ?_⟩, ?_, ?_⟩ <;> simp [c, State.sat, State.o_put, delta, clock, closed]

/-- The result of an estimate is published, and reported where the slip has come to be out of range. -/
def State.slipReport (s : State) (z : SlipClosed) (r : SlipResult) (open_ : Nat) : State :=
  let b := s.slipPublish z r open_
  let c := if r.code = 4 && !b.rcb.wasOor then b.raise 0x0403 else b
  { c with rcb := { c.rcb with wasOor := r.code = 4 } }

theorem State.slipReport_shows (s : State) (z : SlipClosed) (r : SlipResult) (open_ : Nat) :
    EstimateShown (s.slipReport z r open_) z r (s.o 0x2C1008) ∧ (s.slipReport z r open_).now = s.now
    ∧ (s.slipReport z r open_).rcb.closed = s.rcb.closed ∧ (s.slipReport z r open_).rcb.wasOor = decide (r.code = 4) := by
  unfold State.slipReport
  extract_lets b c
  obtain ⟨shown, clock, closed⟩ := s.slipPublish_shows z r open_
  have hc : EstimateKept b c := EstimateKept.ite ((EstimateKept.refl b).raise _ _) (EstimateKept.refl b)
  obtain ⟨code, quality, ok, held⟩ := shown.keep hc
  exact ⟨⟨code, quality, ok, held⟩, hc.now.trans clock, hc.closed.trans closed, rfl⟩

/-- An estimate takes the closed section at its due tick. -/
def State.slipTaken (s : State) (z : SlipClosed) : State := { s.atTick z.due with rcb := { s.rcb with closed := none } }

theorem State.slipEstimate_closed {s : State} {z : SlipClosed} (hz : s.rcb.closed = some z) : s.slipEstimate =
    let f := (s.slipTaken z).free 45056 53249
    let r := combineSlip f.1 (z.fieldResults none)
    (f.2.slipReport z r f.1).slipTrack z.sect r := by
  unfold State.slipEstimate
  rw [hz]
  rfl

/-- The estimate of a closed section is published when it is due. -/
theorem State.slipEstimate_publishes {s : State} {z : SlipClosed} (hz : s.rcb.closed = some z) :
    let r := combineSlip (s.free 45056 53249).1 (z.fieldResults none)
    EstimateShown s.slipEstimate z r (s.o 0x2C1008) ∧ s.slipEstimate.now = max s.now z.due ∧ s.slipEstimate.rcb.closed = none
    ∧ s.slipEstimate.rcb.wasOor = decide (r.code = 4) := by
  intro r
  let f := (s.slipTaken z).free 45056 53249
  obtain ⟨shown, clock, closed, oor⟩ := f.2.slipReport_shows z r f.1
  have track : EstimateKept (f.2.slipReport z r f.1) s.slipEstimate :=
    State.slipEstimate_closed hz ▸ (EstimateKept.refl _).slipTrack z.sect r
  exact ⟨shown.keep track, track.now.trans clock, track.closed.trans closed, track.wasOor.trans oor⟩

/-! ### The statement -/

/-- Settles O29: each clause is the case of its event's operation. -/
theorem converterEventsActOnTheStores : Obligations.ConverterEventsActOnTheStores := by
  unfold Obligations.ConverterEventsActOnTheStores
  intro s alive out
  refine ⟨?_, ?_, fun clear hours => ?_, fun seg bank col x hx fresh limit => ?_, fun z hz => ?_⟩
  · intro bank k singles lv diffs second words c l x hc hl hx hk a v read finish
    have act {y : State} (hy : s.slotEnd bank k lv diffs second singles words = y) :
        exec (.slotEnd bank k lv diffs second singles words) s = out y :=
      exec_acts (·.slotEnd bank k lv diffs second singles words) alive rfl hy
    have off (cal : s.calibrating bank = true) := act (State.slotEnd_calibrating hc hl hx hk cal)
    have on (cal : s.calibrating bank = false) := act (State.slotEnd_converting hc hl hx hk cal)
    refine ⟨off, on, fun more => ?_⟩
    cases cal : s.calibrating bank with
    | true =>
      obtain ⟨clock, stored⟩ := State.slotFinish_stores (l := l) (singles := singles) (words := words) a
        (v.slotRead x c.line bank k [] words 1) c.line more
      exact ⟨_, _, off cal, clock, stored, rfl, rfl, fun _ => ⟨rfl, rfl⟩⟩
    | false =>
      obtain ⟨clock, stored⟩ := State.slotFinish_stores (l := l) (singles := singles) (words := words) _ _ c.line more
      exact ⟨_, _, on cal, clock.trans (State.slotChecks_now _ _ _ _ _), stored, rfl, rfl, nofun⟩
  · intro bank rest cols spares blacks factors change left runs good key c
    obtain ⟨conv, objs⟩ := s.takeFactors_kept bank factors
    have left' : (s.takeFactors bank factors).conv.calLeft = bank :: rest := by rw [conv, left]
    have runs' : (s.takeFactors bank factors).o 0x281003 = 1 := by rw [State.o, objs]; exact runs
    refine ⟨?_, ?_, ?_⟩
    · exact exec_acts (·.bankCalComplete cols spares blacks factors change) alive rfl (State.bankCalComplete_running left runs)
    · rintro rfl
      exact State.calComplete_last left' runs'
    · rintro b t rfl
      exact State.calComplete_next left' runs'
  · exact exec_acts State.recalByHours alive rfl (State.recalByHours_due clear hours)
  · have mark := State.markSuspect_atLimit hx fresh limit
    exact ⟨fun many => exec_acts (·.markSuspect seg bank col) alive rfl (mark.trans (if_neg (by omega))),
      fun single => exec_acts (·.markSuspect seg bank col) alive rfl (mark.trans (if_pos single))⟩
  · intro f r
    obtain ⟨⟨code, quality, ok, held⟩, clock, closed, oor⟩ := State.slipEstimate_publishes hz
    have settled : max s.now s.slipEstimate.now = max s.now z.due := by
      rw [clock]
      exact Nat.max_eq_right (Nat.le_max_left _ _)
    exact ⟨_, exec_acts State.slipEstimate alive rfl rfl, settled, closed, oor, code, quality, ok, held⟩

end Sys2Proof.Machine
end

section
/-!
Lines that pass the segments and sections that close (R142, R148, R172): what a segment does with a ready line, the failed side
link, and what the records of a closed section leave of the sections that still wait.
-/
namespace Sys2Proof.Machine

/-! ### The passing line and the side links (R142, R148) -/

/-- A line after the operations of its segment: the procedures' sums, stages 2 to 7 and its contribution. -/
def State.segmentPassed (s : State) (seg src n : Nat) (errs : List HaloErr) : State :=
  ((s.procLine seg src n).segmentStages seg src n errs).segContrib seg src (lineKey src n)

section
variable {s : State} {seg src n : Nat} {errs : List HaloErr}

theorem State.segmentProcess_noKernel (ready : s.segmentReady seg src n = true)
    (off : (s.segmentPassed seg src n errs).kernAt (lineKey src n) = none) :
    s.segmentProcess seg src n errs = (s.segmentPassed seg src n errs).statSend := by
  refine (if_neg (by simp [ready])).trans (congrArg State.statSend ?_)
  split
  next k found => cases found.symm.trans off
  next => rfl

theorem State.segmentProcess_kernel {k : Kern} (ready : s.segmentReady seg src n = true)
    (on : (s.segmentPassed seg src n errs).kernAt (lineKey src n) = some k) :
    s.segmentProcess seg src n errs = (if k.on && src = k.psrc
      then k.derived.foldl (fun (y : State) d => y.segContrib seg d (lineKey src n)) (s.segmentPassed seg src n errs)
      else s.segmentPassed seg src n errs).statSend := by
  refine (if_neg (by simp [ready])).trans (congrArg State.statSend ?_)
  split
  next f found => rw [Option.some.inj (found.symm.trans on)]; rfl
  next found => cases found.symm.trans on

theorem State.linkFailed_fails (inner : seg < 23) (good : s.bit 0x304003 seg = false)
    (sixteen : 16 ≤ (mapGet s.pipe.linkErr seg).getD 0) :
    s.linkFailed seg = (s.setBits 0x304003 (2 ^ seg)).raiseAt 0x040A seg 0xFF seg :=
  if_neg (by simp [inner, good, sixteen])

end

/-! ### Operations that keep the closed sections -/

/-- The sections that are closed and await their records stand. -/
def ClosedKept (s t : State) : Prop := t.pipe.closing = s.pipe.closing

section
variable {s t u : State}

theorem ClosedKept.refl (s : State) : ClosedKept s s := rfl

/-- An update that keeps the pipeline's closed sections. -/
theorem ClosedKept.beside {x : State} (h : ClosedKept s t) (same : x.pipe.closing = t.pipe.closing) : ClosedKept s x := same.trans h

theorem ClosedKept.log (h : ClosedKept s t) (g : LogSame t u) : ClosedKept s u := h.beside (by rw [g.pipe])

theorem ClosedKept.put (h : ClosedKept s t) (k : Nat) (v : Int) : ClosedKept s (t.put k v) := h.beside (by rw [State.put_pipe])

theorem ClosedKept.bump (h : ClosedKept s t) (k : Nat) (d : Nat := 1) : ClosedKept s (t.bump k d) := h.put _ _

theorem ClosedKept.putBlob (h : ClosedKept s t) (k : Nat) (v : List Nat) : ClosedKept s (t.putBlob k v) :=
  h.beside (by rw [State.putBlob_pipe])

theorem ClosedKept.ite {c : Prop} [Decidable c] (h : ClosedKept s t) (g : ClosedKept s u) : ClosedKept s (if c then t else u) := by
  split
  · exact h
  · exact g

theorem ClosedKept.foldl {α : Type} {f : State → α → State} (h : ClosedKept s t)
    (g : ∀ {u}, ClosedKept s u → ∀ a, ClosedKept s (f u a)) (l : List α) : ClosedKept s (l.foldl f t) :=
  List.foldlRecOn l f h fun _ hu a _ => g hu a

theorem ClosedKept.puts (h : ClosedKept s t) (l : List (Nat × Int)) : ClosedKept s (t.puts l) := h.foldl (fun hu p => hu.put p.1 p.2) l

theorem ClosedKept.raise (h : ClosedKept s t) (code : Nat) (data : Int) : ClosedKept s (t.raise code data) := h.log (t.raise_same _ _)

theorem ClosedKept.raiseFirst (h : ClosedKept s t) (code disc : Nat) (data : Int) : ClosedKept s (t.raiseFirst code disc data) :=
  h.log (t.raiseFirst_same _ _ _)

theorem ClosedKept.detach (h : ClosedKept s t) (e : CqEntry) : ClosedKept s (t.detach e) := by
  unfold State.detach
  exact ClosedKept.ite (ClosedKept.put (h.beside (by rfl)) _ _)
    (ClosedKept.bump (ClosedKept.ite (ClosedKept.raise (h.beside (by rfl)) _ _) (h.beside (by rfl))) _)

theorem ClosedKept.cqWrite (h : ClosedKept s t) (e : CqEntry) : ClosedKept s (t.cqWrite e) := by
  unfold State.cqWrite
  extract_lets p a b _ c
  have put : ClosedKept s b := (h.log ((LogSame.refl t).dma _ _ _ _)).put _ _
  have turned : ClosedKept s c := ClosedKept.ite (put.beside (by rfl)) put
  exact turned.log (c.signal_same _)

theorem ClosedKept.complete (h : ClosedKept s t) (e : CqEntry) : ClosedKept s (t.complete e) := by
  unfold State.complete
  exact ClosedKept.ite (h.detach e) (ClosedKept.ite (h.cqWrite e) (ClosedKept.ite
    (ClosedKept.put (ClosedKept.beside (h.raiseFirst _ _ _) (by rfl)) _ _)
    (ClosedKept.bump (ClosedKept.beside (ClosedKept.ite (h.raise _ _) h) (by rfl)) _)))

theorem ClosedKept.statPush (h : ClosedKept s t) (x : StatRec) : ClosedKept s (t.statPush x) :=
  have lost (cause : Nat) : ClosedKept s (t.statLost x cause) := ((h.complete _).bump _).raiseFirst _ _ _
  ClosedKept.ite (lost 2) (ClosedKept.ite (lost 1) h)

theorem ClosedKept.statRecord (h : ClosedKept s t) (c : StatSection) (key src typ : Nat) (data : List Nat) :
    ClosedKept s (t.statRecord c key src typ data) :=
  ((h.putBlob _ _).bump _).statPush _

theorem ClosedKept.engSection (h : ClosedKept s t) (sect : Nat) : ClosedKept s (t.engSection sect) :=
  h.foldl (fun hu _ => ClosedKept.beside (hu.puts _) (by rfl)) _

theorem ClosedKept.setCtl (h : ClosedKept s t) (c : CtlState) : ClosedKept s (t.setCtl c) := h

theorem ClosedKept.ctlState (h : ClosedKept s t) (k code src st : Nat) : ClosedKept s (t.ctlState k code src st) :=
  ClosedKept.ite ((h.put _ _).raise _ _) (h.put _ _)

/-- A control that proposes a commit of its own (R176, R178). -/
theorem ClosedKept.propose (h : ClosedKept s t) (c : CtlState) (com : Commit) :
    ClosedKept s { t.setCtl c with dict := { t.dict with commits := t.dict.commits ++ [com] } } :=
  h

/-- An exposure decision publishes its result, and may propose a commit (R175). -/
theorem ClosedKept.expoDecide (h : ClosedKept s t) (c : StatSection) (a : StatAcc) : ClosedKept s (t.expoDecide c a) := by
  unfold State.expoDecide
  extract_lets k plane valid median goal above ctl shown warned marked step
  have warned_kept : ClosedKept s warned := ClosedKept.ite ((h.puts _).raise _ _) (h.puts _)
  have marked_kept : ClosedKept s marked := warned_kept.setCtl _
  refine ClosedKept.ite h (ClosedKept.ite (marked_kept.put _ _) ?_)
  -- The step, its limit where samples saturate, and the exposure found: none of them writes.
  split; split; split
  extract_lets chosen decided
  have decided_kept : ClosedKept s decided := (marked_kept.puts _).ctlState _ _ _ _
  exact ClosedKept.ite (decided_kept.propose _ _) decided_kept

/-- A white-balance decision publishes its result, and may propose a commit (R177). -/
theorem ClosedKept.wbDecide (h : ClosedKept s t) (c : StatSection) (a : StatAcc) : ClosedKept s (t.wbDecide c a) := by
  unfold State.wbDecide
  extract_lets
  refine ClosedKept.ite h ?_
  split
  next green u drawn =>
    extract_lets shown off red blue limit decided
    have shown_kept : ClosedKept s shown := by
      refine ClosedKept.puts ?_ _
      split_ifs at drawn <;> cases drawn <;> exact h
    have decided_kept : ClosedKept s decided := shown_kept.ctlState _ _ _ _
    exact ClosedKept.ite (shown_kept.put _ _) (ClosedKept.ite (decided_kept.propose _ _) decided_kept)

end

/-! ### A closed section (R172) -/

section
variable {s : State} {c : StatSection} {rest : List StatSection}

theorem State.statsClose_closing (closing : s.pipe.closing = c :: rest) (left : s.sectionLeft c = true) (aux : s.auxLeft c.sect = true)
    (complete : c.complete = true) : s.statsClose.pipe.closing = rest := by
  unfold State.statsClose
  rw [closing]
  have due : ¬ (!s.sectionLeft c || !s.auxLeft c.sect || !c.complete) = true := by simp [left, aux, complete]
  refine (congrArg (fun x : State => x.pipe.closing) (if_neg due)).trans ?_
  extract_lets joined _ taken srcs told images records numbered counts engines exposed
  have told_kept : ClosedKept taken told := ClosedKept.ite ((ClosedKept.refl taken).raiseFirst _ _ _) (.refl taken)
  have images_kept : ClosedKept taken images := told_kept.foldl (fun hu _ => hu.statRecord _ _ _ _ _) _
  have counts_kept : ClosedKept taken counts := ((images_kept.statRecord _ _ _ _ _).put _ _).foldl (fun hu _ => hu.puts _) _
  have exposed_kept : ClosedKept taken exposed := (counts_kept.engSection _).foldl (fun hu _ => hu.expoDecide _ _) _
  exact ClosedKept.ite (exposed_kept.wbDecide _ _) exposed_kept

theorem State.recordsClose_completes (closing : s.pipe.closing = c :: rest) (next : s.statsClose.pipe.closing = rest) :
    s.recordsClose = (s.statsClose.procSection c.sect).applyIdle := by
  unfold State.recordsClose
  rw [closing]
  exact if_pos (by simp [next])

end

end Sys2Proof.Machine
end

section
/-!
Ready windows and image loads (R188 to R190, R197): the release of a line to an engine that waits, what a load that is checked leaves,
and the statement about the segments and the windows.
-/
namespace Sys2Proof.Machine

/-! ### A ready window (R188 to R190) -/

section
variable {s : State} {seg n e key : Nat} {k : Kern} {x : SrcLine} {errs : List HaloErr}

theorem State.windowReady_passes (hkey : s.keyOfWindow n = some key) (hk : s.kernAt key = some k) (hx : s.srcLine k.psrc n = some x)
    (loaded : s.stage ≠ 0 ∧ s.stage ≠ 1) (primary : s.windowThere k.psrc n (k.h / 2) = true)
    (secondary : k.ssrc = 0xFF ∨ s.windowThere k.ssrc n (k.h / 2) = true) (inside : x.segA ≤ seg ∧ seg ≤ x.segB) :
    s.windowReady seg n errs =
      (let a := s.haloErrors seg k.psrc n errs false
       let b := if k.ssrc = 0xFF then a else a.haloErrors seg k.ssrc n errs false
       ((b.segEngines seg).foldl (fun y e => y.windowFor key k.on e) b).stageCheck) := by
  unfold State.windowReady
  rw [hkey]
  dsimp only
  rw [hk]
  simp only [Option.map_some, Option.getD_some, hx]
  refine if_neg ?_
  rcases secondary with unused | there
  · simp [loaded, primary, inside, unused]
  · simp [loaded, primary, inside, there]

/-- A released line: the engine executes it, or is in BREAK where it was stepped. -/
structure Released (x y : Engine) (key now : Nat) : Prop where
  st : y.st = if x.stepping then esBreak else esExecuting
  cur : y.cur = some key
  cycles : y.cycles = 0
  sat : y.sat = false
  aov : y.aov = false
  pc : y.pc = x.pc
  relT : y.relT = some now

theorem State.release_sets (hk : s.kernAt key = some k) :
    ∃ y, s.release e key = s.setEngine e y ∧ Released (s.engine e) y key s.now := by
  unfold State.release
  rw [hk]
  exact ⟨_, rfl, { st := rfl, cur := rfl, cycles := rfl, sat := rfl, aov := rfl, pc := rfl, relT := rfl }⟩

theorem State.windowFor_waiting (waits : (s.engine e).st = esWaiting) (same : (s.engine e).chg = none)
    (numbering : sameLines (s.engine e).first key = true) (reached : (s.engine e).first ≤ key) :
    s.windowFor key true e = s.release e key := by
  unfold State.windowFor
  simp [waits, same, numbering, reached]

end

/-! ### An image load (R197) -/

/-- The load in progress is taken: the stage is STOPPED, and neither the header nor the parts wait. -/
def State.loadTaken (s : State) : State :=
  { s.put 0x400002 0 with eng := { s.eng with loading := [], parts := none } }

/-- An image load whose check fails: no generation is installed, and the store holds no image. -/
def State.loadRefused (s : State) : State :=
  ({ s.put 0x40000B 0 with eng := { s.eng with store := none } } : State).refreshBudget

/-- The image enters the store, and its generation is installed. -/
def State.generationInstalled (s : State) (hdr : List Nat) (img : List Nat × List Nat) : State :=
  (({ s with eng := { s.eng with store := some (hdr, img) } } : State).put 0x40000B (fieldAt hdr 8 4)).raise 0x0503

theorem State.o_loadTaken (s : State) {k : Nat} (hk : k ≠ 0x400002) : s.loadTaken.o k = s.o k := s.o_put_ne 0 hk

/-- The stage state tells nothing of the engines that take part. -/
theorem State.loadTaken_allEngines (s : State) : s.loadTaken.allEngines = s.allEngines := by
  have part (e : Nat) : s.loadTaken.takesPart e = s.takesPart e := by
    have domain : pdKey (17 + 2 * (e / 8)) ≠ 0x400002 := by unfold pdKey; omega
    simp only [State.takesPart, State.engPresent, State.segPresent, State.bit, State.n, State.pdOn]
    rw [s.o_loadTaken domain, s.o_loadTaken (by decide), s.o_loadTaken (by decide)]
  exact congrArg (List.filter · (List.range 192)) (funext part)

/-- Objects that the budgets' refresh leaves: those below the budgets, beside the budget flag and the log's. -/
theorem State.o_refreshBudget (s : State) {k : Nat} (low : k < 0x401803) (flag : k ≠ 0x40000D) (log : logKey k = false) :
    s.refreshBudget.o k = s.o k := by
  unfold State.refreshBudget
  extract_lets a b need short
  have budgets : b.o k = a.o k := List.foldlRecOn (motive := fun t : State => t.o k = a.o k) _ _ rfl fun t ht g _ =>
    (t.o_put_ne _ (by omega)).trans ht
  have guaranteed : a.o k = s.o k := s.o_put_ne _ (by omega)
  split_ifs
  · rw [State.o_raise _ _ _ log, b.o_put_ne _ flag, budgets, guaranteed]
  · rw [State.putB, b.o_put_ne _ flag, budgets, guaranteed]

@[simp] theorem State.refreshBudget_eng (s : State) : s.refreshBudget.eng = s.eng := by
  unfold State.refreshBudget
  extract_lets a b need short
  have budgets : b.eng = a.eng := List.foldlRecOn (motive := fun t : State => t.eng = a.eng) _ _ rfl fun t ht g _ =>
    (t.put_eng _ _).trans ht
  split_ifs <;> simp [State.putB, budgets, a]

/-- The objects, the load in progress and the store. -/
def State.imageView (s : State) : List (Nat × Int) × List Nat × Option (List Nat × List Nat × List Nat) :=
  (s.objs, s.eng.loading, s.eng.store)

/-- The second state has the image that the first has: its generation, the load in progress and the store. -/
structure ImageKept (s t : State) : Prop where
  generation : t.o 0x40000B = s.o 0x40000B
  loading : t.eng.loading = s.eng.loading
  store : t.eng.store = s.eng.store

section
variable {s t : State}

theorem ImageKept.refl (s : State) : ImageKept s s := ⟨rfl, rfl, rfl⟩

/-- An update beside the objects, the load in progress and the store. -/
theorem ImageKept.beside {x : State} (h : ImageKept s t) (same : x.imageView = t.imageView) : ImageKept s x := by
  obtain ⟨objs, loading, store⟩ : x.objs = t.objs ∧ x.eng.loading = t.eng.loading ∧ x.eng.store = t.eng.store := by
    simpa [State.imageView] using same
  have generation : x.o 0x40000B = t.o 0x40000B := by simp only [State.o, objs]
  exact ⟨generation.trans h.generation, loading.trans h.loading, store.trans h.store⟩

theorem ImageKept.put (h : ImageKept s t) {k : Nat} (v : Int) (hk : 0x40000B ≠ k) : ImageKept s (t.put k v) :=
  ⟨(t.o_put_ne v hk).trans h.generation, by rw [State.put_eng, h.loading], by rw [State.put_eng, h.store]⟩

theorem ImageKept.ite {u : State} {c : Prop} [Decidable c] (h : ImageKept s t) (g : ImageKept s u) : ImageKept s (if c then t else u) := by
  split
  · exact h
  · exact g

theorem ImageKept.foldl {α : Type} {f : State → α → State} (h : ImageKept s t)
    (g : ∀ {u}, ImageKept s u → ∀ a, ImageKept s (f u a)) (l : List α) : ImageKept s (l.foldl f t) :=
  List.foldlRecOn l f h fun _ hu a _ => g hu a

theorem ImageKept.setEngine (h : ImageKept s t) (e : Nat) (x : Engine) : ImageKept s (t.setEngine e x) := h.beside (by rfl)

theorem ImageKept.refreshBudget (h : ImageKept s t) : ImageKept s t.refreshBudget :=
  ⟨(t.o_refreshBudget (by decide) (by decide) (by decide)).trans h.generation, by rw [State.refreshBudget_eng, h.loading],
    by rw [State.refreshBudget_eng, h.store]⟩

theorem ImageKept.changeAt (h : ImageKept s t) (e key : Nat) : ImageKept s (t.changeAt e key) :=
  ImageKept.ite (h.setEngine _ _) (h.setEngine _ _)

theorem ImageKept.kernHistory (h : ImageKept s t) (b : Nat) : ImageKept s (t.kernHistory b) := by
  unfold State.kernHistory
  split
  · exact ImageKept.ite (h.foldl (fun hu _ => hu.beside (by rfl)) _) h
  · exact h

theorem ImageKept.kernelChange (h : ImageKept s t) (b : Nat) : ImageKept s (t.kernelChange b) :=
  have entered : ImageKept s (t.enterKern b true) := h.beside (by rfl)
  (ImageKept.kernHistory (entered.foldl (fun hu e => hu.changeAt e _) _) b).put _ (by decide)

theorem ImageKept.engStart (h : ImageKept s t) (b : Nat) : ImageKept s (t.engStart b) :=
  (ImageKept.kernelChange (ImageKept.put (h.beside (by rfl)) 2 (by decide)) b).refreshBudget

end

section
variable {s : State} {n : Nat}

/-- A load in progress is checked: the stage loads, or loads with an enable that waits. -/
structure LoadDue (s : State) : Prop where
  stage : s.stage = 1 ∨ s.stage = 5
  header : s.eng.loading ≠ []
  now : s.eng.loadPend = false

/-- The first engine whose memories do not match the header of the load in progress. -/
def State.loadFails (s : State) : Option Nat :=
  s.allEngines.find? fun e => !(s.loadTaken.engine e).matchesHdr s.eng.parts s.eng.loading

/-- No engine takes part, and what one would load does not match the header. -/
def State.blankFails (s : State) : Bool :=
  s.allEngines.isEmpty && !(s.loadTaken.blankEngine s.eng.parts).matchesHdr s.eng.parts s.eng.loading

theorem State.blankFails_iff (s : State) : s.blankFails = true ↔ s.loadTaken.allEngines = []
    ∧ (s.loadTaken.blankEngine s.eng.parts).matchesHdr s.eng.parts s.eng.loading = false := by
  simp [State.blankFails, s.loadTaken_allEngines]

theorem LoadDue.runs (due : LoadDue s) : ¬ (!(s.stage = 1 || s.stage = 5) || s.eng.loading.isEmpty || s.eng.loadPend) = true := by
  simpa [due.header, due.now, or_iff_not_imp_left] using due.stage

theorem State.imageLoaded_refusedBy {e : Nat} (due : LoadDue s) (bad : s.loadFails = some e) :
    s.imageLoaded n = s.loadTaken.loadRefused.raiseAt 0x0504 (e / 8) (e % 8) 0 := by
  have fails : (s.loadFails.isSome || s.blankFails) = true := by simp [bad]
  refine (if_neg due.runs).trans ((if_pos fails).trans ?_)
  split
  next f found => rw [Option.some.inj (found.symm.trans bad)]; rfl
  next found => cases found.symm.trans bad

theorem State.imageLoaded_refusedBlank (due : LoadDue s) (bad : s.loadFails = none) (blank : s.blankFails = true) :
    s.imageLoaded n = s.loadTaken.loadRefused.raise 0x0504 := by
  have fails : (s.loadFails.isSome || s.blankFails) = true := by simp [blank]
  refine (if_neg due.runs).trans ((if_pos fails).trans ?_)
  split
  next f found => cases found.symm.trans bad
  next found => rfl

theorem State.imageLoaded_installs (due : LoadDue s) (good : s.loadFails = none) (blank : s.blankFails = false) :
    ∃ img, s.imageLoaded n =
      if s.stage = 5 then (s.loadTaken.generationInstalled s.eng.loading img).engStart n
      else (s.loadTaken.generationInstalled s.eng.loading img).refreshBudget := by
  have passes : ¬ (s.loadFails.isSome || s.blankFails) = true := by simp [good, blank]
  have checked : s.imageLoaded n = _ := (if_neg due.runs).trans (if_neg passes)
  rw [checked]
  exact ⟨(_, _), rfl⟩

theorem State.generationInstalled_leaves (s : State) (hdr : List Nat) (img : List Nat × List Nat) :
    let x := s.generationInstalled hdr img
    x.o 0x40000B = fieldAt hdr 8 4 ∧ x.o 0x400002 = s.o 0x400002 ∧ x.eng.loading = s.eng.loading ∧ x.eng.store = some (hdr, img) := by
  intro x
  have stage : x.o 0x400002 = s.o 0x400002 := (State.o_raise _ _ _ (by decide)).trans (State.o_put_ne _ _ (by decide))
  have generation : x.o 0x40000B = fieldAt hdr 8 4 := (State.o_raise _ _ _ (by decide)).trans (State.o_put_self _ _ _)
  have eng : x.eng = { s.eng with store := some (hdr, img) } := (State.raise_eng _ _ _).trans (State.put_eng _ _ _)
  exact ⟨generation, stage, by rw [eng], by rw [eng]⟩

/-- An installed generation is shown, the load is taken and the store holds its image; where no enable waited, the stage is STOPPED. -/
theorem State.imageLoaded_leaves (due : LoadDue s) (good : s.loadFails = none) (blank : s.blankFails = false) :
    let x := s.imageLoaded n
    x.o 0x40000B = fieldAt s.eng.loading 8 4 ∧ x.eng.loading = [] ∧ x.eng.store.map (·.1) = some s.eng.loading
    ∧ (s.stage = 1 → x.o 0x400002 = 0) := by
  intro x
  obtain ⟨img, loaded⟩ := State.imageLoaded_installs (n := n) due good blank
  obtain ⟨generation, stage, loading, store⟩ := s.loadTaken.generationInstalled_leaves s.eng.loading img
  have kept : ImageKept (s.loadTaken.generationInstalled s.eng.loading img) x := by
    rw [show x = _ from loaded]
    exact ImageKept.ite ((ImageKept.refl _).engStart n) (ImageKept.refl _).refreshBudget
  refine ⟨kept.generation.trans generation, kept.loading.trans loading, by rw [kept.store, store]; rfl, fun loads => ?_⟩
  have idle : x = (s.loadTaken.generationInstalled s.eng.loading img).refreshBudget := loaded.trans (if_neg (by omega))
  rw [idle, State.o_refreshBudget _ (by decide) (by decide) (by decide), stage]
  exact s.o_put_self 0x400002 0

end

/-! ### The statement -/

/-- Settles O30: each clause is the case of its event's operation. -/
theorem segmentsAndWindowsPassLines : Obligations.SegmentsAndWindowsPassLines := by
  unfold Obligations.SegmentsAndWindowsPassLines
  intro s seg n src errs alive out
  refine ⟨fun ready => ?_, fun inner good sixteen => ?_, fun c rest closing left aux complete => ?_,
    fun key k x hkey hk hx stopped loading primary secondary west east => ?_,
    fun key k e hk waits same numbering reached => ?_, fun stage header pending => ?_⟩
  · intro key x
    have act {y : State} (hy : s.segmentProcess seg src n errs = y) : exec (.segmentLineProcess seg src n errs) s = out y :=
      exec_acts (·.segmentProcess seg src n errs) alive rfl hy
    exact ⟨fun off => act (State.segmentProcess_noKernel ready off), fun k on => act (State.segmentProcess_kernel ready on)⟩
  · exact exec_acts (·.linkFailed seg) alive rfl (State.linkFailed_fails inner good sixteen)
  · have next := State.statsClose_closing closing left aux complete
    exact ⟨exec_acts (·.recordsClose) alive rfl (State.recordsClose_completes closing next), next⟩
  · exact exec_acts (·.windowReady seg n errs) alive rfl
      (State.windowReady_passes hkey hk hx ⟨stopped, loading⟩ primary secondary ⟨west, east⟩)
  · obtain ⟨y, released, executes⟩ := State.release_sets hk (e := e)
    rw [State.windowFor_waiting waits same numbering reached, released]
    have mine : (s.setEngine e y).engine e = y := by rw [State.engine_setEngine, if_pos rfl]
    refine ⟨?_, ?_, ?_, ?_, ?_, ?_, ?_, fun j other => by rw [State.engine_setEngine, if_neg other], rfl⟩
    all_goals rw [mine]
    exacts [executes.st, executes.cur, executes.cycles, executes.sat, executes.aov, executes.pc, executes.relT]
  · intro hdr a bad off
    have due : LoadDue s := ⟨stage, header, pending⟩
    have same : bad = s.loadFails := congrArg (List.find? _) s.loadTaken_allEngines
    have act {y : State} (hy : s.imageLoaded s.nextLine = y) : exec .imageLoadComplete s = out y :=
      exec_acts (fun x => x.imageLoaded x.nextLine) alive rfl hy
    refine ⟨fun e fails => act (State.imageLoaded_refusedBy due (same ▸ fails)), fun empty mismatch => act ?_,
      fun passes engines => ?_⟩
    · have passes : s.loadFails = none := by rw [← same]; simp [bad, empty]
      exact State.imageLoaded_refusedBlank due passes (s.blankFails_iff.mpr ⟨empty, mismatch⟩)
    · have blank : s.blankFails = false := Bool.eq_false_iff.mpr fun fails => by
        obtain ⟨empty, mismatch⟩ := s.blankFails_iff.mp fails
        exact engines.elim (· empty) fun good => Bool.false_ne_true (mismatch.symm.trans good)
      exact ⟨_, act rfl, State.imageLoaded_leaves due (same ▸ passes) blank⟩

end Sys2Proof.Machine
end

section
/-!
Canonical data memories (R183, R219): what keeps them through a write of an engine, an instruction and its command, and the statement
about the stores.
-/
namespace Sys2Proof.Machine
open Sys2Proof.Safety

/-! ### Entries of a sorted list -/

theorem mem_of_mapGet {β : Type} {m : List (Nat × β)} {k : Nat} {v : β} (h : mapGet m k = some v) : (k, v) ∈ m := by
  induction m with
  | nil => cases h
  | cons p t ih =>
    obtain ⟨a, x⟩ := p
    rw [mapGet] at h
    split at h
    next same => rw [← same, ← Option.some.inj h]; exact List.mem_cons_self
    next => exact List.mem_cons_of_mem _ (ih h)

theorem eq_or_mem_of_mem_mapPut {β : Type} {m : List (Nat × β)} {k : Nat} {v : β} {p : Nat × β} (h : p ∈ mapPut m k v) :
    p = (k, v) ∨ p ∈ m := by
  induction m with
  | nil => exact .inl (List.mem_singleton.mp h)
  | cons q t ih =>
    rw [mapPut] at h
    split_ifs at h
    · exact List.mem_cons.mp h
    · exact (List.mem_cons.mp h).imp_right (List.mem_cons_of_mem _)
    · rcases List.mem_cons.mp h with rfl | inTail
      · exact .inr List.mem_cons_self
      · exact (ih inTail).imp_right (List.mem_cons_of_mem _)

/-! ### The engines' data memories -/

section
variable {s t : State} {e : Nat} {op : GOp}

theorem memory_wf_of_memoriesOk (ok : memoriesOk s = true) (e : Nat) : Memory.wf (s.engine e).dmem = true := by
  unfold State.engine
  cases held : mapGet s.eng.engs e with
  | none => rfl
  | some x => exact List.all_eq_true.mp ok _ (mem_of_mapGet held)

theorem memoriesOk_setEngine {x : Engine} (ok : memoriesOk s = true) (wf : Memory.wf x.dmem = true) :
    memoriesOk (s.setEngine e x) = true :=
  List.all_eq_true.mpr fun _ listed => (eq_or_mem_of_mem_mapPut listed).elim (fun new => new ▸ wf) (List.all_eq_true.mp ok _)

theorem memoriesOk_of_eng_eq (ok : memoriesOk s = true) (same : t.eng = s.eng) : memoriesOk t = true := by
  unfold memoriesOk; rw [same]; exact ok

/-- An exception writes nothing to memory. -/
theorem memoriesOk_gExcept (ok : memoriesOk s = true) (e cause : Nat) : memoriesOk (s.gExcept e cause) = true :=
  memoriesOk_of_eng_eq (s := s.setEngine e { s.engine e with st := esException, haltAt := (s.engine e).pc, cause })
    (memoriesOk_setEngine ok (memory_wf_of_memoriesOk ok e)) (State.raiseAt_same _ _ _ _ _).eng

/-- An instruction in sequence retires its registers, unless the next word lies outside the image. -/
theorem State.gExec_seq_eq {x : Engine} {cyc : Nat} (runs : s.gRuns e = true)
    (done : (s.engine e).exec1 (s.gCfg e) op = .ok x cyc .seq) : s.gExec e op =
      (let n := loopNext x.pc x.loops
       if s.codeWords ≤ n.1 then s.gExcept e excFetch
       else s.setEngine e { x with pc := n.1, loops := n.2, cycles := (s.engine e).cycles + cyc, skipBp := false }) := by
  unfold State.gExec State.gDo
  simp only [runs, if_true, done, Engine.target]
  exact if_congr ((Bool.and_eq_true_iff.trans (and_iff_left (by decide))).trans decide_eq_true_iff) rfl rfl

/-- An instruction that goes on in sequence or raises an exception keeps the memories canonical when it leaves its engine's so. -/
theorem memoriesOk_gExec (ok : memoriesOk s = true)
    (keeps : ∀ x cyc n, (s.engine e).exec1 (s.gCfg e) op = .ok x cyc n → n = .seq ∧ Memory.wf x.dmem = true) :
    memoriesOk (s.gExec e op) = true := by
  cases runs : s.gRuns e with
  | false => simpa [State.gExec, runs] using ok
  | true =>
    cases done : (s.engine e).exec1 (s.gCfg e) op with
    | exc c => rw [State.gExec_exc s e op c runs done]; exact memoriesOk_gExcept ok e c
    | ok x cyc n =>
      obtain ⟨rfl, wf⟩ := keeps x cyc n done
      rw [State.gExec_seq_eq runs done]
      dsimp only
      split
      · exact memoriesOk_gExcept ok e _
      · exact memoriesOk_setEngine ok wf

/-- A command that runs an instruction answers canonical memories when the instruction leaves them. -/
theorem memoriesOk_act {f : State → State} (ok : memoriesOk s = true) (keeps : memoriesOk (f s) = true)
    (answers : s.act f = .next t) : memoriesOk t = true := by
  rw [State.act, Host.Outcome.next.injEq] at answers
  rw [← answers]
  exact memoriesOk_of_eng_eq (s := if s.alive then f s else s) (by split <;> assumption) rfl

/-- A store that completes goes on in sequence, its bytes written one by one. -/
theorem Engine.store_wf {x en : Engine} {c : GCfg} {ra : Fin 16} {i : BitVec 11} {cyc : Nat} {n : GNext}
    (stores : (∃ k rs, op = .store k rs ra i) ∨ ∃ vs, op = .vst vs ra i) (wf : Memory.wf en.dmem = true)
    (done : en.exec1 c op = .ok x cyc n) : n = .seq ∧ Memory.wf x.dmem = true := by
  rcases stores with ⟨k, rs, rfl⟩ | ⟨vs, rfl⟩
  all_goals
    unfold Engine.exec1 at done
    dsimp only at done
    split at done
    next => cases done
    next => cases done; exact ⟨rfl, memWriteN_wf _ _ _ wf⟩

end

/-- Settles O6: every byte that a store writes keeps its engine's memory canonical, and an exception writes none. -/
theorem storesKeepDataMemoryCanonical : Obligations.StoresKeepDataMemoryCanonical := by
  unfold Obligations.StoresKeepDataMemoryCanonical
  intro s t e ra i ok
  have keeps {op : GOp} (stores : (∃ k rs, op = .store k rs ra i) ∨ ∃ vs, op = .vst vs ra i) :
      memoriesOk (s.gExec e op) = true :=
    memoriesOk_gExec ok fun _ _ _ done => Engine.store_wf stores (memory_wf_of_memoriesOk ok e) done
  exact ⟨fun rs => memoriesOk_act ok (keeps (.inl ⟨.w, rs, rfl⟩)), fun rs => memoriesOk_act ok (keeps (.inl ⟨.h, rs, rfl⟩)),
    fun rs => memoriesOk_act ok (keeps (.inl ⟨.b, rs, rfl⟩)), fun vs => memoriesOk_act ok (keeps (.inr ⟨vs, rfl⟩))⟩

end Sys2Proof.Machine
end

section
/-!
WAITLINE (R192, R201): what it adds to the outputs of the engines and what it forgets, and the statement about the system
instructions.
-/
namespace Sys2Proof.Machine
open Sys2Proof.Safety

/-! ### The end of a line -/

section
variable {s : State} {e m : Nat}

@[simp] theorem State.engine_put (s : State) (k : Nat) (v : Int) (e : Nat) : (s.put k v).engine e = s.engine e := by
  unfold State.engine; rw [State.put_eng]

@[simp] theorem State.engine_addOut (s : State) (o : EngOut) (e : Nat) : (s.addOut o).engine e = s.engine e := rfl

/-- While the stage runs, no engine makes it change its state. -/
theorem State.stageCheck_running (stage : s.stage = 3) : s.stageCheck = s := by simp [State.stageCheck, stage]

/-- The outputs once engine `e` has ended line `m`: its outputs of lines that are out of the pipeline are forgotten, and its output
buffers join what is left (R192). -/
def State.outsAfter (s : State) (e m : Nat) : List EngOut :=
  (s.eng.outs.filter fun p => p.eng ≠ e || s.pipe.lines.any fun l => l.key = p.line)
    ++ [⟨e, m, some ((s.engine e).o0, (s.engine e).o1)⟩]

theorem State.gWait_outs (cur : (s.engine e).cur = some m) (ready : (s.engine e).ready = none) (stage : s.stage = 3) :
    (s.gWait e).eng.outs = s.outsAfter e m := by
  unfold State.gWait
  extract_lets was en ended engs counted last resumed
  have ends : ended.eng.outs = s.outsAfter e m ∧ (ended.engine e).ready = none ∧ ended.stage = 3 := by
    subst ended
    rw [show en.cur = some m from cur]
    dsimp only
    refine ⟨?_, ?_, ?_⟩
    · rw [State.put_eng]; rfl
    · rw [State.engine_put, State.engine_addOut, State.engine_setEngine, if_pos rfl]
      exact ready
    · rw [State.stage, State.o_put_ne _ _ (by unfold engKey; omega)]
      exact stage
  have counts : counted.eng.outs = ended.eng.outs ∧ counted.engine e = ended.engine e ∧ counted.stage = ended.stage := by
    subst counted
    split <;> exact ⟨rfl, rfl, rfl⟩
  obtain ⟨outs, waits, runs⟩ := ends
  obtain ⟨outs', same, stage'⟩ := counts
  have resumes : resumed.eng.outs = counted.eng.outs ∧ resumed.stage = counted.stage := by
    subst resumed
    rw [same, waits]
    exact ⟨rfl, rfl⟩
  rw [State.stageCheck_running (resumes.2.trans (stage'.trans runs)), resumes.1, outs', outs]

end

theorem State.gExec_waitline {s : State} {e : Nat} (executes : Executes s e) :
    s.gExec e .waitline = (retired s e (s.engine e) 1).gWait e := by
  unfold State.gExec State.gDo
  simp only [executes.engine, if_true, Engine.exec1, Engine.target]
  exact if_neg fun outside => executes.inside.not_ge (of_decide_eq_true (Bool.and_eq_true_iff.mp outside).1)

/-! ### The statement about the system instructions -/

/-- Engine 0 executes at word 10 of an image of 100 words, in line 3, while the stage runs; its output of line 2, which is out of the
pipeline, is still listed. -/
def staleOutput : State :=
  { ({ State.reset with boot := { State.reset.boot with step := 4 } }).puts [(pdKey 17, 2), (0x400002, 3)] with
    eng := { EngState.reset with
      store := some (List.replicate 12 0 ++ [100, 0, 0, 0], [], [])
      engs := [(0, { Engine.reset with st := esExecuting, pc := 10, cur := some 3 })]
      outs := [⟨0, 2, none⟩] } }

theorem staleOutput_executes : Executes staleOutput 0 where
  runs := by decide
  engine := by decide
  inside := by decide

/-- Refutes O28: the clause of WAITLINE keeps every output listed, and the engine's next delivery forgets that of a line that has
left the pipeline (`State.addOut`). -/
theorem not_systemInstructionsActOnTheEngine : ¬ Obligations.SystemInstructionsActOnTheEngine := by
  unfold Obligations.SystemInstructionsActOnTheEngine
  intro holds
  obtain ⟨-, -, -, -, -, -, -, -, -, -, -, -, -, waitline⟩ := holds staleOutput 0 0 0 staleOutput_executes
  obtain ⟨t, answers, outs, -⟩ := waitline 3 (by decide) (by decide) (by decide)
  have delivers := exec_acts (c := .waitline 0) (·.gExec 0 .waitline) staleOutput_executes.runs rfl
    (State.gExec_waitline staleOutput_executes)
  have same := Host.Outcome.next.inj (answers.symm.trans delivers)
  rw [same, State.settle_eng, State.gWait_outs (m := 3) (by decide) (by decide) (by decide)] at outs
  exact absurd outs (by decide)

end Sys2Proof.Machine
end

section
/-!
The engines from outside (R202, R203, R231): what a write through BAR2 stores, and whom it stalls.
-/
namespace Sys2Proof.Machine
open Sys2Proof.Safety

/-! ### Bytes written one by one -/

theorem foldl_memWrite_zip (m : List Host.Cell) (a : Nat) (l : List Byte) :
    ((List.range' a l.length).zip l).foldl (fun m c => memWrite m c.1 c.2) m = memWriteN m a l := by
  induction l generalizing m a with
  | nil => rfl
  | cons x t ih => exact ih (memWrite m a x) (a + 1)

theorem length_toBytes (l : List Nat) : (toBytes l).length = l.length := List.length_map ..

theorem getD_toBytes (l : List Nat) (i : Nat) : (toBytes l).getD i 0 = BitVec.ofNat 8 (l.getD i 0) := by
  simp [toBytes, List.getD_eq_getElem?_getD]

/-! ### A write of data memory -/

section
variable {s : State} {e off stall : Nat} {data : List Nat}

/-- An engine with bytes written into its data memory. -/
def Engine.withBytes (x : Engine) (off : Nat) (data : List Nat) : Engine := { x with dmem := memWriteN x.dmem off (toBytes data) }

/-- Data memory below the block that a kernel may not store to takes every byte of a write. -/
theorem State.bar2Engine_dmem (inside : off + data.length ≤ dmemUser) : s.bar2Engine e (0x20000 + off) data =
    s.setEngine e ((s.engine e).withBytes off data) := by
  have target : barIn e (0x20000 + off) = .dmem e off := by
    unfold barIn
    rw [if_neg (by omega), if_neg (by omega), Nat.add_sub_cancel_left]
  have all : ∀ c ∈ (List.range' off (toBytes data).length).zip (toBytes data), decide (c.1 < dmemUser) = true := by
    intro c listed
    have place := List.mem_range'_1.mp (List.of_mem_zip listed).1
    rw [length_toBytes] at place
    exact decide_eq_true (by omega)
  unfold State.bar2Engine
  rw [target]
  dsimp only
  rw [← List.range'_eq_map_range, ← length_toBytes data, List.filter_eq_self.mpr all, foldl_memWrite_zip]
  rfl

/-- A write of a word's bytes into the data memory of an engine that takes part. -/
theorem State.bar2Write_dmem (small : e < 192) (takes : s.takesPart e = true) (inside : off < 0x20000 - 0x100)
    (aligned : off % 4 + data.length ≤ 4) : s.bar2Write (0x40000 * e + 0x20000 + off) data stall =
      (s.setEngine e ((s.engine e).withBytes off data)).barStall e stall := by
  have engine : (0x40000 * e + 0x20000 + off) / 0x40000 = e := by omega
  have place : (0x40000 * e + 0x20000 + off) % 0x40000 = 0x20000 + off := by omega
  have lanes : (0x40000 * e + 0x20000 + off) % 4 = off % 4 := by omega
  have whole : data.take (4 - off % 4) = data := List.take_of_length_le (by omega)
  have room : off + data.length ≤ dmemUser := by unfold dmemUser; omega
  have notCode : ¬ 0x20000 + off < 0x8000 := by omega
  unfold State.bar2Write
  simp [engine, place, lanes, whole, small, takes, notCode, State.bar2Engine_dmem room]

/-- The cycles that an engine that executes stalls for an access. -/
def State.stallOf (s : State) (e stall : Nat) : Nat := if s.takesPart e && (s.engine e).st = esExecuting then stall else 0

theorem State.engine_barStall (j : Nat) : (s.barStall e stall).engine j =
    if j = e then { s.engine e with cycles := (s.engine e).cycles + s.stallOf e stall } else s.engine j := by
  unfold State.barStall State.stallOf
  by_cases runs : s.takesPart e = true ∧ (s.engine e).st = esExecuting
  · by_cases none : stall = 0
    · simp [none]
      exact fun mine => mine ▸ rfl
    · simp [runs, none, State.bump, State.engine_setEngine]
  · have idle : (s.takesPart e && decide ((s.engine e).st = esExecuting)) = false := by simpa using runs
    simp [idle]
    exact fun mine => mine ▸ rfl

theorem State.barStall_objs (idle : (s.engine e).st ≠ esExecuting) : (s.barStall e stall).objs = s.objs := by
  simp [State.barStall, idle]

/-- What a write through BAR2 leaves of the engine it names (R202, R203): the bytes are stored, the others stay, and the cycles that
an engine that executes stalls are counted. -/
structure BarStored (s x : State) (e off stall : Nat) (data : List Nat) : Prop where
  stored : ∀ i, i < data.length → memRead (x.engine e).dmem (off + i) = BitVec.ofNat 8 (data.getD i 0)
  kept : ∀ a, (a < off ∨ off + data.length ≤ a) → memRead (x.engine e).dmem a = memRead (s.engine e).dmem a
  cycles : (x.engine e).cycles = (s.engine e).cycles + if (s.engine e).st = esExecuting then stall else 0
  others : otherEnginesKept e s x
  objs : (s.engine e).st ≠ esExecuting → x.objs = s.objs

theorem State.bar2Write_stores (small : e < 192) (takes : s.takesPart e = true) (inside : off < 0x20000 - 0x100)
    (aligned : off % 4 + data.length ≤ 4) :
    BarStored s (s.bar2Write (0x40000 * e + 0x20000 + off) data stall) e off stall data := by
  rw [State.bar2Write_dmem small takes inside aligned]
  generalize hy : (s.engine e).withBytes off data = y
  have mine : (s.setEngine e y).engine e = y := by rw [State.engine_setEngine, if_pos rfl]
  have dmem : y.dmem = memWriteN (s.engine e).dmem off (toBytes data) := hy ▸ rfl
  have st : y.st = (s.engine e).st := hy ▸ rfl
  have cycles : y.cycles = (s.engine e).cycles := hy ▸ rfl
  have stalls : (s.setEngine e y).stallOf e stall = if (s.engine e).st = esExecuting then stall else 0 := by
    have takes' : (s.setEngine e y).takesPart e = true := takes
    simp [State.stallOf, takes', mine, st]
  have memory (a : Nat) : memRead (((s.setEngine e y).barStall e stall).engine e).dmem a = memRead y.dmem a := by
    rw [State.engine_barStall, if_pos rfl, mine]
  constructor
  case stored =>
    intro i listed
    rw [memory, dmem, memRead_memWriteN, length_toBytes, if_pos (by omega), Nat.add_sub_cancel_left, getD_toBytes]
  case kept =>
    intro a outside
    rw [memory, dmem, memRead_memWriteN, length_toBytes, if_neg (by omega)]
  case cycles => rw [State.engine_barStall, if_pos rfl, mine, stalls, cycles]
  case others => exact fun j other => by rw [State.engine_barStall, if_neg other, State.engine_setEngine, if_neg other]
  case objs => exact fun idle => State.barStall_objs (by rw [mine, st]; exact idle)

/-- A read names the engine of its offset; one that is absent answers all ones (R202). -/
theorem State.bar2Read_absent (engines : off < 0x3000000) (absent : s.engPresent (off / 0x40000) = false) :
    s.bar2Read off = 0xFFFFFFFF := by
  have engine : off / 4 * 4 / 0x40000 = off / 0x40000 := by omega
  have small : off / 0x40000 < 192 := by omega
  simp [State.bar2Read, State.barRead, engine, small, absent]

end

end Sys2Proof.Machine
end

section
/-!
The stops of the Millrace and the crumbs that they take (R206, R207, R286): a stop that is replaced, the crumb that a segment's stop
takes of the next engine in turn, and the merger's crumbs of a line.
-/
namespace Sys2Proof.Machine
open Sys2Proof.Safety

/-! ### An entry that is replaced -/

theorem find?_replace_same {α : Type} (key : α → Nat) (x : α) {l : List α} (listed : l.any (key · = key x) = true) :
    (l.map fun y => if key y = key x then x else y).find? (key · = key x) = some x := by
  induction l with
  | nil => cases listed
  | cons y t ih =>
    by_cases same : key y = key x
    · simp [same]
    · simpa [same] using ih (by simpa [same] using listed)

theorem find?_replace_other {α : Type} (key : α → Nat) (x : α) (l : List α) {g : Nat} (other : g ≠ key x) :
    (l.map fun y => if key y = key x then x else y).find? (key · = g) = l.find? (key · = g) := by
  induction l with
  | nil => rfl
  | cons y t ih =>
    by_cases same : key y = key x
    · simpa [same, other.symm] using ih
    · by_cases here : key y = g
      · simp [here, other]
      · simpa [same, here] using ih

/-! ### A stop that is replaced -/

section
variable {s : State} {g : Nat}

theorem State.stop_seg (s : State) (g : Nat) : (s.stop g).seg = g := by
  unfold State.stop
  cases found : s.conf.stops.find? (·.seg = g) with
  | none => rfl
  | some x => simpa using List.find?_some found

theorem State.listed_of_blocks (blocks : (s.stop g).blocks ≠ []) : s.conf.stops.any (·.seg = g) = true := by
  by_contra unlisted
  refine blocks ?_
  have none : s.conf.stops.find? (·.seg = g) = none := by simpa using unlisted
  rw [State.stop, none]
  rfl

/-- A listed stop reads as it was put. -/
theorem State.stop_setStop {x : Stop} (seg : x.seg = g) (listed : s.conf.stops.any (·.seg = g) = true) : (s.setStop x).stop g = x := by
  subst seg
  unfold State.stop State.setStop
  rw [find?_replace_same Stop.seg x listed]
  rfl

end

/-! ### A crumb joins a block -/

/-- A crumb block that has not been sent and is not full. -/
def MBlock.hasRoom (b : MBlock) : Bool := b.kind = 2 && !b.sent && b.crumbs.length < 8

/-- A block of one crumb. -/
def MBlock.ofCrumb (c : Crumb) : MBlock :=
  { kind := 2, stream := 0, line := c.line, offset := 0, data := c.bytes, final := true, crumbs := [c], sect := c.sect
    sent := false, fails := 0 }

/-- A stop takes a crumb: into the blocks that have room, or as a block of its own (R286). -/
def Stop.takeCrumb (x : Stop) (c : Crumb) : Stop :=
  if x.blocks.any MBlock.hasRoom then
    { x with blocks := x.blocks.map fun b => if b.hasRoom then { b with data := b.data ++ c.bytes, crumbs := b.crumbs ++ [c] } else b }
  else x.queue [MBlock.ofCrumb c]

theorem Stop.queue_seg (x : Stop) (new : List MBlock) : (x.queue new).seg = x.seg := by
  cases new <;> rfl

theorem Stop.takeCrumb_seg (x : Stop) (c : Crumb) : (x.takeCrumb c).seg = x.seg := by
  unfold Stop.takeCrumb
  split
  · rfl
  · exact x.queue_seg _

/-- What a block carries: its kind and its crumbs. -/
def MBlock.load (b : MBlock) : Nat × List Crumb := (b.kind, b.crumbs)

/-- Sending marks blocks as sent and changes nothing that they carry. -/
theorem Stop.send_loads (x : Stop) : x.send.blocks.map MBlock.load = x.blocks.map MBlock.load := by
  have step : ∀ (l done : List MBlock) (n : Nat), ((l.foldl (fun (a : List MBlock × Nat) b =>
      if b.sent || a.2 = 0 then (a.1 ++ [b], a.2) else (a.1 ++ [{ b with sent := true }], a.2 - 1)) (done, n)).1).map MBlock.load
        = (done ++ l).map MBlock.load := by
    intro l
    induction l with
    | nil => simp
    | cons b t ih =>
      intro done n
      rw [List.foldl_cons]
      dsimp only
      split
      · rw [ih]; simp
      · rw [ih]; simp [MBlock.load]
  exact step x.blocks [] x.credits

theorem Stop.takeCrumb_holds (x : Stop) (c : Crumb) : ∃ b ∈ (x.takeCrumb c).blocks, b.kind = 2 ∧ c ∈ b.crumbs := by
  unfold Stop.takeCrumb
  split
  next room =>
    obtain ⟨b, listed, room⟩ := List.any_eq_true.mp room
    refine ⟨_, List.mem_map_of_mem listed, ?_⟩
    have crumbs : b.kind = 2 := by simp_all [MBlock.hasRoom]
    simp [room, crumbs]
  next =>
    have loaded : (2, [c]) ∈ (x.queue [MBlock.ofCrumb c]).blocks.map MBlock.load := by
      unfold Stop.queue
      rw [Stop.send_loads]
      simp [MBlock.load, MBlock.ofCrumb]
    obtain ⟨b, listed, load⟩ := List.mem_map.mp loaded
    obtain ⟨kind, crumbs⟩ := Prod.mk.inj load
    exact ⟨b, listed, kind, by simp [crumbs]⟩

/-! ### The crumb that a stop takes (R206) -/

section
variable {s : State} {seg j : Nat} {c : Crumb}

/-- The merger has room for one more crumb, or its queue is empty. -/
def State.mergerAccepts (s : State) : Prop :=
  s.eng.queue.length + s.eng.merged.length = 0
    ∨ s.eng.queue.length + s.eng.merged.length + s.eng.held.length + s.crumbsOnWay < 1024

/-- The oldest crumb of an engine that is not on its way, with its engine. -/
def State.crumbDue (s : State) (i : Nat) : Option (Nat × Crumb) :=
  if s.takesPart i then ((s.engine i).crumbs[(s.engine i).inFlight]?).map fun c => (i, c) else none

/-- The engines of a segment, from the one after the engine served last. -/
def State.servingOrder (s : State) (seg : Nat) : List Nat :=
  (List.range 8).map fun i => 8 * seg + ((mapGet s.eng.served seg).getD 7 + 1 + i) % 8

/-- A crumb of engine `j` is on its way, and the engine has been served. -/
def State.crumbServed (s : State) (seg j : Nat) : State :=
  let t := s.setEngine j { s.engine j with inFlight := (s.engine j).inFlight + 1 }
  { t with eng := { t.eng with served := mapPut t.eng.served seg (j % 8) } }

theorem State.crumbDrain_takes (healthy : s.bit 0x50C004 seg = false) (accepts : s.mergerAccepts)
    (due : (s.servingOrder seg).findSome? s.crumbDue = some (j, c)) :
    s.crumbDrain seg = (s.crumbServed seg j).setStop (((s.crumbServed seg j).stop seg).takeCrumb c) := by
  unfold State.mergerAccepts at accepts
  unfold State.servingOrder State.crumbDue at due
  unfold State.crumbDrain
  dsimp only
  rw [if_neg ?full, due]
  case full =>
    simp only [healthy, Bool.false_or, Bool.and_eq_true, decide_eq_true_eq]
    omega
  exact (apply_ite (s.crumbServed seg j).setStop _ _ _).symm

/-- What a stop leaves that has taken crumb `c` of engine `j` (R206). -/
structure CrumbTaken (s x : State) (seg j : Nat) (c : Crumb) : Prop where
  engine : x.engine j = { s.engine j with inFlight := (s.engine j).inFlight + 1 }
  served : mapGet x.eng.served seg = some (j % 8)
  others : otherEnginesKept j s x
  objs : x.objs = s.objs
  block : s.conf.stops.any (·.seg = seg) = true → ∃ b ∈ (x.stop seg).blocks, b.kind = 2 ∧ c ∈ b.crumbs

theorem State.engine_crumbServed (i : Nat) : (s.crumbServed seg j).engine i =
    if i = j then { s.engine j with inFlight := (s.engine j).inFlight + 1 } else s.engine i :=
  State.engine_setEngine s j i _

theorem State.crumbDrain_leaves (healthy : s.bit 0x50C004 seg = false) (accepts : s.mergerAccepts)
    (due : (s.servingOrder seg).findSome? s.crumbDue = some (j, c)) : CrumbTaken s (s.crumbDrain seg) seg j c := by
  rw [State.crumbDrain_takes healthy accepts due]
  constructor
  case engine => exact (State.engine_crumbServed j).trans (if_pos rfl)
  case served => exact (mapGet_mapPut _ _ _ _).trans (if_pos rfl)
  case others => exact fun i other => (State.engine_crumbServed i).trans (if_neg other)
  case objs => rfl
  case block =>
    intro listed
    have seg_eq : (((s.crumbServed seg j).stop seg).takeCrumb c).seg = seg := by rw [Stop.takeCrumb_seg, State.stop_seg]
    rw [State.stop_setStop (s := s.crumbServed seg j) seg_eq listed]
    exact Stop.takeCrumb_holds _ c

end

/-! ### The crumbs of a line (R207) -/

section
variable {s : State} {n : Nat}

/-- The fragments that the merger holds of a line, by engine. -/
def State.fragments (s : State) (key : Nat) : List Crumb :=
  (List.range 192).flatMap fun e => s.eng.held.filter fun c => c.key = key && c.engine = e

/-- Nothing keeps the crumbs of a line waiting: every engine has ended it, and no line before it is held. -/
structure MergeDue (s : State) (key : Nat) : Prop where
  ready : s.mergeReady key = true
  first : ∀ c ∈ s.eng.held, ¬(sameLines c.key key = true ∧ c.key < key)

/-- What the merger leaves of a line that is due: `out` is what it delivers. -/
structure Merged (s x : State) (key : Nat) (out : List Crumb) : Prop where
  held : x.eng.held = s.eng.held.filter (fun c => c.key ≠ key)
  queued : x.eng.queue ++ x.eng.merged = s.eng.queue ++ s.eng.merged ++ out
  bounded : x.eng.queue.length ≤ 1024
  unjoined : s.o 0x480002 = 0 → out = (s.fragments key).filter fun c => s.classOn c.cls

theorem State.crumbMerge_merges (due : MergeDue s (s.mergeKey n)) :
    Merged s (s.crumbMerge n).1 (s.mergeKey n) (s.crumbMerge n).2 := by
  unfold State.crumbMerge
  extract_lets key mine sorted taken left pairs heads joins incomplete parts joined counted
  rw [if_neg ?waits]
  case waits =>
    rw [due.ready, Bool.not_true, Bool.false_or, List.any_eq_true]
    exact fun ⟨c, held, before⟩ => due.first c held (by simpa using before)
  generalize branch : (if (!left.b 0x480002) = true then _ else _ : State × List Crumb) = b
  have kept : b.1.eng = left.eng ∧ (s.o 0x480002 = 0 → b = (left, sorted)) := by
    rw [← branch]
    split
    next => exact ⟨rfl, fun _ => rfl⟩
    next on =>
      refine ⟨?_, fun off => absurd (show left.o 0x480002 = 0 from off) (by simpa [State.b] using on)⟩
      have same : counted.eng = left.eng := by simp [counted, State.bump]
      dsimp only
      split
      · exact same
      · exact (State.raiseFirst_same _ _ _ _).eng.trans same
  obtain ⟨y, out⟩ := b
  obtain ⟨eng, off⟩ := kept
  dsimp only at eng off ⊢
  have eng' (d : Nat) : (y.bump 0x480008 d).eng = left.eng := by rw [State.bump, State.put_eng, eng]
  constructor
  case held => exact congrArg EngState.held (eng' _)
  case queued => exact (List.take_append_drop _ _).trans (by rw [eng'])
  case bounded => exact List.length_take_le _ _
  case unjoined =>
    intro none
    obtain ⟨rfl, rfl⟩ := Prod.mk.inj (off none)
    have byEngine : sorted = s.fragments key := by simp [sorted, mine, State.fragments, List.filter_filter, Bool.and_comm]
    exact congrArg (List.filter fun c => s.classOn c.cls) byEngine

end

end Sys2Proof.Machine
end

section
/-!
Blocks of the Millrace (R287 to R290): a block that is to be resent, a block that a port receives, the failure of a segment, and the
statement about the engines and the Millrace.
-/
namespace Sys2Proof.Machine
open Sys2Proof.Safety

/-! ### Resends (R288) -/

section
variable {s : State} {seg i : Nat} {b : MBlock} {rx : BlockRx}

/-- The block at a place is to be sent again: counted against its stop, and as a resend up to the eighth. -/
def State.resent (s : State) (st : Stop) (i : Nat) (b : MBlock) : State :=
  let y := s.setStop { st with blocks := st.blocks.set i { b with fails := b.fails + 1 } }
  if b.fails < 8 then y.bump 0x50C003 else y

theorem State.stop_of_conf_eq {x : State} (same : x.conf = s.conf) : x.stop seg = s.stop seg := by
  unfold State.stop; rw [same]

theorem State.blockNak_resends (placed : (s.stop seg).blocks[i]? = some b) (sent : b.sent = true) (left : b.fails ≤ 8) :
    s.blockNak seg i = s.resent (s.stop seg) i b := by
  have goes : ¬ (!b.sent || decide (9 ≤ b.fails)) = true := by simp [sent]; omega
  unfold State.blockNak
  simp only [placed]
  exact if_neg goes

/-- The bytes of a block as the port has them. -/
def State.arrived (s : State) (seg : Nat) (rx : BlockRx) (b : MBlock) : List Nat :=
  xorBytes (b.wire seg ((s.stop seg).seq + rx.place)) rx.errs

/-- An erroneous block is counted as such, at its port and in the segment, and reported. -/
def State.crcCounted (s : State) (seg : Nat) : State := ((s.bump 0x50C002).sat (0x50C801 + seg)).raiseFirstAt 0x0F01 seg seg

theorem LogSame.raiseFirstAt {s t : State} (h : LogSame s t) (code seg : Nat) (data : Int) : LogSame s (t.raiseFirstAt code seg data) := by
  unfold State.raiseFirstAt
  exact LogSame.ite (fun _ => h) fun _ => LogSame.raiseAt (h.trans (by constructor <;> intros <;> rfl)) _ _ _ _

theorem State.crcCounted_conf (s : State) (seg : Nat) : (s.crcCounted seg).conf = s.conf := by
  rw [State.crcCounted, ((LogSame.refl _).raiseFirstAt _ _ _).conf, State.sat, State.put_conf, State.bump, State.put_conf]

theorem State.crcCounted_errors (s : State) (seg : Nat) : (s.crcCounted seg).o 0x50C002 = (s.o 0x50C002 + 1) % 2 ^ 64 := by
  rw [State.crcCounted, ((LogSame.refl _).raiseFirstAt _ _ _).objs _ (by decide), State.sat_eq, State.o_put_ne _ _ (by omega),
    State.bump_eq, State.o_put, if_pos rfl]
  have width : maxOf 0x50C002 = 2 ^ 64 - 1 := by decide
  rw [width]
  rfl

section
variable (placed : (s.stop seg).blocks[rx.place]? = some b) (sent : b.sent = true) (left : b.fails ≤ 8)
include placed sent left

theorem State.blockReceived_eq : s.blockReceived seg rx =
    if wireGood (s.arrived seg rx b) = false then (s.crcCounted seg).resent (s.stop seg) rx.place b
    else if wireSeq (s.arrived seg rx b) ≠ (s.stop seg).seq then s.resent (s.stop seg) rx.place b
    else s.blockGood seg := by
  have goes : ¬ (!b.sent || decide (9 ≤ b.fails)) = true := by simp [sent]; omega
  have stop : (s.crcCounted seg).stop seg = s.stop seg := State.stop_of_conf_eq (s.crcCounted_conf seg)
  have again : (s.crcCounted seg).blockNak seg rx.place = (s.crcCounted seg).resent (s.stop seg) rx.place b := by
    rw [State.blockNak_resends (stop.symm ▸ placed) sent left, stop]
  rw [← again, ← State.blockNak_resends placed sent left]
  unfold State.blockReceived
  simp only [placed]
  rw [if_neg goes]
  exact if_congr (Iff.of_eq (Bool.not_eq_true' _)) rfl rfl

end

/-! ### The failure of a segment (R289) -/

theorem State.o_setStop (s : State) (x : Stop) (k : Nat) : (s.setStop x).o k = s.o k := rfl
theorem State.o_statFailed (s : State) (seg k : Nat) : (s.statFailed seg).o k = s.o k := rfl
theorem State.o_crumbsRemain (s : State) (seg k : Nat) : (s.crumbsRemain seg).o k = s.o k := rfl
theorem State.stop_statFailed (s : State) (seg g : Nat) : (s.statFailed seg).stop g = s.stop g := rfl
theorem State.stop_crumbsRemain (s : State) (seg g : Nat) : (s.crumbsRemain seg).stop g = s.stop g := rfl

/-- A stop with no block and every credit. -/
def Stop.emptied (x : Stop) : Stop := { x with blocks := [], credits := 32 }

/-- Segment `seg` is failed: marked and counted, its stop emptied, its statistics given up, its crumbs kept by their engines. -/
def State.segmentMarked (s : State) (seg : Nat) : State :=
  ((((s.setBits 0x50C004 (2 ^ seg)).bump 0x50C007).setStop (s.stop seg).emptied).statFailed seg).crumbsRemain seg

theorem State.segmentFailure_fails (exhausted : (s.stop seg).blocks.find? (fun b => 9 ≤ b.fails) = some b) :
    s.segmentFailure seg = (List.range 8).foldl (fun x k => ((x.stream k).asm.map (·.line)).foldl (fun x n => x.padAsm k n seg) x)
      ((s.segmentMarked seg).raiseAt 0x0F02 seg 0xFF (keyLine b.line)) := by
  unfold State.segmentFailure
  dsimp only
  rw [exhausted]
  rfl

theorem State.segmentMarked_bit (s : State) (seg : Nat) : (s.segmentMarked seg).bit 0x50C004 seg = true := by
  have mask : (s.segmentMarked seg).o 0x50C004 = (s.n 0x50C004 ||| 2 ^ seg : Nat) := by
    rw [State.segmentMarked, State.o_crumbsRemain, State.o_statFailed, State.o_setStop, State.o_bump_ne _ _ (by decide),
      State.setBits_eq, State.o_put, if_pos rfl]
  simp [State.bit, State.n, mask]

theorem State.segmentMarked_stop (listed : s.conf.stops.any (·.seg = seg) = true) : ((s.segmentMarked seg).stop seg).blocks = [] := by
  have conf : ((s.setBits 0x50C004 (2 ^ seg)).bump 0x50C007).conf = s.conf := by
    rw [State.bump, State.put_conf, State.setBits, State.put_conf]
  rw [State.segmentMarked, State.stop_crumbsRemain, State.stop_statFailed,
    State.stop_setStop (x := (s.stop seg).emptied) (s.stop_seg seg) (by rw [conf]; exact listed), Stop.emptied]

end

/-! ### The statement about the engines and the Millrace -/

/-- Settles O31: what a BAR2 write stores, what a stop takes, what the merger delivers, and for blocks of the Millrace the three answers
of the port that receives one and the failure of a segment are each a lemma above; breakpoints, illegal words and BAR2 reads are
immediate. -/
theorem enginesAndMillraceAreReachedAndStopped : Obligations.EnginesAndMillraceAreReachedAndStopped := by
  unfold Obligations.EnginesAndMillraceAreReachedAndStopped
  refine ⟨?engines, ?millrace⟩
  case engines =>
    intro s e seg off stall data r word alive out en
    refine ⟨?_, ?_, ?_, ?_, ?_, ?_⟩
    · intro pcie takes inside aligned
      have stores := State.bar2Write_stores (stall := stall) e.isLt takes inside aligned
      exact ⟨_, exec_acts _ alive rfl (if_pos pcie), stores.stored, stores.kept, stores.cycles, stores.others, stores.objs⟩
    · exact fun pcie => ⟨exec_acts _ alive rfl (if_pos pcie), State.bar2Read_absent⟩
    · intro j c healthy accepts due
      have taken := State.crumbDrain_leaves healthy accepts due
      exact ⟨_, exec_acts (·.crumbDrain seg) alive rfl rfl, taken.engine, taken.served, taken.others, taken.objs, taken.block⟩
    · intro n
      refine ⟨exec_acts (·.crumbsMerge n) alive rfl rfl, ?_⟩
      intro key ready first
      have merged := State.crumbMerge_merges ⟨ready, first⟩
      exact ⟨merged.held, merged.queued, merged.bounded, merged.unjoined⟩
    · intro takes runs hit
      exact exec_acts (·.breakMatch e) alive rfl (if_pos (by rw [takes]; exact Bool.and_eq_true_iff.mpr ⟨decide_eq_true runs, hit⟩))
    · intro runs illegal
      exact exec_acts (·.illegalInstr e word) alive rfl (if_pos (by rw [runs, illegal]; rfl))
  case millrace =>
    intro s seg alive st out again
    refine ⟨?_, ?_, ?_⟩
    · intro b rest blocks sent left
      exact exec_acts (·.blockNak seg 0) alive rfl (State.blockNak_resends (by rw [blocks]; rfl) sent left)
    · intro rx b placed sent left w
      have received := State.blockReceived_eq placed sent left
      refine ⟨?_, ?_, ?_⟩
      · intro bad
        exact ⟨exec_acts (·.blockReceived seg rx) alive rfl (received.trans (if_pos bad)), s.crcCounted_errors seg⟩
      · intro good other
        exact exec_acts (·.blockReceived seg rx) alive rfl (received.trans ((if_neg (ne_false_of_eq_true good)).trans (if_pos other)))
      · intro good expected
        exact exec_acts (·.blockReceived seg rx) alive rfl
          (received.trans ((if_neg (ne_false_of_eq_true good)).trans (if_neg (not_not_intro expected))))
    · intro b exhausted
      refine ⟨exec_acts (·.segmentFailure seg) alive rfl (State.segmentFailure_fails exhausted), s.segmentMarked_bit seg, ?_⟩
      exact State.segmentMarked_stop (State.listed_of_blocks (by rintro none; simp [st, none] at exhausted))

end Sys2Proof.Machine
end

section
/-!
Restarts of engines and restores of segments (R201, R290): writes of class SECTION that wait for their boundary, and what follows where
they apply.
-/
namespace Sys2Proof.Machine
open Sys2Proof.Safety

/-! ### Writes of class SECTION (R304, R319) -/

/-- The commit of one object that a plain write of class SECTION makes passes its checks (R312). -/
def CommitPasses (s : State) (w : Sender) (k : Nat) (bs : List Nat) : Prop :=
  let a := taken s w (writeOf k bs)
  a.commitChecks (some a.applySection) [(k, bs)] a.dict.serial = (stOk, [])

/-- What such a write answers: `OK` with the next epoch and the apply section, over the state in which its commit is pending. -/
def pendingReply (s : State) (w : Sender) (k : Nat) (bs : List Nat) : State :=
  let a := taken s w (writeOf k bs)
  reply w (writeOf k bs) { status := stOk, ids := some (a.nextEpoch, a.applySection), data := []
                           next := a.commitAccept (.port w.port) (some a.applySection) [(k, bs)] }

theorem write_pends {s : State} {w : Sender} {k : Nat} {bs : List Nat} {row : ObjRow} (h : Accepted s w k bs)
    (hr : findRow k = some row) (ha : row.app = .atSection) (hk : k < 2 ^ 24) (hl : bs.length ≤ portLimit w.port)
    (hn : (taken s w (writeOf k bs)).normalBytes k bs = bs) (passes : CommitPasses s w k bs) :
    s.write w k bs = pendingReply s w k bs := by
  rw [write_served s w k bs h.toServed hk hl]
  unfold pendingReply
  congr 1
  have checks := h.checks
  unfold CommitPasses at passes
  unfold State.opWriteValue State.named
  simp only [writeOf, if_true] at checks passes hn ⊢
  simp [State.plainWrite, State.implicitCommit, checks, hr, hn, ha, passes, stOk]

theorem State.normalBytes_of_ge (s : State) {k : Nat} (bs : List Nat) (high : 0x324800 ≤ k) : s.normalBytes k bs = bs := by
  have h1 : ¬ k / 256 ≤ 0x2857 := by omega
  have h2 : ¬ k / 256 ≤ 0x2C57 := by omega
  have h3 : ¬ k / 256 ≤ 0x3247 := by omega
  simp [State.normalBytes, h1, h2, h3]

theorem four_le_portLimit (p : Nat) : 4 ≤ portLimit p := by unfold portLimit; split_ifs <;> decide

/-- A command that writes a mask of class SECTION. -/
theorem exec_pends {s : State} {c : Instr} {w : Sender} {k m : Nat} {row : ObjRow} (h : Accepted s w k (leBytes 4 m))
    (hc : exec c s = s.act fun s => s.write w k (leBytes 4 m)) (hr : findRow k = some row) (ha : row.app = .atSection)
    (low : 0x324800 ≤ k) (high : k < 2 ^ 24) (passes : CommitPasses s w k (leBytes 4 m)) :
    exec c s = .next (s.settle (pendingReply s w k (leBytes 4 m))) := by
  rw [hc, State.act_alive _ _ h.runs, write_pends h hr ha high ((length_leBytes 4 m).trans_le (four_le_portLimit _))
    (State.normalBytes_of_ge _ _ low) passes]

theorem findRow_restart (seg : Fin 24) :
    findRow (0x400401 + seg) = some ⟨0x4004, 1, 0x01, 24, .bits32, .wo, .atSection, 0, .bits 0xff⟩ := by
  revert seg; decide +kernel

/-! ### Where they apply (R201, R290) -/

theorem filter_range_eq_singleton {n i : Nat} {p : Nat → Bool} (small : i < n) (holds : p i = true) (only : ∀ j, p j = true → j = i) :
    (List.range n).filter p = [i] := by
  have is : ∀ j ∈ List.range n, p j = (j == i) := fun j _ => Bool.eq_iff_iff.mpr
    ⟨fun h => beq_iff_eq.mpr (only j h), fun h => beq_iff_eq.mp h ▸ holds⟩
  rw [List.filter_congr is, List.filter_beq, List.count_eq_one_of_mem List.nodup_range (List.mem_range.mpr small)]
  rfl

section
variable {s : State}

/-- A mask of one engine restarts that engine, where it is halted, as a kernel change. -/
theorem State.restartApplied_one {seg i : Nat} (b : Nat) (small : i < 8) (takes : s.takesPart (8 * seg + i) = true)
    (halted : esHalted ≤ (s.engine (8 * seg + i)).st) : s.restartApplied seg (2 ^ i) b =
      ((s.kernHistory b).changeAt (8 * seg + i) ((s.kernHistory b).changeKey b)).raiseAt 0x050D seg i 0 := by
  unfold State.restartApplied
  rw [filter_range_eq_singleton small (by simp [takes, halted]) fun j chosen => by simp_all [Nat.testBit_two_pow]]
  rfl

/-- A mask of one segment restores that segment, where it is failed. -/
theorem State.restoreSegments_one {seg : Nat} (small : seg < 24) (failed : s.bit 0x50C004 seg = true) : s.restoreSegments (2 ^ seg) =
    ((s.clrBits 0x50C004 (2 ^ seg)).setStop { seg := seg, blocks := [], seq := 0, credits := 32 }).raiseAt 0x0F03 seg 0xFF 0 := by
  unfold State.restoreSegments
  rw [filter_range_eq_singleton small (by simp [failed]) fun j chosen => by simp_all [Nat.testBit_two_pow]]
  rfl

end

end Sys2Proof.Machine
end

section
/-!
The enable of the CSI-2 receiver (R249, R252): what a frame that closes leaves of its channel and of the others, how an accepted write
moves the receiver's state, and the statement about restarts and restores.
-/
namespace Sys2Proof.Machine
open Sys2Proof.Safety

/-! ### The channels' states and counts -/

theorem auxSt_high (v j : Nat) : 0x392000 ≤ auxSt v j := by unfold auxSt; omega

/-- The second state differs from the first in what channels show and count, and in what an event can change, at most. -/
structure ShownOnly (s t : State) : Prop where
  conf : t.conf = s.conf
  objs : ∀ k, k < 0x392000 → logKey k = false → t.o k = s.o k

section
variable {s t u : State}

theorem ShownOnly.refl (s : State) : ShownOnly s s := ⟨rfl, fun _ _ _ => rfl⟩

theorem ShownOnly.put (h : ShownOnly s t) {k : Nat} (high : 0x392000 ≤ k) (v : Int) : ShownOnly s (t.put k v) where
  conf := (State.put_conf _ _ _).trans h.conf
  objs := fun j low log => (State.o_put_ne t v (by omega)).trans (h.objs j low log)

theorem ShownOnly.bump (h : ShownOnly s t) {k : Nat} (high : 0x392000 ≤ k) (d : Nat) : ShownOnly s (t.bump k d) := h.put high _

theorem ShownOnly.raiseFirst (h : ShownOnly s t) (code disc : Nat) (data : Int) : ShownOnly s (t.raiseFirst code disc data) where
  conf := (t.raiseFirst_same _ _ _).conf.trans h.conf
  objs := fun k low log => ((t.raiseFirst_same _ _ _).objs k log).trans (h.objs k low log)

theorem ShownOnly.ite {c : Prop} [Decidable c] (h : ShownOnly s t) (g : ShownOnly s u) : ShownOnly s (if c then t else u) := by
  split <;> assumption

theorem ShownOnly.auxStates (h : ShownOnly s t) : ShownOnly s t.auxStates := by
  have step (l : List Nat) : ∀ {t}, ShownOnly s t → ShownOnly s (l.foldl (fun (y : State) v => y.put (auxSt v 1)
      (if (y.auxCh v).open_.isSome then 2 else if y.csiOn && y.b (auxCfg v 1) then 1 else 0)) t) := by
    induction l with
    | nil => exact fun h => h
    | cons v l ih => exact fun h => ih (h.put (auxSt_high v 1) _)
  exact step _ h

end

/-! ### Channels that close -/

section
variable {s : State} {u v : Nat}

theorem State.auxCh_ch (s : State) (v : Nat) : (s.auxCh v).ch = v := by
  unfold State.auxCh
  cases found : s.conf.aux.find? (·.ch = v) with
  | none => rfl
  | some x => simpa using List.find?_some found

theorem State.auxCh_of_conf_eq {t : State} (same : t.conf = s.conf) : t.auxCh v = s.auxCh v := by
  unfold State.auxCh; rw [same]

theorem State.listed_of_open {f : AuxFrame} (opened : (s.auxCh v).open_ = some f) : s.conf.aux.any (·.ch = v) = true := by
  by_contra unlisted
  have none : s.conf.aux.find? (·.ch = v) = none := by simpa using unlisted
  rw [State.auxCh, none] at opened
  cases opened

theorem State.auxCh_setAux_same {x : AuxChan} (ch : x.ch = v) (listed : s.conf.aux.any (·.ch = v) = true) : (s.setAux x).auxCh v = x := by
  subst ch
  unfold State.auxCh State.setAux
  rw [find?_replace_same AuxChan.ch x listed]
  rfl

theorem State.auxCh_setAux_other {x : AuxChan} (other : v ≠ x.ch) : (s.setAux x).auxCh v = s.auxCh v := by
  unfold State.auxCh State.setAux
  rw [find?_replace_other AuxChan.ch x _ other]

theorem AuxChan.open_setOpen (x : AuxChan) {f : AuxFrame} (closed : f.closed = true) : (x.setOpen f).open_ = none := by
  unfold AuxChan.open_ AuxChan.setOpen
  rw [List.find?_eq_none]
  intro g listed
  obtain ⟨y, -, rfl⟩ := List.mem_map.mp listed
  by_cases already : y.closed = true
  · simp [already]
  · simp [already, closed]

/-- The frame of a channel as it closes: the lines that are missing are added (R252). -/
def State.frameClosed (s : State) (v : Nat) (f : AuxFrame) : AuxFrame :=
  let pad := s.padLine f (s.o (auxSt v 8)) (if f.cut then fCut else fPadded)
  { f with lines := f.lines ++ List.replicate (f.height - f.lines.length) pad, closed := true }

/-- A frame that closes replaces its channel's; only what channels show and count changes beside it. -/
theorem State.auxClose_closes {f : AuxFrame} (opened : (s.auxCh v).open_ = some f) :
    ShownOnly (s.setAux ((s.auxCh v).setOpen (s.frameClosed v f))) (s.auxClose v) := by
  unfold State.auxClose
  dsimp only
  rw [opened]
  have counted := (ShownOnly.refl (s.setAux ((s.auxCh v).setOpen (s.frameClosed v f)))).bump (auxSt_high v 2) 1
  exact (counted.ite ((counted.bump (auxSt_high v 4) _).raiseFirst _ _ _)).auxStates

theorem State.auxClose_shut (s : State) (v : Nat) : ((s.auxClose v).auxCh v).open_ = none := by
  cases opened : (s.auxCh v).open_ with
  | none => simp [State.auxClose, opened]
  | some f =>
    have ch : ((s.auxCh v).setOpen (s.frameClosed v f)).ch = v := s.auxCh_ch v
    rw [State.auxCh_of_conf_eq (State.auxClose_closes opened).conf, State.auxCh_setAux_same ch (State.listed_of_open opened)]
    exact AuxChan.open_setOpen _ rfl

theorem State.auxClose_other (other : u ≠ v) : (s.auxClose v).auxCh u = s.auxCh u := by
  cases opened : (s.auxCh v).open_ with
  | none => simp [State.auxClose, opened]
  | some f =>
    have ch : ((s.auxCh v).setOpen (s.frameClosed v f)).ch = v := s.auxCh_ch v
    rw [State.auxCh_of_conf_eq (State.auxClose_closes opened).conf, State.auxCh_setAux_other (ch.symm ▸ other)]

theorem State.o_auxClose (s : State) (v : Nat) {k : Nat} (low : k < 0x392000) (log : logKey k = false) : (s.auxClose v).o k = s.o k := by
  cases opened : (s.auxCh v).open_ with
  | none => simp [State.auxClose, opened]
  | some f => exact (State.auxClose_closes opened).objs k low log

theorem State.auxClose_keepsShut (shut : (s.auxCh u).open_ = none) : ((s.auxClose v).auxCh u).open_ = none := by
  by_cases same : u = v
  · exact same ▸ s.auxClose_shut u
  · rw [State.auxClose_other same, shut]

theorem State.o_foldl_auxClose (l : List Nat) (s : State) {k : Nat} (low : k < 0x392000) (log : logKey k = false) :
    (l.foldl State.auxClose s).o k = s.o k := by
  induction l generalizing s with
  | nil => rfl
  | cons v t ih => exact (ih _).trans (s.o_auxClose v low log)

/-- Every channel that closes is left with no frame open. -/
theorem State.foldl_auxClose_shut (l : List Nat) (s : State) (h : u ∈ l ∨ (s.auxCh u).open_ = none) :
    ((l.foldl State.auxClose s).auxCh u).open_ = none := by
  induction l generalizing s with
  | nil => simpa using h
  | cons v t ih =>
    refine ih (s.auxClose v) ?_
    rcases h with listed | shut
    · rcases List.mem_cons.mp listed with rfl | later
      · exact .inr (s.auxClose_shut u)
      · exact .inl later
    · exact .inr (State.auxClose_keepsShut shut)

end

/-! ### A write of the receiver's enable (R249) -/

theorem findRow_csiEnable : findRow 0x390001 = some ⟨0x3900, 1, 0x01, 1, .bool, .rw, .now, 0, .span 0 1⟩ := by decide +kernel

theorem State.setKey_csiEnable (s : State) (on : Bool) : s.setKey 0x390001 [boolByte on] = s.csiEnable on := by
  have value : decide (decodeVal .bool [boolByte on] ≠ 0) = on := by cases on <;> decide
  unfold State.setKey
  rw [findRow_csiEnable]
  simp only [OTy.isBlob]
  unfold State.setScalar
  simp [value]

/-- An accepted write of the enable that the receiver takes. -/
theorem exec_csiReceiverEnable {s x : State} {w : Sender} {on : Bool} (h : Accepted s w 0x390001 [boolByte on])
    (hx : (taken s w (writeOf 0x390001 [boolByte on])).csiEnable on = (stOk, x)) :
    exec (.csiReceiverEnable w on) s = .next (s.settle (replyOk w (writeOf 0x390001 [boolByte on])
      (applied (taken s w (writeOf 0x390001 [boolByte on])) 0x390001 [boolByte on] x))) := by
  have written := write_applied s w 0x390001 [boolByte on] _ h findRow_csiEnable (by decide) (by decide) (by decide)
    (one_le_portLimit _) (State.normalBytes_of_ge _ _ (by decide)) (by decide)
  refine exec_acts (·.write w 0x390001 [boolByte on]) h.runs rfl (written.trans ?_)
  simp [State.applyNow, State.setKey_csiEnable, hx, replyOk, applied]

theorem State.putB_eq_put_boolByte (s : State) (k : Nat) (on : Bool) : s.putB k on = s.put k (boolByte on) := by
  cases on <;> rfl

section
variable {a : State} {on : Bool} {old new : Nat}

theorem State.csiEnable_powered (powered : on = true → a.pdOn 7 = true) : ¬ (on && !a.pdOn 7) = true := by
  cases on with
  | false => simp
  | true => simp [powered rfl]

/-- The receiver's state after a write of the enable, from each state in which it changes but `ON`. -/
theorem State.csiEnable_moves (move : (on, old, new) ∈ [(true, 0, 1), (true, 3, 4), (true, 5, 1), (false, 1, 5), (false, 4, 3)])
    (powered : on = true → a.pdOn 7 = true) (state : a.o 0x390005 = old) :
    a.csiEnable on = (stOk, ((a.put 0x390001 (boolByte on)).put 0x390005 new).auxStates) := by
  unfold State.csiEnable
  rw [if_neg (State.csiEnable_powered powered), State.putB_eq_put_boolByte, state]
  fin_cases move <;> rfl

/-- From the other states the write leaves the receiver's state. -/
theorem State.csiEnable_stays (stay : (on, old) ∈ [(true, 1), (true, 2), (true, 4), (false, 0), (false, 3), (false, 5)])
    (powered : on = true → a.pdOn 7 = true) (state : a.o 0x390005 = old) :
    a.csiEnable on = (stOk, (a.put 0x390001 (boolByte on)).auxStates) := by
  unfold State.csiEnable
  rw [if_neg (State.csiEnable_powered powered), State.putB_eq_put_boolByte, state]
  fin_cases stay <;> rfl

/-- A receiver that was on: its frames are closed, and it is STOPPING. -/
def State.csiStopping (a : State) : State :=
  (((List.range 4).foldl State.auxClose (a.putB 0x390001 false)).put 0x390005 3).auxStates

theorem State.csiEnable_stops (state : a.o 0x390005 = 2) : a.csiEnable false = (stOk, a.csiStopping) := by
  simp [State.csiEnable, State.csiStopping, state]

theorem State.o_csiStopping (a : State) {k : Nat} (low : k < 0x392000) (log : logKey k = false) : a.csiStopping.o k =
    if k = 0x390005 then 3 else if k = 0x390001 then 0 else a.o k := by
  rw [State.csiStopping, (ShownOnly.refl _).auxStates.objs k low log, State.o_put, State.o_foldl_auxClose _ _ low log,
    State.putB, State.o_put]
  rfl

theorem State.csiStopping_shut (a : State) {v : Nat} (channel : v < 4) : (a.csiStopping.auxCh v).open_ = none := by
  have conf : a.csiStopping.conf = ((List.range 4).foldl State.auxClose (a.putB 0x390001 false)).conf :=
    (ShownOnly.refl _).auxStates.conf.trans (State.put_conf _ _ _)
  rw [State.auxCh_of_conf_eq conf]
  exact State.foldl_auxClose_shut _ _ (.inl (List.mem_range.mpr channel))

end

/-! ### The statement about restarts and restores -/

/-- Settles O34: the two writes of class SECTION pend by `exec_pends`, a mask of one engine or segment applies to that one, and the
enable moves the receiver by the table of `State.csiEnable_moves`, stops it with its frames closed, or leaves its state. -/
theorem restartsAndRestoresApplyAtTheirSection : Obligations.RestartsAndRestoresApplyAtTheirSection := by
  unfold Obligations.RestartsAndRestoresApplyAtTheirSection
  intro s w seg m small q pend
  refine ⟨?_, ?_, ?_, ?_, ?_, ?_, ?_⟩
  · intro accepted passes
    exact exec_pends accepted rfl (findRow_restart seg) rfl (by omega) (by omega) passes
  · intro accepted passes
    exact exec_pends accepted rfl rfl rfl (by decide) (by decide) passes
  · intro i b one takes halted
    exact State.restartApplied_one b one takes halted
  · exact State.restoreSegments_one seg.isLt
  · intro on old new move a accepted powered state
    exact exec_csiReceiverEnable accepted (State.csiEnable_moves move powered state)
  · intro on old stay a accepted powered state
    exact exec_csiReceiverEnable accepted (State.csiEnable_stays stay powered state)
  · intro a accepted state
    exact ⟨_, exec_csiReceiverEnable (on := false) accepted (State.csiEnable_stops state), a.o_csiStopping (by decide) (by decide),
      a.o_csiStopping (by decide) (by decide), fun _ => a.csiStopping_shut⟩

end Sys2Proof.Machine
end

section
/-!
The fields of an engine's word (R214): how a word is its fields, and what a register field and a function code decode to.
-/
namespace Sys2Proof.Machine

/-! ### Fields -/

theorem fld_fld (w : Word) {lo k n m : Nat} (within : k + n ≤ m) : fld w (lo + k) n = fld w lo m / 2 ^ k % 2 ^ n := by
  obtain ⟨j, rfl⟩ := Nat.exists_eq_add_of_le within
  unfold fld
  rw [show k + n + j = k + (n + j) by omega, pow_add 2 k (n + j), Nat.mod_mul_right_div_self,
    Nat.mod_mod_of_dvd _ (pow_dvd_pow 2 (Nat.le_add_right n j)), Nat.div_div_eq_div_mul, ← pow_add]

/-- The fields of a word: opcode, destination, two sources and the low 11 bits (R214). -/
structure Spelled (w : Word) (op rd ra rb lo : Nat) : Prop where
  op : fld w 26 6 = op
  rd : fld w 21 5 = rd
  ra : fld w 16 5 = ra
  rb : fld w 11 5 = rb
  lo : fld w 0 11 = lo

theorem spelled_wordOf {op rd ra rb lo : Nat} (hop : op < 64 := by omega) (hd : rd < 32 := by omega) (ha : ra < 32 := by omega)
    (hb : rb < 32 := by omega) (hl : lo < 2048 := by omega) :
    Spelled (wordOf op rd ra rb lo) op rd ra rb lo := by
  have value : (wordOf op rd ra rb lo).toNat = op * 2 ^ 26 + rd * 2 ^ 21 + ra * 2 ^ 16 + rb * 2 ^ 11 + lo := by
    rw [wordOf, BitVec.toNat_ofNat]; omega
  constructor <;> rw [fld, value] <;> omega

section
variable {w : Word} {op rd ra rb lo : Nat} (h : Spelled w op rd ra rb lo)
include h

/-- A word is the word of its fields. -/
theorem Spelled.word : wordOf op rd ra rb lo = w := by
  obtain ⟨rfl, rfl, rfl, rfl, rfl⟩ := h
  apply BitVec.eq_of_toNat_eq
  have small := w.isLt
  simp only [wordOf, BitVec.toNat_ofNat, fld]
  omega

theorem Spelled.low {k n : Nat} (within : k + n ≤ 11) : fld w k n = lo / 2 ^ k % 2 ^ n := by
  rw [← h.lo, ← fld_fld w within, Nat.zero_add]
end

/-- A field is its lower part and its upper part. -/
theorem fld_add (w : Word) (lo k m : Nat) : fld w lo (k + m) = fld w lo k + 2 ^ k * fld w (lo + k) m := by
  simp only [fld, pow_add, Nat.mod_mul, Nat.div_div_eq_div_mul]

/-- A word whose low 21 bits are one field: opcode, destination and the field. -/
structure SpelledWide (w : Word) (op rd n : Nat) : Prop where
  op : fld w 26 6 = op
  rd : fld w 21 5 = rd
  n : fld w 0 21 = n

theorem spelledWide_ofNat {op rd n : Nat} (hop : op < 64 := by omega) (hd : rd < 32 := by omega)
    (hn : n < 2 ^ 21 := by omega) :
    SpelledWide (BitVec.ofNat 32 (op * 2 ^ 26 + rd * 2 ^ 21 + n)) op rd n := by
  have value : (BitVec.ofNat 32 (op * 2 ^ 26 + rd * 2 ^ 21 + n)).toNat = op * 2 ^ 26 + rd * 2 ^ 21 + n := by
    rw [BitVec.toNat_ofNat]; omega
  constructor <;> rw [fld, value] <;> omega

theorem SpelledWide.word {w : Word} {op rd n : Nat} (h : SpelledWide w op rd n) :
    BitVec.ofNat 32 (op * 2 ^ 26 + rd * 2 ^ 21 + n) = w := by
  obtain ⟨rfl, rfl, rfl⟩ := h
  apply BitVec.eq_of_toNat_eq
  have small := w.isLt
  simp only [BitVec.toNat_ofNat, fld]
  omega

@[simp] theorem toNat_ofNat_fld (w : Word) (lo n : Nat) : (BitVec.ofNat n (fld w lo n)).toNat = fld w lo n := by
  rw [BitVec.toNat_ofNat, fld, Nat.mod_mod]

/-! ### Registers in their fields -/

section
variable {w : Word} {lo : Nat}

@[simp] theorem sfld_eq_some_iff {r : Fin 16} : sfld w lo = some r ↔ fld w lo 5 = r := by
  unfold sfld
  dsimp only
  split
  · rw [Option.some.injEq, Fin.ext_iff]
  · exact iff_of_false nofun (by omega)

theorem vfld_eq_iff {r : Fin 32} : vfld w lo = r ↔ fld w lo 5 = r := by
  have small : fld w lo 5 < 32 := Nat.mod_lt _ (by decide)
  rw [Fin.ext_iff, vfld, Fin.val_ofNat, Nat.mod_eq_of_lt small]

theorem fld_eq_vfld (w : Word) (lo : Nat) : fld w lo 5 = vfld w lo := vfld_eq_iff.mp rfl

@[simp] theorem psfld_eq_some_iff {r : Fin 8} : psfld w lo = some r ↔ fld w lo 5 = r := by
  have parts : fld w lo 5 = fld w lo 3 + 2 ^ 3 * fld w (lo + 3) 2 := fld_add w lo 3 2
  have small : fld w lo 3 < 8 := Nat.mod_lt _ (by decide)
  unfold psfld
  split
  · rw [Option.some.injEq, Fin.ext_iff, Fin.val_ofNat]; omega
  · exact iff_of_false nofun (by omega)

@[simp] theorem pdfld_eq_some_iff {r : Fin 8} : pdfld w = some r ↔ fld w 21 5 = r := psfld_eq_some_iff (lo := 21)

@[simp] theorem afld_eq_some_iff {r : Fin 4} : afld w lo = some r ↔ fld w lo 5 = r := by
  have parts : fld w lo 5 = fld w lo 2 + 2 ^ 2 * fld w (lo + 2) 3 := fld_add w lo 2 3
  have small : fld w lo 2 < 4 := Nat.mod_lt _ (by decide)
  unfold afld
  split
  · rw [Option.some.injEq, Fin.ext_iff, Fin.val_ofNat]; omega
  · exact iff_of_false nofun (by omega)

/-- A second vector source in its field, and the opcode that says its form. -/
theorem srcForm_of_bfld {scalar : Bool} {b : VSrc} (h : bfld w scalar = some b) (op : Nat) :
    fld w 11 5 = (srcForm op b).2 ∧ op + scalar.toNat = (srcForm op b).1 := by
  cases scalar with
  | false => cases h; exact ⟨fld_eq_vfld w 11, rfl⟩
  | true =>
    obtain ⟨r, hr, rfl⟩ := Option.map_eq_some_iff.mp h
    exact ⟨sfld_eq_some_iff.mp hr, rfl⟩

/-- The low 11 bits are the guard and the function code. -/
theorem low_eq_guarded_iff {p : Fin 8} {f : Nat} (small : f < 256) :
    fld w 0 11 = guarded p f ↔ gfld w = p ∧ fld w 0 8 = f := by
  have parts : fld w 0 11 = fld w 0 8 + 2 ^ 8 * fld w 8 3 := fld_add w 0 8 3
  have code : fld w 0 8 < 256 := Nat.mod_lt _ (by decide)
  have mask : fld w 8 3 < 8 := Nat.mod_lt _ (by decide)
  simp only [guarded, gfld, Fin.ext_iff, Fin.val_ofNat]
  omega

end

/-! ### Function codes -/

theorem getElem?_table_iff {α : Type} {l : List α} {code : α → Nat} (nodup : l.Nodup) (coded : ∀ f, l[code f]? = some f)
    {k : Nat} {f : α} : l[k]? = some f ↔ k = code f :=
  ⟨fun h => (List.getElem?_inj (List.getElem?_eq_some_iff.mp h).1 nodup).mp (h.trans (coded f).symm), fun h => h ▸ coded f⟩

@[simp] theorem aluOps_eq_some_iff {k : Nat} {f : AluOp} : aluOps[k]? = some f ↔ k = f.code :=
  getElem?_table_iff (by decide) fun f => by cases f <;> rfl
@[simp] theorem vOps_eq_some_iff {k : Nat} {f : VOp} : vOps[k]? = some f ↔ k = f.code :=
  getElem?_table_iff (by decide) fun f => by cases f <;> rfl
@[simp] theorem vConds_eq_some_iff {k : Nat} {c : VCond} : vConds[k]? = some c ↔ k = c.code :=
  getElem?_table_iff (by decide) fun c => by cases c <;> rfl
@[simp] theorem macOps_eq_some_iff {k : Nat} {f : MacOp} : macOps[k]? = some f ↔ k = f.code :=
  getElem?_table_iff (by decide) fun f => by cases f <;> rfl
@[simp] theorem redOps_eq_some_iff {k : Nat} {f : RedOp} : redOps[k]? = some f ↔ k = f.code :=
  getElem?_table_iff (by decide) fun f => by cases f <;> rfl
@[simp] theorem brConds_eq_some_iff {k : Nat} {c : BrCond} : brConds[k]? = some c ↔ k + 0x10 = c.code :=
  (getElem?_table_iff (code := fun c => c.code - 0x10) (by decide) fun c => by cases c <;> rfl).trans
    (by cases c <;> simp only [BrCond.code] <;> omega)

@[simp] theorem onlyIf_eq_some_iff {b : Bool} {x : Option GOp} {op : GOp} : onlyIf b x = some op ↔ b = true ∧ x = some op := by
  cases b <;> simp [onlyIf]

end Sys2Proof.Machine
end

section
/-!
Decoding drops no bit of a word (R214 to R229): the word of what a word decodes to.
-/
namespace Sys2Proof.Machine

/-- A word with a count in its two upper register fields. -/
theorem wordOf_count (op count lo : Nat) :
    BitVec.ofNat 32 (op * 2 ^ 26 + count * 2 ^ 16 + lo) = wordOf op (count / 32) (count % 32) 0 lo := by
  have parts : op * 2 ^ 26 + count * 2 ^ 16 + lo =
      op * 2 ^ 26 + count / 32 * 2 ^ 21 + count % 32 * 2 ^ 16 + 0 * 2 ^ 11 + lo := by omega
  rw [wordOf, parts]

theorem lane_val (w : Word) : (Fin.ofNat 16 (fld w 4 4)).val = fld w 4 4 :=
  Nat.mod_eq_of_lt (Nat.mod_lt _ (by decide))

/-- A field of one bit is the flag it decodes to. -/
theorem flag_val (w : Word) (lo k : Nat) : (if decide (fld w lo 1 = 1) = true then k else 0) = k * fld w lo 1 := by
  have bit : fld w lo 1 < 2 := Nat.mod_lt _ (by decide)
  rcases (by omega : fld w lo 1 = 0 ∨ fld w lo 1 = 1) with h | h <;> simp [h]

/-- The word of what a scalar word decodes to. -/
theorem encodeWord_of_decodeScalar {w : Word} {x : GOp} (h : decodeScalar w = some x) : x.encodable = true ∧ encodeWord x = w := by
  simp only [decodeScalar] at h
  split at h <;> rename_i op <;> simp [Option.bind_eq_some_iff] at h
  case h_1 =>
    obtain ⟨zero, f, code, rd, hd, ra, ha, rb, hb, rfl⟩ := h
    have low : fld w 0 11 = fld w 0 6 + 2 ^ 6 * fld w 6 5 := fld_add w 0 6 5
    exact ⟨rfl, Spelled.word ⟨op, hd, ha, hb, by omega⟩⟩
  case h_2 | h_3 | h_4 | h_5 | h_6 | h_7 | h_13 | h_16 | h_17 | h_18 | h_19 | h_20 =>
    obtain ⟨hb, rd, hd, ra, ha, rfl⟩ := h
    exact ⟨rfl, Spelled.word ⟨op, hd, ha, hb, (toNat_ofNat_fld ..).symm⟩⟩
  case h_8 | h_9 | h_10 =>
    obtain ⟨⟨hb, zero⟩, rd, hd, ra, ha, rfl⟩ := h
    have low : fld w 0 11 = fld w 0 5 + 2 ^ 5 * fld w 5 6 := fld_add w 0 5 6
    refine ⟨rfl, Spelled.word ⟨op, hd, ha, hb, ?_⟩⟩
    rw [low, zero, toNat_ofNat_fld]; rfl
  case h_11 | h_12 =>
    obtain ⟨rd, hd, rfl⟩ := h
    exact ⟨rfl, SpelledWide.word ⟨op, hd, (toNat_ofNat_fld ..).symm⟩⟩
  case h_14 =>
    obtain ⟨⟨hb, hd⟩, ra, ha, rfl⟩ := h
    exact ⟨rfl, Spelled.word ⟨op, hd, ha, hb, (toNat_ofNat_fld ..).symm⟩⟩
  case h_15 =>
    obtain ⟨hb, rfl⟩ := h
    have count : fld w 16 10 = fld w 16 5 + 2 ^ 5 * fld w 21 5 := fld_add w 16 5 5
    have small : fld w 16 5 < 32 := Nat.mod_lt _ (by decide)
    refine ⟨rfl, (wordOf_count ..).trans (Spelled.word ⟨op, ?_, ?_, hb, (toNat_ofNat_fld ..).symm⟩)⟩ <;>
      rw [toNat_ofNat_fld] <;> omega
  case h_21 | h_22 | h_23 =>
    obtain ⟨hd, rb, hb, ra, ha, rfl⟩ := h
    exact ⟨rfl, Spelled.word ⟨op, hd, ha, hb, (toNat_ofNat_fld ..).symm⟩⟩
  case h_24 =>
    obtain ⟨hb, ra, ha, rfl⟩ := h
    exact ⟨rfl, Spelled.word ⟨op, vfld_eq_iff.mp rfl, ha, hb, (toNat_ofNat_fld ..).symm⟩⟩
  case h_25 =>
    obtain ⟨hd, ra, ha, rfl⟩ := h
    exact ⟨rfl, Spelled.word ⟨op, hd, ha, vfld_eq_iff.mp rfl, (toNat_ofNat_fld ..).symm⟩⟩
  case h_26 =>
    obtain ⟨⟨⟨least, _⟩, hd⟩, c, code, ra, ha, rb, hb, rfl⟩ := h
    exact ⟨rfl, Spelled.word ⟨by omega, hd, ha, hb, (toNat_ofNat_fld ..).symm⟩⟩

theorem encodeWord_of_decodeVector {w : Word} {x : GOp} (h : decodeVector w = some x) : x.encodable = true ∧ encodeWord x = w := by
  have low : fld w 0 11 = fld w 0 4 + 2 ^ 4 * fld w 4 4 + 2 ^ 8 * fld w 8 3 := by
    rw [fld_add w 0 8 3, fld_add w 0 4 4]
  have code8 : fld w 0 8 = fld w 0 4 + 2 ^ 4 * fld w 4 4 := fld_add w 0 4 4
  have guarded_ {f : Nat} (code : fld w 0 8 = f) : fld w 0 11 = guarded (gfld w) f :=
    (low_eq_guarded_iff (code ▸ Nat.mod_lt _ (by decide))).mpr ⟨rfl, code⟩
  simp only [decodeVector] at h
  split at h <;> rename_i op
  case h_8 =>
    split at h <;> rename_i f <;> simp [Option.bind_eq_some_iff] at h
    case h_1 =>
      obtain ⟨⟨ha, hb⟩, ad, hd, rfl⟩ := h
      exact ⟨rfl, Spelled.word ⟨op, hd, ha, hb, guarded_ f⟩⟩
    case h_2 | h_3 =>
      obtain ⟨ad, ha, rfl⟩ := h
      exact ⟨rfl, Spelled.word ⟨op, fld_eq_vfld w 21, ha, (toNat_ofNat_fld ..).symm, guarded_ f⟩⟩
    case h_4 | h_5 =>
      obtain ⟨hb, ad, hd, rfl⟩ := h
      exact ⟨rfl, Spelled.word ⟨op, hd, fld_eq_vfld w 16, hb, guarded_ f⟩⟩
  case h_9 =>
    split at h <;> rename_i f <;> simp [Option.bind_eq_some_iff] at h
    case isTrue =>
      obtain ⟨hb, rd, hd, ad, ha, rfl⟩ := h
      exact ⟨rfl, Spelled.word ⟨op, hd, ha, hb, guarded_ f⟩⟩
    case isFalse =>
      obtain ⟨hb, f, code, rd, hd, rfl⟩ := h
      exact ⟨rfl, Spelled.word ⟨op, hd, fld_eq_vfld w 16, hb, guarded_ code⟩⟩
  case h_10 =>
    split at h <;> rename_i f <;> simp [Option.bind_eq_some_iff, -Fin.ofNat_eq_cast] at h
    case h_1 =>
      obtain ⟨zero, rfl⟩ := h
      exact ⟨rfl, Spelled.word ⟨op, fld_eq_vfld w 21, fld_eq_vfld w 16, fld_eq_vfld w 11, guarded_ (by omega)⟩⟩
    case h_2 =>
      subst h
      refine ⟨rfl, Spelled.word ⟨op, fld_eq_vfld w 21, fld_eq_vfld w 16, fld_eq_vfld w 11, guarded_ ?_⟩⟩
      rw [lane_val]; omega
    case h_3 =>
      obtain ⟨⟨hb, zero⟩, rd, hd, rfl⟩ := h
      refine ⟨rfl, Spelled.word ⟨op, hd, fld_eq_vfld w 16, hb, ?_⟩⟩
      rw [lane_val]; omega
    case h_4 =>
      obtain ⟨⟨hb, zero⟩, ra, ha, rfl⟩ := h
      refine ⟨rfl, Spelled.word ⟨op, fld_eq_vfld w 21, ha, hb, ?_⟩⟩
      rw [lane_val]; omega
    case h_5 =>
      obtain ⟨⟨hb, zero⟩, ra, ha, rfl⟩ := h
      exact ⟨rfl, Spelled.word ⟨op, fld_eq_vfld w 21, ha, hb, guarded_ (by omega)⟩⟩
    case h_6 =>
      obtain ⟨⟨hb, zero⟩, rfl⟩ := h
      exact ⟨rfl, Spelled.word ⟨op, fld_eq_vfld w 21, fld_eq_vfld w 16, hb, guarded_ (by omega)⟩⟩
  case h_12 =>
    split at h <;> rename_i f <;> simp [Option.bind_eq_some_iff] at h
    case h_1 | h_2 | h_3 | h_4 =>
      obtain ⟨pd, hd, pa, ha, pb, hb, rfl⟩ := h
      exact ⟨rfl, Spelled.word ⟨op, hd, ha, hb, f⟩⟩
    all_goals
      obtain ⟨hb, rd, hd, ra, ha, rfl⟩ := h
      exact ⟨rfl, Spelled.word ⟨op, hd, ha, hb, f⟩⟩
  case h_13 =>
    split at h <;> rename_i f <;> simp [Option.bind_eq_some_iff] at h
    case isTrue =>
      obtain ⟨zero, ra, ha, rfl⟩ := h
      have second : fld w 11 5 = fld w 11 1 + 2 ^ 1 * fld w 12 4 := fld_add w 11 1 4
      refine ⟨rfl, Spelled.word ⟨op, fld_eq_vfld w 21, ha, ?_, guarded_ f⟩⟩
      rw [flag_val]; omega
    case isFalse =>
      obtain ⟨⟨code, zero⟩, ra, ha, rb, hb, rfl⟩ := h
      exact ⟨rfl, Spelled.word ⟨op, fld_eq_vfld w 21, ha, hb, by omega⟩⟩
  case h_14 =>
    split at h <;> rename_i f <;> simp [Option.bind_eq_some_iff] at h
    case h_6 =>
      obtain ⟨⟨hb, exists_⟩, rd, hd, rfl⟩ := h
      exact ⟨decide_eq_true ((toNat_ofNat_fld ..).trans_le exists_), Spelled.word ⟨op, hd, (toNat_ofNat_fld ..).symm, hb, f⟩⟩
    case h_7 =>
      obtain ⟨⟨hb, zero⟩, ra, ha, rfl⟩ := h
      exact ⟨by simp [GOp.encodable, zero], Spelled.word ⟨op, (toNat_ofNat_fld ..).symm, ha, hb, f⟩⟩
    all_goals
      obtain ⟨⟨⟨hd, ha⟩, hb⟩, rfl⟩ := h
      exact ⟨rfl, Spelled.word ⟨op, hd, ha, hb, f⟩⟩
  all_goals simp [Option.bind_eq_some_iff, -Fin.ofNat_eq_cast] at h
  case h_1 =>
    obtain ⟨one, f, code, rfl⟩ := h
    refine ⟨?_, Spelled.word ⟨op, fld_eq_vfld w 21, fld_eq_vfld w 16, fld_eq_vfld w 11, guarded_ code⟩⟩
    by_cases move : f = .mov
    · subst move
      simpa [GOp.encodable] using vfld_eq_iff.mpr (one.resolve_left fun other => other code)
    · simp [GOp.encodable, move]
  case h_2 =>
    obtain ⟨f, code, b, hb, rfl⟩ := h
    obtain ⟨second, form⟩ := srcForm_of_bfld hb 0x2C
    obtain ⟨r, _, rfl⟩ := Option.map_eq_some_iff.mp hb
    exact ⟨by simp [GOp.encodable], Spelled.word ⟨op.trans form, fld_eq_vfld w 21, fld_eq_vfld w 16, second, guarded_ code⟩⟩
  case h_3 | h_4 =>
    obtain ⟨zero, c, code, pd, hd, b, hb, rfl⟩ := h
    obtain ⟨second, form⟩ := srcForm_of_bfld hb 0x2E
    exact ⟨rfl, Spelled.word ⟨op.trans form, hd, fld_eq_vfld w 16, second, guarded_ (by omega)⟩⟩
  case h_6 | h_7 =>
    obtain ⟨f, code, ad, hd, b, hb, rfl⟩ := h
    obtain ⟨second, form⟩ := srcForm_of_bfld hb 0x31
    exact ⟨rfl, Spelled.word ⟨op.trans form, hd, fld_eq_vfld w 16, second, guarded_ code⟩⟩
  case h_5 =>
    obtain ⟨⟨⟨hb, zero⟩, legal⟩, ra, ha, rfl⟩ := h
    have parts : fld w 0 11 = fld w 0 5 + 2 ^ 5 * fld w 5 1 + 2 ^ 6 * fld w 6 4 + 2 ^ 10 * fld w 10 1 := by
      rw [fld_add w 0 10 1, fld_add w 0 6 4, fld_add w 0 5 1]
    refine ⟨legal, Spelled.word ⟨op, fld_eq_vfld w 21, ha, hb, ?_⟩⟩
    rw [toNat_ofNat_fld, toNat_ofNat_fld, flag_val]; omega
  case h_11 =>
    obtain ⟨zero, rfl⟩ := h
    have parts : fld w 0 21 = fld w 0 16 + 2 ^ 16 * fld w 16 3 + 2 ^ 19 * fld w 19 2 := by
      rw [fld_add w 0 19 2, fld_add w 0 16 3]
    have mask : (Fin.ofNat 8 (fld w 16 3)).val = fld w 16 3 := Nat.mod_eq_of_lt (Nat.mod_lt _ (by decide))
    have word : SpelledWide w 0x36 (vfld w 21) ((Fin.ofNat 8 (fld w 16 3)).val * 2 ^ 16 + fld w 0 16) :=
      ⟨op, fld_eq_vfld w 21, by rw [mask]; omega⟩
    refine ⟨rfl, Eq.trans ?_ word.word⟩
    rw [encodeWord, toNat_ofNat_fld, Nat.add_assoc]
end Sys2Proof.Machine
end

section
/-!
Decoding inverts encoding (R214 to R229), and the statement about words and instructions. The proofs unfold the two decoders one
after the other: at once their threads would need more memory than the check gives.
-/
set_option Elab.async false

namespace Sys2Proof.Machine

theorem ofNat_fld {w : Word} {lo n : Nat} {i : BitVec n} (h : fld w lo n = i.toNat) : BitVec.ofNat n (fld w lo n) = i := by
  rw [h, BitVec.ofNat_toNat, BitVec.setWidth_eq]

theorem guarded_lt (p : Fin 8) {f : Nat} (small : f < 256) : guarded p f < 2048 := by unfold guarded; omega

section
variable {w : Word} {op rd ra rb : Nat} {p : Fin 8} {f : Nat} (h : Spelled w op rd ra rb (guarded p f)) (small : f < 256)
include h small
theorem Spelled.gfld : gfld w = p := ((low_eq_guarded_iff small).mp h.lo).1
theorem Spelled.code : fld w 0 8 = f := ((low_eq_guarded_iff small).mp h.lo).2
end

theorem spelled_srcForm (b : VSrc) (p : Fin 8) {op rd ra f : Nat} (small : f < 256) (hop : op < 63 := by omega)
    (hd : rd < 32 := by omega) (ha : ra < 32 := by omega) :
    Spelled (wordOf (srcForm op b).1 rd ra (srcForm op b).2 (guarded p f)) (srcForm op b).1 rd ra (srcForm op b).2 (guarded p f) := by
  cases b with
  | vec r => exact spelled_wordOf (hop := Nat.lt_succ_of_lt hop) (hb := r.isLt) (hl := guarded_lt p small)
  | scalar r => exact spelled_wordOf (hop := Nat.succ_lt_succ hop) (hb := r.isLt.trans (by decide)) (hl := guarded_lt p small)

theorem decode_alu (f : AluOp) (rd ra rb : Fin 16) : decodeWord (encodeWord (.alu f rd ra rb)) = some (.alu f rd ra rb) := by
  have small : f.code < 17 := by cases f <;> decide
  have h : Spelled (encodeWord (.alu f rd ra rb)) 0 rd ra rb f.code := spelled_wordOf
  have code : fld (encodeWord (.alu f rd ra rb)) 0 6 = f.code := by rw [h.low (by decide)]; omega
  have zero : fld (encodeWord (.alu f rd ra rb)) 6 5 = 0 := by rw [h.low (by decide)]; omega
  simp [decodeWord, decodeScalar, Option.bind_eq_some_iff, h.op, h.rd, h.ra, h.rb, code, zero]

theorem decode_imm (f : AluOp) (rd ra : Fin 16) (i : BitVec 11) (form : f.immCode ≠ 0) :
    decodeWord (encodeWord (.imm f rd ra i)) = some (.imm f rd ra i) := by
  have small : f.immCode < 64 := by cases f <;> decide
  have h : Spelled (encodeWord (.imm f rd ra i)) f.immCode rd ra 0 i.toNat := spelled_wordOf
  cases f
  case add | and | or | xor | slt | sltu =>
    simp [decodeWord, decodeScalar, Option.bind_eq_some_iff, h.op, AluOp.immCode, h.rd, h.ra, h.rb, ofNat_fld h.lo]
  all_goals exact absurd rfl form

theorem decode_shift (f : AluOp) (rd ra : Fin 16) (sh : BitVec 5) (form : f.shiftCode ≠ 0) :
    decodeWord (encodeWord (.shift f rd ra sh)) = some (.shift f rd ra sh) := by
  have small : f.shiftCode < 64 := by cases f <;> decide
  have h : Spelled (encodeWord (.shift f rd ra sh)) f.shiftCode rd ra 0 sh.toNat := spelled_wordOf
  have amount : fld (encodeWord (.shift f rd ra sh)) 0 5 = sh.toNat := by rw [h.low (by decide)]; omega
  have zero : fld (encodeWord (.shift f rd ra sh)) 5 6 = 0 := by rw [h.low (by decide)]; omega
  cases f
  case sll | srl | sra =>
    simp [decodeWord, decodeScalar, Option.bind_eq_some_iff, h.op, AluOp.shiftCode, h.rd, h.ra, h.rb, ofNat_fld amount, zero]
  all_goals exact absurd rfl form

theorem decode_branch (c : BrCond) (ra rb : Fin 16) (i : BitVec 11) :
    decodeWord (encodeWord (.branch c ra rb i)) = some (.branch c ra rb i) := by
  have small : c.code < 64 := by cases c <;> decide
  have h : Spelled (encodeWord (.branch c ra rb i)) c.code 0 ra rb i.toNat := spelled_wordOf
  cases c <;> simp [decodeWord, decodeScalar, Option.bind_eq_some_iff, h.op, BrCond.code, h.rd, h.ra, h.rb, ofNat_fld h.lo, brConds]

theorem decode_load (k : MemOp) (rd ra : Fin 16) (i : BitVec 11) :
    decodeWord (encodeWord (.load k rd ra i)) = some (.load k rd ra i) := by
  have small : k.loadCode < 64 := by cases k <;> decide
  have h : Spelled (encodeWord (.load k rd ra i)) k.loadCode rd ra 0 i.toNat := spelled_wordOf
  cases k <;> simp [decodeWord, decodeScalar, Option.bind_eq_some_iff, h.op, MemOp.loadCode, h.rd, h.ra, h.rb, ofNat_fld h.lo]

theorem decode_store (k : MemOp) (rs ra : Fin 16) (i : BitVec 11) (form : k.storeCode ≠ 0) :
    decodeWord (encodeWord (.store k rs ra i)) = some (.store k rs ra i) := by
  have small : k.storeCode < 64 := by cases k <;> decide
  have h : Spelled (encodeWord (.store k rs ra i)) k.storeCode 0 ra rs i.toNat := spelled_wordOf
  cases k
  case w | h | b =>
    simp [decodeWord, decodeScalar, Option.bind_eq_some_iff, h.op, MemOp.storeCode, h.rd, h.ra, h.rb, ofNat_fld h.lo]
  all_goals exact absurd rfl form

theorem decode_valu (f : VOp) (vd va : Fin 32) (b : VSrc) (p : Fin 8) (form : (GOp.valu f vd va b p).encodable = true) :
    decodeWord (encodeWord (.valu f vd va b p)) = some (.valu f vd va b p) := by
  have small : f.code < 256 := by cases f <;> decide
  cases b with
  | vec r =>
    have h : Spelled (encodeWord (.valu f vd va (.vec r) p)) 0x2C vd va r (guarded p f.code) :=
      spelled_srcForm (.vec r) p small
    have move : f.code = 23 → r = 0 := by cases f <;> simp_all [GOp.encodable, VOp.code]
    simp [decodeWord, decodeVector, Option.bind_eq_some_iff, h.op, h.rd, h.ra, h.rb, h.gfld small, h.code small,
      vfld_eq_iff, ← imp_iff_not_or]
    exact move
  | scalar r =>
    have h : Spelled (encodeWord (.valu f vd va (.scalar r) p)) 0x2D vd va r (guarded p f.code) :=
      spelled_srcForm (.scalar r) p small
    simp [decodeWord, decodeVector, Option.bind_eq_some_iff, h.op, h.rd, h.ra, h.rb, h.gfld small, h.code small, bfld, vfld_eq_iff]

theorem decode_vcmp (c : VCond) (pd : Fin 8) (va : Fin 32) (b : VSrc) (g : Fin 8) :
    decodeWord (encodeWord (.vcmp c pd va b g)) = some (.vcmp c pd va b g) := by
  have small : c.code < 16 := by cases c <;> decide
  have h : Spelled (encodeWord (.vcmp c pd va b g)) (srcForm 0x2E b).1 pd va (srcForm 0x2E b).2 (guarded g c.code) :=
    spelled_srcForm b g (by omega)
  have code : fld (encodeWord (.vcmp c pd va b g)) 0 4 = c.code := by rw [h.low (by decide), guarded]; omega
  have zero : fld (encodeWord (.vcmp c pd va b g)) 4 4 = 0 := by rw [h.low (by decide), guarded]; omega
  cases b <;> simp [decodeWord, decodeVector, Option.bind_eq_some_iff, h.op, srcForm, h.rd, h.ra, h.rb, code, zero,
    h.gfld (by omega), bfld, vfld_eq_iff]

theorem decode_mac (f : MacOp) (ad : Fin 4) (va : Fin 32) (b : VSrc) (p : Fin 8) :
    decodeWord (encodeWord (.mac f ad va b p)) = some (.mac f ad va b p) := by
  have small : f.code < 256 := by cases f <;> decide
  have h : Spelled (encodeWord (.mac f ad va b p)) (srcForm 0x31 b).1 ad va (srcForm 0x31 b).2 (guarded p f.code) :=
    spelled_srcForm b p small
  cases b <;> simp [decodeWord, decodeVector, Option.bind_eq_some_iff, h.op, srcForm, h.rd, h.ra, h.rb, h.code small,
    h.gfld small, bfld, vfld_eq_iff]

theorem decode_pred (f : POp) (pd pa pb : Fin 8) : decodeWord (encodeWord (.pred f pd pa pb)) = some (.pred f pd pa pb) := by
  have small : f.code < 4 := by cases f <;> decide
  have h : Spelled (encodeWord (.pred f pd pa pb)) 0x38 pd pa pb f.code := spelled_wordOf
  cases f <;> simp [decodeWord, decodeVector, Option.bind_eq_some_iff, h.op, h.rd, h.ra, h.rb, h.lo, POp.code]

theorem decode_red (f : RedOp) (sd : Fin 16) (va : Fin 32) (p : Fin 8) :
    decodeWord (encodeWord (.red f sd va p)) = some (.red f sd va p) := by
  have small : f.code < 6 := by cases f <;> decide
  have h : Spelled (encodeWord (.red f sd va p)) 0x34 sd va 0 (guarded p f.code) := spelled_wordOf (hl := guarded_lt p (by omega))
  simp [decodeWord, decodeVector, Option.bind_eq_some_iff, h.op, h.rd, h.ra, h.rb, h.code (by omega),
    h.gfld (by omega), vfld_eq_iff, small.ne]

theorem decode_loopi (count : BitVec 10) (n : BitVec 11) :
    decodeWord (encodeWord (.loopi count n)) = some (.loopi count n) := by
  have h : Spelled (encodeWord (.loopi count n)) 0x19 (count.toNat / 32) (count.toNat % 32) 0 n.toNat :=
    (congrArg (Spelled · 0x19 (count.toNat / 32) (count.toNat % 32) 0 n.toNat) (wordOf_count ..)).mpr spelled_wordOf
  generalize encodeWord (.loopi count n) = w at h ⊢
  have counts : fld w 16 10 = count.toNat := by
    rw [fld_add _ 16 5 5, h.ra, h.rd]; omega
  simp [decodeWord, decodeScalar, h.op, h.rb, ofNat_fld h.lo, ofNat_fld counts]

theorem decode_wld (vd : Fin 32) (sa : Fin 16) (sec : Bool) (off : BitVec 4) (sh : BitVec 5) (legal : legalOff off = true) :
    decodeWord (encodeWord (.wld vd sa sec off sh)) = some (.wld vd sa sec off sh) := by
  have h : Spelled (encodeWord (.wld vd sa sec off sh)) 0x30 vd sa 0 ((if sec then 1024 else 0) + 64 * off.toNat + sh.toNat) :=
    spelled_wordOf (hl := by split <;> omega)
  generalize encodeWord (.wld vd sa sec off sh) = w at h ⊢
  have shift : fld w 0 5 = sh.toNat := by rw [h.low (by decide)]; split <;> omega
  have zero : fld w 5 1 = 0 := by rw [h.low (by decide)]; split <;> omega
  have offset : fld w 6 4 = off.toNat := by rw [h.low (by decide)]; split <;> omega
  have second : decide (fld w 10 1 = 1) = sec := by
    rw [h.low (by decide)]; cases sec <;> simp <;> omega
  simp [decodeWord, decodeVector, Option.bind_eq_some_iff, h.op, h.rd, h.ra, h.rb, zero, ofNat_fld shift, ofNat_fld offset,
    legal, second, vfld_eq_iff]

theorem decode_vrnd (signed : Bool) (vd : Fin 32) (ad : Fin 4) (sh : BitVec 5) (p : Fin 8) :
    decodeWord (encodeWord (.vrnd signed vd ad sh p)) = some (.vrnd signed vd ad sh p) := by
  have small : (if signed then 2 else 1) < 256 := by split <;> decide
  have h : Spelled (encodeWord (.vrnd signed vd ad sh p)) 0x33 vd ad sh.toNat (guarded p (if signed then 2 else 1)) :=
    spelled_wordOf (hl := guarded_lt p small)
  generalize encodeWord (.vrnd signed vd ad sh p) = w at h ⊢
  cases signed <;> simp [decodeWord, decodeVector, Option.bind_eq_some_iff, h.op, h.rd, h.ra, ofNat_fld h.rb, h.gfld small,
    h.code small, vfld_eq_iff]

theorem decode_vtoa (signed : Bool) (ad : Fin 4) (va : Fin 32) (p : Fin 8) :
    decodeWord (encodeWord (.vtoa signed ad va p)) = some (.vtoa signed ad va p) := by
  have small : (if signed then 4 else 3) < 256 := by split <;> decide
  have h : Spelled (encodeWord (.vtoa signed ad va p)) 0x33 ad va 0 (guarded p (if signed then 4 else 3)) :=
    spelled_wordOf (hl := guarded_lt p small)
  generalize encodeWord (.vtoa signed ad va p) = w at h ⊢
  cases signed <;> simp [decodeWord, decodeVector, Option.bind_eq_some_iff, h.op, h.rd, h.ra, h.rb, h.gfld small,
    h.code small, vfld_eq_iff]

theorem decode_vperm (vd va vb : Fin 32) (p : Fin 8) :
    decodeWord (encodeWord (.vperm vd va vb p)) = some (.vperm vd va vb p) := by
  have h : Spelled (encodeWord (.vperm vd va vb p)) 0x35 vd va vb (guarded p 0) := spelled_wordOf (hl := guarded_lt p (by omega))
  generalize encodeWord (.vperm vd va vb p) = w at h ⊢
  have code : fld w 0 4 = 0 := by rw [h.low (by decide), guarded]; omega
  have number : fld w 4 4 = 0 := by rw [h.low (by decide), guarded]; omega
  simp [decodeWord, decodeVector, h.op, h.rd, h.ra, h.rb, code, number, h.gfld (by omega), vfld_eq_iff]

theorem decode_vslide (vd va vb : Fin 32) (k : Fin 16) (p : Fin 8) :
    decodeWord (encodeWord (.vslide vd va vb k p)) = some (.vslide vd va vb k p) := by
  have h : Spelled (encodeWord (.vslide vd va vb k p)) 0x35 vd va vb (guarded p (16 * k + 1)) :=
      spelled_wordOf (hl := guarded_lt p (by omega))
  generalize encodeWord (.vslide vd va vb k p) = w at h ⊢
  have code : fld w 0 4 = 1 := by rw [h.low (by decide), guarded]; omega
  have number : fld w 4 4 = k := by rw [h.low (by decide), guarded]; omega
  simp [decodeWord, decodeVector, h.op, h.rd, h.ra, h.rb, code, number, h.gfld (by omega), vfld_eq_iff]

theorem decode_vext (sd : Fin 16) (va : Fin 32) (k : Fin 16) :
    decodeWord (encodeWord (.vext sd va k)) = some (.vext sd va k) := by
  have h : Spelled (encodeWord (.vext sd va k)) 0x35 sd va 0 (16 * k + 2) := spelled_wordOf
  generalize encodeWord (.vext sd va k) = w at h ⊢
  have code : fld w 0 4 = 2 := by rw [h.low (by decide)]; omega
  have number : fld w 4 4 = k := by rw [h.low (by decide)]; omega
  have zero : fld w 8 3 = 0 := by rw [h.low (by decide)]; omega
  simp [decodeWord, decodeVector, Option.bind_eq_some_iff, h.op, h.rd, h.ra, h.rb, code, number, zero, vfld_eq_iff]

theorem decode_vins (vd : Fin 32) (sa : Fin 16) (k : Fin 16) :
    decodeWord (encodeWord (.vins vd sa k)) = some (.vins vd sa k) := by
  have h : Spelled (encodeWord (.vins vd sa k)) 0x35 vd sa 0 (16 * k + 3) := spelled_wordOf
  generalize encodeWord (.vins vd sa k) = w at h ⊢
  have code : fld w 0 4 = 3 := by rw [h.low (by decide)]; omega
  have number : fld w 4 4 = k := by rw [h.low (by decide)]; omega
  have zero : fld w 8 3 = 0 := by rw [h.low (by decide)]; omega
  simp [decodeWord, decodeVector, Option.bind_eq_some_iff, h.op, h.rd, h.ra, h.rb, code, number, zero, vfld_eq_iff]

theorem decode_vsplat (vd : Fin 32) (sa : Fin 16) (p : Fin 8) :
    decodeWord (encodeWord (.vsplat vd sa p)) = some (.vsplat vd sa p) := by
  have h : Spelled (encodeWord (.vsplat vd sa p)) 0x35 vd sa 0 (guarded p 4) := spelled_wordOf (hl := guarded_lt p (by omega))
  generalize encodeWord (.vsplat vd sa p) = w at h ⊢
  have code : fld w 0 4 = 4 := by rw [h.low (by decide), guarded]; omega
  have number : fld w 4 4 = 0 := by rw [h.low (by decide), guarded]; omega
  simp [decodeWord, decodeVector, Option.bind_eq_some_iff, h.op, h.rd, h.ra, h.rb, code, number, h.gfld (by omega), vfld_eq_iff]

theorem decode_vrev (vd : Fin 32) (va : Fin 32) (p : Fin 8) :
    decodeWord (encodeWord (.vrev vd va p)) = some (.vrev vd va p) := by
  have h : Spelled (encodeWord (.vrev vd va p)) 0x35 vd va 0 (guarded p 5) := spelled_wordOf (hl := guarded_lt p (by omega))
  generalize encodeWord (.vrev vd va p) = w at h ⊢
  have code : fld w 0 4 = 5 := by rw [h.low (by decide), guarded]; omega
  have number : fld w 4 4 = 0 := by rw [h.low (by decide), guarded]; omega
  simp [decodeWord, decodeVector, h.op, h.rd, h.ra, h.rb, code, number, h.gfld (by omega), vfld_eq_iff]

theorem decode_vsplati (vd : Fin 32) (i : Half) (p : Fin 8) :
    decodeWord (encodeWord (.vsplati vd i p)) = some (.vsplati vd i p) := by
  have h : SpelledWide (encodeWord (.vsplati vd i p)) 0x36 vd (p * 2 ^ 16 + i.toNat) := by
    rw [encodeWord, Nat.add_assoc]; exact spelledWide_ofNat
  generalize encodeWord (.vsplati vd i p) = w at h ⊢
  have value : fld w 0 16 = i.toNat := by
    rw [← Nat.add_zero 0, fld_fld _ (m := 21) (by decide), h.n]; omega
  have mask : fld w 16 3 = p := by
    rw [← Nat.zero_add 16, fld_fld _ (m := 21) (by decide), h.n]; omega
  have zero : fld w 19 2 = 0 := by
    rw [← Nat.zero_add 19, fld_fld _ (m := 21) (by decide), h.n]; omega
  simp [decodeWord, decodeVector, h.op, h.rd, ofNat_fld value, mask, zero, vfld_eq_iff]

theorem decode_vput (vs : Fin 32) (sq : Fin 16) (o : Bool) (p : Fin 8) :
    decodeWord (encodeWord (.vput vs sq o p)) = some (.vput vs sq o p) := by
  have h : Spelled (encodeWord (.vput vs sq o p)) 0x3C vs sq (if o then 1 else 0) (guarded p 0) :=
    spelled_wordOf (hb := by split <;> decide) (hl := guarded_lt p (by decide))
  generalize encodeWord (.vput vs sq o p) = w at h ⊢
  have second : decide (fld w 11 1 = 1) = o := by
    rw [← Nat.add_zero 11, fld_fld _ (m := 5) (by decide), h.rb]; cases o <;> rfl
  have zero : fld w 12 4 = 0 := by
    rw [show 12 = 11 + 1 from rfl, fld_fld _ (m := 5) (by decide), h.rb]; cases o <;> rfl
  simp [decodeWord, decodeVector, Option.bind_eq_some_iff, h.op, h.rd, h.ra, h.gfld (by decide), h.code (by decide), second, zero,
    vfld_eq_iff]

theorem decode_cemit (vf : Fin 32) (sa sb : Fin 16) :
    decodeWord (encodeWord (.cemit vf sa sb)) = some (.cemit vf sa sb) := by
  have h : Spelled (encodeWord (.cemit vf sa sb)) 0x3C vf sa sb 1 := spelled_wordOf
  generalize encodeWord (.cemit vf sa sb) = w at h ⊢
  have code : fld w 0 8 = 1 := h.low (by decide)
  have zero : fld w 8 3 = 0 := h.low (by decide)
  simp [decodeWord, decodeVector, Option.bind_eq_some_iff, h.op, h.rd, h.ra, h.rb, code, zero, vfld_eq_iff]

/-- The word of an instruction decodes to it. -/
theorem decodeWord_encodeWord (op : GOp) (carried : op.encodable = true) : decodeWord (encodeWord op) = some op := by
  cases op with
  | alu f rd ra rb => exact decode_alu f rd ra rb
  | imm f rd ra i => exact decode_imm f rd ra i (of_decide_eq_true carried)
  | shift f rd ra sh => exact decode_shift f rd ra sh (of_decide_eq_true carried)
  | branch c ra rb i => exact decode_branch c ra rb i
  | load k rd ra i => exact decode_load k rd ra i
  | store k rs ra i => exact decode_store k rs ra i (of_decide_eq_true carried)
  | valu f vd va b p => exact decode_valu f vd va b p carried
  | vcmp c pd va b g => exact decode_vcmp c pd va b g
  | mac f ad va b p => exact decode_mac f ad va b p
  | pred f pd pa pb => exact decode_pred f pd pa pb
  | red f sd va p => exact decode_red f sd va p
  | lui rd i =>
    have h : SpelledWide (encodeWord (.lui rd i)) 0x0A rd i.toNat := spelledWide_ofNat
    simp [decodeWord, decodeScalar, Option.bind_eq_some_iff, h.op, h.rd, ofNat_fld h.n]
  | jal rd i =>
    have h : SpelledWide (encodeWord (.jal rd i)) 0x16 rd i.toNat := spelledWide_ofNat
    simp [decodeWord, decodeScalar, Option.bind_eq_some_iff, h.op, h.rd, ofNat_fld h.n]
  | jalr rd ra i =>
    have h : Spelled (encodeWord (.jalr rd ra i)) 0x17 rd ra 0 i.toNat := spelled_wordOf
    simp [decodeWord, decodeScalar, Option.bind_eq_some_iff, h.op, h.rd, h.ra, h.rb, ofNat_fld h.lo]
  | loop ra n =>
    have h : Spelled (encodeWord (.loop ra n)) 0x18 0 ra 0 n.toNat := spelled_wordOf
    simp [decodeWord, decodeScalar, Option.bind_eq_some_iff, h.op, h.rd, h.ra, h.rb, ofNat_fld h.lo]
  | loopi count n => exact decode_loopi count n
  | vld vd ra i =>
    have h : Spelled (encodeWord (.vld vd ra i)) 0x28 vd ra 0 i.toNat := spelled_wordOf
    simp [decodeWord, decodeScalar, Option.bind_eq_some_iff, h.op, h.rd, h.ra, h.rb, ofNat_fld h.lo, vfld_eq_iff]
  | vst vs ra i =>
    have h : Spelled (encodeWord (.vst vs ra i)) 0x29 0 ra vs i.toNat := spelled_wordOf
    simp [decodeWord, decodeScalar, Option.bind_eq_some_iff, h.op, h.rd, h.ra, h.rb, ofNat_fld h.lo, vfld_eq_iff]
  | wld vd sa sec off sh => exact decode_wld vd sa sec off sh carried
  | aclr ad p =>
    have h : Spelled (encodeWord (.aclr ad p)) 0x33 ad 0 0 (guarded p 0) := spelled_wordOf (hl := guarded_lt p (by decide))
    simp [decodeWord, decodeVector, Option.bind_eq_some_iff, h.op, h.rd, h.ra, h.rb, h.gfld (by decide), h.code (by decide)]
  | vrnd signed vd ad sh p => exact decode_vrnd signed vd ad sh p
  | vtoa signed ad va p => exact decode_vtoa signed ad va p
  | vrsuma sd ad p =>
    have h : Spelled (encodeWord (.vrsuma sd ad p)) 0x34 sd ad 0 (guarded p 6) := spelled_wordOf (hl := guarded_lt p (by decide))
    simp [decodeWord, decodeVector, Option.bind_eq_some_iff, h.op, h.rd, h.ra, h.rb, h.gfld (by decide), h.code (by decide)]
  | vperm vd va vb p => exact decode_vperm vd va vb p
  | vslide vd va vb k p => exact decode_vslide vd va vb k p
  | vext sd va k => exact decode_vext sd va k
  | vins vd sa k => exact decode_vins vd sa k
  | vsplat vd sa p => exact decode_vsplat vd sa p
  | vrev vd va p => exact decode_vrev vd va p
  | vsplati vd i p => exact decode_vsplati vd i p
  | pnot pd pa =>
    have h : Spelled (encodeWord (.pnot pd pa)) 0x38 pd pa 0 4 := spelled_wordOf
    simp [decodeWord, decodeVector, Option.bind_eq_some_iff, h.op, h.rd, h.ra, h.rb, h.lo]
  | mtp pd sa =>
    have h : Spelled (encodeWord (.mtp pd sa)) 0x38 pd sa 0 5 := spelled_wordOf
    simp [decodeWord, decodeVector, Option.bind_eq_some_iff, h.op, h.rd, h.ra, h.rb, h.lo]
  | mfp sd pa =>
    have h : Spelled (encodeWord (.mfp sd pa)) 0x38 sd pa 0 6 := spelled_wordOf
    simp [decodeWord, decodeVector, Option.bind_eq_some_iff, h.op, h.rd, h.ra, h.rb, h.lo]
  | pcnt sd pa =>
    have h : Spelled (encodeWord (.pcnt sd pa)) 0x38 sd pa 0 7 := spelled_wordOf
    simp [decodeWord, decodeVector, Option.bind_eq_some_iff, h.op, h.rd, h.ra, h.rb, h.lo]
  | pfirst sd pa =>
    have h : Spelled (encodeWord (.pfirst sd pa)) 0x38 sd pa 0 8 := spelled_wordOf
    simp [decodeWord, decodeVector, Option.bind_eq_some_iff, h.op, h.rd, h.ra, h.rb, h.lo]
  | plast sd pa =>
    have h : Spelled (encodeWord (.plast sd pa)) 0x38 sd pa 0 9 := spelled_wordOf
    simp [decodeWord, decodeVector, Option.bind_eq_some_iff, h.op, h.rd, h.ra, h.rb, h.lo]
  | vput vs sq o p => exact decode_vput vs sq o p
  | cemit vf sa sb => exact decode_cemit vf sa sb
  | nop | waitline | halt | brk | fence => rfl
  | mfs sd n =>
    have h : Spelled (encodeWord (.mfs sd n)) 0x3F sd n.toNat 0 8 := spelled_wordOf
    have exists_ : n.toNat ≤ 5 := of_decide_eq_true carried
    simp [decodeWord, decodeVector, Option.bind_eq_some_iff, h.op, h.rd, h.ra, h.rb, h.lo, exists_]
  | mts n sa =>
    obtain rfl : n = 0 := of_decide_eq_true carried
    have h : Spelled (encodeWord (.mts 0 sa)) 0x3F 0 sa 0 9 := spelled_wordOf
    generalize encodeWord (.mts 0 sa) = w at h ⊢
    simp [decodeWord, decodeVector, Option.bind_eq_some_iff, h.op, h.rd, h.ra, h.rb, h.lo]

/-- Settles O5: a word is its five fields, and the decoder's choice of the fields is the encoder's. -/
theorem wordsAndInstructionsAgree : Obligations.WordsAndInstructionsAgree := by
  unfold Obligations.WordsAndInstructionsAgree
  refine ⟨decodeWord_encodeWord, fun w op decoded => ?_, by decide⟩
  unfold decodeWord at decoded
  split at decoded
  · exact encodeWord_of_decodeScalar decoded
  · exact encodeWord_of_decodeVector decoded

end Sys2Proof.Machine
end

section
/-!
The Grixis engines' scalar instructions (R215, R216): what their operations are as arithmetic, and the statements.
-/
namespace Sys2Proof.Machine
open Sys2Proof.Safety

/-! ### Word operations as arithmetic -/

section
variable {w : Nat} (a b : BitVec w) (n : Nat)

theorem shiftLeft_eq_ofNat : a <<< n = BitVec.ofNat w (a.toNat * 2 ^ n) := by
  apply BitVec.eq_of_toNat_eq
  rw [BitVec.toNat_shiftLeft, Nat.shiftLeft_eq, BitVec.toNat_ofNat]

theorem ushiftRight_eq_ofNat : a >>> n = BitVec.ofNat w (a.toNat / 2 ^ n) := by
  apply BitVec.eq_of_toNat_eq
  rw [BitVec.toNat_ushiftRight, Nat.shiftRight_eq_div_pow, BitVec.toNat_ofNat,
    Nat.mod_eq_of_lt ((Nat.div_le_self ..).trans_lt a.isLt)]

theorem sshiftRight_eq_ofInt : a.sshiftRight n = BitVec.ofInt w (a.toInt / 2 ^ n) := by
  rw [BitVec.sshiftRight, Int.shiftRight_eq_div_pow]; norm_cast

theorem mul_eq_ofInt : a * b = BitVec.ofInt w (a.toInt * b.toInt) := by
  rw [BitVec.ofInt_mul, BitVec.ofInt_toInt, BitVec.ofInt_toInt]

/-- A choice between two values that agree where their keys do may decide by either order. -/
theorem ite_lt_eq_ite_le {α β : Type} [LinearOrder α] {i j : α} {x y : β} (agree : i = j → x = y) :
    (if i < j then x else y) = if i ≤ j then x else y := by
  rcases lt_trichotomy i j with h | h | h
  · rw [if_pos h, if_pos h.le]
  · rw [agree h, ite_self, ite_self]
  · rw [if_neg h.not_gt, if_neg h.not_ge]

theorem slt_min : (if a.slt b then a else b) = if a.toInt ≤ b.toInt then a else b := by
  simp only [BitVec.slt_iff_toInt_lt]; exact ite_lt_eq_ite_le BitVec.toInt_inj.mp

theorem slt_max : (if a.slt b then b else a) = if a.toInt ≤ b.toInt then b else a := by
  simp only [BitVec.slt_iff_toInt_lt]; exact ite_lt_eq_ite_le fun h => (BitVec.toInt_inj.mp h).symm

theorem ult_min : (if a.ult b then a else b) = if a.toNat ≤ b.toNat then a else b := by
  simp only [BitVec.ult_iff_toNat_lt]; exact ite_lt_eq_ite_le BitVec.toNat_inj.mp

theorem ult_max : (if a.ult b then b else a) = if a.toNat ≤ b.toNat then b else a := by
  simp only [BitVec.ult_iff_toNat_lt]; exact ite_lt_eq_ite_le fun h => (BitVec.toNat_inj.mp h).symm

end

theorem flagWord_slt (a b : Word) : flagWord (a.slt b) = if a.toInt < b.toInt then 1 else 0 := by
  simp only [flagWord, BitVec.slt_iff_toInt_lt]

theorem flagWord_ult (a b : Word) : flagWord (a.ult b) = if a.toNat < b.toNat then 1 else 0 := by
  simp only [flagWord, BitVec.ult_iff_toNat_lt]

/-! ### An instruction in sequence -/

section
variable {s : State} {e : Nat} {c : Instr} {op : GOp} {x : Engine} {cyc : Nat}

/-- A command whose instruction ends in sequence retires its registers. -/
theorem exec_seq (h : Executes s e) (command : exec c s = s.act (·.gExec e op))
    (done : (s.engine e).exec1 (s.gCfg e) op = .ok x cyc .seq) (pc : x.pc = (s.engine e).pc) (loops : x.loops = (s.engine e).loops) :
    exec c s = .next (s.settle (retired s e x cyc)) :=
  exec_acts (·.gExec e op) h.runs command (State.gExec_seq s e op x cyc h done pc loops)

/-- A command that writes a scalar register. -/
theorem exec_sset {rd : Fin 16} {y z : Word} (h : Executes s e) (command : exec c s = s.act (·.gExec e op))
    (done : (s.engine e).exec1 (s.gCfg e) op = .ok ((s.engine e).sset rd y) cyc .seq) (value : y = z) :
    exec c s = .next (s.settle (retired s e ((s.engine e).sset rd z) cyc)) :=
  value ▸ exec_seq h command done (Engine.sset_pc ..) (Engine.sset_loops ..)

end

/-! ### Scalar operations (R215) -/

/-- The words of opcode 0: registers, and a function code below the codes of the scalar operations. -/
theorem decodeWord_aluField (rd ra rb : Fin 16) {f : Nat} (small : f < 2048) :
    decodeWord (BitVec.ofNat 32 (rd * 2 ^ 21 + ra * 2 ^ 16 + rb * 2 ^ 11 + f)) = (aluOps[f]?).map fun o => GOp.alu o rd ra rb := by
  have word : BitVec.ofNat 32 (rd * 2 ^ 21 + ra * 2 ^ 16 + rb * 2 ^ 11 + f) = wordOf 0 rd ra rb f := by
    rw [wordOf, Nat.zero_mul, Nat.zero_add]
  rw [word]
  cases known : aluOps[f]? with
  | some o =>
    obtain rfl := aluOps_eq_some_iff.mp known
    exact decode_alu o rd ra rb
  | none =>
    have h : Spelled (wordOf 0 rd ra rb f) 0 rd ra rb f := spelled_wordOf
    generalize wordOf 0 rd ra rb f = w at h
    have parts : f = fld w 0 6 + 2 ^ 6 * fld w 6 5 := h.lo ▸ fld_add w 0 6 5
    by_cases zero : fld w 6 5 = 0
    · obtain rfl : f = fld w 0 6 := by omega
      simp [decodeWord, decodeScalar, h.op, onlyIf, known]
    · simp [decodeWord, decodeScalar, h.op, onlyIf, zero]

/-- Settles O15: each operation is its arithmetic on the two registers, and its function code is its place in the table. -/
theorem scalarOperationsWriteTheirResult : Obligations.ScalarOperationsWriteTheirResult := by
  unfold Obligations.ScalarOperationsWriteTheirResult
  intro s e rd ra rb h
  exact ⟨exec_sset h rfl rfl rfl, exec_sset h rfl rfl rfl, exec_sset h rfl rfl rfl, exec_sset h rfl rfl rfl, exec_sset h rfl rfl rfl,
    exec_sset h rfl rfl (shiftLeft_eq_ofNat ..), exec_sset h rfl rfl (ushiftRight_eq_ofNat ..),
    exec_sset h rfl rfl (sshiftRight_eq_ofInt ..), exec_sset h rfl rfl (flagWord_slt ..), exec_sset h rfl rfl (flagWord_ult ..),
    exec_sset h rfl rfl (slt_min ..), exec_sset h rfl rfl (slt_max ..), exec_sset h rfl rfl (ult_min ..),
    exec_sset h rfl rfl (ult_max ..), exec_sset h rfl rfl (mul_eq_ofInt ..), exec_sset h rfl rfl rfl, exec_sset h rfl rfl rfl,
    fun f small => decodeWord_aluField rd ra rb small⟩

/-! ### Immediate operations (R216) -/

theorem toNat_shiftAmount (sh : BitVec 5) : (sh.setWidth 32).toNat % 32 = sh.toNat := by
  rw [BitVec.toNat_setWidth_of_le (by decide)]; exact Nat.mod_eq_of_lt sh.isLt

/-- Settles O16: the operations are those of R215, on the immediate as it is extended. -/
theorem immediateOperationsWriteTheirResult : Obligations.ImmediateOperationsWriteTheirResult := by
  unfold Obligations.ImmediateOperationsWriteTheirResult
  intro s e rd ra imm sh up h
  have amount := toNat_shiftAmount sh
  refine ⟨exec_sset h rfl rfl rfl, exec_sset h rfl rfl rfl, exec_sset h rfl rfl rfl, exec_sset h rfl rfl rfl, ?slti,
    exec_sset h rfl rfl (flagWord_ult ..), ?_, ?_, ?_, ?lui⟩
  case slti =>
    have extended : (imm.signExtend 32).toInt = imm.toInt := BitVec.toInt_signExtend_of_le (by decide)
    exact exec_sset h rfl rfl (extended ▸ flagWord_slt _ (imm.signExtend 32))
  case lui =>
    refine exec_sset h rfl rfl ((shiftLeft_eq_ofNat ..).trans ?_)
    rw [BitVec.toNat_setWidth_of_le (by decide)]
  · exact exec_sset h rfl rfl (amount ▸ shiftLeft_eq_ofNat ..)
  · exact exec_sset h rfl rfl (amount ▸ ushiftRight_eq_ofNat ..)
  · exact exec_sset h rfl rfl (amount ▸ sshiftRight_eq_ofInt ..)

end Sys2Proof.Machine
end

section
/-!
Control of the Grixis engines (R217, R218): branches, jumps and loops.
-/
namespace Sys2Proof.Machine
open Sys2Proof.Safety

/-! ### Branches and jumps (R217) -/

section
variable {s : State} {e : Nat} {c : Instr} {op : GOp} {x : Engine} {cyc : Nat}

/-- A command whose instruction jumps inside the image. -/
theorem exec_jump {t : Nat} (alive : s.alive = true) (runs : s.gRuns e = true) (command : exec c s = s.act (·.gExec e op))
    (done : (s.engine e).exec1 (s.gCfg e) op = .ok x cyc (.jump t)) (inside : t < s.codeWords)
    (loops : x.loops = (s.engine e).loops) :
    exec c s = .next (s.settle (jumped s e x t (popLoops t (s.engine e).loops) cyc)) :=
  exec_acts (·.gExec e op) alive command (State.gExec_jump s e op x cyc t runs done inside loops)

/-- A branch goes on in sequence, or to its target where its condition holds. -/
theorem exec_branch {k : BrCond} {ra rb : Fin 16} {i : BitVec 11} {taken : Prop} (alive : s.alive = true) (runs : s.gRuns e = true)
    (command : exec c s = s.act (·.gExec e (.branch k ra rb i)))
    (condition : k.taken ((s.engine e).sget ra) ((s.engine e).sget rb) = true ↔ taken) :
    (¬ taken → Executes s e → exec c s = .next (s.settle (retired s e (s.engine e) 1)))
    ∧ (taken → relTarget (s.engine e).pc i.toInt < s.codeWords → exec c s = .next (s.settle (jumped s e (s.engine e)
        (relTarget (s.engine e).pc i.toInt) (popLoops (relTarget (s.engine e).pc i.toInt) (s.engine e).loops) 2))) := by
  refine ⟨fun stays h => ?_, fun goes inside => ?_⟩
  · exact exec_seq h command (by rw [Engine.exec1, if_neg (condition.not.mpr stays)]) rfl rfl
  · exact exec_jump alive runs command (by rw [Engine.exec1, if_pos (condition.mpr goes)]) inside rfl

end

/-- Settles O17: a branch jumps when its condition holds, and the two jumps always do. -/
theorem branchesAndJumpsContinueAtTheirTarget : Obligations.BranchesAndJumpsContinueAtTheirTarget := by
  unfold Obligations.BranchesAndJumpsContinueAtTheirTarget
  intro s e rd ra rb imm far alive runs
  refine ⟨exec_branch alive runs rfl ?_, exec_branch alive runs rfl ?_, exec_branch alive runs rfl ?_,
    exec_branch alive runs rfl ?_, exec_branch alive runs rfl ?_, exec_branch alive runs rfl ?_, fun inside => ?_, fun inside => ?_⟩
  · exact beq_iff_eq
  · exact bne_iff_ne
  · exact BitVec.slt_iff_toInt_lt
  · simp [BrCond.taken, BitVec.slt_eq_decide]
  · exact BitVec.ult_iff_toNat_lt
  · simp [BrCond.taken, BitVec.ult_eq_decide]
  · exact exec_jump alive runs rfl rfl inside (Engine.sset_loops ..)
  · exact exec_jump alive runs rfl rfl inside (Engine.sset_loops ..)

/-! ### Loops (R218) -/

section
variable {s : State} {e : Nat} {op : GOp} {x : Engine} {cyc : Nat} {next : GNext}

/-- An instruction that goes past a loop's body, or into it, inside the image. -/
theorem State.gExec_loop (runs : s.gRuns e = true) (done : (s.engine e).exec1 (s.gCfg e) op = .ok x cyc next)
    (loops : next = .enter ∨ ∃ t, next = .skip t) (inside : (x.target next).1 < s.codeWords) :
    s.gExec e op = jumped s e x (x.target next).1 (x.target next).2 cyc := by
  have going : ¬ (decide (s.codeWords ≤ (x.target next).1) && decide (next ≠ .halt)) = true := by simp; omega
  unfold State.gExec State.gDo
  simp only [runs, if_true, done]
  rw [if_neg going]
  obtain rfl | ⟨t, rfl⟩ := loops <;> rfl

/-- A loop's body that passes the checks: it is not empty, its last word may end it, and it lies in the enclosing loop's body and in
the image. -/
structure LoopBody (en : Engine) (words n : Nat) : Prop where
  nonempty : n ≠ 0
  ends : badLast ((mapGet en.imem (en.pc + n)).getD 0) = false
  nested : ∀ l ∈ en.loops.head?, en.pc + n ≤ l.last
  inside : en.pc + n < words

theorem LoopBody.loopCheck {en : Engine} {words n : Nat} (body : LoopBody en words n) {push : Bool}
    (room : push = true → en.loops.length < 2) : en.loopCheck words n push = none := by
  unfold Engine.loopCheck
  dsimp only
  split_ifs with empty ends crosses outside deep
  · exact absurd empty body.nonempty
  · exact absurd (body.ends.symm.trans ends) (by decide)
  · cases held : en.loops with
    | nil => rw [held] at crosses; cases crosses
    | cons l t =>
      rw [held] at crosses
      exact absurd (of_decide_eq_true crosses) (body.nested l (held ▸ rfl)).not_gt
  · exact absurd outside body.inside.not_ge
  · obtain ⟨push, full⟩ := Bool.and_eq_true_iff.mp deep
    exact absurd (of_decide_eq_true full) (room push).not_ge
  · rfl

theorem LoopBody.loop_enters {en : Engine} {c : GCfg} {count n : Nat} (body : LoopBody en c.codeWords n) (some : count ≠ 0)
    (room : en.loops.length < 2) : en.loop c count n =
      .ok { en with loops := { first := en.pc + 1, last := en.pc + n, left := count } :: en.loops } 2 .enter := by
  rw [Engine.loop, body.loopCheck fun _ => room]
  exact if_neg some

theorem LoopBody.loop_skips {en : Engine} {c : GCfg} {n : Nat} (body : LoopBody en c.codeWords n) :
    en.loop c 0 n = .ok en 2 (.skip (en.pc + n + 1)) := by
  rw [Engine.loop, body.loopCheck fun push => absurd rfl (of_decide_eq_true push)]
  exact if_pos rfl

/-- A loop whose body passes the checks enters it, or skips it when its count is 0. -/
theorem exec_loop {c : Instr} {count n : Nat} (alive : s.alive = true) (runs : s.gRuns e = true)
    (command : exec c s = s.act (·.gExec e op)) (loop : (s.engine e).exec1 (s.gCfg e) op = (s.engine e).loop (s.gCfg e) count n)
    (body : LoopBody (s.engine e) s.codeWords n) :
    let en := s.engine e
    let last := en.pc + n
    (count ≠ 0 → en.loops.length < 2 → exec c s = .next (s.settle
        (jumped s e en (en.pc + 1) ({ first := en.pc + 1, last := last, left := count } :: en.loops) 2)))
    ∧ (count = 0 → last + 1 < s.codeWords → exec c s = .next (s.settle (jumped s e en (last + 1) en.loops 2))) := by
  intro en last
  refine ⟨fun some room => ?_, fun none inside => ?_⟩
  · have first : en.pc + 1 < s.codeWords := (Nat.add_le_add_left (Nat.pos_of_ne_zero body.nonempty) _).trans_lt body.inside
    exact exec_acts (·.gExec e op) alive command
      (State.gExec_loop runs (loop.trans (body.loop_enters some room)) (.inl rfl) first)
  · subst none
    exact exec_acts (·.gExec e op) alive command (State.gExec_loop runs (loop.trans body.loop_skips) (.inr ⟨_, rfl⟩) inside)

end

/-- Settles O18: both loop instructions make the same checks and differ in where the count comes from. -/
theorem loopsEnterOrSkipTheirBody : Obligations.LoopsEnterOrSkipTheirBody := by
  unfold Obligations.LoopsEnterOrSkipTheirBody
  intro s e ra count n alive runs en last nonempty ends nested inside enter skip loops
  have body : LoopBody en s.codeWords n.toNat :=
    ⟨fun zero => nonempty (BitVec.toNat_eq.mpr zero), ends, nested, inside⟩
  exact ⟨exec_loop alive runs rfl rfl body, exec_loop alive runs rfl rfl body⟩

end Sys2Proof.Machine
end

section
/-!
Data memory of the Grixis engines (R183, R219, R230): loads, stores and the checks of a data access.
-/
namespace Sys2Proof.Machine
open Sys2Proof.Safety

/-! ### The checks of an access -/

section
variable {a bytes align : Nat} {store : Bool}

theorem accessCheck_load (aligned : a % align = 0) (inside : a < 0x20000) : accessCheck a bytes align false = none := by
  simp [accessCheck, aligned, dmemEnd, inside]

theorem accessCheck_store (aligned : a % align = 0) (user : a + bytes ≤ 0x1FF00) : accessCheck a bytes align true = none := by
  have inside : a < 0x20000 := by omega
  simp [accessCheck, aligned, dmemEnd, inside.not_ge, dmemUser, user.not_gt]

theorem accessCheck_misaligned (misaligned : a % align ≠ 0) : accessCheck a bytes align store = some 2 := if_pos misaligned

theorem accessCheck_outside (aligned : a % align = 0) (outside : 0x20000 ≤ a) : accessCheck a bytes align store = some 3 := by
  simp [accessCheck, aligned, dmemEnd, outside, excBus]

theorem accessCheck_protected (aligned : a % align = 0) (inside : a < 0x20000) (past : 0x1FF00 < a + bytes) :
    accessCheck a bytes align true = some 4 := by
  simp [accessCheck, aligned, dmemEnd, inside.not_ge, dmemUser, past, excProtected]

end

/-! ### Loads (R219) -/

theorem memNat_lt (m : List Host.Cell) (a n : Nat) : memNat m a n < 256 ^ n := by
  induction n generalizing a with
  | zero => exact Nat.one_pos
  | succ n ih =>
    have byte := (memRead m a).isLt
    have rest := ih (a + 1)
    rw [memNat, pow_succ]
    omega

section
variable {s : State} {e : Nat} {c : Instr} {en : Engine} {cfg : GCfg}

theorem Engine.exec1_load {k : MemOp} {rd ra : Fin 16} {i : BitVec 11}
    (passes : accessCheck (en.sget ra + sext11 i).toNat k.bytes k.bytes false = none) : en.exec1 cfg (.load k rd ra i) =
      .ok (en.sset rd (k.value (memNat en.dmem (en.sget ra + sext11 i).toNat k.bytes))) 2 .seq := by
  simp only [Engine.exec1, passes]

theorem Engine.exec1_vld {vd : Fin 32} {ra : Fin 16} {i : BitVec 11}
    (passes : accessCheck (en.sget ra + (sext11 i) <<< 5).toNat 32 32 false = none) : en.exec1 cfg (.vld vd ra i) =
      .ok (en.vset vd (lanes fun k => BitVec.ofNat 16 (memNat en.dmem ((en.sget ra + (sext11 i) <<< 5).toNat + 2 * k) 2))) 2 .seq := by
  simp only [Engine.exec1, passes]

/-- A load whose address passes the checks writes what its bytes mean. -/
theorem exec_load (k : MemOp) {rd ra : Fin 16} {i : BitVec 11} {x : Word} (h : Executes s e)
    (command : exec c s = s.act (·.gExec e (.load k rd ra i)))
    (value : k.value (memNat (s.engine e).dmem ((s.engine e).sget ra + sext11 i).toNat k.bytes) = x)
    (aligned : ((s.engine e).sget ra + sext11 i).toNat % k.bytes = 0) (inside : ((s.engine e).sget ra + sext11 i).toNat < 0x20000) :
    exec c s = .next (s.settle (retired s e ((s.engine e).sset rd x) 2)) :=
  exec_sset h command (Engine.exec1_load (accessCheck_load aligned inside)) value

end

theorem MemOp.value_hu {x : Nat} (small : x < 256 ^ 2) : MemOp.value .hu x = BitVec.ofNat 32 x := by
  apply BitVec.eq_of_toNat_eq
  simp only [MemOp.value, BitVec.truncate_eq_setWidth, BitVec.toNat_setWidth, BitVec.toNat_ofNat]
  omega

theorem MemOp.value_bu {x : Nat} (small : x < 256 ^ 1) : MemOp.value .bu x = BitVec.ofNat 32 x := by
  apply BitVec.eq_of_toNat_eq
  simp only [MemOp.value, BitVec.truncate_eq_setWidth, BitVec.toNat_setWidth, BitVec.toNat_ofNat]
  omega

/-- Settles O19: a load passes the checks of its address, and its bytes make the number that its extension takes. -/
theorem loadsReadLittleEndianMemory : Obligations.LoadsReadLittleEndianMemory := by
  unfold Obligations.LoadsReadLittleEndianMemory
  intro s e rd ra vd imm h
  refine ⟨exec_load .w h rfl rfl, exec_load .h h rfl rfl, exec_load .hu h rfl (MemOp.value_hu (memNat_lt ..)),
    exec_load .b h rfl rfl (Nat.mod_one _), exec_load .bu h rfl (MemOp.value_bu (memNat_lt ..)) (Nat.mod_one _), fun aligned inside => ?_⟩
  exact exec_seq h rfl (Engine.exec1_vld (accessCheck_load aligned inside)) rfl rfl

/-! ### Stores (R183, R219) -/

theorem length_natBytes (n x : Nat) : (natBytes n x).length = n := by
  induction n generalizing x with
  | zero => rfl
  | succ n ih => rw [natBytes, List.length_cons, ih]

theorem getD_natBytes {n i : Nat} (x : Nat) (small : i < n) : (natBytes n x).getD i 0 = BitVec.ofNat 8 (x / 256 ^ i) := by
  induction n generalizing x i with
  | zero => exact absurd small (Nat.not_lt_zero i)
  | succ n ih =>
    cases i with
    | zero => rw [natBytes, List.getD_cons_zero, pow_zero, Nat.div_one]
    | succ i => rw [natBytes, List.getD_cons_succ, ih _ (Nat.lt_of_succ_lt_succ small), Nat.div_div_eq_div_mul, pow_succ']

/-! A vector's bytes: lists of two bytes each, one after the other. -/

section
variable {f : Nat → List Byte} (pairs : ∀ k, (f k).length = 2)
include pairs

theorem length_flatMap_pairs (n : Nat) : ((List.range n).flatMap f).length = 2 * n := by
  rw [List.length_flatMap, List.map_congr_left fun k _ => pairs k]
  simp [Nat.mul_comm]

theorem getD_flatMap_pairs {n i : Nat} (small : i < 2 * n) :
    ((List.range n).flatMap f).getD i 0 = (f (i / 2)).getD (i % 2) 0 := by
  induction n with
  | zero => exact absurd small (Nat.not_lt_zero i)
  | succ n ih =>
    rw [List.range_succ, List.flatMap_append, List.flatMap_singleton]
    by_cases earlier : i < 2 * n
    · rw [List.getD_append _ _ _ _ (by rw [length_flatMap_pairs pairs]; exact earlier), ih earlier]
    · rw [List.getD_append_right _ _ _ _ (by rw [length_flatMap_pairs pairs]; omega), length_flatMap_pairs pairs,
        show i / 2 = n by omega, show i - 2 * n = i % 2 by omega]

end

section
variable {s : State} {e : Nat} {c : Instr} {op : GOp} {a : Nat} {bs : List Byte} {byte : Nat → Nat}

/-- A store of bytes at an address: they are written, and no other. -/
theorem exec_store {n : Nat} (h : Executes s e) (command : exec c s = s.act (·.gExec e op)) (length : bs.length = n)
    (content : ∀ i, i < n → bs.getD i 0 = BitVec.ofNat 8 (byte i))
    (done : (s.engine e).exec1 (s.gCfg e) op = .ok { s.engine e with dmem := memWriteN (s.engine e).dmem a bs } 1 .seq) :
    ∃ m, exec c s = .next (s.settle (retired s e { s.engine e with dmem := m } 1))
      ∧ (∀ i, i < n → memRead m (a + i) = BitVec.ofNat 8 (byte i))
      ∧ ∀ b, b < a ∨ a + n ≤ b → memRead m b = memRead (s.engine e).dmem b := by
  refine ⟨_, exec_seq h command done rfl rfl, fun i small => ?_, fun b other => ?_⟩
  · rw [memRead_memWriteN, if_pos ⟨by omega, by omega⟩, Nat.add_sub_cancel_left, content i small]
  · rw [memRead_memWriteN, if_neg (by omega)]

theorem exec_storeWord (k : MemOp) {rs ra : Fin 16} {i : BitVec 11} (h : Executes s e)
    (command : exec c s = s.act (·.gExec e (.store k rs ra i)))
    (user : ((s.engine e).sget ra + sext11 i).toNat + k.bytes ≤ 0x1FF00)
    (aligned : ((s.engine e).sget ra + sext11 i).toNat % k.bytes = 0) :
    ∃ m, exec c s = .next (s.settle (retired s e { s.engine e with dmem := m } 1))
      ∧ (∀ j, j < k.bytes → memRead m (((s.engine e).sget ra + sext11 i).toNat + j)
          = BitVec.ofNat 8 (((s.engine e).sget rs).toNat / 256 ^ j))
      ∧ ∀ b, b < ((s.engine e).sget ra + sext11 i).toNat ∨ ((s.engine e).sget ra + sext11 i).toNat + k.bytes ≤ b →
          memRead m b = memRead (s.engine e).dmem b := by
  refine exec_store h command (length_natBytes ..) (fun j => getD_natBytes _) ?_
  simp only [Engine.exec1, accessCheck_store aligned user]

end

/-- Settles O20: the bytes are written one by one at rising addresses. -/
theorem storesChangeOnlyTheirBytes : Obligations.StoresChangeOnlyTheirBytes := by
  unfold Obligations.StoresChangeOnlyTheirBytes
  intro s e rb ra vb imm h
  refine ⟨exec_storeWord .w h rfl, exec_storeWord .h h rfl, exec_storeWord .b h rfl, fun user aligned => ?_⟩
  refine exec_store (bs := (List.range 16).flatMap fun k => natBytes 2 (lane ((s.engine e).vget vb) k).toNat) h rfl
    (length_flatMap_pairs (fun _ => length_natBytes ..) 16) (fun i small => ?_) ?_
  · exact (getD_flatMap_pairs (fun _ => length_natBytes ..) (n := 16) small).trans (getD_natBytes _ (Nat.mod_lt _ (by decide)))
  · simp only [Engine.exec1, sext11, accessCheck_store aligned user]

/-! ### Exceptions (R230) -/

section
variable {s : State} {e : Nat} {c : Instr} {op : GOp}

theorem exec_exc {cause : Nat} (alive : s.alive = true) (runs : s.gRuns e = true) (command : exec c s = s.act (·.gExec e op))
    (done : (s.engine e).exec1 (s.gCfg e) op = .exc cause) : exec c s = .next (s.settle (s.gExcept e cause)) :=
  exec_acts (·.gExec e op) alive command (State.gExec_exc s e op cause runs done)

/-- The checks of an access raise their exceptions in the order of R219. -/
theorem exec_checks {at_ align bytes : Nat} {store : Bool} (alive : s.alive = true) (runs : s.gRuns e = true)
    (command : exec c s = s.act (·.gExec e op))
    (checked : ∀ cause, accessCheck at_ bytes align store = some cause → (s.engine e).exec1 (s.gCfg e) op = .exc cause) :
    (at_ % align ≠ 0 → exec c s = .next (s.settle (s.gExcept e 2)))
    ∧ (at_ % align = 0 → 0x20000 ≤ at_ → exec c s = .next (s.settle (s.gExcept e 3)))
    ∧ (at_ % align = 0 → at_ < 0x20000 → 0x1FF00 < at_ + bytes → store = true → exec c s = .next (s.settle (s.gExcept e 4))) := by
  refine ⟨fun misaligned => ?_, fun aligned outside => ?_, fun aligned inside past stores => ?_⟩
  · exact exec_exc alive runs command (checked 2 (accessCheck_misaligned misaligned))
  · exact exec_exc alive runs command (checked 3 (accessCheck_outside aligned outside))
  · exact exec_exc alive runs command (checked 4 (stores ▸ accessCheck_protected aligned inside past))

variable {en : Engine} {cfg : GCfg} {cause : Nat} {ra : Fin 16} {i : BitVec 11}

theorem Engine.exec1_load_exc (k : MemOp) {rd : Fin 16}
    (fails : accessCheck (en.sget ra + sext11 i).toNat k.bytes k.bytes false = some cause) :
    en.exec1 cfg (.load k rd ra i) = .exc cause := by simp only [Engine.exec1, fails]

theorem Engine.exec1_store_exc (k : MemOp) {rs : Fin 16}
    (fails : accessCheck (en.sget ra + sext11 i).toNat k.bytes k.bytes true = some cause) :
    en.exec1 cfg (.store k rs ra i) = .exc cause := by simp only [Engine.exec1, fails]

theorem Engine.exec1_vld_exc {vd : Fin 32} (fails : accessCheck (en.sget ra + (sext11 i) <<< 5).toNat 32 32 false = some cause) :
    en.exec1 cfg (.vld vd ra i) = .exc cause := by simp only [Engine.exec1, fails]

theorem Engine.exec1_vst_exc {vs : Fin 32} (fails : accessCheck (en.sget ra + (sext11 i) <<< 5).toNat 32 32 true = some cause) :
    en.exec1 cfg (.vst vs ra i) = .exc cause := by simp only [Engine.exec1, fails]

end

/-- Settles O21: every access asks the same checks before anything else. -/
theorem dataAccessChecksComeInOrder : Obligations.DataAccessChecksComeInOrder := by
  unfold Obligations.DataAccessChecksComeInOrder
  intro s e r ra v imm alive runs
  exact ⟨exec_checks alive runs rfl fun _ => Engine.exec1_load_exc .w, exec_checks alive runs rfl fun _ => Engine.exec1_load_exc .h,
    exec_checks alive runs rfl fun _ => Engine.exec1_load_exc .hu, exec_checks alive runs rfl fun _ => Engine.exec1_load_exc .b,
    exec_checks alive runs rfl fun _ => Engine.exec1_load_exc .bu, exec_checks alive runs rfl fun _ => Engine.exec1_store_exc .w,
    exec_checks alive runs rfl fun _ => Engine.exec1_store_exc .h, exec_checks alive runs rfl fun _ => Engine.exec1_store_exc .b,
    exec_checks alive runs rfl fun _ => Engine.exec1_vld_exc, exec_checks alive runs rfl fun _ => Engine.exec1_vst_exc⟩

end Sys2Proof.Machine
end

section
/-!
Vector operations of the Grixis engines (R211, R213, R220).
-/
namespace Sys2Proof.Machine
open Sys2Proof.Safety

/-! ### Lane operations as arithmetic -/

section
variable {w : Nat} (a b : BitVec w)

theorem add_eq_ofInt : a + b = BitVec.ofInt w ((a.toNat : Int) + b.toNat) := by
  rw [BitVec.ofInt_add, BitVec.ofInt_natCast, BitVec.ofInt_natCast, BitVec.ofNat_toNat, BitVec.ofNat_toNat, BitVec.setWidth_eq,
    BitVec.setWidth_eq]

theorem sub_eq_ofInt : a - b = BitVec.ofInt w ((a.toNat : Int) - b.toNat) := by
  rw [eq_comm, eq_sub_iff_add_eq]
  nth_rw 2 [← BitVec.setWidth_eq b]
  rw [← BitVec.ofNat_toNat, ← BitVec.ofInt_natCast, ← BitVec.ofInt_add, sub_add_cancel, BitVec.ofInt_natCast, BitVec.ofNat_toNat,
    BitVec.setWidth_eq]

theorem mul_eq_ofNat : a * b = BitVec.ofNat w (a.toNat * b.toNat) := by
  rw [BitVec.ofNat_mul, BitVec.ofNat_toNat, BitVec.ofNat_toNat, BitVec.setWidth_eq, BitVec.setWidth_eq]

theorem absDiff_eq_ofNat : (if a.ult b then b - a else a - b) = BitVec.ofNat w ((a.toNat : Int) - b.toNat).natAbs := by
  simp only [BitVec.ult_iff_toNat_lt]
  split <;> (rw [sub_eq_ofInt, ← BitVec.ofInt_natCast]; congr 1; omega)

theorem mean_eq_ofInt : BitVec.ofNat w ((a.toNat + b.toNat + 1) / 2) = BitVec.ofInt w (((a.toNat : Int) + b.toNat + 1) / 2) := by
  rw [← BitVec.ofInt_natCast]; congr 1

end

/-! ### Active lanes (R213) -/

theorem lane_lanes (f : Nat → Half) {i : Nat} (small : i < 16) : lane (lanes f) i = f i := by
  simp [lane, lanes, List.getD_eq_getElem?_getD, small]

theorem Engine.orSat_false (en : Engine) : en.orSat false = en := by rw [Engine.orSat, Bool.or_false]
theorem Engine.orAov_false (en : Engine) : en.orAov false = en := by rw [Engine.orAov, Bool.or_false]

theorem Engine.anyLane_false (en : Engine) (p : Fin 8) {f : Nat → Bool} (none : ∀ i, f i = false) : en.anyLane p f = false := by
  simp [Engine.anyLane, none]

/-! ### Vector operations (R220) -/

section
variable {s : State} {e : Nat} {c : Instr} {f : VOp} {vd va : Fin 32} {b : VSrc} {p : Fin 8}

theorem Engine.valu_plain (en : Engine) (plain : f ≠ .sel) : en.valu f vd va b p =
    (en.vsetP p vd fun i => f.lane (lane (en.vget va) i) (en.src b i)).orSat
      (en.anyLane p fun i => f.clamps (lane (en.vget va) i) (en.src b i)) := by
  cases f
  case sel => exact absurd rfl plain
  all_goals rfl

/-- A command whose vector operation writes the active lanes, and never clamps. -/
theorem exec_valu {g : Nat → Half} (h : Executes s e) (command : exec c s = s.act (·.gExec e (.valu f vd va b p)))
    (value : ∀ i, f.lane (lane ((s.engine e).vget va) i) ((s.engine e).src b i) = g i)
    (exact_ : ∀ x y, f.exact x y = none := by intros; rfl)
    (plain : f ≠ .sel := by decide) : exec c s = .next (s.settle (retired s e ((s.engine e).vsetP p vd g) 1)) := by
  have result : (s.engine e).valu f vd va b p = (s.engine e).vsetP p vd g := by
    rw [Engine.valu_plain _ plain, Engine.anyLane_false _ _ fun i => by rw [VOp.clamps, exact_], Engine.orSat_false, funext value]
  exact result ▸ exec_seq h command rfl (Engine.valu_pc ..) (Engine.valu_loops ..)

end

/-- Settles O22: an operation that does not saturate clamps no lane, and a lane is written where the predicate has its bit. -/
theorem vectorOperationsWriteActiveLanes : Obligations.VectorOperationsWriteActiveLanes := by
  unfold Obligations.VectorOperationsWriteActiveLanes
  constructor
  · intro s e vd va vb p h
    exact ⟨exec_valu h rfl fun _ => add_eq_ofInt .., exec_valu h rfl fun _ => sub_eq_ofInt .., exec_seq h rfl rfl rfl rfl,
      exec_seq h rfl rfl rfl rfl, exec_seq h rfl rfl rfl rfl, exec_seq h rfl rfl rfl rfl,
      exec_valu h rfl fun _ => absDiff_eq_ofNat .., exec_valu h rfl fun _ => mean_eq_ofInt ..,
      exec_valu h rfl fun _ => ult_min .., exec_valu h rfl fun _ => ult_max .., exec_valu h rfl fun _ => slt_min ..,
      exec_valu h rfl fun _ => slt_max .., exec_valu h rfl fun _ => rfl, exec_valu h rfl fun _ => rfl,
      exec_valu h rfl fun _ => rfl, exec_valu h rfl fun _ => rfl, exec_valu h rfl fun _ => shiftLeft_eq_ofNat ..,
      exec_valu h rfl fun _ => ushiftRight_eq_ofNat .., exec_valu h rfl fun _ => sshiftRight_eq_ofInt ..,
      exec_valu h rfl fun _ => mul_eq_ofNat .., exec_valu h rfl fun _ => rfl, exec_valu h rfl fun _ => rfl,
      exec_seq h rfl rfl rfl rfl, exec_valu h rfl fun _ => rfl⟩
  · intro en p pd vd q f x m i
    refine ⟨?_, fun other => ?_, rfl, fun written => ?_, ?_, ?_⟩
    · rw [Engine.vsetP, Engine.vget_vset, if_pos rfl, lane_lanes _ i.isLt]; rfl
    · rw [Engine.vsetP, Engine.vget_vset, if_neg other]
    · rw [Engine.pget_pset, if_pos rfl, if_neg written]
    · rfl
    · rfl

end Sys2Proof.Machine
end

section
/-!
Masks of the Grixis engines (R221, R222): compares and predicate instructions.
-/
namespace Sys2Proof.Machine
open Sys2Proof.Safety

/-! ### A mask from its bits -/

/-- The number that `maskOf` builds of the bits below `n`. -/
def bitsBelow (f : Nat → Bool) (n : Nat) : Nat := ((List.range n).map fun i => if f i then 2 ^ i else 0).foldl (· + ·) 0

theorem bitsBelow_succ (f : Nat → Bool) (n : Nat) : bitsBelow f (n + 1) = bitsBelow f n + if f n then 2 ^ n else 0 := by
  rw [bitsBelow, List.range_succ, List.map_append, List.foldl_append]; rfl

theorem bitsBelow_lt (f : Nat → Bool) (n : Nat) : bitsBelow f n < 2 ^ n := by
  induction n with
  | zero => exact Nat.one_pos
  | succ n ih => rw [bitsBelow_succ, pow_succ]; split <;> omega

theorem testBit_bitsBelow (f : Nat → Bool) {n i : Nat} (small : i < n) : (bitsBelow f n).testBit i = f i := by
  induction n with
  | zero => exact absurd small (Nat.not_lt_zero i)
  | succ n ih =>
    have below := bitsBelow_lt f n
    rw [bitsBelow_succ]
    rcases Nat.lt_succ_iff_lt_or_eq.mp small with earlier | rfl
    · cases f n with
      | false => exact ih earlier
      | true => rw [if_pos rfl, Nat.add_comm, Nat.testBit_two_pow_add_gt earlier, ih earlier]
    · cases set : f i with
      | false => exact Nat.testBit_lt_two_pow below
      | true => rw [if_pos rfl, Nat.add_comm, Nat.testBit_two_pow_add_eq, Nat.testBit_lt_two_pow below]; rfl

theorem getLsbD_maskOf (f : Nat → Bool) {i : Nat} (small : i < 16) : (maskOf f).getLsbD i = f i := by
  have bits : maskOf f = BitVec.ofNat 16 (bitsBelow f 16) := rfl
  rw [bits, BitVec.getLsbD_ofNat, testBit_bitsBelow f small, decide_eq_true small, Bool.true_and]

/-! ### The set bits of a mask -/

theorem mem_bitsOf {m : Half} {i : Nat} : i ∈ bitsOf m ↔ m.getLsbD i = true := by
  rw [bitsOf, List.mem_filter, List.mem_range]
  exact ⟨And.right, fun set => ⟨BitVec.lt_of_getLsbD set, set⟩⟩

theorem bitsOf_ne_nil {m : Half} (some : m ≠ 0) : bitsOf m ≠ [] := by
  intro none
  refine some (BitVec.eq_of_getLsbD_eq fun i _ => ?_)
  refine Eq.trans ?_ BitVec.getLsbD_zero.symm
  exact Bool.eq_false_iff.mpr fun set => List.not_mem_nil (none ▸ mem_bitsOf.mpr set)

theorem bitsOf_sorted (m : Half) : (bitsOf m).Pairwise (· < ·) := List.Pairwise.filter _ List.pairwise_lt_range

/-- `k` is the set bit of a mask that none before it in an order is. -/
structure FirstBit (m : Half) (before : Nat → Nat → Prop) (k : Nat) : Prop where
  set : m.getLsbD k = true
  first : ∀ i, before i k → m.getLsbD i = false

theorem headD_bitsOf {m : Half} (some : m ≠ 0) : FirstBit m (fun i k => i < k) ((bitsOf m).headD 16) := by
  obtain ⟨k, t, bits⟩ := List.exists_cons_of_ne_nil (bitsOf_ne_nil some)
  have sorted := bits ▸ bitsOf_sorted m
  rw [bits, List.headD_cons]
  refine ⟨mem_bitsOf.mp (by rw [bits]; exact List.mem_cons_self), fun i before => Bool.eq_false_iff.mpr fun set => ?_⟩
  rcases List.mem_cons.mp (bits ▸ mem_bitsOf.mpr set) with rfl | later
  · exact lt_irrefl _ before
  · exact (List.rel_of_pairwise_cons sorted later).not_gt before

theorem getLastD_bitsOf {m : Half} (some : m ≠ 0) : FirstBit m (fun i k => k < i) ((bitsOf m).getLastD 16) := by
  obtain ⟨t, k, bits⟩ := (List.eq_nil_or_concat' (bitsOf m)).resolve_left (bitsOf_ne_nil some)
  have sorted := bits ▸ bitsOf_sorted m
  rw [bits, List.getLastD_concat]
  refine ⟨mem_bitsOf.mp (by rw [bits]; simp), fun i after => Bool.eq_false_iff.mpr fun set => ?_⟩
  rcases List.mem_append.mp (bits ▸ mem_bitsOf.mpr set) with earlier | last
  · exact ((List.pairwise_append.mp sorted).2.2 i earlier k (List.mem_singleton_self k)).not_gt after
  · exact lt_irrefl _ (List.mem_singleton.mp last ▸ after)

/-! ### Compares (R221) -/

section
variable {s : State} {e : Nat} {c : Instr} {op : GOp}

/-- A command that writes a predicate. -/
theorem exec_pset {pd : Fin 8} {y z : Half} (h : Executes s e) (command : exec c s = s.act (·.gExec e op))
    (done : (s.engine e).exec1 (s.gCfg e) op = .ok ((s.engine e).pset pd y) 1 .seq) (value : y = z) :
    exec c s = .next (s.settle (retired s e ((s.engine e).pset pd z) 1)) :=
  value ▸ exec_seq h command done (Engine.pset_pc ..) (Engine.pset_loops ..)

/-- A compare writes each bit of its predicate: the guard's, and the condition of the lanes. -/
theorem exec_vcmp {k : VCond} {pd g : Fin 8} {va : Fin 32} {b : VSrc} {t : Half → Half → Prop} (h : Executes s e)
    (command : exec c s = s.act (·.gExec e (.vcmp k pd va b g))) (condition : ∀ x y, k.test x y = true ↔ t x y) :
    ∃ m : Half, exec c s = .next (s.settle (retired s e ((s.engine e).pset pd m) 1))
      ∧ ∀ i : Fin 16, (m.getLsbD i = true ↔ ((s.engine e).pget g).getLsbD i = true
        ∧ t (lane ((s.engine e).vget va) i) ((s.engine e).src b i)) := by
  refine ⟨_, exec_pset h command rfl rfl, fun i => ?_⟩
  rw [getLsbD_maskOf _ i.isLt, Bool.and_eq_true, condition]
  rfl

/-- An instruction that looks for a set bit of a mask, from either end. -/
theorem exec_findBit {r : Fin 16} {pa : Fin 8} {k : Nat} {before : Nat → Nat → Prop} (h : Executes s e)
    (command : exec c s = s.act (·.gExec e op))
    (done : (s.engine e).exec1 (s.gCfg e) op = .ok ((s.engine e).sset r (BitVec.ofNat 32 k)) 1 .seq)
    (none : (s.engine e).pget pa = 0 → k = 16) (found : (s.engine e).pget pa ≠ 0 → FirstBit ((s.engine e).pget pa) before k) :
    ∃ k, exec c s = .next (s.settle (retired s e ((s.engine e).sset r (BitVec.ofNat 32 k)) 1))
      ∧ ((s.engine e).pget pa = 0 → k = 16)
      ∧ ((s.engine e).pget pa ≠ 0 → k < 16 ∧ ((s.engine e).pget pa).getLsbD k = true
        ∧ ∀ i, before i k → ((s.engine e).pget pa).getLsbD i = false) :=
  ⟨k, exec_sset h command done rfl, none,
    fun some => ⟨BitVec.lt_of_getLsbD (found some).set, (found some).set, (found some).first⟩⟩

end

/-- Settles O23: a compare makes its mask bit by bit, and the set bits of a mask are listed in order. -/
theorem comparesAndPredicatesWriteTheirBits : Obligations.ComparesAndPredicatesWriteTheirBits := by
  unfold Obligations.ComparesAndPredicatesWriteTheirBits
  constructor
  · intro s e pd va vb g h en a b tests
    have compares {c : Instr} {k : VCond} {t : Half → Half → Prop} (command : exec c s = s.act (·.gExec e (.vcmp k pd va vb g)))
        (condition : ∀ x y, k.test x y = true ↔ t x y) : tests c t := exec_vcmp h command condition
    clear_value tests
    exact ⟨compares rfl fun _ _ => beq_iff_eq, compares rfl fun _ _ => bne_iff_ne,
      compares rfl fun _ _ => BitVec.ult_iff_toNat_lt, compares rfl fun _ _ => BitVec.ule_iff_toNat_le,
      compares rfl fun _ _ => BitVec.ult_iff_toNat_lt, compares rfl fun _ _ => BitVec.ule_iff_toNat_le,
      compares rfl fun _ _ => BitVec.slt_iff_toInt_lt, compares rfl fun _ _ => BitVec.sle_iff_toInt_le,
      compares rfl fun _ _ => BitVec.slt_iff_toInt_lt, compares rfl fun _ _ => BitVec.sle_iff_toInt_le⟩
  · intro s e pd pa pb r h
    refine ⟨exec_pset h rfl rfl rfl, exec_pset h rfl rfl rfl, exec_pset h rfl rfl rfl, exec_pset h rfl rfl rfl, exec_pset h rfl rfl rfl,
      exec_pset h rfl rfl (BitVec.ofNat_toNat ..).symm, exec_sset h rfl rfl (BitVec.ofNat_toNat ..).symm,
      exec_sset h rfl rfl (congrArg _ List.countP_eq_length_filter.symm), exec_findBit h rfl rfl ?_ headD_bitsOf,
      exec_findBit h rfl rfl ?_ getLastD_bitsOf⟩ <;> (intro none; rw [none]; rfl)

end Sys2Proof.Machine
end

section
/-!
Accumulators of the Grixis engines (R223).
-/
namespace Sys2Proof.Machine
open Sys2Proof.Safety

/-- A value that 40 bits hold is not clamped. -/
theorem Engine.asat_exact (en : Engine) (p : Fin 8) (ad : Fin 4) {f : Nat → Int} (holds : ∀ i, -2 ^ 39 ≤ f i ∧ f i < 2 ^ 39) :
    en.asat p ad f = en.asetP p ad fun i => BitVec.ofInt 40 (f i) := by
  have limited (i : Nat) : sat40 (f i) = BitVec.ofInt 40 (f i) := by
    have := holds i
    rw [sat40, clampI, min_eq_right (by omega), max_eq_right (by omega)]
  have unclamped (i : Nat) : clamps40 (f i) = false := by
    have := holds i
    simp [clamps40]; omega
  rw [Engine.asat, Engine.anyLane_false _ _ unclamped, Engine.orAov_false, funext limited]

theorem product_holds {x y : Int} (hx : |x| ≤ 2 ^ 16) (hy : |y| ≤ 2 ^ 16) : -2 ^ 39 ≤ x * y ∧ x * y < 2 ^ 39 := by
  have small : |x * y| ≤ 2 ^ 16 * 2 ^ 16 := abs_mul x y ▸ mul_le_mul hx hy (abs_nonneg y) (by decide)
  obtain ⟨least, greatest⟩ := abs_le.mp small
  omega

theorem abs_toNat_le (a : Half) : |(a.toNat : Int)| ≤ 2 ^ 16 := by
  have := a.isLt
  rw [Nat.abs_cast]; omega

theorem abs_toInt_le (a : Half) : |a.toInt| ≤ 2 ^ 16 := by
  have least : -2 ^ 15 ≤ a.toInt := a.le_toInt
  have greatest : a.toInt < 2 ^ 15 := a.toInt_lt
  rw [abs_le]; omega

section
variable {s : State} {e : Nat} {c : Instr} {f : MacOp} {ad : Fin 4} {va : Fin 32} {b : VSrc} {p : Fin 8}

/-- A command that adds a product to an accumulator, or subtracts it. -/
theorem exec_mac {g : Nat → Int} (h : Executes s e) (command : exec c s = s.act (·.gExec e (.mac f ad va b p)))
    (value : ∀ i, f.exact (laneA ((s.engine e).aget ad) i) (lane ((s.engine e).vget va) i) ((s.engine e).src b i) = g i) :
    exec c s = .next (s.settle (retired s e ((s.engine e).asat p ad g) 1)) :=
  funext value ▸ exec_seq h command rfl (Engine.mac_pc ..) (Engine.mac_loops ..)

/-- A command that puts a product into an accumulator, which holds it. -/
theorem exec_product {g : Nat → Int} (h : Executes s e) (command : exec c s = s.act (·.gExec e (.mac f ad va b p)))
    (value : ∀ i, f.exact (laneA ((s.engine e).aget ad) i) (lane ((s.engine e).vget va) i) ((s.engine e).src b i) = g i)
    (holds : ∀ i, -2 ^ 39 ≤ g i ∧ g i < 2 ^ 39) :
    exec c s = .next (s.settle (retired s e ((s.engine e).asetP p ad fun i => BitVec.ofInt 40 (g i)) 1)) :=
  Engine.asat_exact _ p ad holds ▸ exec_mac h command value

end

theorem MacOp.exact_add {f : MacOp} {acc : BitVec 40} {a b : Half} {x : Int} (term : f.term a b = (x, 1)) :
    f.exact acc a b = acc.toInt + x := by
  simp [MacOp.exact, term]

theorem MacOp.exact_sub {f : MacOp} {acc : BitVec 40} {a b : Half} {x : Int} (term : f.term a b = (x, -1)) :
    f.exact acc a b = acc.toInt - x := by
  simp [MacOp.exact, term, sub_eq_add_neg]

/-- A command that writes the active lanes of an accumulator. -/
theorem exec_asetP {s : State} {e : Nat} {c : Instr} {op : GOp} {p : Fin 8} {ad : Fin 4} {f g : Nat → BitVec 40} (h : Executes s e)
    (command : exec c s = s.act (·.gExec e op)) (done : (s.engine e).exec1 (s.gCfg e) op = .ok ((s.engine e).asetP p ad f) 1 .seq)
    (value : ∀ i, f i = g i) : exec c s = .next (s.settle (retired s e ((s.engine e).asetP p ad g) 1)) :=
  funext value ▸ exec_seq h command done (Engine.asetP_pc ..) (Engine.asetP_loops ..)

/-- Settles O24: an accumulator is limited where a sum is added to it, and 40 bits hold every single product. -/
theorem accumulatorsHoldLimitedSums : Obligations.AccumulatorsHoldLimitedSums := by
  unfold Obligations.AccumulatorsHoldLimitedSums
  intro s e ad va vd vb p sh h
  exact ⟨exec_mac h rfl fun _ => MacOp.exact_add rfl, exec_mac h rfl fun _ => MacOp.exact_add rfl,
    exec_mac h rfl fun _ => MacOp.exact_add rfl, exec_mac h rfl fun _ => MacOp.exact_sub rfl,
    exec_mac h rfl fun _ => MacOp.exact_sub rfl,
    exec_product h rfl (fun _ => rfl) fun _ => product_holds (abs_toNat_le _) (abs_toNat_le _),
    exec_product h rfl (fun _ => rfl) fun _ => product_holds (abs_toInt_le _) (abs_toNat_le _),
    exec_seq h rfl rfl rfl rfl, exec_seq h rfl rfl rfl rfl, exec_seq h rfl rfl rfl rfl,
    exec_asetP h rfl rfl fun _ => (BitVec.ofNat_toNat ..).symm, exec_seq h rfl rfl rfl rfl⟩

end Sys2Proof.Machine
end

section
/-!
The line window, the reductions and the permutes of the Grixis engines (R224 to R226).
-/
namespace Sys2Proof.Machine
open Sys2Proof.Safety

/-! ### The first lane that has a value (R225) -/

/-- The first listed index that has a value is the least that has it. -/
theorem find?_least {l : List Nat} {v : Nat → Nat} {m : Nat} (sorted : l.Pairwise (· < ·)) (attained : m ∈ l.map v) :
    ∃ k, l.find? (fun i => v i = m) = some k ∧ k ∈ l ∧ v k = m ∧ ∀ i ∈ l, v i = m → k ≤ i := by
  obtain ⟨j, listed, value⟩ := List.mem_map.mp attained
  obtain ⟨k, found⟩ := Option.isSome_iff_exists.mp
    (List.find?_isSome (p := fun i => decide (v i = m)) |>.mpr ⟨j, listed, decide_eq_true value⟩)
  obtain ⟨has, before, after, split_, none⟩ := List.find?_eq_some_iff_append.mp found
  refine ⟨k, found, List.mem_of_find?_eq_some found, of_decide_eq_true has, fun i inside same => ?_⟩
  rw [split_] at inside sorted
  rcases List.mem_append.mp inside with earlier | later
  · exact absurd (none i earlier) (by simp [same])
  · rcases List.mem_cons.mp later with rfl | last
    · exact le_rfl
    · exact (List.rel_of_pairwise_cons (List.pairwise_append.mp sorted).2.1 last).le

/-- The least of a list and a start is one of them, and no more than each. -/
theorem foldl_min_least (l : List Nat) (b : Nat) : l.foldl min b ∈ b :: l ∧ ∀ x ∈ b :: l, l.foldl min b ≤ x :=
  List.min?_eq_some_iff.mp List.min?_cons'

theorem foldl_max_mem {l : List Nat} (some : l ≠ []) : l.foldl max 0 ∈ l := by
  obtain ⟨one, all⟩ := foldl_max_greatest l 0
  refine (List.mem_cons.mp one).elim (fun zero => ?_) id
  obtain ⟨x, t, rfl⟩ := List.exists_cons_of_ne_nil some
  have none := all x (List.mem_cons_of_mem 0 List.mem_cons_self)
  rw [zero, Nat.le_zero] at none
  rw [zero, none]
  exact List.mem_cons_self

theorem foldl_min_mem {l : List Nat} {b : Nat} (some : l ≠ []) (below : ∀ x ∈ l, x ≤ b) : l.foldl min b ∈ l := by
  obtain ⟨one, all⟩ := foldl_min_least l b
  refine (List.mem_cons.mp one).elim (fun start => ?_) id
  obtain ⟨x, t, rfl⟩ := List.exists_cons_of_ne_nil some
  have least := all x (List.mem_cons_of_mem b List.mem_cons_self)
  have greatest := below x List.mem_cons_self
  rw [start] at least ⊢
  rw [greatest.antisymm least]
  exact List.mem_cons_self

/-! ### Reductions of the active lanes (R225) -/

section
variable (en : Engine) (p : Fin 8) (va : Fin 32)

/-- The active lanes' numbers. -/
def Engine.activeIndices (en : Engine) (p : Fin 8) : List Nat := (List.range 16).filter (en.active p)

theorem Engine.activeIndices_sorted : (en.activeIndices p).Pairwise (· < ·) := List.Pairwise.filter _ List.pairwise_lt_range

theorem Engine.map_activeLanes {α : Type} (f : Half → α) :
    ((en.activeLanes p va).map fun x => f x.2) = (en.activeIndices p).map fun i => f (lane (en.vget va) i) := by
  rw [Engine.activeLanes, List.map_map]; rfl

/-- The least index of an active lane with a value, 16 where there is none. -/
def Engine.indexOf (en : Engine) (p : Fin 8) (va : Fin 32) (m : Nat) : Nat :=
  ((en.activeIndices p).find? fun i => (lane (en.vget va) i).toNat = m).getD 16

theorem Engine.find?_activeLanes (m : Nat) :
    (((en.activeLanes p va).find? fun x => x.2.toNat = m).map (·.1)).getD 16 = en.indexOf p va m := by
  rw [Engine.activeLanes, List.find?_map, Option.map_map]
  exact congrArg (Option.getD · 16) (congrFun Option.map_id _)

/-- The values of the active lanes. -/
def Engine.activeValues (en : Engine) (p : Fin 8) (va : Fin 32) : List Nat := (en.activeIndices p).map fun i => (lane (en.vget va) i).toNat

theorem Engine.eval_maxix : RedOp.eval .maxix (en.activeLanes p va) =
    BitVec.ofNat 32 (en.indexOf p va ((en.activeValues p va).foldl max 0)) := by
  rw [Engine.activeValues, ← en.map_activeLanes p va (·.toNat), ← Engine.find?_activeLanes]; rfl

theorem Engine.eval_minix : RedOp.eval .minix (en.activeLanes p va) =
    BitVec.ofNat 32 (en.indexOf p va ((en.activeValues p va).foldl min 0xFFFF)) := by
  rw [Engine.activeValues, ← en.map_activeLanes p va (·.toNat), ← Engine.find?_activeLanes]; rfl

theorem Engine.activeValues_le {x : Nat} (active : x ∈ en.activeValues p va) : x ≤ 0xFFFF := by
  obtain ⟨i, _, rfl⟩ := List.mem_map.mp active
  exact Nat.le_of_lt_succ (lane (en.vget va) i).isLt

end

section
variable {s : State} {e : Nat} {c : Instr} {f : RedOp} {rd : Fin 16} {va : Fin 32} {p : Fin 8} {m : Nat} {best : Nat → Nat → Prop}

/-- A reduction to the index of the active lane with an extreme value that some active lane has. -/
theorem exec_index (h : Executes s e) (command : exec c s = s.act (·.gExec e (.red f rd va p)))
    (value : f.eval ((s.engine e).activeLanes p va) = BitVec.ofNat 32 ((s.engine e).indexOf p va m))
    (attained : (s.engine e).activeValues p va ≠ [] → m ∈ (s.engine e).activeValues p va)
    (extreme : ∀ x ∈ (s.engine e).activeValues p va, best m x) :
    let en := s.engine e
    let on := (List.range 16).filter (en.active p)
    ∃ k, exec c s = .next (s.settle (retired s e (en.sset rd (BitVec.ofNat 32 k)) 3))
      ∧ (on = [] → k = 16)
      ∧ (on ≠ [] → k ∈ on ∧ (∀ i ∈ on, best (lane (en.vget va) k).toNat (lane (en.vget va) i).toNat)
          ∧ ∀ i ∈ on, (lane (en.vget va) i).toNat = (lane (en.vget va) k).toNat → k ≤ i) := by
  intro en on
  refine ⟨_, exec_sset h command rfl value, fun none => ?_, fun some => ?_⟩
  · have idle : en.activeIndices p = [] := none
    rw [Engine.indexOf, idle]; rfl
  · have has := attained fun none => some (List.map_eq_nil_iff.mp none)
    obtain ⟨k, found, listed, value, least⟩ := find?_least (en.activeIndices_sorted p) has
    rw [Engine.indexOf, found]
    refine ⟨listed, fun i inside => ?_, fun i inside same => least i inside (same.trans value)⟩
    rw [Option.getD_some, value]
    exact extreme _ (List.mem_map_of_mem inside)

end

/-- The accumulators' sum is limited to 32 bits. -/
theorem exec_vrsuma {s : State} {e : Nat} {c : Instr} {rd : Fin 16} {ad : Fin 4} {p : Fin 8} (h : Executes s e)
    (command : exec c s = s.act (·.gExec e (.vrsuma rd ad p))) :
    let en := s.engine e
    let accs := ((en.activeIndices p).map fun i => (laneA (en.aget ad) i).toInt).sum
    exec c s = .next (s.settle (retired s e ((en.sset rd (BitVec.ofInt 32 (max (-2 ^ 31) (min (2 ^ 31 - 1) accs)))).orSat
        (decide (accs < -2 ^ 31) || decide (2 ^ 31 - 1 < accs))) 3)) := by
  intro en accs
  have sum : accs = en.accSum p ad := List.sum_eq_foldl
  rw [sum]
  exact exec_seq h command rfl (Engine.sset_pc ..) (Engine.sset_loops ..)

/-- Settles O25: a reduction folds over the active lanes in order, and the first lane with the extreme value gives the index. -/
theorem windowLoadsAndReductionsWriteTheirResult : Obligations.WindowLoadsAndReductionsWriteTheirResult := by
  unfold Obligations.WindowLoadsAndReductionsWriteTheirResult
  intro s e rd ra vd va ad p sec off sh h en on us is accs out put index
  have values := en.map_activeLanes p va (·.toNat)
  have signed := en.map_activeLanes p va (·.toInt)
  refine ⟨fun low high => ?_, ?_, ?_, ?_, ?_, ?_, ?_, exec_vrsuma h rfl⟩
  · have legal : legalOff off = true := by simp [legalOff, low, high]
    exact exec_seq h rfl (if_pos legal) rfl rfl
  · exact exec_sset h rfl rfl (congrArg (BitVec.ofNat 32) (by rw [values]; exact List.sum_eq_foldl.symm))
  · exact exec_sset h rfl rfl (congrArg (BitVec.ofInt 32) (by rw [signed]; exact List.sum_eq_foldl.symm))
  · exact exec_sset h rfl rfl (congrArg (BitVec.ofNat 32) (by rw [values]; rfl))
  · exact exec_sset h rfl rfl (congrArg (BitVec.ofNat 32) (by rw [values]; rfl))
  · exact exec_index (best := fun k i => i ≤ k) h rfl (en.eval_maxix p va) (foldl_max_mem ·)
      fun x active => (foldl_max_greatest us 0).2 x (List.mem_cons_of_mem 0 active)
  · exact exec_index (best := fun k i => k ≤ i) h rfl (en.eval_minix p va) (foldl_min_mem · fun _ => en.activeValues_le p va)
      fun x active => (foldl_min_least us 0xFFFF).2 x (List.mem_cons_of_mem 0xFFFF active)

/-! ### Permutes and moves (R226) -/

section
variable {s : State} {e : Nat} {c : Instr} {op : GOp} {cyc : Nat} {p : Fin 8} {vd : Fin 32} {f g : Nat → Half}

/-- A command that writes the active lanes of a vector. -/
theorem exec_vsetP (h : Executes s e) (command : exec c s = s.act (·.gExec e op))
    (done : (s.engine e).exec1 (s.gCfg e) op = .ok ((s.engine e).vsetP p vd f) cyc .seq) (value : ∀ i, f i = g i) :
    exec c s = .next (s.settle (retired s e ((s.engine e).vsetP p vd g) cyc)) :=
  funext value ▸ exec_seq h command done (Engine.vsetP_pc ..) (Engine.vsetP_loops ..)

end

/-- Settles O26: each permute names the lane it takes from. -/
theorem permutesMoveLanes : Obligations.PermutesMoveLanes := by
  unfold Obligations.PermutesMoveLanes
  intro s e rd ra vd va vb k imm p h
  exact ⟨exec_seq h rfl rfl rfl rfl, exec_seq h rfl rfl rfl rfl, exec_sset h rfl rfl (BitVec.ofNat_toNat ..).symm,
    exec_seq h rfl rfl rfl rfl, exec_vsetP h rfl rfl fun _ => (BitVec.ofNat_toNat ..).symm, exec_seq h rfl rfl rfl rfl,
    exec_seq h rfl rfl rfl rfl⟩

end Sys2Proof.Machine
end

section
/-!
What the Grixis engines put out (R204, R205, R227, R228): output buffers and crumbs.
-/
namespace Sys2Proof.Machine
open Sys2Proof.Safety

/-! ### Output buffers (R227) -/

/-- A position of an output buffer after the lanes of a vector were put at `q`. -/
theorem Engine.getD_putLanes (en : Engine) (p : Fin 8) (v : List Half) (q : Int) (lim : Nat) {buf : List Nat} {k : Nat}
    (inside : k < buf.length) : (en.putLanes p v q lim buf).getD k 0 =
      if q ≤ k ∧ (k : Int) < q + 16 ∧ k < lim ∧ en.active p ((k : Int) - q).toNat = true
      then (lane v ((k : Int) - q).toNat).toNat else buf.getD k 0 := by
  have position : (en.putLanes p v q lim buf).getD k 0 =
      if 0 ≤ (k : Int) - q && (k : Int) - q < 16 && decide (k < lim) && en.active p ((k : Int) - q).toNat
      then (lane v ((k : Int) - q).toNat).toNat else buf.getD k 0 := by
    simp [Engine.putLanes, List.getD_eq_getElem?_getD, inside]
  have same : (0 ≤ (k : Int) - q && (k : Int) - q < 16 && decide (k < lim) && en.active p ((k : Int) - q).toNat) = true
      ↔ q ≤ k ∧ (k : Int) < q + 16 ∧ k < lim ∧ en.active p ((k : Int) - q).toNat = true := by
    simp only [Bool.and_eq_true, decide_eq_true_eq, and_assoc, sub_nonneg, sub_lt_iff_lt_add']
  rw [position]
  exact if_congr same rfl rfl

theorem Engine.length_putLanes (en : Engine) (p : Fin 8) (v : List Half) (q : Int) (lim : Nat) (buf : List Nat) :
    (en.putLanes p v q lim buf).length = buf.length := by simp [Engine.putLanes]

/-! ### Crumbs (R204, R205, R228) -/

theorem engine_retired (s : State) (e : Nat) (x : Engine) (cyc : Nat) : (retired s e x cyc).engine e =
    { x with pc := (loopNext (s.engine e).pc (s.engine e).loops).1, loops := (loopNext (s.engine e).pc (s.engine e).loops).2
             cycles := (s.engine e).cycles + cyc, skipBp := false } := (State.engine_setEngine ..).trans (if_pos rfl)

section
variable {s : State} {e : Nat} {vf : Fin 32} {ra rb : Fin 16}

/-- The state after CEMIT, which goes on in sequence before the device takes its crumb. -/
def State.emitted (s : State) (e : Nat) (vf : Fin 32) (ra rb : Fin 16) : State :=
  (retired s e (s.engine e) 2).gEmit e ((s.engine e).sget ra) ((s.engine e).sget rb) (((s.engine e).vget vf).take 8)

theorem State.gExec_cemit (h : Executes s e) : s.gExec e (.cemit vf ra rb) = s.emitted e vf ra rb := by
  unfold State.gExec State.gDo
  simp only [h.engine, if_true, Engine.exec1, Engine.target]
  exact if_neg fun outside => h.inside.not_ge (of_decide_eq_true (Bool.and_eq_true_iff.mp outside).1)

end

section
variable {s : State} {e : Nat} {sa sb : Word} {fs : List Half}

/-- The class of a crumb that CEMIT's second operand names. -/
def crumbClass (sb : Word) : Nat := sb.toNat / 2 ^ 24

theorem State.gEmit_discards (discards : crumbClass sb = 0 ∨ crumbClass sb = 0xFF ∨ s.o 0x480001 = 0) :
    s.gEmit e sa sb fs = s.bump 0x480008 := by
  have none : (!s.b 0x480001 || decide (sb.toNat / 16777216 = 0) || decide (sb.toNat / 16777216 = 0xFF)) = true := by
    rcases discards with zero | all | off
    · simp [show sb.toNat / 16777216 = 0 from zero]
    · simp [show sb.toNat / 16777216 = 0xFF from all]
    · simp [State.b, off]
  exact if_pos none

/-- A crumb that is neither discarded nor of the two classes without meaning. -/
structure Emits (s : State) (sb : Word) : Prop where
  enabled : s.o 0x480001 ≠ 0
  low : crumbClass sb ≠ 0
  high : crumbClass sb ≠ 0xFF

theorem Emits.takes (emits : Emits s sb) :
    ¬ (!s.b 0x480001 || decide (sb.toNat / 16777216 = 0) || decide (sb.toNat / 16777216 = 0xFF)) = true := by
  have low : sb.toNat / 16777216 ≠ 0 := emits.low
  have high : sb.toNat / 16777216 ≠ 0xFF := emits.high
  simp [State.b, emits.enabled, low, high]

/-- A crumb with room in the buffer enters it behind the others. -/
theorem State.gEmit_appends (emits : Emits s sb) (room : (s.engine e).crumbs.length < 256) :
    ∃ counts source seq, (s.gEmit e sa sb fs).engine e = { (s.engine e).setSec counts with
      crumbs := (s.engine e).crumbs ++ [(s.engine e).crumb e source sa sb fs seq] } := by
  unfold State.gEmit
  rw [if_neg emits.takes]
  dsimp only
  rw [if_pos room]
  exact ⟨_, _, _, (State.engine_setEngine ..).trans (if_pos rfl)⟩

theorem maxOf_lostCrumbs : maxOf 0x480007 = 2 ^ 64 - 1 := by decide +kernel

theorem State.engine_bump (s : State) (k d e : Nat) : (s.bump k d).engine e = s.engine e := State.engine_put ..

theorem State.engine_raiseAt (s : State) (code seg elem : Nat) (data : Int) (e : Nat) :
    (s.raiseAt code seg elem data).engine e = s.engine e := by
  unfold State.engine; rw [State.raiseAt_eng]

/-- The counters of a lost crumb, with its engine as `x`. -/
def State.crumbLost (s : State) (e : Nat) (x : Engine) : State :=
  (((s.bump (engKey e 8)).setEngine e x).bump (engKey e 9)).bump 0x480007

theorem State.engine_crumbLost (s : State) (e : Nat) (x : Engine) : (s.crumbLost e x).engine e = x := by
  rw [State.crumbLost, State.engine_bump, State.engine_bump, State.engine_setEngine, if_pos rfl]

theorem State.o_crumbLost (s : State) (e : Nat) (x : Engine) : (s.crumbLost e x).o 0x480007 = (s.o 0x480007 + 1) % 2 ^ 64 := by
  have other (sub : Nat) (small : sub = 8 ∨ sub = 9) : 0x480007 ≠ engKey e sub := by unfold engKey; omega
  rw [State.crumbLost, State.bump_eq, State.o_put_self, State.o_bump_ne _ _ (other 9 (.inr rfl)), State.o_setEngine,
    State.o_bump_ne _ _ (other 8 (.inl rfl)), maxOf_lostCrumbs]
  rfl

/-- A crumb without room is counted, and its engine keeps its buffer. -/
theorem State.gEmit_loses (emits : Emits s sb) (full : 256 ≤ (s.engine e).crumbs.length) :
    (∃ counts, (s.gEmit e sa sb fs).engine e = (s.engine e).setSec counts)
    ∧ (s.gEmit e sa sb fs).o 0x480007 = (s.o 0x480007 + 1) % 2 ^ 64 := by
  unfold State.gEmit
  rw [if_neg emits.takes]
  dsimp only
  rw [if_neg full.not_gt]
  split
  · exact ⟨⟨_, (State.engine_raiseAt ..).trans (s.engine_crumbLost e _)⟩,
      (State.o_raiseAt _ _ _ _ _ (by decide)).trans (s.o_crumbLost e _)⟩
  · exact ⟨⟨_, s.engine_crumbLost e _⟩, s.o_crumbLost e _⟩

end

/-- Settles O27: a put writes position by position, and a crumb is discarded, appended or lost. -/
theorem putsAndCrumbsEnterTheirBuffers : Obligations.PutsAndCrumbsEnterTheirBuffers := by
  unfold Obligations.PutsAndCrumbsEnterTheirBuffers
  constructor
  · intro s e vs rq second p h en q old
    cases second with
    | false => exact ⟨_, Engine.length_putLanes .., exec_seq h rfl rfl rfl rfl, fun k => Engine.getD_putLanes en p _ q _⟩
    | true => exact ⟨_, Engine.length_putLanes .., exec_seq h rfl rfl rfl rfl, fun k => Engine.getD_putLanes en p _ q _⟩
  · intro s e vf ra rb h en a b cls lo hi
    have emits : exec (.cemit e vf ra rb) s = .next (s.settle (s.emitted e vf ra rb)) :=
      exec_acts (·.gExec e (.cemit vf ra rb)) h.runs rfl (State.gExec_cemit h)
    have ran := engine_retired s e en 2
    have buffer : ((retired s e en 2).engine e).crumbs = en.crumbs := by rw [ran]
    refine ⟨fun enabled low high room => ?_, fun discards => ?_, fun enabled low high full => ?_⟩
    · obtain ⟨counts, source, seq, appended⟩ := State.gEmit_appends (s := retired s e en 2) (sa := en.sget ra)
        (fs := (en.vget vf).take 8) ⟨enabled, low, high⟩ (buffer ▸ room)
      rw [ran] at appended
      exact ⟨_, _, emits, (congrArg Engine.crumbs appended :), rfl, rfl, rfl, rfl, rfl, rfl, rfl, (congrArg Engine.cycles appended :),
        (congrArg Engine.pc appended :)⟩
    · rw [emits, State.emitted, State.gEmit_discards (s := retired s e en 2) (sb := en.sget rb) discards]
    · obtain ⟨⟨counts, kept⟩, lost⟩ := State.gEmit_loses (s := retired s e en 2) (sa := en.sget ra)
        (fs := (en.vget vf).take 8) ⟨enabled, low, high⟩ (buffer ▸ full)
      rw [ran] at kept
      exact ⟨_, emits, (congrArg Engine.crumbs kept :), lost, (congrArg Engine.cycles kept :)⟩

end Sys2Proof.Machine
end

section
/-!
Packets of the auxiliary input (R248 to R255): the receiver's states, what a packet's header leaves, the frame that a frame start opens,
and the statement about them.
-/
namespace Sys2Proof.Machine

section
variable {s : State} {v : Nat}

/-! ### The receiver starts and stops (R249) -/

theorem State.csiStarted_starting (state : s.o 0x390005 = 1) : s.csiStarted = (s.put 0x390005 2).auxStates :=
  if_pos (by simp [State.is, state])

theorem State.csiStarted_stopPending (state : s.o 0x390005 = 5) : s.csiStarted = (s.put 0x390005 3).auxStates :=
  (if_neg (by simp [State.is, state])).trans (if_pos (by simp [State.is, state]))

theorem State.csiStopped_stopping (state : s.o 0x390005 = 3) : s.csiStopped = (s.put 0x390005 0).auxStates :=
  if_pos (by simp [State.is, state])

theorem State.csiStopped_startPending (state : s.o 0x390005 = 4) : s.csiStopped = (s.put 0x390005 1).auxStates :=
  (if_neg (by simp [State.is, state])).trans (if_pos (by simp [State.is, state]))

/-! ### A packet's header (R248) -/

/-- The second state differs from the first in the count of corrected headers, at most. -/
structure HeaderRead (s t : State) : Prop where
  conf : t.conf = s.conf
  now : t.now = s.now
  objs : ∀ k, k ≠ 0x390006 → t.o k = s.o k

/-- A header with no error or a corrected one is read. -/
theorem State.csiHeader_reads {ecc : Nat} (good : ecc ≤ 1) : (s.csiHeader ecc).2 = true ∧ HeaderRead s (s.csiHeader ecc).1 := by
  rcases Nat.le_one_iff_eq_zero_or_eq_one.mp good with rfl | rfl
  · exact ⟨rfl, rfl, rfl, fun _ _ => rfl⟩
  · exact ⟨rfl, s.put_conf _ _, s.put_now _ _, fun k other => s.o_put_ne _ other⟩

theorem auxCfg_ne_counts (v j : Nat) : auxCfg v j ≠ 0x390006 := by unfold auxCfg; omega

theorem HeaderRead.auxTakes {t : State} (read : HeaderRead s t) (v : Nat) : t.auxTakes v = s.auxTakes v := by
  simp only [State.auxTakes, State.b, read.objs _ (auxCfg_ne_counts v 1), State.auxCh_of_conf_eq read.conf]

/-- The state in which a packet of channel `v` acts: its header is read, and the channel has heard from its sensor. -/
def State.packetMet (s : State) (v ecc : Nat) : State :=
  let h := (s.csiHeader ecc).1
  h.setAux { h.auxCh v with lastPkt := s.now }

/-- A packet that is taken acts on its channel. -/
theorem State.csiPacket_taken {ecc : Nat} (on : s.csiOn = true) (good : ecc ≤ 1) (takes : s.auxTakes v = true) (f : State → State) :
    s.csiPacket v ecc f = f (s.packetMet v ecc) := by
  obtain ⟨goes, read⟩ := s.csiHeader_reads good
  unfold State.csiPacket State.packetMet
  simp only [on, goes, read.auxTakes, takes, read.now, Bool.not_true, Bool.false_eq_true, if_false]

/-- A packet whose header cannot be corrected is counted and reported, and nothing else. -/
theorem State.csiPacket_uncorrectable (on : s.csiOn = true) (v : Nat) (f : State → State) :
    s.csiPacket v 2 f = (s.sat 0x390007).raiseFirst 0x060A := by
  simp [State.csiPacket, State.csiHeader, on]

/-- A packet of a channel that is not received is counted, and nothing else. -/
theorem State.csiPacket_discarded (on : s.csiOn = true) (untaken : s.auxTakes v = false) (f : State → State) :
    s.csiPacket v 0 f = s.sat 0x390009 := by
  simp [State.csiPacket, State.csiHeader, on, untaken, State.csiDiscard]

/-- What a packet leaves before it acts: its channel's frames and numbers, the clock, and every object but the header's count. -/
structure PacketMet (s t : State) (v : Nat) : Prop where
  now : t.now = s.now
  objs : ∀ k, k ≠ 0x390006 → t.o k = s.o k
  listed : t.conf.aux.any (·.ch = v) = true
  frames : (t.auxCh v).frames = (s.auxCh v).frames
  nextNo : (t.auxCh v).nextNo = (s.auxCh v).nextNo

theorem State.any_ch_setAux (s : State) (x : AuxChan) (v : Nat) : (s.setAux x).conf.aux.any (·.ch = v) = s.conf.aux.any (·.ch = v) := by
  have keeps (y : AuxChan) : (if y.ch = x.ch then x else y).ch = y.ch := by split <;> simp_all
  simp only [State.setAux, List.any_map, Function.comp_def, keeps]

theorem State.packetMet_meets {ecc : Nat} (good : ecc ≤ 1) (listed : s.conf.aux.any (·.ch = v) = true) :
    PacketMet s (s.packetMet v ecc) v := by
  obtain ⟨-, read⟩ := s.csiHeader_reads good
  have listed' : (s.csiHeader ecc).1.conf.aux.any (·.ch = v) = true := read.conf ▸ listed
  have heard := State.auxCh_setAux_same (x := { (s.csiHeader ecc).1.auxCh v with lastPkt := s.now }) (State.auxCh_ch _ v) listed'
  have same := State.auxCh_of_conf_eq (v := v) read.conf
  exact ⟨read.now, read.objs, (State.any_ch_setAux ..).trans listed', (congrArg AuxChan.frames (heard.trans (by rw [same])) :),
    (congrArg AuxChan.nextNo (heard.trans (by rw [same])) :)⟩

/-! ### Long packets (R248, R252) -/

section
variable {ecc dtype : Nat} {f : AuxFrame}

/-- A line of the data type that its frame expects arrives, or is lost with a wrong CRC. -/
theorem State.auxLong_line (on : s.csiOn = true) (good : ecc ≤ 1) (takes : s.auxTakes v = true)
    (opened : ((s.packetMet v ecc).auxCh v).open_ = some f) (whole : f.cut = false) (expected : dtype = f.dtype)
    (low : 0x2A ≤ dtype) (high : dtype ≤ 0x2E) (crcOk : Bool) (samples : List Nat) :
    s.auxLong v dtype ecc crcOk samples = if crcOk then (s.packetMet v ecc).auxLine v f (some samples)
      else ((((s.packetMet v ecc).sat 0x390008).bump (auxSt v 0x0A)).raiseFirst 0x060B 0 v).auxLine v f none := by
  have raw : (decide (dtype < 0x2A) || decide (0x2E < dtype)) = false := by simp; omega
  rw [State.auxLong, State.csiPacket_taken on good takes]
  cases crcOk <;> simp [raw, opened, whole, ← expected]

/-- Embedded data joins what its frame has, up to 256 bytes. -/
theorem State.auxEmbedded_joins (on : s.csiOn = true) (good : ecc ≤ 1) (takes : s.auxTakes v = true)
    (opened : ((s.packetMet v ecc).auxCh v).open_ = some f) (whole : f.cut = false) (data : List Nat) :
    s.auxEmbedded v ecc { crcOk := true, bytes := data } =
      let a := s.packetMet v ecc
      let e := ((a.auxCh v).embedded ++ data).take 256
      (a.setAux { a.auxCh v with embedded := e }).putBlob (auxSt v 9) e := by
  rw [State.auxEmbedded, State.csiPacket_taken on good takes]
  simp [opened, whole]

end

/-! ### A frame start (R250, R251) -/

theorem State.auxStates_now (s : State) : s.auxStates.now = s.now := by
  unfold State.auxStates
  generalize List.range 4 = channels
  induction channels generalizing s with
  | nil => rfl
  | cons v rest ih => exact (ih _).trans (s.put_now _ _)

theorem State.auxClose_now (s : State) (v : Nat) : (s.auxClose v).now = s.now := by
  unfold State.auxClose
  dsimp only
  split
  · rfl
  · rw [State.auxStates_now]
    split <;> simp [State.setAux]

theorem State.any_ch_auxClose (s : State) (v : Nat) : (s.auxClose v).conf.aux.any (·.ch = v) = s.conf.aux.any (·.ch = v) := by
  cases opened : (s.auxCh v).open_ with
  | none => simp [State.auxClose, opened]
  | some f => rw [(State.auxClose_closes opened).conf, State.any_ch_setAux]

theorem State.auxClose_nextNo (s : State) (v : Nat) : ((s.auxClose v).auxCh v).nextNo = (s.auxCh v).nextNo := by
  cases opened : (s.auxCh v).open_ with
  | none => simp [State.auxClose, opened]
  | some f =>
    rw [State.auxCh_of_conf_eq (State.auxClose_closes opened).conf,
      State.auxCh_setAux_same (x := (s.auxCh v).setOpen _) (s.auxCh_ch v) (State.listed_of_open opened)]
    rfl

/-- The frame that was open stays in its channel, closed. -/
theorem State.auxClose_keeps {g : AuxFrame} (opened : (s.auxCh v).open_ = some g) :
    ∃ g' ∈ ((s.auxClose v).auxCh v).frames, g'.no = g.no ∧ g'.closed = true := by
  have waits : ¬ g.closed = true := by simpa using List.find?_some opened
  rw [State.auxCh_of_conf_eq (State.auxClose_closes opened).conf,
    State.auxCh_setAux_same (x := (s.auxCh v).setOpen _) (s.auxCh_ch v) (State.listed_of_open opened)]
  exact ⟨s.frameClosed v g, List.mem_map.mpr ⟨g, List.mem_of_find?_eq_some opened, if_neg waits⟩, rfl, rfl⟩

theorem logKey_of_lt {k : Nat} (low : k < 0x50000B) : logKey k = false := by
  simp [logKey]; omega

theorem auxCfg_lt {v j : Nat} (channel : v < 4) (small : j < 256) : auxCfg v j < 0x392000 := by unfold auxCfg; omega

/-- A frame that begins late is counted and reported. -/
def State.reportLate (s : State) (v no : Nat) (late : Bool) : State :=
  if late then (s.bump (auxSt v 6)).raiseFirst 0x0609 v (shl no 8 + v : Nat) else s

theorem State.reportLate_conf (s : State) (v no : Nat) (late : Bool) : (s.reportLate v no late).conf = s.conf := by
  cases late <;> simp [State.reportLate, State.bump]

theorem State.o_reportLate (s : State) {v : Nat} (channel : v < 4) (no : Nat) (late : Bool) :
    (s.reportLate v no late).o (auxSt v 7) = s.o (auxSt v 7) := by
  have other : auxSt v 7 ≠ auxSt v 6 := by simp [auxSt]
  cases late
  · rfl
  · exact (State.o_raiseFirst _ _ _ _ (logKey_of_lt (by unfold auxSt; omega))).trans (s.o_bump_ne _ other)

/-- The frame that opens on channel `v`, with the channel's settings. -/
def State.openedFrame (s : State) (v flags : Nat) : AuxFrame := {
  no := (s.auxCh v).nextNo, sect := s.n 0x202004, epoch := s.n 0x7C0007, width := s.n (auxCfg v 3), height := s.n (auxCfg v 4)
  dtype := s.n (auxCfg v 2), colour := s.n (auxCfg v 5), black := s.n (auxCfg v 6), defects := s.blob (auxCfg v 9)
  gains := s.blob (auxCfg v 0x0A), shade := s.b (auxCfg v 0x0B), bilinear := s.b (auxCfg v 0x0C), flags, lines := [], closed := false
  cut := false, startT := s.now, timeout := s.n (auxCfg v 0x0D), band := 0, col := 0 }

/-- The state in which the frame has opened: the channel lists and numbers it, and shows the sensor's number. -/
def State.frameOpened (s : State) (v num flags : Nat) : State :=
  let x := s.auxCh v
  (s.setAux { x with frames := x.frames ++ [s.openedFrame v flags], nextNo := x.nextNo + 1, lastStart := some s.now
                     embedded := [] }).puts [(auxSt v 7, num % 65536), (auxSt v 8, s.livePos)]

/-- The channel lists the frame behind those it had, and numbers the next one after it. -/
theorem State.auxCh_frameOpened (c : State) (num flags : Nat) (late : Bool) (listed : c.conf.aux.any (·.ch = v) = true) :
    let x := ((c.frameOpened v num flags).reportLate v (c.auxCh v).nextNo late).auxCh v
    x.frames = (c.auxCh v).frames ++ [c.openedFrame v flags] ∧ x.nextNo = (c.auxCh v).nextNo + 1 := by
  have conf := (State.reportLate_conf (c.frameOpened v num flags) v (c.auxCh v).nextNo late).trans
    ((State.put_conf _ _ _).trans (State.put_conf _ _ _))
  have set := (State.auxCh_of_conf_eq (v := v) conf).trans (State.auxCh_setAux_same (c.auxCh_ch v) listed)
  exact ⟨congrArg AuxChan.frames set, congrArg AuxChan.nextNo set⟩

theorem State.o_frameOpened (c : State) (num flags no : Nat) (late : Bool) (channel : v < 4) :
    ((c.frameOpened v num flags).reportLate v no late).o (auxSt v 7) = (num % 65536 : Nat) := by
  have other : auxSt v 7 ≠ auxSt v 8 := by simp [auxSt]
  rw [State.o_reportLate _ channel]
  simp [State.frameOpened, State.o_put_ne _ _ other]

/-- A frame `f` of channel `v` has opened in `x`, with the settings of the channel in `s`, and the frame before is closed. -/
structure FrameOpens (s : State) (v num : Nat) (f : AuxFrame) (x : State) : Prop where
  listed : f ∈ (x.auxCh v).frames
  no : f.no = (s.auxCh v).nextNo
  width : f.width = s.n (auxCfg v 3)
  height : f.height = s.n (auxCfg v 4)
  lines : f.lines = []
  closed : f.closed = false
  timeout : f.timeout = s.n (auxCfg v 0x0D)
  startT : f.startT = s.now
  nextNo : (x.auxCh v).nextNo = (s.auxCh v).nextNo + 1
  number : x.o (auxSt v 7) = (num % 65536 : Nat)
  before : ∀ g, (s.auxCh v).open_ = some g → ∃ g' ∈ (x.auxCh v).frames, g'.no = g.no ∧ g'.closed = true

section
variable {ecc num : Nat} (on : s.csiOn = true) (good : ecc ≤ 1)
include on good

/-- A frame start of an enabled channel closes the frame before, and opens the next. -/
theorem State.auxFrameStart_eq (takes : s.auxTakes v = true) (enabled : ((s.packetMet v ecc).auxClose v).b (auxCfg v 1) = true) :
    let c := (s.packetMet v ecc).auxClose v
    ∃ late flags, s.auxFrameStart v num ecc = ((c.frameOpened v num flags).reportLate v (c.auxCh v).nextNo late).auxStates := by
  rw [State.auxFrameStart, State.csiPacket_taken on good takes]
  generalize (s.packetMet v ecc).auxClose v = c at enabled ⊢
  dsimp only
  rw [if_neg (by simp [enabled])]
  exact ⟨_, flagIf _ fLateAux, by unfold State.frameOpened State.reportLate; rfl⟩

theorem State.auxFrameStart_opens (channel : v < 4) (listed : s.conf.aux.any (·.ch = v) = true) (enabled : s.b (auxCfg v 1) = true) :
    ∃ f x, s.auxFrameStart v num ecc = x.auxStates ∧ FrameOpens s v num f x := by
  have met := State.packetMet_meets good listed
  have takes : s.auxTakes v = true := by simp [State.auxTakes, channel, enabled]
  have settings (j : Nat) (small : j < 256) : ((s.packetMet v ecc).auxClose v).o (auxCfg v j) = s.o (auxCfg v j) := by
    have low := auxCfg_lt channel small
    rw [State.o_auxClose _ _ low (logKey_of_lt (low.trans (by decide))), met.objs _ (auxCfg_ne_counts _ _)]
  have setting (j : Nat) (small : j < 256) : ((s.packetMet v ecc).auxClose v).n (auxCfg v j) = s.n (auxCfg v j) :=
    congrArg Int.toNat (settings j small)
  obtain ⟨late, flags, opens⟩ := State.auxFrameStart_eq (num := num) on good takes (by simpa [State.b, settings] using enabled)
  obtain ⟨frames, nextNo⟩ := State.auxCh_frameOpened _ num flags late ((State.any_ch_auxClose _ _).trans met.listed)
  have numbered := (State.auxClose_nextNo _ _).trans met.nextNo
  refine ⟨_, _, opens, {
    listed := frames ▸ List.mem_append_right _ (List.mem_singleton_self _)
    no := numbered
    width := setting _ (by decide)
    height := setting _ (by decide)
    lines := rfl
    closed := rfl
    timeout := setting _ (by decide)
    startT := (State.auxClose_now _ _).trans met.now
    nextNo := nextNo.trans (congrArg (· + 1) numbered)
    number := State.o_frameOpened _ _ _ _ _ channel
    before := fun g opened => ?_ }⟩
  have waiting : ((s.packetMet v ecc).auxCh v).open_ = some g :=
    (congrArg (List.find? fun f : AuxFrame => !f.closed) met.frames).trans opened
  obtain ⟨g', kept, same, shut⟩ := State.auxClose_keeps waiting
  exact ⟨g', frames ▸ List.mem_append_left _ kept, same, shut⟩

end

/-- The frame timeout closes the frame that is open (R250). -/
theorem State.auxTimeout_closes {f : AuxFrame} (opened : (s.auxCh v).open_ = some f) :
    s.auxTimeout v = (s.atTick ((s.auxCh v).lastPkt + f.timeout * tickMs)).auxClose v := by
  rw [State.auxTimeout, opened]

/-! ### Stripes (R255) -/

section
variable {i : Nat} {f : AuxFrame}

/-- A stripe that need not wait, or whose records are admitted, is counted with the time it waited. -/
theorem State.auxStripe_counts (next : s.auxNext = some (i, f)) (goes : f.col ≠ 0 ∨ (s.auxAdmit i f).2 = true) (waited : Nat) :
    s.auxStripe waited =
      let a := if f.col = 0 then (s.auxAdmit i f).1 else s
      let m := (a.bump 0x393005).bump 0x393006 waited
      let b := { m with conf := { m.conf with auxServed := i } }
      if f.width ≤ f.col + 256 then b.auxBandDone i f else b.setAux ((b.auxCh i).setHead fun g => { g with col := g.col + 256 }) := by
  unfold State.auxStripe
  rw [next]
  by_cases first : f.col = 0
  · simp [first, goes.resolve_left (not_not.mpr first)]
  · simp [first]

end

end

/-- Settles O32: every packet goes by `State.csiPacket_taken`, or ends at its header or its channel; a frame start opens a frame as
`FrameOpens` says. -/
theorem auxiliaryPacketsFillFrames : Obligations.AuxiliaryPacketsFillFrames := by
  unfold Obligations.AuxiliaryPacketsFillFrames
  intro s v u alive out c
  refine ⟨fun state => exec_acts State.csiStarted alive rfl (State.csiStarted_starting state),
    fun state => exec_acts State.csiStarted alive rfl (State.csiStarted_stopPending state),
    fun state => exec_acts State.csiStopped alive rfl (State.csiStopped_stopping state),
    fun state => exec_acts State.csiStopped alive rfl (State.csiStopped_startPending state),
    fun on => ⟨fun ecc good takes => ?_, fun num ecc good listed enabled => ?_, fun num => ?_, fun num untaken => ?_⟩,
    fun f opened => ?_, fun i f waited next goes => ?_⟩
  · intro h a
    refine ⟨exec_acts (·.auxFrameEnd u ecc) alive rfl (State.csiPacket_taken on good takes _),
      exec_acts (·.auxShort u ecc) alive rfl (State.csiPacket_taken on good takes _),
      fun f dtype samples opened whole expected low high => ⟨?_, ?_⟩, fun f data opened whole => ?_⟩
    · exact exec_acts (·.auxLong u dtype ecc true samples) alive rfl
        (State.auxLong_line on good takes opened whole expected low high true samples)
    · exact exec_acts (·.auxLong u dtype ecc false samples) alive rfl
        (State.auxLong_line on good takes opened whole expected low high false samples)
    · exact exec_acts (·.auxEmbedded u ecc _) alive rfl (State.auxEmbedded_joins on good takes opened whole data)
  · obtain ⟨f, x, starts, opens⟩ := State.auxFrameStart_opens (num := num) on good v.isLt listed enabled
    exact ⟨f, x, exec_acts (·.auxFrameStart v num ecc) alive rfl starts, opens.listed, opens.no, opens.width, opens.height, opens.lines,
      opens.closed, opens.timeout, opens.startT, opens.nextNo, opens.number, opens.before⟩
  · exact ⟨exec_acts (·.auxFrameStart u num 2) alive rfl (State.csiPacket_uncorrectable on _ _),
      exec_acts (·.auxFrameEnd u 2) alive rfl (State.csiPacket_uncorrectable on _ _),
      exec_acts (·.auxShort u 2) alive rfl (State.csiPacket_uncorrectable on _ _)⟩
  · exact ⟨exec_acts (·.auxFrameStart u num 0) alive rfl (State.csiPacket_discarded on untaken _),
      exec_acts (·.auxFrameEnd u 0) alive rfl (State.csiPacket_discarded on untaken _)⟩
  · exact exec_acts (·.auxTimeout v) alive rfl (State.auxTimeout_closes opened)
  · intro a m b
    have counts := State.auxStripe_counts next goes waited
    exact ⟨fun more => exec_acts (·.auxStripe waited) alive rfl (counts.trans (if_neg (by omega))),
      fun last => exec_acts (·.auxStripe waited) alive rfl (counts.trans (if_pos last))⟩

end Sys2Proof.Machine
end

section
/-!
The mailbox, the rings and the queues at work (R245, R265 to R269, R272): what a GO starts, what a doorbell moves, what a fetch of
descriptors that ends leaves, and which record is written next.
-/
namespace Sys2Proof.Machine

section
variable {s : State}

/-! ### The mailbox (R265) -/

/-- A GO that reaches the mailbox starts it, with the request that was written. -/
theorem State.mailboxGo_reaches (on : s.pcieOn = true) (up : s.o 0x500001 ≠ 0) (req : List Nat) :
    s.mailboxGo req = { s with host := { s.host with mbReq := req } }.mailboxStart := by
  simp [State.mailboxGo, State.is, on, up]

theorem State.mailboxStart_busy (busy : s.host.mbState = 1) : s.mailboxStart = s.bump 0x500801 := if_pos busy

theorem State.mailboxStart_idle (idle : s.host.mbState ≠ 1) : s.mailboxStart =
    ({ s with host := { s.host with mbState := 1 } }.bump 0x500802).arrive { port := 1, seq := 0, req := mailboxReq s.host.mbReq } := by
  rw [State.mailboxStart, if_neg idle]
  simp [State.bump]

/-! ### Doorbells (R268, R272) -/

section
variable {v : Nat} (unrestricted : s.o 0x102001 ≠ dsRestricted)
include unrestricted

/-- The doorbell of a ring. -/
theorem State.doorbell_ring (r : Fin 10) : s.doorbell (8 * r) v =
    if s.n (ringKey r 2) ≤ v then s.raiseFirst 0x0709 0 (shl v 16 + 8 * r : Nat) else (s.put (ringKey r 7) v).ringFetch r := by
  have offset : (decide (8 * r.val % 8 = 0) && decide (8 * r.val < 80)) = true := by simp; omega
  have ring : 8 * r.val / 8 = r := by omega
  unfold State.doorbell
  dsimp only
  rw [if_neg (by simpa [State.is] using unrestricted), if_pos offset, ring]

/-- The doorbell of the completion queue, with its value inside. -/
theorem State.doorbell_completionQueue (inside : v < s.n 0x503002) :
    s.doorbell 0x80 v = State.drainBacklog 1280 (s.put 0x503005 v) := by
  simp [State.doorbell, State.is, unrestricted, inside.not_ge]

/-- The doorbell of the event queue, with its value inside. -/
theorem State.doorbell_eventQueue (inside : v < s.n 0x503102) : s.doorbell 0x88 v =
    let a := s.put 0x503105 v
    if a.host.evOmitted = 0 ∨ a.evFull = true ∨ a.o 0x503103 = 0 then a
    else { a with host := { a.host with evOmitted := 0 } }.raise 0x0706 (a.host.evOmitted : Nat) := by
  simp [State.doorbell, State.is, State.b, unrestricted, inside.not_ge, or_assoc]

end

/-! ### Descriptors (R267, R268) -/

section
variable {r t n : Nat} (fetching : (s.ring r).fetching = some (t, n)) (active : s.ringActive r = true)
include fetching

theorem State.listed_of_fetching : s.host.rings.any (·.no = r) = true := by
  by_contra unlisted
  have none : s.host.rings.find? (·.no = r) = none := by simpa using unlisted
  rw [State.ring, none] at fetching
  cases fetching

include active

theorem State.fetchTimeout_fails : s.fetchTimeout r = (s.atTick (t + 50 * tickMs)).ringFail r := by
  rw [State.fetchTimeout, fetching]
  exact if_pos active

theorem State.fetchDone_fails (ds : List (Nat × Nat × Nat × Nat)) : s.fetchDone r false ds = s.ringFail r := by
  simp [State.fetchDone, fetching, active]

end

theorem State.ring_no (s : State) (r : Nat) : (s.ring r).no = r := by
  unfold State.ring
  cases found : s.host.rings.find? (·.no = r) with
  | none => rfl
  | some x => simpa using List.find?_some found

/-- A listed ring reads as it was put. -/
theorem State.ring_setRing {r : Nat} {x : RingSt} (listed : s.host.rings.any (·.no = r) = true) (no : x.no = r) :
    (s.setRing x).ring r = x := by
  subst no
  unfold State.ring State.setRing
  rw [find?_replace_same RingSt.no x listed]
  rfl

/-- Descriptors that arrive join the ring's list, and the next fetch begins. -/
theorem State.fetchDone_extends {r : Nat} {t n : Nat} (fetching : (s.ring r).fetching = some (t, n)) (active : s.ringActive r = true)
    (ds : List (Nat × Nat × Nat × Nat)) :
    ∃ (x : State) (new : List Desc), s.fetchDone r true ds = x.ringFetch r ∧ (x.ring r).descs = (s.ring r).descs ++ new
      ∧ new.length = min n ds.length ∧ (x.ring r).fetching = none ∧ x.objs = s.objs := by
  unfold State.fetchDone
  dsimp only
  rw [fetching]
  dsimp only
  rw [if_neg (by simp [active]), if_neg (by simp)]
  have listed := State.listed_of_fetching fetching
  exact ⟨_, _, rfl, congrArg RingSt.descs (State.ring_setRing listed (by exact s.ring_no r)), by simp,
    congrArg RingSt.fetching (State.ring_setRing listed (by exact s.ring_no r)), rfl⟩

theorem State.bufFlush_completes {r : Nat} {b : OpenBuf} (opened : (s.ring r).buf = some b) (may : s.mayComplete = true) :
    s.bufFlush r = (s.atTick (b.since + s.n (ringKey r 4) * tickUs)).bufDone r := by
  rw [State.bufFlush, opened]
  exact if_pos may

theorem State.moderation_fires {m : Nat} {x : VecState} (waits : s.host.vecs.find? (·.vec = m) = some x) :
    s.moderation m = (s.atTick (x.since + s.n 0x503202 * tickUs)).fire m := by
  rw [State.moderation, waits]

/-! ### Records (R245) -/

/-- Whether the record that a stream hands over next is of an auxiliary source. -/
def State.auxReady (s : State) (k : Nat) : Bool := isAux (((s.stream k).ready.map (·.src)).getD 0)

/-- The streams that can hand over a record, in the order in which they are served. -/
def State.served (s : State) : List Nat :=
  let ks := (List.range 8).filter s.streamServes
  ks.filter (!s.auxReady ·) ++ ks.filter (s.auxReady ·)

theorem State.recordWritten_statistics (stat : s.closeFull.statServes = true) : s.recordWritten = s.closeFull.statServe := if_pos stat

theorem State.recordWritten_crumb (stat : s.closeFull.statServes = false) (crumb : s.closeFull.crumbServes = true) :
    s.recordWritten = s.closeFull.crumbServe :=
  (if_neg (by simp [stat])).trans (if_pos crumb)

theorem State.recordWritten_stream (stat : s.closeFull.statServes = false) (crumb : s.closeFull.crumbServes = false) {k : Nat}
    {rest : List Nat} (next : s.closeFull.served = k :: rest) : s.recordWritten = s.closeFull.streamServe k := by
  simp only [State.served, State.auxReady] at next
  simp only [State.recordWritten, stat, crumb, next, Bool.false_eq_true, if_false]

end

end Sys2Proof.Machine
end

section
/-!
The enables of the rings and of the completion queue (R267, R270, R271, R295): what a write that the unit takes or refuses answers, and
the statement about rings.
-/
namespace Sys2Proof.Machine
open Sys2Proof.Safety

/-! ### Writes of an enable (R302) -/

/-- An object of one byte, 0 or 1, that a write sets at once. -/
structure IsEnable (k : Nat) (row : ObjRow) : Prop where
  listed : findRow k = some row
  ty : row.ty = .bool
  acc : row.acc = .rw
  app : row.app = .now
  high : 0x324800 ≤ k
  low : k < 0x540001

section
variable {s x : State} {c : Instr} {w : Sender} {k v : Nat} {row : ObjRow}

theorem IsEnable.setKey (is : IsEnable k row) (q : State) (v : Nat) : q.setKey k [v] = q.setScalar k (decodeVal .bool [v]) := by
  unfold State.setKey
  rw [is.listed]
  simp [is.ty, is.app, OTy.isBlob]

theorem State.opWriteValue_plain (q : State) (port k : Nat) (bs : List Nat) : q.opWriteValue port (writeOf k bs) bs =
    let y := q.plainWrite port k bs
    { status := y.1, ids := y.2.1, data := y.2.2.1, next := y.2.2.2 } := by
  simp [State.opWriteValue, State.named, writeOf, stOk]

/-- A value that the unit refuses answers `STATE`, and changes nothing. -/
theorem IsEnable.plainWrite_refuses (is : IsEnable k row) {q : State} (checks : q.writeStatus k [v] false = stOk)
    (refuses : (q.setScalar k (decodeVal .bool [v])).1 = stState) (port : Nat) :
    q.plainWrite port k [v] = (stState, none, [], q) := by
  have state : q.stateStatus k row [v] = stState := by
    simp [State.stateStatus, is.ty, is.acc, is.app, refuses, OTy.isBlob]
  have normal := q.normalBytes_of_ge [v] is.high
  unfold State.plainWrite
  simp [checks, is.listed, is.app, normal, State.writeNow, state, stOk, stState]

/-- An accepted write that the unit takes. -/
theorem exec_enables (is : IsEnable k row) (h : Accepted s w k [v]) (hc : exec c s = s.act fun s => s.write w k [v])
    (takes : (taken s w (writeOf k [v])).setScalar k (decodeVal .bool [v]) = (stOk, x)) :
    exec c s = .next (s.settle (replyOk w (writeOf k [v]) (applied (taken s w (writeOf k [v])) k [v] x))) := by
  have written := write_applied s w k [v] row h is.listed (by simp [is.acc]) (by simp [is.app]) (is.low.trans (by decide))
    (one_le_portLimit _) (State.normalBytes_of_ge _ _ is.high) is.low.ne
  refine exec_acts (·.write w k [v]) h.runs hc (written.trans ?_)
  simp [State.applyNow, is.setKey, takes, replyOk, applied]

/-- A checked write that the unit refuses. -/
theorem exec_refuses (is : IsEnable k row) (h : Checked s w k [v]) (hc : exec c s = s.act fun s => s.write w k [v])
    (refuses : ((taken s w (writeOf k [v])).setScalar k (decodeVal .bool [v])).1 = stState) :
    exec c s = .next (s.settle (reply w (writeOf k [v])
      { status := stState, ids := none, data := [], next := taken s w (writeOf k [v]) })) := by
  refine exec_acts (·.write w k [v]) h.runs hc ?_
  rw [write_served s w k [v] h.toServed (is.low.trans (by decide)) (one_le_portLimit _), State.opWriteValue_plain,
    is.plainWrite_refuses h.checks refuses]

end

theorem isEnable_ring (r : Fin 10) : IsEnable (ringKey r 5) ⟨0x5020, 10, 0x05, 1, .bool, .rw, .now, 0, .span 0 1⟩ where
  listed := by revert r; decide +kernel
  ty := rfl
  acc := rfl
  app := rfl
  high := by unfold ringKey; omega
  low := by unfold ringKey; omega

theorem isEnable_completionQueue : IsEnable 0x503003 ⟨0x5030, 1, 0x03, 1, .bool, .rw, .now, 0, .span 0 1⟩ where
  listed := by decide +kernel
  ty := rfl
  acc := rfl
  app := rfl
  high := by decide
  low := by decide

theorem State.setScalar_ring (s : State) (r : Fin 10) (on : Bool) :
    s.setScalar (ringKey r 5) (decodeVal .bool [boolByte on]) = s.ringEnable r on := by
  have value : decide (decodeVal .bool [boolByte on] ≠ 0) = on := by cases on <;> decide
  have index : ringKey r 5 / 256 = 0x5020 + r := by unfold ringKey; omega
  have sub : ringKey r 5 % 256 = 5 := by unfold ringKey; omega
  unfold State.setScalar
  dsimp only
  rw [index, sub, value, if_neg (by simp), if_pos (by simp; omega)]
  simp

theorem State.setScalar_completionQueue (s : State) (on : Bool) :
    s.setScalar 0x503003 (decodeVal .bool [boolByte on]) = s.cqEnable on := by
  have value : decide (decodeVal .bool [boolByte on] ≠ 0) = on := by cases on <;> decide
  unfold State.setScalar
  simp [value]

section
variable {s : State} {r : Nat}

/-! ### The enable of a ring (R267) -/

theorem State.ringEnable_queueOff (queue : s.o 0x503003 = 0) : s.ringEnable r true = (stState, s) := by
  simp [State.ringEnable, State.b, queue]

theorem State.ringEnable_again (queue : s.o 0x503003 ≠ 0) (on : s.o (ringKey r 5) ≠ 0) : s.ringEnable r true = (stOk, s) := by
  simp [State.ringEnable, State.b, queue, on]

@[simp] theorem State.o_setRing (s : State) (x : RingSt) (k : Nat) : (s.setRing x).o k = s.o k := rfl

theorem ringKey_inj {r i j : Nat} : ringKey r i = ringKey r j ↔ i = j := by simp [ringKey]

/-- A ring that is enabled is `ACTIVE`, with its indices at 0. -/
theorem State.ringEnable_enables (queue : s.o 0x503003 ≠ 0) (off : s.o (ringKey r 5) = 0) :
    ∃ x, s.ringEnable r true = (stOk, x) ∧ x.o (ringKey r 5) = 1 ∧ x.o (ringKey r 7) = 0 ∧ x.o (ringKey r 8) = 0
      ∧ x.o (ringKey r 9) = 1 := by
  unfold State.ringEnable
  rw [if_pos rfl, if_neg (by simpa [State.b] using queue), if_neg (by simpa [State.b] using off)]
  exact ⟨_, rfl, by simp [State.o_put, ringKey_inj]⟩

theorem State.ringDisable_used (on : s.o (ringKey r 5) ≠ 0) (used : s.ringUsed r = true) : s.ringEnable r false = (stState, s) := by
  simp [State.ringEnable, State.b, on, used]

theorem State.ringDisable_again (off : s.o (ringKey r 5) = 0) : s.ringEnable r false = (stOk, s) := by
  simp [State.ringEnable, State.b, off]

theorem State.ringDisable_disables (on : s.o (ringKey r 5) ≠ 0) (unused : s.ringUsed r = false) :
    ∃ x, s.ringEnable r false = (stOk, x) ∧ x.o (ringKey r 5) = 0 ∧ x.o (ringKey r 9) = 0 := by
  unfold State.ringEnable
  rw [if_neg (by simp), if_neg (by simpa [State.b] using on), if_neg (by simp [unused])]
  exact ⟨_, rfl, by simp [State.o_put, ringKey_inj]⟩

/-! ### The enable of the completion queue (R270, R271, R295) -/

theorem State.cqEnable_again (on : s.o 0x503003 ≠ 0) : s.cqEnable true = (stOk, s) := by
  simp [State.cqEnable, State.b, on]

theorem State.cqDisable_used (small : r < 10) (on : s.o (ringKey r 5) ≠ 0) : s.cqEnable false = (stState, s) := by
  have used : ((List.range 10).any fun r => s.b (ringKey r 5)) = true :=
    List.any_eq_true.mpr ⟨r, List.mem_range.mpr small, by simpa [State.b] using on⟩
  simp only [State.cqEnable, used, Bool.false_eq_true, if_false, if_true]

theorem State.cqDisable_disables (off : ∀ j, j < 10 → s.o (ringKey j 5) = 0) : s.cqEnable false = (stOk, s.put 0x503003 0) := by
  have unused : ((List.range 10).any fun r => s.b (ringKey r 5)) = false :=
    List.any_eq_false.mpr fun j small => by simpa [State.b] using off j (List.mem_range.mp small)
  simp only [State.cqEnable, unused, Bool.false_eq_true, if_false]

/-- The second state differs from the first in what entries of the completion queue change, but not in its enable or the detached
log. -/
structure QueueWritten (s t : State) : Prop where
  enabled : t.o 0x503003 = s.o 0x503003
  detached : t.host.detached = s.host.detached

theorem QueueWritten.trans {s t u : State} (first : QueueWritten s t) (next : QueueWritten t u) : QueueWritten s u :=
  ⟨next.enabled.trans first.enabled, next.detached.trans first.detached⟩

theorem LogSame.queueWritten {s t : State} (same : LogSame s t) : QueueWritten s t :=
  ⟨same.objs _ (by decide), by rw [same.host]⟩

theorem QueueWritten.put (s : State) {k : Nat} (other : 0x503003 ≠ k) (v : Int) : QueueWritten s (s.put k v) :=
  ⟨s.o_put_ne v other, by rw [State.put_host]⟩

/-- An entry that is written. -/
theorem State.cqWrite_writes (s : State) (e : CqEntry) : QueueWritten s (s.cqWrite e) := by
  unfold State.cqWrite
  extract_lets p a b turned c
  have sent : QueueWritten s a := ((LogSame.refl s).dma ..).queueWritten
  have moved : QueueWritten s b := sent.trans (.put a (by decide) _)
  have phased : QueueWritten s c := by
    unfold c
    split
    · exact ⟨moved.enabled, moved.detached⟩
    · exact moved
  exact phased.trans ((LogSame.refl c).signal _).queueWritten

theorem State.drainBacklog_writes (n : Nat) (s : State) : QueueWritten s (State.drainBacklog n s) := by
  induction n generalizing s with
  | zero => exact ⟨rfl, rfl⟩
  | succ n ih =>
    unfold State.drainBacklog
    split
    · exact ⟨rfl, rfl⟩
    · split
      · exact ⟨rfl, rfl⟩
      · next e rest _ _ =>
        have taken : QueueWritten s { s with host := { s.host with backlog := rest } } := ⟨rfl, rfl⟩
        exact ((taken.trans (.put _ (by decide) _)).trans (State.cqWrite_writes _ e)).trans (ih _)

/-- The queue as it is enabled: its indices at 0, the detached log before what waits. -/
def State.cqBegun (s : State) : State :=
  { s.puts [(0x503003, 1), (0x503004, 0), (0x503005, 0), (0x50F001, 0)] with
    host := { s.host with cqPhase := true, detached := [], backlog := s.host.detached ++ s.host.backlog } }

theorem State.o_cqBegun (s : State) : s.cqBegun.o 0x503003 = 1 ∧ s.cqBegun.o 0x503004 = 0 ∧ s.cqBegun.o 0x503005 = 0 := by
  have begun (k : Nat) : s.cqBegun.o k = (s.puts [(0x503003, 1), (0x503004, 0), (0x503005, 0), (0x50F001, 0)]).o k := rfl
  simp [begun, State.o_put]

/-- The queue as it is once it has drained what waited. -/
def State.cqDrained (s : State) : State := State.drainBacklog (s.host.detached ++ s.host.backlog).length s.cqBegun

theorem State.cqEnable_eq (off : s.o 0x503003 = 0) :
    s.cqEnable true = (stOk, s.cqDrained.put 0x503006 (min 1024 s.cqDrained.host.backlog.length)) := by
  have host : (s.puts [(0x503003, 1), (0x503004, 0), (0x503005, 0), (0x50F001, 0)]).host = s.host := by simp
  unfold State.cqEnable State.cqDrained State.cqBegun
  rw [if_pos rfl, if_neg (by simp [State.b, off])]
  dsimp only
  rw [host]

/-- The queue is enabled with its indices at 0, and drains what waits. -/
theorem State.cqEnable_enables (off : s.o 0x503003 = 0) :
    ∃ x, s.cqEnable true = (stOk, x) ∧ x.o 0x503003 = 1 ∧ x.host.detached = []
      ∧ (s.host.detached = [] → s.host.backlog = [] → x.o 0x503004 = 0 ∧ x.o 0x503005 = 0 ∧ x.host.cqPhase = true) := by
  obtain ⟨shown, producer, consumer⟩ := s.o_cqBegun
  have drained : QueueWritten s.cqBegun s.cqDrained := State.drainBacklog_writes _ _
  refine ⟨_, State.cqEnable_eq off, ?_, ?_, fun detached backlog => ?_⟩
  · rw [State.o_put_ne _ _ (by decide), drained.enabled, shown]
  · rw [State.put_host, drained.detached]
    rfl
  · have nothing : s.cqDrained = s.cqBegun := by simp [State.cqDrained, detached, backlog, State.drainBacklog]
    rw [nothing, State.o_put_ne _ _ (by decide), State.o_put_ne _ _ (by decide), State.put_host]
    exact ⟨producer, consumer, rfl⟩

end

/-- Settles O36: each command at work goes by the lemma of its operation; a write of an enable answers by `exec_enables` or
`exec_refuses` what `State.ringEnable` and `State.cqEnable` come to. -/
theorem ringsFollowEnablesAndDoorbells : Obligations.RingsFollowEnablesAndDoorbells := by
  unfold Obligations.RingsFollowEnablesAndDoorbells
  constructor
  · intro s r v alive out
    have doorbell {off : Nat} {x : State} (on : s.pcieOn = true) (moves : s.doorbell off v = x) : exec (.doorbell off v) s = out x :=
      exec_acts (fun s => if s.pcieOn then s.doorbell off v else s) alive rfl ((if_pos on).trans moves)
    refine ⟨fun req on up => ?_, fun on unrestricted => ⟨fun inside => ?_, fun inside => ?_, fun inside => ?_, fun outside => ?_⟩,
      fun m x waits => ?_, fun t n ds fetching active => ?_, fun b opened may => ?_, ?_⟩
    · have reaches := State.mailboxGo_reaches on up req
      exact ⟨fun busy => exec_acts (·.mailboxGo req) alive rfl (reaches.trans (State.mailboxStart_busy busy)),
        fun idle => exec_acts (·.mailboxGo req) alive rfl (reaches.trans (State.mailboxStart_idle idle))⟩
    · exact doorbell on ((State.doorbell_ring unrestricted r).trans (if_neg inside.not_ge))
    · exact doorbell on (State.doorbell_completionQueue unrestricted inside)
    · intro a
      have moves := State.doorbell_eventQueue unrestricted inside
      exact ⟨fun silent => doorbell on (moves.trans (if_pos silent)), fun omitted room enabled => doorbell on
        (moves.trans (if_neg (not_or.mpr ⟨omitted, not_or.mpr ⟨Bool.eq_false_iff.mp room, enabled⟩⟩)))⟩
    · exact doorbell on ((State.doorbell_ring unrestricted r).trans (if_pos outside))
    · exact exec_acts (·.moderation m) alive rfl (State.moderation_fires waits)
    · obtain ⟨x, new, joins, descs, length, free, objs⟩ := State.fetchDone_extends fetching active ds
      exact ⟨exec_acts (·.fetchTimeout r) alive rfl (State.fetchTimeout_fails fetching active),
        exec_acts (·.fetchDone r false ds) alive rfl (State.fetchDone_fails fetching active ds),
        x, new, exec_acts (·.fetchDone r true ds) alive rfl joins, descs, length, free, objs⟩
    · exact exec_acts (·.bufFlush r) alive rfl (State.bufFlush_completes opened may)
    · intro a aux ks
      exact ⟨fun stat => exec_acts State.recordWritten alive rfl (State.recordWritten_statistics stat),
        fun stat crumb => exec_acts State.recordWritten alive rfl (State.recordWritten_crumb stat crumb),
        fun stat crumb k rest next => exec_acts State.recordWritten alive rfl (State.recordWritten_stream stat crumb next)⟩
  · intro s w r q done refused k
    have ring (on : Bool) {x : State} (accepted : Accepted s w k [boolByte on])
        (takes : (q k (boolByte on)).ringEnable r on = (stOk, x)) : done (.ringEnable w r on) k (boolByte on) x :=
      exec_enables (isEnable_ring r) accepted rfl ((State.setScalar_ring _ r on).trans takes)
    have ringRefused (on : Bool) (checked : Checked s w k [boolByte on])
        (refuses : (q k (boolByte on)).ringEnable r on = (stState, q k (boolByte on))) :
        refused (.ringEnable w r on) k (boolByte on) stState :=
      exec_refuses (isEnable_ring r) checked rfl (congrArg Prod.fst ((State.setScalar_ring _ r on).trans refuses))
    have queue (on : Bool) {x : State} (accepted : Accepted s w 0x503003 [boolByte on])
        (takes : (q 0x503003 (boolByte on)).cqEnable on = (stOk, x)) : done (.completionQueueEnable w on) 0x503003 (boolByte on) x :=
      exec_enables isEnable_completionQueue accepted rfl ((State.setScalar_completionQueue _ on).trans takes)
    refine ⟨fun checked queueOff => ?_, fun accepted queueOn => ⟨fun off => ?_, fun on => ?_⟩, fun checked on used => ?_,
      fun accepted => ⟨fun on unused => ?_, fun off => ?_⟩, fun accepted off => ?_, fun accepted on => ?_, fun checked on => ?_,
      fun accepted off => ?_⟩
    · exact ringRefused true checked (State.ringEnable_queueOff queueOff)
    · obtain ⟨x, takes, shown, producer, consumer, active⟩ := State.ringEnable_enables queueOn off
      exact ⟨x, ring true accepted takes, shown, producer, consumer, active⟩
    · exact ring true accepted (State.ringEnable_again queueOn on)
    · exact ringRefused false checked (State.ringDisable_used on used)
    · obtain ⟨x, takes, shown, stopped⟩ := State.ringDisable_disables on unused
      exact ⟨x, ring false accepted takes, shown, stopped⟩
    · exact ring false accepted (State.ringDisable_again off)
    · obtain ⟨x, takes, shown, drained, empty⟩ := State.cqEnable_enables off
      exact ⟨x, queue true accepted takes, shown, drained, empty⟩
    · exact queue true accepted (State.cqEnable_again on)
    · exact exec_refuses isEnable_completionQueue checked rfl
        (congrArg Prod.fst ((State.setScalar_completionQueue _ false).trans (State.cqDisable_used r.isLt on)))
    · exact queue false accepted (State.cqDisable_disables off)

end Sys2Proof.Machine
end

section
/-!
What the reset of the function (R295) leaves where it does not clear: the function's counts and enables, its mailbox, lookup and pages,
its configuration words and the clock.
-/
namespace Sys2Proof.Machine

/-! ### The relation -/

/-- Objects that a reset of the function counts in or clears: its count, the enables of the completion queue and of the rings. -/
def functionKey (k : Nat) : Bool := k = 0x500009 || k = 0x503003 || (k % 256 = 5 && 0x502005 ≤ k && k ≤ 0x502905)

/-- What a reset of the function clears beside the objects, and the clock. -/
def State.functionView (s : State) : List Page × Nat × Option (Nat × Nat) × Bool × Bool × List (Nat × Nat) × Nat :=
  (s.host.pages, s.host.mbState, s.host.look, s.host.d3, s.host.perst, s.host.cfg, s.now)

/-- The second state keeps what a reset of the function counts in or clears. -/
structure FunctionKept (s t : State) : Prop where
  objs : ∀ k, functionKey k = true → t.o k = s.o k
  view : t.functionView = s.functionView

theorem logKey_of_functionKey {k : Nat} (is : functionKey k = true) : logKey k = false := by
  simp only [functionKey, Bool.or_eq_true, Bool.and_eq_true, decide_eq_true_eq] at is
  simp only [logKey, Bool.or_eq_false_iff, decide_eq_false_iff_not, Bool.and_eq_false_iff]
  omega

theorem functionKey_ring {r : Nat} (ring : r < 10) : functionKey (ringKey r 5) = true := by
  have sub : ringKey r 5 % 256 = 5 := by unfold ringKey; omega
  have low : 0x502005 ≤ ringKey r 5 := by unfold ringKey; omega
  have high : ringKey r 5 ≤ 0x502905 := by unfold ringKey; omega
  simp [functionKey, sub, low, high]

section
variable {s t u : State}

theorem FunctionKept.refl (s : State) : FunctionKept s s := ⟨fun _ _ => rfl, rfl⟩

theorem FunctionKept.trans (h : FunctionKept s t) (g : FunctionKept t u) : FunctionKept s u :=
  ⟨fun k is => (g.objs k is).trans (h.objs k is), g.view.trans h.view⟩

/-- An update beside the objects and the function's part. -/
theorem FunctionKept.beside {x : State} (h : FunctionKept s t) (objs : x.objs = t.objs) (view : x.functionView = t.functionView) :
    FunctionKept s x :=
  h.trans ⟨fun k _ => by simp only [State.o, objs], view⟩

theorem FunctionKept.log (h : FunctionKept s t) (g : LogSame t u) : FunctionKept s u :=
  h.trans ⟨fun k is => g.objs k (logKey_of_functionKey is), by simp only [State.functionView, g.now]; rw [g.host]⟩

theorem FunctionKept.put (h : FunctionKept s t) {k : Nat} (other : functionKey k = false) (v : Int) : FunctionKept s (t.put k v) :=
  h.trans ⟨fun _ is => State.o_put_ne t v fun same => absurd is (by simp [same, other]), by simp [State.functionView]⟩

theorem FunctionKept.bump (h : FunctionKept s t) {k : Nat} (other : functionKey k = false) (d : Nat := 1) :
    FunctionKept s (t.bump k d) :=
  h.put other _

theorem FunctionKept.ite {c : Prop} [Decidable c] (h : FunctionKept s t) (g : FunctionKept s u) :
    FunctionKept s (if c then t else u) := by
  split
  · exact h
  · exact g

theorem FunctionKept.foldl {α : Type} {f : State → α → State} (h : FunctionKept s t)
    (g : ∀ {u}, FunctionKept s u → ∀ a, FunctionKept s (f u a)) (l : List α) : FunctionKept s (l.foldl f t) :=
  List.foldlRecOn l f h fun _ hu a _ => g hu a

theorem FunctionKept.puts (h : FunctionKept s t) {l : List (Nat × Int)} (other : ∀ p ∈ l, functionKey p.1 = false) :
    FunctionKept s (t.puts l) :=
  List.foldlRecOn l _ h fun _ hu p listed => hu.put (other p listed) p.2

theorem FunctionKept.raise (h : FunctionKept s t) (code : Nat) (data : Int) : FunctionKept s (t.raise code data) :=
  h.log (t.raise_same _ _)

theorem FunctionKept.raiseFirst (h : FunctionKept s t) (code disc : Nat) (data : Int) : FunctionKept s (t.raiseFirst code disc data) :=
  h.log (t.raiseFirst_same _ _ _)

/-! ### Completion entries (R270, R271, R296) -/

theorem FunctionKept.detach (h : FunctionKept s t) (e : CqEntry) : FunctionKept s (t.detach e) := by
  unfold State.detach
  exact FunctionKept.ite ((h.beside (by rfl) (by rfl)).put (by decide) _)
    (FunctionKept.bump (FunctionKept.ite ((h.beside (by rfl) (by rfl)).raise _ _) (h.beside (by rfl) (by rfl))) (by decide))

theorem FunctionKept.cqWrite (h : FunctionKept s t) (e : CqEntry) : FunctionKept s (t.cqWrite e) := by
  unfold State.cqWrite
  extract_lets p a b _ c
  have put : FunctionKept s b := (h.log ((LogSame.refl t).dma _ _ _ _)).put (by decide) _
  have turned : FunctionKept s c := FunctionKept.ite (put.beside (by rfl) (by rfl)) put
  exact turned.log (c.signal_same _)

theorem FunctionKept.complete (h : FunctionKept s t) (e : CqEntry) : FunctionKept s (t.complete e) := by
  unfold State.complete
  exact FunctionKept.ite (h.detach e) (FunctionKept.ite (h.cqWrite e) (FunctionKept.ite
    (FunctionKept.put (FunctionKept.beside (h.raiseFirst _ _ _) (by rfl) (by rfl)) (by decide) _)
    (FunctionKept.bump (FunctionKept.beside (FunctionKept.ite (h.raise _ _) h) (by rfl) (by rfl)) (by decide))))

theorem FunctionKept.statLost (h : FunctionKept s t) (x : StatRec) (cause : Nat) : FunctionKept s (t.statLost x cause) :=
  ((h.complete _).bump (by decide)).raiseFirst _ _ _

theorem FunctionKept.detachBuffer (h : FunctionKept s t) (r : Nat) : FunctionKept s (t.detachBuffer r) := by
  unfold State.detachBuffer
  split
  · exact FunctionKept.ite h (h.detach _)
  · exact h

/-! ### The link and the port (R261, R318, R320) -/

theorem FunctionKept.linkDown (h : FunctionKept s t) : FunctionKept s t.linkDown :=
  FunctionKept.ite h ((((h.put (by decide) _).put (by decide) _).bump (by decide)).raise _ _)

theorem functionKey_txn (p j : Nat) : functionKey (txnKey p j) = false := by
  have high : 0x7C1000 ≤ txnKey p j := by unfold txnKey; omega
  simp only [functionKey, Bool.or_eq_false_iff, Bool.and_eq_false_iff, decide_eq_false_iff_not]
  omega

theorem FunctionKept.showStaging (h : FunctionKept s t) : FunctionKept s t.showStaging := h.puts (by simp; decide)

theorem FunctionKept.txnDrop (h : FunctionKept s t) (p : Nat) : FunctionKept s (t.txnDrop p) := by
  have free : FunctionKept s (t.txnFree p) :=
    have unstaged : FunctionKept s (t.setTxn p { t.txn p with staged := [] }) := h.beside (by rfl) (by rfl)
    have closed := unstaged.puts (l := [(txnKey p 1, 0), (txnKey p 2, 0)]) (by simp [functionKey_txn])
    (closed.beside (x := State.pruneHist _) (by rfl) (by rfl)).showStaging
  exact (free.bump (k := 0x7C0009) (by decide)).beside (by rfl) (by rfl)

theorem FunctionKept.portLost (h : FunctionKept s t) (p cause : Nat) : FunctionKept s (t.portLost p cause) :=
  FunctionKept.ite (((h.beside (by rfl) (by rfl)).txnDrop p).raise _ _) (h.beside (by rfl) (by rfl))

end

end Sys2Proof.Machine
end

section
/-!
The PCI Express function (R259 to R262, R264, R295, R297): its configuration space, its link, what its reset clears, and the statement
about it.
-/
namespace Sys2Proof.Machine

section
variable {s : State}

/-! ### Configuration space (R259, R260) -/

theorem State.perstRelease_releases (asserted : s.host.perst = true) :
    s.perstRelease = { s with host := { s.host with perst := false, perstT := s.now } } :=
  if_pos asserted

/-- The state with a dword of configuration space as a write leaves it. -/
def State.cfgWritten (s : State) (o value be : Nat) : State :=
  let w := mergeBytes be (s.cfgWord o) value
  { s with host := { s.host with cfg := mapPut s.host.cfg o w, ptm := if o = 0x218 then w.testBit 0 else s.host.ptm } }

theorem State.configRequest_eq (on : s.pcieOn = true) (wr : Bool) (off value be : Nat) : s.configRequest wr off value be =
    if s.boot.step ≤ 2 then s.emit .configRetry
    else if wr = false then s.emit (.completion (s.cfgRead (off / 4 * 4)))
    else s.cfgWritten (off / 4 * 4) value be := by
  cases wr <;> simp [State.configRequest, State.cfgWritten, on]

theorem State.cfgWord_cfgWritten (s : State) (o value be : Nat) :
    (s.cfgWritten o value be).cfgWord o = mergeBytes be (s.cfgWord o) value := by
  have listed : mapGet (s.cfgWritten o value be).host.cfg o = some (mergeBytes be (s.cfgWord o) value) :=
    (mapGet_mapPut ..).trans (if_pos rfl)
  rw [State.cfgWord, listed, Option.getD_some]

theorem State.cfg_cfgWritten_ne (s : State) {o p : Nat} (value be : Nat) (other : p ≠ o) :
    mapGet (s.cfgWritten o value be).host.cfg p = mapGet s.host.cfg p :=
  (mapGet_mapPut ..).trans (if_neg other)

/-! ### The link (R261, R399) -/

/-- The state with the link as training left it, before its events. -/
def State.linkShown (s : State) (speed width : Nat) (m : List Nat) : State :=
  ((s.put 0x500001 (min speed (s.n 0x500003) : Nat)).put 0x500002 width).putBlob 0x500008 ((m ++ List.replicate 16 0).take 16)

theorem State.linkUp_tells (s : State) (speed width : Nat) (m : List Nat) : LogSame (s.linkShown speed width m) (s.linkUp speed width m) := by
  unfold State.linkUp
  extract_lets sp a b c
  have told : LogSame b c := b.raise_same _ _
  exact LogSame.ite (fun _ => told.raise _ _) (fun _ => told)

/-- The second state keeps what the link shows, and configuration space. -/
structure LinkKept (s t : State) : Prop where
  objs : ∀ k, k < 0x700000 → logKey k = false → t.o k = s.o k
  blobs : t.blobs = s.blobs
  cfg : t.host.cfg = s.host.cfg

theorem LinkKept.refl (s : State) : LinkKept s s := ⟨fun _ _ _ => rfl, rfl, rfl⟩

section
variable {t u : State}

theorem LinkKept.trans (h : LinkKept s t) (g : LinkKept t u) : LinkKept s u :=
  ⟨fun k low log => (g.objs k low log).trans (h.objs k low log), g.blobs.trans h.blobs, g.cfg.trans h.cfg⟩

theorem LinkKept.log (h : LinkKept s t) (g : LogSame t u) : LinkKept s u :=
  h.trans ⟨fun k _ log => g.objs k log, g.blobs, by rw [g.host]⟩

theorem LinkKept.put (h : LinkKept s t) {k : Nat} (high : 0x700000 ≤ k) (v : Int) : LinkKept s (t.put k v) :=
  h.trans ⟨fun _ low _ => State.o_put_ne t v (by omega), State.put_blobs .., congrArg HostState.cfg (State.put_host ..)⟩

theorem LinkKept.beside {x : State} (h : LinkKept s t) (objs : x.objs = t.objs) (blobs : x.blobs = t.blobs) (host : x.host = t.host) :
    LinkKept s x :=
  h.trans ⟨fun _ _ _ => by simp only [State.o, objs], blobs, by rw [host]⟩

theorem LinkKept.marginThreshold (h : LinkKept s t) : LinkKept s t.marginThreshold := by
  unfold State.marginThreshold State.replanStart
  split_ifs
  · exact h
  · exact h.log (t.raise_same _ _)
  · exact LinkKept.put (LinkKept.beside (h.log (t.raise_same _ _)) (by rfl) (by rfl) (by rfl)) (by decide) _

/-- The ageing monitor takes the training without a change to what the link shows. -/
theorem LinkKept.trainingDone (h : LinkKept s t) (speed width : Nat) (m : List Nat) : LinkKept s (t.trainingDone speed width m) := by
  unfold State.trainingDone
  extract_lets lane ls timing voltage a same _ b
  have shown : LinkKept s a := ((h.put (k := 0x704001) (by decide) _).put (k := 0x704002) (by decide) _).put
    (k := 0x704003) (by decide) _
  have noted : LinkKept s b := shown.beside (by rfl) (by rfl) (by rfl)
  split_ifs
  · exact h
  · exact noted.marginThreshold
  · exact noted

end

theorem State.o_marginThreshold_ne (s : State) {k : Nat} (other : k ≠ 0x700008) (log : logKey k = false) :
    s.marginThreshold.o k = s.o k := by
  unfold State.marginThreshold State.replanStart
  split_ifs
  · rfl
  · exact s.o_raise _ _ log
  · exact (State.o_put_ne _ _ other).trans (s.o_raise _ _ log)

/-- The ageing monitor shows the speed of a training that brought lanes up. -/
theorem State.trainingDone_speed (s : State) {width : Nat} (lanes : 0 < width) (speed : Nat) (m : List Nat) :
    (s.trainingDone speed width m).o 0x704003 = speed := by
  unfold State.trainingDone
  extract_lets lane ls timing voltage a same _ b
  have shown : b.o 0x704003 = speed := State.o_put_self _ _ _
  have listed : ¬ ls.isEmpty = true := by simp [ls, lanes.ne']
  rw [if_neg listed]
  split_ifs
  · exact (b.o_marginThreshold_ne (by decide) (by decide)).trans shown
  · exact shown

/-- The link trains: its speed, width and margins show, and where lanes came up the ageing monitor has its speed. -/
theorem State.linkTrained_shows (on : s.pcieOn = true) (speed width : Nat) (m : List Nat) :
    let x := s.linkTrained speed width m
    let sp := min speed (s.n 0x500003)
    x.o 0x500001 = sp ∧ x.o 0x500002 = width ∧ x.blob 0x500008 = (m ++ List.replicate 16 0).take 16
      ∧ (0 < width → x.o 0x704003 = sp) ∧ x.host.cfg = s.host.cfg := by
  intro x sp
  let a := s.linkShown speed width m
  have trained : x = (s.linkUp speed width m).trainingDone sp width m := if_pos on
  have kept : LinkKept a x := trained ▸ ((LinkKept.refl a).log (s.linkUp_tells speed width m)).trainingDone sp width m
  have shown : a.o 0x500001 = sp ∧ a.o 0x500002 = width := by simp [a, sp, State.linkShown, State.o_put]
  have margins : a.blob 0x500008 = (m ++ List.replicate 16 0).take 16 := (State.blob_putBlob ..).trans (if_pos rfl)
  have cfg : a.host.cfg = s.host.cfg := by simp [a, State.linkShown]
  have blob : x.blob 0x500008 = a.blob 0x500008 := by simp only [State.blob, kept.blobs]
  exact ⟨(kept.objs _ (by decide) (by decide)).trans shown.1, (kept.objs _ (by decide) (by decide)).trans shown.2,
    blob.trans margins, fun lanes => trained ▸ State.trainingDone_speed _ lanes sp m, kept.cfg.trans cfg⟩

/-! ### The reset of the function (R295) -/

theorem mapGet_filter_key {β : Type} (m : List (Nat × β)) (f : Nat → Bool) (k : Nat) :
    mapGet (m.filter fun p => f p.1) k = if f k then mapGet m k else none := by
  induction m with
  | nil => simp [mapGet]
  | cons p t ih =>
    obtain ⟨a, x⟩ := p
    simp only [List.filter_cons]
    by_cases same : a = k
    · subst same
      cases keep : f a <;> simp [mapGet, keep, ih]
    · cases f a <;> simp [mapGet, same, ih]

/-- An object after a reset of a range of indices. -/
theorem State.o_resetRange (s : State) (lo hi : Nat) (keep : List Nat) (k : Nat) : (s.resetRange lo hi keep).o k =
    if lo * 256 ≤ k ∧ k < hi * 256 + 256 ∧ k ∉ keep then objDefault k else s.o k := by
  have kept := mapGet_filter_key s.objs (fun k => !(decide (lo * 256 ≤ k) && decide (k < hi * 256 + 256) && !keep.contains k)) k
  unfold State.o State.resetRange
  dsimp only
  rw [kept]
  by_cases out : lo * 256 ≤ k ∧ k < hi * 256 + 256 ∧ k ∉ keep
  · rw [if_pos out, if_neg (by simpa [and_assoc] using out)]
    rfl
  · rw [if_neg out, if_pos (by simpa [-not_and, and_assoc, not_and_or, or_assoc] using out)]

/-- The state with the host side cleared, before the lost statistics records are reported. -/
def State.hostCleared (s : State) : State :=
  let s := (s.resetRange 0x5020 0x5032 [0x503006, 0x503007]).pagesLost
  { s with host := { s.host with
    vecs := [], cqPhase := true, evPhase := true, evOmitted := 0, rings := HostState.reset.rings, statq := [], mbState := 0
    mbReq := [], mbResp := [], mbVec := 2, msixTab := [], d3 := false, l1 := false } }

theorem State.hostClear_eq (s : State) :
    let a := (List.range 10).foldl (fun (x : State) r => x.detachBuffer r) s
    s.hostClear = a.host.statq.foldl (fun (x : State) r => x.statLost r 2) a.hostCleared := rfl

theorem State.o_hostCleared (s : State) (k : Nat) : s.hostCleared.o k =
    if 0x504000 ≤ k ∧ k < 0x509000 ∧ k ∉ [0x504001, 0x50400A, 0x50400B] then objDefault k
    else if 0x502000 ≤ k ∧ k < 0x503300 ∧ k ∉ [0x503006, 0x503007] then objDefault k else s.o k :=
  ((s.resetRange 0x5020 0x5032 [0x503006, 0x503007]).o_resetRange 0x5040 0x508F [0x504001, 0x50400A, 0x50400B] k).trans
    (congrArg (ite _ _) (s.o_resetRange 0x5020 0x5032 [0x503006, 0x503007] k))

/-- What a reset of the function leaves. -/
structure FunctionCleared (s t : State) : Prop where
  count : t.o 0x500009 = s.o 0x500009
  queue : t.o 0x503003 = 0
  rings : ∀ r, r < 10 → t.o (ringKey r 5) = 0
  view : t.functionView = ([], 0, none, false, s.host.perst, s.host.cfg, s.now)

theorem State.hostCleared_clears (s : State) : FunctionCleared s s.hostCleared where
  count := by rw [State.o_hostCleared]; rfl
  queue := by
    rw [State.o_hostCleared, if_neg (by decide), if_pos (by decide)]
    decide +kernel
  rings := by
    intro r ring
    have default_ : ∀ r : Fin 10, objDefault (ringKey r 5) = 0 := by decide +kernel
    rw [State.o_hostCleared, if_neg (by unfold ringKey; omega), if_pos (by simp; unfold ringKey; omega)]
    exact default_ ⟨r, ring⟩
  view := rfl

theorem FunctionCleared.kept {s t u : State} (h : FunctionCleared s t) (g : FunctionKept t u) : FunctionCleared s u where
  count := (g.objs _ (by decide)).trans h.count
  queue := (g.objs _ (by decide)).trans h.queue
  rings r ring := (g.objs _ (functionKey_ring ring)).trans (h.rings r ring)
  view := g.view.trans h.view

theorem FunctionCleared.after {s t u : State} (g : FunctionKept s t) (h : FunctionCleared t u) : FunctionCleared s u where
  count := h.count.trans (g.objs _ (by decide))
  queue := h.queue
  rings := h.rings
  view := by
    obtain ⟨-, -, -, -, perst, cfg, now⟩ : _ ∧ _ ∧ _ ∧ _ ∧ t.host.perst = s.host.perst ∧ t.host.cfg = s.host.cfg ∧ t.now = s.now := by
      simpa only [State.functionView, Prod.mk.injEq] using g.view
    rw [h.view, perst, cfg, now]

theorem State.hostClear_clears (s : State) : FunctionCleared s s.hostClear := by
  have reported := (FunctionKept.refl s).foldl (f := fun x r => x.detachBuffer r) (fun hu r => hu.detachBuffer r) (List.range 10)
  rw [State.hostClear_eq]
  exact FunctionCleared.after reported
    ((State.hostCleared_clears _).kept ((FunctionKept.refl _).foldl (fun hu r => hu.statLost r 2) _))

/-- The reset as it is once the link is down and the event told, before the host side is cleared. -/
def State.resetTold (s : State) (cause : Nat) : State :=
  let a := if cause = frDisable || cause = frDown || cause = frPerst then s.linkDown else s
  let e : LogEntry := { seq := a.n 0x780002, code := 0x0704, seg := 0xFF, elem := 0xFF, line := a.n 0x202003,
                        section_ := a.n 0x202004, data := cause }
  if a.pdOn 2 then (a.logEvent e).notify e else a

theorem State.resetTold_kept (s : State) (cause : Nat) : FunctionKept s (s.resetTold cause) := by
  unfold State.resetTold
  extract_lets a e
  have down : FunctionKept s a := FunctionKept.ite (FunctionKept.refl s).linkDown (.refl s)
  exact FunctionKept.ite (down.log (((LogSame.refl a).logEvent e).notify e)) down

/-- The reset as it is once it has been counted. -/
def State.resetCounted (s : State) (cause : Nat) : State := (s.resetTold cause).bump 0x500009

theorem State.o_resetCounted (s : State) (cause : Nat) : (s.resetCounted cause).o 0x500009 = (s.o 0x500009 + 1) % 2 ^ 32 := by
  have wraps : maxOf 0x500009 + 1 = 2 ^ 32 := by decide +kernel
  rw [State.resetCounted, State.bump_eq, State.o_put_self, wraps, (s.resetTold_kept cause).objs _ (by decide), Nat.cast_one]

theorem State.functionView_resetCounted (s : State) (cause : Nat) : (s.resetCounted cause).functionView = s.functionView := by
  rw [← (s.resetTold_kept cause).view]
  simp [State.resetCounted, State.functionView, State.bump]

/-- PERSTn, asserted, also clears configuration space. -/
def State.perstCleared (s : State) : State := { s with host := { s.host with perst := true, cfg := [], ptm := false } }

theorem State.o_perstCleared (s : State) (k : Nat) : s.perstCleared.o k = s.o k := rfl

theorem State.functionReset_eq (s : State) (cause : Nat) : s.functionReset cause =
    if cause = frPerst then (s.resetCounted cause).hostClear.perstCleared else (s.resetCounted cause).hostClear := by
  simp only [State.functionReset, State.resetCounted, State.resetTold, State.perstCleared]

theorem State.o_functionReset (s : State) (cause k : Nat) :
    (s.functionReset cause).o k = (s.resetCounted cause).hostClear.o k := by
  rw [State.functionReset_eq]
  split
  · exact State.o_perstCleared _ k
  · rfl

theorem State.functionView_functionReset (s : State) (cause : Nat) : (s.functionReset cause).functionView =
    ([], 0, none, false, if cause = frPerst then true else s.host.perst, if cause = frPerst then [] else s.host.cfg, s.now) := by
  have counted := s.functionView_resetCounted cause
  have cleared := (s.resetCounted cause).hostClear_clears.view
  simp only [State.functionView, Prod.mk.injEq] at counted cleared
  obtain ⟨-, -, -, -, perst, cfg, now⟩ := counted
  rw [perst, cfg, now] at cleared
  obtain ⟨pages, mailbox, look, d3, perst, cfg, now⟩ := cleared
  rw [State.functionReset_eq]
  split
  · simp only [State.functionView, State.perstCleared, pages, mailbox, look, d3, now]
  · simp only [State.functionView, pages, mailbox, look, d3, perst, cfg, now]

/-- A reset of the function, where PERSTn does not hold the function in reset, keeps through the loss of the port what it cleared. -/
theorem State.hostReset_kept {cause : Nat} (free : s.host.perst = true → cause = frPerst) :
    FunctionKept (s.functionReset cause) (s.hostReset cause) := by
  unfold State.hostReset
  rw [if_neg (by simpa using free)]
  exact (FunctionKept.refl _).portLost 1 1

/-- A reset of the function counts, clears the host's side, and takes configuration space with PERSTn. -/
theorem State.hostReset_clears {cause : Nat} (free : s.host.perst = true → cause = frPerst) :
    let x := s.hostReset cause
    x.o 0x500009 = (s.o 0x500009 + 1) % 2 ^ 32 ∧ x.o 0x503003 = 0 ∧ (∀ r, r < 10 → x.o (ringKey r 5) = 0)
      ∧ x.host.pages = [] ∧ x.host.mbState = 0 ∧ x.host.look = none ∧ x.host.d3 = false ∧ x.now = s.now
      ∧ (cause = frPerst → x.host.perst = true ∧ x.host.cfg = []) := by
  intro x
  have kept := State.hostReset_kept free
  have cleared := (s.resetCounted cause).hostClear_clears
  have obj {k : Nat} (is : functionKey k = true) : x.o k = (s.resetCounted cause).hostClear.o k :=
    (kept.objs k is).trans (s.o_functionReset cause k)
  have view := kept.view.trans (s.functionView_functionReset cause)
  simp only [State.functionView, Prod.mk.injEq] at view
  obtain ⟨pages, mailbox, look, d3, perst, cfg, now⟩ := view
  exact ⟨(obj (by decide)).trans (cleared.count.trans (s.o_resetCounted cause)), (obj (by decide)).trans cleared.queue,
    fun r ring => (obj (functionKey_ring ring)).trans (cleared.rings r ring), pages, mailbox, look, d3, now,
    fun is => ⟨perst.trans (if_pos is), cfg.trans (if_pos is)⟩⟩

end

/-- Settles O35: each event goes by the lemma of its operation. -/
theorem pcieFunctionEvents : Obligations.PcieFunctionEvents := by
  unfold Obligations.PcieFunctionEvents
  intro s off value be cause alive out
  refine ⟨fun asserted => ?_, fun on => ?_, fun on speed width m => ?_, fun free => ?_, ?_, ?_, ?_⟩
  · exact exec_acts State.perstRelease alive rfl (State.perstRelease_releases asserted)
  · intro o
    have request (wr : Bool) {x : State} (ends : s.configRequest wr off value be = x) : exec (.configRequest wr off value be) s = out x :=
      exec_acts (·.configRequest wr off value be) alive rfl ends
    refine ⟨fun wr early => ?_, fun late => ?_, fun late => ⟨s.cfgWritten o value be, ?_, ?_, rfl, fun p other => ?_, fun ptm => ?_⟩⟩
    · exact request wr ((State.configRequest_eq on ..).trans (if_pos early))
    · exact request false ((State.configRequest_eq on ..).trans ((if_neg late.not_ge).trans (if_pos rfl)))
    · exact request true ((State.configRequest_eq on ..).trans ((if_neg late.not_ge).trans (if_neg (by decide))))
    · exact s.cfgWord_cfgWritten o value be
    · exact s.cfg_cfgWritten_ne value be other
    · exact if_pos ptm
  · exact ⟨_, exec_acts (·.linkTrained speed width m) alive rfl rfl, State.linkTrained_shows on speed width m⟩
  · obtain ⟨count, queue, rings, pages, mailbox, look, d3, now, perst⟩ := State.hostReset_clears free
    exact ⟨_, exec_acts (·.hostReset cause) alive rfl rfl, count, queue, rings, pages, mailbox, look, d3,
      (s.settle_now _).trans (by rw [now, max_self]), perst⟩
  · exact exec_acts State.d3Entry alive rfl rfl
  · exact exec_acts (·.aerError true) alive rfl rfl
  · exact exec_acts (·.aerError false) alive rfl rfl

end Sys2Proof.Machine
end

section
/-!
The commands of the Reach (R276, R281, R282): what a write of a command object of a high index answers, what each code, a lookup and a
hold come to, and the statement about them.
-/
namespace Sys2Proof.Machine
open Sys2Proof.Safety

/-! ### Writes of a command (R302) -/

/-- A command object of one byte, above the objects whose bytes a write normalises. -/
structure IsCommand (k : Nat) (row : ObjRow) : Prop where
  listed : findRow k = some row
  acc : row.acc = .wo
  app : row.app = .now
  high : 0x324800 ≤ k
  low : k < 2 ^ 24

/-- An accepted command answers its status, over the state that it leaves. -/
theorem exec_commands {s x : State} {c : Instr} {w : Sender} {k v st : Nat} {row : ObjRow} (is : IsCommand k row)
    (h : Accepted s w k [v]) (hc : exec c s = s.act fun s => s.write w k [v]) (byte : v < 256)
    (ends : (taken s w (writeOf k [v])).command k v [v] = (st, x)) :
    exec c s = .next (s.settle (reply w (writeOf k [v]) { status := st, ids := none, data := [], next := x })) := by
  have value : leNat [v] = v := by simp [leNat, Nat.mod_eq_of_lt byte]
  refine exec_acts (·.write w k [v]) h.runs hc ?_
  rw [write_command s w k [v] row h is.listed is.acc (by simp [is.app]) is.low (one_le_portLimit _)
    (State.normalBytes_of_ge _ _ is.high), value, ends]

theorem isCommand_reach : IsCommand 0x504101 ⟨0x5041, 1, 0x01, 1, .u8, .wo, .now, 0, .span 1 6⟩ where
  listed := by decide +kernel
  acc := rfl
  app := rfl
  high := by decide
  low := by decide

theorem isCommand_lookup : IsCommand 0x504803 ⟨0x5048, 1, 0x03, 1, .u8, .wo, .now, 0, .oneOf [1]⟩ where
  listed := by decide +kernel
  acc := rfl
  app := rfl
  high := by decide
  low := by decide

theorem isCommand_hold (h : Fin 64) : IsCommand (holdKey h 4) ⟨0x5050, 64, 0x04, 1, .u8, .wo, .now, 0, .span 1 2⟩ where
  listed := by revert h; decide +kernel
  acc := rfl
  app := rfl
  high := by unfold holdKey; omega
  low := by unfold holdKey; omega

theorem State.command_reach (s : State) (v : Nat) : s.command 0x504101 v [v] = s.reachCommand v := rfl

theorem State.command_lookup (s : State) (v : Nat) : s.command 0x504803 v [v] = s.lookup := rfl

theorem State.command_hold (s : State) (h : Fin 64) (v : Nat) : s.command (holdKey h 4) v [v] = s.holdCommand h v := by
  have index : holdKey h 4 / 256 = 0x5050 + h := by unfold holdKey; omega
  have sub : holdKey h 4 % 256 = 4 := by unfold holdKey; omega
  have high : 0x505000 ≤ holdKey h 4 := by unfold holdKey; omega
  unfold State.command
  dsimp only
  rw [index, sub]
  iterate 11 rw [if_neg (by omega)]
  rw [if_pos (by simp; omega), Nat.add_sub_cancel_left]

section
variable {s : State}

/-! ### The codes (R276) -/

/-- The range of slots that a command names holds a slot. -/
def State.slotNamed (s : State) (slot : Nat) : Bool := s.n 0x504104 ≤ slot && slot < s.n 0x504104 + s.n 0x504103

/-- The state once REVOKE has closed the open page, where its range holds it. -/
def State.revokeClosed (s : State) : State :=
  match s.host.open_ with
  | some o => if s.slotNamed o.slot then s.closePage true true else s
  | none => s

/-- The pages that a REVOKE leaves to the device. -/
def State.revokeLeaves (s : State) : List Page := s.host.pages.filter fun p => !s.slotNamed p.slot && p.st ≠ pgReturning

/-- The state with the pages of a range on their way back, but for an open one. -/
def State.rangeReturned (s t : State) : State :=
  t.mapPages fun p => if s.slotNamed p.slot && p.st ≠ pgOpen then { p with st := pgReturning } else p

section
variable (idle : s.o 0x504105 ≠ 1)
include idle

theorem State.reachCommand_grant (off : s.o 0x50400D = 0) (least : 16 ≤ s.n 0x504103) (most : s.n 0x504103 ≤ 131072) :
    s.reachCommand 1 = (stOk, s.reachList 1) := by
  simp [State.reachCommand, State.is, idle, off, least.not_gt, most.not_gt]

theorem State.reachCommand_grantOn (on : s.o 0x50400D ≠ 0) : s.reachCommand 1 = (stState, s) := by
  simp [State.reachCommand, State.is, idle, on]

theorem State.reachCommand_extend (on : s.o 0x50400D ≠ 0) (most : s.host.pages.length + s.n 0x504103 ≤ 131072) :
    s.reachCommand 2 = (stOk, s.reachList 2) := by
  simp [State.reachCommand, State.is, idle, on, most.not_gt]

theorem State.reachCommand_revoke : s.reachCommand 3 =
    if s.host.pages.any fun p => s.slotNamed p.slot && p.st = pgHeld then (stLocked, s)
    else if s.revokeLeaves.length < 16 then (stRange, s)
    else (stOk, (s.rangeReturned s.revokeClosed).holdCounts.reachCounts.reachDone 3 stOk) := by
  have free : ¬ s.is 0x504105 1 = true := by simp [State.is, idle]
  unfold State.reachCommand
  dsimp only
  rw [if_neg free, if_neg (by decide), if_neg (by decide), if_pos rfl]
  rfl

theorem State.reachCommand_withdraw : s.reachCommand 4 =
    if s.boundOff = false then (stState, s)
    else
      let b := (s.closePage true true).mapPages fun p => { p with st := pgReturning }
      if b.host.pages.isEmpty then (stOk, (b.put 0x50400D 0).reachCounts.reachDone 4 stOk)
      else
        let running : State := { b with host := { b.host with withdrawing := true, reachCmd := some 4 } }
        (stOk, (running.put 0x504105 1).holdCounts.reachCounts) := by
  simp [State.reachCommand, State.is, idle]

theorem State.reachCommand_flush : s.reachCommand 5 = (stOk, (s.closePage true false).reachDone 5 stOk) := by
  simp [State.reachCommand, State.is, idle]

theorem State.reachCommand_release {p : Page} (listed : s.page? (s.n 0x504104) = some p) : s.reachCommand 6 =
    if p.st = pgClosed then
      (stOk, (s.setPage (s.n 0x504104) fun x => { x with st := pgFree, span := none }).reachCounts.reachDone 6 stOk)
    else (stState, s) := by
  simp [State.reachCommand, State.is, idle, listed]

theorem State.reachCommand_releaseEmpty (empty : s.page? (s.n 0x504104) = none) : s.reachCommand 6 = (stState, s) := by
  simp [State.reachCommand, State.is, idle, empty]

end

/-- The page list lies where the command's arguments say. -/
theorem State.reachList_reads (s : State) (code : Nat) : s.reachList code =
    { s.put 0x504105 1 with host := { s.host with reachCmd := some code } }.readHost 2 0x0A (s.n 0x504102) (8 * s.n 0x504103) := by
  have kept {k : Nat} (other : k ≠ 0x504105) : (s.put 0x504105 1).n k = s.n k := congrArg Int.toNat (s.o_put_ne 1 other)
  rw [← kept (k := 0x504102) (by decide), ← kept (k := 0x504103) (by decide), ← s.put_host 0x504105 1]
  rfl

/-! ### Lookups (R281) -/

section
variable (idle : s.o 0x504804 ≠ 1)
include idle

theorem State.lookup_missing (missing : s.lookPage (s.o 0x504801) (s.n 0x504802) = none) : s.lookup = (stOk, s.lookEnd 3 stOk) := by
  simp [State.lookup, State.is, idle, missing]

theorem State.lookup_reads {p : Page} (found : s.lookPage (s.o 0x504801) (s.n 0x504802) = some p) : s.lookup =
    (stOk, { s.put 0x504804 1 with host := { s.host with look := some (p.slot, p.seq) } }.readHost 6 p.slot p.addr pageBytes) := by
  simp [State.lookup, State.is, idle, found]

end

/-! ### Holds (R282) -/

theorem State.holdCommand_place {h : Nat} (host : h < 32) : s.holdCommand h 1 =
    if s.o (holdKey h 2) < s.o (holdKey h 1) ∨ s.n 0x50400C < s.heldWith h (s.o (holdKey h 1)) (s.o (holdKey h 2)) then (stRange, s)
    else (stOk, s.holdActivate h (s.o (holdKey h 1)) (s.o (holdKey h 2)) (s.n (holdKey h 3)) 0xFF) := by
  simp [State.holdCommand, State.holdPlace, host.not_ge]

theorem State.holdCommand_placeRule {h : Nat} (rule : 32 ≤ h) : s.holdCommand h 1 = (stAccess, s) := by
  simp [State.holdCommand, State.holdPlace, rule]

theorem State.holdCommand_release (h : Nat) : s.holdCommand h 2 = (stOk, if s.holdOn h then s.holdEnd h else s) := rfl

end

/-- Settles O37: an accepted command answers what its operation does, and the operation's case gives the clause. -/
theorem reachCommandsAct : Obligations.ReachCommandsAct := by
  unfold Obligations.ReachCommandsAct
  intro s w h q done refused cmd free list
  have reach {c : Instr} {v st : Nat} {x : State} (h : free v) (hc : exec c s = s.act fun s => s.write w cmd [v]) (byte : v < 256)
      (ends : (q cmd v).reachCommand v = (st, x)) :
      exec c s = .next (s.settle (reply w (writeOf cmd [v]) { status := st, ids := none, data := [], next := x })) :=
    exec_commands isCommand_reach h.1 hc byte (((q cmd v).command_reach v).trans ends)
  have look {st : Nat} {x : State} (h : Accepted s w 0x504803 [1]) (ends : (q 0x504803 1).lookup = (st, x)) :
      exec (.lookup w) s = .next (s.settle (reply w (writeOf 0x504803 [1]) { status := st, ids := none, data := [], next := x })) :=
    exec_commands isCommand_lookup h rfl (by decide) (((q 0x504803 1).command_lookup 1).trans ends)
  have hold {c : Instr} {v st : Nat} {x : State} (accepted : Accepted s w (holdKey h 4) [v])
      (hc : exec c s = s.act fun s => s.write w (holdKey h 4) [v]) (byte : v < 256)
      (ends : (q (holdKey h 4) v).holdCommand h v = (st, x)) :
      exec c s = .next (s.settle (reply w (writeOf (holdKey h 4) [v]) { status := st, ids := none, data := [], next := x })) :=
    exec_commands (isCommand_hold h) accepted hc byte (((q (holdKey h 4) v).command_hold h v).trans ends)
  refine ⟨fun f => ⟨fun off least most => ?_, fun on => ?_⟩, fun f on most => ?_, fun f => ?_,
    fun f => ⟨fun bound => ?_, fun unbound => ?_⟩, fun f => ?_, fun f p listed => ⟨fun closed => ?_, fun other => ?_⟩,
    fun f empty => ?_, fun accepted idle => ?_, ?_⟩
  · have runs := State.reachCommand_grant f.2 off least most
    exact reach f rfl (by decide) (runs.trans (congrArg (Prod.mk stOk) (State.reachList_reads _ 1)))
  · exact reach f rfl (by decide) (State.reachCommand_grantOn f.2 on)
  · have runs := State.reachCommand_extend f.2 on most
    exact reach f rfl (by decide) (runs.trans (congrArg (Prod.mk stOk) (State.reachList_reads _ 2)))
  · intro a inRange left
    have revoke := State.reachCommand_revoke f.2
    have unheld (free : ∀ p ∈ a.host.pages, inRange p = true → p.st ≠ pgHeld) :
        ¬ (a.host.pages.any fun p => a.slotNamed p.slot && p.st = pgHeld) = true := by
      simpa [inRange, State.slotNamed] using free
    refine ⟨fun held => ?_, fun free few => ?_, fun free many => ?_⟩
    · refine reach f rfl (by decide) (revoke.trans (if_pos ?_))
      simpa [inRange, State.slotNamed] using held
    · exact reach f rfl (by decide) (revoke.trans ((if_neg (unheld free)).trans (if_pos few)))
    · exact reach f rfl (by decide) (revoke.trans ((if_neg (unheld free)).trans (if_neg many.not_gt)))
  · exact reach f rfl (by decide) ((State.reachCommand_withdraw f.2).trans (if_pos bound))
  · intro b
    have withdraw := (State.reachCommand_withdraw f.2).trans (if_neg (ne_false_of_eq_true unbound))
    exact ⟨fun empty => reach f rfl (by decide) (withdraw.trans (if_pos (List.isEmpty_iff.mpr empty))),
      fun pages => reach f rfl (by decide) (withdraw.trans (if_neg (mt List.isEmpty_iff.mp pages)))⟩
  · exact reach f rfl (by decide) (State.reachCommand_flush f.2)
  · exact reach f rfl (by decide) ((State.reachCommand_release f.2 listed).trans (if_pos closed))
  · exact reach f rfl (by decide) ((State.reachCommand_release f.2 listed).trans (if_neg other))
  · exact reach f rfl (by decide) (State.reachCommand_releaseEmpty f.2 empty)
  · exact ⟨fun missing => look accepted (State.lookup_missing idle missing),
      fun p found => look accepted (State.lookup_reads idle found)⟩
  · intro k
    refine ⟨fun accepted host => ⟨fun refused => ?_, fun ordered room => ?_⟩, fun accepted rule => ?_, fun accepted => ?_⟩
    · exact hold accepted rfl (by decide) ((State.holdCommand_place host).trans (if_pos refused))
    · have inside := not_or.mpr ⟨ordered.not_gt, room.not_gt⟩
      exact hold accepted rfl (by decide) ((State.holdCommand_place host).trans (if_neg inside))
    · exact hold accepted rfl (by decide) (State.holdCommand_placeRule rule)
    · exact hold accepted rfl (by decide) (State.holdCommand_release h)

end Sys2Proof.Machine
end

section
/-!
The Reach at work (R276, R277, R281, R282): what the end of a page-list read, the return of a page, the end of a lookup's read and the
expiry of a hold leave, and the statement about them.
-/
namespace Sys2Proof.Machine

/-- The state with pages at addresses put into its lowest empty slots. -/
def State.pagesAdded (s : State) (addrs : List Nat) : State :=
  { s with host := { s.host with pages := addPages 131072 s.host.pages addrs } }

/-- The state with a page gone from its table, and the counts that follow. -/
def State.pageDropped (s : State) (slot : Nat) : State :=
  { s with host := { s.host with pages := s.host.pages.filter (·.slot ≠ slot) } }.reachCounts

/-- The entry that reports a page returned (R277). -/
def pageReturnedEntry (slot : Nat) : CqEntry :=
  { kind := 5, ring := 0x0A, cause := 0, merged := false, ref := slot, first := 0, last := 0, count := 1, bytes := 0 }

@[simp] theorem State.reachCounts_host (s : State) : s.reachCounts.host = s.host := by simp [State.reachCounts]

section
variable {s : State}

/-! ### Page lists (R276) -/

section
variable {code : Nat} (running : s.host.reachCmd = some code) (list : code ≠ 4)
include running list

theorem State.pageList_unread (addrs : List Nat) : s.pageList false addrs = s.reachDone code stTimeout := by
  simp [State.pageList, running, list]

theorem State.pageList_unaligned {addrs : List Nat} (unaligned : (addrs.take (s.n 0x504103)).any (· % pageBytes ≠ 0) = true) :
    s.pageList true addrs = s.reachDone code stConstraint := by
  unfold State.pageList
  rw [running]
  exact (if_neg list).trans ((if_neg (by simp)).trans (if_pos unaligned))

/-- A list that has been read fills empty slots; a GRANT also configures the Reach, with its event. -/
theorem State.pageList_fills {addrs : List Nat} (aligned : (addrs.take (s.n 0x504103)).any (· % pageBytes ≠ 0) = false) :
    s.pageList true addrs =
      let l := addrs.take (s.n 0x504103)
      let a := s.pagesAdded l
      let b := if code = 1 then (a.puts [(0x50400D, if s.is 0x380006 0xFF then 1 else 2), (0x504009, 0)]).raise 0x070B l.length else a
      b.reachCounts.reachDone code stOk := by
  unfold State.pageList
  rw [running]
  exact (if_neg list).trans ((if_neg (by simp)).trans (if_neg (ne_true_of_eq_false aligned)))

end

/-! ### Pages that return (R277) -/

theorem State.page?_pageDropped (s : State) (slot : Nat) : (s.pageDropped slot).page? slot = none := by
  simp [State.page?, State.pageDropped]

/-- A page that has returned is reported, and the last one of a WITHDRAW ends the command. -/
theorem State.pageReturned_reports {p : Page} {slot : Nat} (listed : s.page? slot = some p) (returning : p.st = pgReturning)
    (unread : ∀ l, s.host.look = some l → l.1 ≠ slot) :
    s.pageReturned slot =
      let b := (s.pageDropped slot).complete (pageReturnedEntry slot)
      if b.host.withdrawing && b.host.pages.isEmpty then
        { b.put 0x50400D 0 with host := { b.host with withdrawing := false, lastSlot := none } }.reachCounts.reachDone 4 stOk
      else b := by
  unfold State.pageReturned
  rw [listed]
  dsimp only
  refine (if_neg ?_).trans rfl
  rcases look : s.host.look with _ | ⟨l, seq⟩
  · simp [returning]
  · simpa [returning] using unread (l, seq) look

/-! ### Lookups (R281) -/

section
variable {p seq : Nat} (looking : s.host.look = some (p, seq))
include looking

theorem State.lookupRead_unread (data : List Nat) : s.lookupRead false data = s.lookEnd 4 stTimeout := by
  simp [State.lookupRead, looking]

theorem State.lookupRead_missing {data : List Nat} (missing : findRec 65536 (s.o 0x504801) none 0 data = none) :
    s.lookupRead true data = s.lookEnd 3 stOk := by
  simp [State.lookupRead, looking, missing]

theorem State.lookupRead_found {data : List Nat} {off line : Nat} {pos : Int}
    (found : findRec 65536 (s.o 0x504801) none 0 data = some (off, line, pos)) :
    s.lookupRead true data =
      (s.puts [(0x504805, (p : Int)), (0x504806, (off : Int)), (0x504807, (line : Int)), (0x504808, pos)]).lookEnd 2 stOk := by
  simp only [State.lookupRead, looking, found, Bool.not_true, Bool.false_eq_true, if_false]

end

/-! ### Holds that expire (R282) -/

theorem State.holdExpires_ends {h : Nat} (on : s.o (holdKey h 5) ≠ 0) (expires : 0 < s.n (holdKey h 3))
    (passed : s.n (holdKey h 3) < s.n 0x202003) : s.holdExpires h = s.holdEnd h :=
  if_pos (by simp [State.holdExpired, State.holdOn, on, expires.ne', passed])

end

/-- Settles O38: each event goes by the lemma of its operation. -/
theorem reachEventsMovePages : Obligations.ReachEventsMovePages := by
  unfold Obligations.ReachEventsMovePages
  intro s addrs data slot h alive out
  refine ⟨fun code running list => ?_, fun p listed returning unread => ?_, fun p seq looking => ?_, fun on expires passed => ?_⟩
  · intro l a
    refine ⟨exec_acts (·.pageList false addrs) alive rfl (State.pageList_unread running list addrs),
      fun unaligned => exec_acts (·.pageList true addrs) alive rfl (State.pageList_unaligned running list unaligned),
      fun aligned => ⟨fun grant => ?_, fun extend => ?_⟩⟩
    · subst grant
      exact exec_acts (·.pageList true addrs) alive rfl (State.pageList_fills running list aligned)
    · refine exec_acts (·.pageList true addrs) alive rfl ((State.pageList_fills running list aligned).trans ?_)
      exact congrArg (fun x : State => x.reachCounts.reachDone code stOk) (if_neg extend)
  · intro a b
    have reports := State.pageReturned_reports listed returning unread
    refine ⟨s.page?_pageDropped slot, fun stays => exec_acts (·.pageReturned slot) alive rfl (reports.trans (if_neg ?_)),
      fun withdrawing empty => exec_acts (·.pageReturned slot) alive rfl (reports.trans (if_pos ?_))⟩
    · change ¬ (b.host.withdrawing && b.host.pages.isEmpty) = true
      simpa [Decidable.imp_iff_not_or] using stays
    · change (b.host.withdrawing && b.host.pages.isEmpty) = true
      simp [withdrawing, empty]
  · exact ⟨exec_acts (·.lookupRead false data) alive rfl (State.lookupRead_unread looking data),
      fun missing => exec_acts (·.lookupRead true data) alive rfl (State.lookupRead_missing looking missing),
      fun off line pos found => exec_acts (·.lookupRead true data) alive rfl (State.lookupRead_found looking found)⟩
  · exact exec_acts (·.holdExpires h) alive rfl (State.holdExpires_ends on expires passed)

end Sys2Proof.Machine
end

section
/-!
The reset state (R33, R41, R326, R427, R467): what its stores hold, and the statement about it.
-/
namespace Sys2Proof.Machine
open Sys2Proof.Safety

theorem objsCanonical_reset : objsCanonical State.reset.objs = true := by decide +kernel

/-- The domains that are not off right after a cold reset. -/
theorem pd_reset : State.reset.pd 0 = pdOnState ∧ State.reset.pd 13 = pdStarting
    ∧ ∀ n ∈ List.range 80, n ≠ 0 → n ≠ 13 → State.reset.pd n = pdOff := by decide +kernel

/-- Settles O2: the stores of the reset state list the domains only, and every other object reads its default. -/
theorem resetHoldsTheDefaults : Obligations.ResetHoldsTheDefaults := by
  unfold Obligations.ResetHoldsTheDefaults
  obtain ⟨on, starting, off⟩ := pd_reset
  refine ⟨rfl, rfl, rfl, objsCanonical_reset, rfl, rfl, on, starting, off, ?_⟩
  decide +kernel

end Sys2Proof.Machine
end

section
/-!
The event log (R325): what an event that is entered leaves of the log and its counters, what its delivery to the event queue and to
the network leaves alone, and the statement about events.
-/
namespace Sys2Proof.Machine
open Sys2Proof.Safety

/-! ### Entering the log -/

theorem maxOf_sequence : maxOf 0x780002 = 2 ^ 64 - 1 := by decide +kernel

theorem maxOf_class : ∀ c : Fin 16, c ≠ 0 → maxOf (0x781000 + c) = 2 ^ 32 - 1 := by decide +kernel

/-- An event counts under the next sequence number and in its class. -/
def State.eventCounted (s : State) (code : Nat) : State := (s.bump 0x780002).sat (0x781000 + code / 256)

/-- The log with the event behind the others; a full one has lost its oldest entry. -/
def logWith (l : List LogEntry) (e : LogEntry) : List LogEntry := (if l.length < 1024 then l else l.drop 1) ++ [e]

theorem length_logWith_le {l : List LogEntry} (bounded : l.length ≤ 1024) (e : LogEntry) : (logWith l e).length ≤ 1024 := by
  unfold logWith
  split <;> simp <;> omega

section
variable {s t : State} {e : LogEntry} (low : 0x0100 ≤ e.code) (high : e.code ≤ 0x0FFF)
include low high

theorem State.logEvent_eq : s.logEvent e =
    let b := s.eventCounted e.code
    let c : State := { b with dict := { b.dict with log := logWith b.dict.log e } }
    if b.dict.log.length < 1024 then c else (c.bump 0x780003).bump 0x780006 := by
  unfold State.logEvent logWith
  rw [show (decide (0x0100 ≤ e.code) && decide (e.code ≤ 0x0FFF)) = true by simp [low, high]]
  dsimp only [State.eventCounted]
  split <;> simp_all

theorem State.o_eventCounted : (s.eventCounted e.code).o 0x780002 = (s.o 0x780002 + 1) % 2 ^ 64
    ∧ (s.eventCounted e.code).o (0x781000 + e.code / 256) = min (s.o (0x781000 + e.code / 256) + 1) (2 ^ 32 - 1) := by
  have top : maxOf (0x781000 + e.code / 256) = 2 ^ 32 - 1 :=
    maxOf_class ⟨e.code / 256, by omega⟩ (by simp [Fin.ext_iff]; omega)
  have apart : 0x780002 ≠ 0x781000 + e.code / 256 := by omega
  unfold State.eventCounted
  rw [State.sat_eq, State.o_put_ne _ _ apart, State.o_put_self, State.o_bump_ne _ _ apart.symm, top, State.bump_eq, State.o_put_self,
    maxOf_sequence]
  exact ⟨by norm_num, rfl⟩

/-- What entering an event leaves of the log and its counters. -/
structure EventLogged (s t : State) (e : LogEntry) : Prop where
  log : t.dict.log = logWith s.dict.log e
  sequence : t.o 0x780002 = (s.o 0x780002 + 1) % 2 ^ 64
  counted : t.o (0x781000 + e.code / 256) = min (s.o (0x781000 + e.code / 256) + 1) (2 ^ 32 - 1)
  host : t.host = s.host
  boot : t.boot = s.boot

theorem State.logEvent_logs : EventLogged s (s.logEvent e) e := by
  obtain ⟨sequence, counted⟩ := s.o_eventCounted low high
  have dict : (s.eventCounted e.code).dict = s.dict := by simp [State.eventCounted, State.sat]
  have host : (s.eventCounted e.code).host = s.host := by simp [State.eventCounted, State.bump, State.sat]
  have boot : (s.eventCounted e.code).boot = s.boot := by simp [State.eventCounted, State.bump, State.sat]
  rw [State.logEvent_eq low high]
  dsimp only
  rw [dict]
  split
  · exact ⟨rfl, sequence, counted, host, boot⟩
  · have class1 : 0x781000 + e.code / 256 ≠ 0x780003 := by omega
    have class2 : 0x781000 + e.code / 256 ≠ 0x780006 := by omega
    refine ⟨by simp, ?_, ?_, by simp [State.bump, host], by simp [State.bump, boot]⟩
    · rw [State.o_bump_ne _ _ (by decide), State.o_bump_ne _ _ (by decide)]
      exact sequence
    · rw [State.o_bump_ne _ _ class2, State.o_bump_ne _ _ class1]
      exact counted

end

/-! ### Delivery (R272, R339) -/

/-- The second state differs from the first in what the delivery of an event changes: neither in the dictionary's own state nor in
an object other than the bytes written to the host and the event queue's index and omissions. -/
structure Delivered (s t : State) : Prop where
  dict : t.dict = s.dict
  boot : t.boot = s.boot
  objs : ∀ k, k ∉ [0x50000B, 0x503104, 0x503106] → t.o k = s.o k

theorem Delivered.refl (s : State) : Delivered s s := ⟨rfl, rfl, fun _ _ => rfl⟩

section
variable {s t u : State}

theorem Delivered.trans (h : Delivered s t) (g : Delivered t u) : Delivered s u :=
  ⟨g.dict.trans h.dict, g.boot.trans h.boot, fun k hk => (g.objs k hk).trans (h.objs k hk)⟩

theorem Delivered.ite {c : Prop} [Decidable c] (h : Delivered s t) (g : Delivered s u) : Delivered s (if c then t else u) := by
  split
  · exact h
  · exact g

/-- A change of the host side or of the network port alone. -/
theorem Delivered.beside (h : Delivered s t) (host : HostState) (net : NetState) (out : List Out) :
    Delivered s { t with host := host, net := net, out := out } := h.trans ⟨rfl, rfl, fun _ _ => rfl⟩

theorem Delivered.put (h : Delivered s t) {k : Nat} (hk : k ∈ [0x50000B, 0x503104, 0x503106]) (v : Int) : Delivered s (t.put k v) :=
  h.trans ⟨t.put_dict k v, t.put_boot k v, fun _ other => t.o_put_ne v (ne_of_mem_of_not_mem hk other).symm⟩

theorem Delivered.dma (h : Delivered s t) (kind ring addr : Nat) (bytes : List Nat) : Delivered s (t.dma kind ring addr bytes) := by
  unfold State.dma
  have counted : Delivered s (t.bump 0x50000B bytes.length) := h.put (by simp) _
  exact List.foldlRecOn (motive := fun x => Delivered s x) _ _ counted fun x hx _ _ => hx.beside x.host x.net _

theorem Delivered.signal (h : Delivered s t) (v : Nat) : Delivered s (t.signal v) := by
  unfold State.signal State.fire State.writeBack
  have taken (l : List VecState) : Delivered s { t with host := { t.host with vecs := l } } := h.beside _ t.net t.out
  have sent {x : State} (hx : Delivered s x) : Delivered s (x.emit (.msix v)) := hx.beside x.host x.net _
  exact Delivered.ite (sent (Delivered.ite (taken _) ((taken _).dma ..))) (taken _)

theorem Delivered.evWrite (h : Delivered s t) (e : LogEntry) : Delivered s (t.evWrite e) := by
  unfold State.evWrite
  extract_lets p phase a b c
  have moved : Delivered s b := (h.dma ..).put (by simp) _
  exact Delivered.signal (Delivered.ite (moved.beside _ b.net b.out) moved) _

theorem Delivered.evDeliver (h : Delivered s t) (e : LogEntry) : Delivered s (t.evDeliver e) := by
  unfold State.evDeliver
  have omitted : Delivered s (t.bump 0x503106) := h.put (by simp) _
  exact Delivered.ite h (Delivered.ite (omitted.beside _ _ _) (h.evWrite e))

theorem Delivered.notify (h : Delivered s t) (e : LogEntry) : Delivered s (t.notify e) := by
  unfold State.notify State.queueFrame State.nextSeq
  exact Delivered.ite ((Delivered.ite (h.beside t.host _ t.out) h).beside _ _ _) h

end

/-! ### Raising -/

section
variable {s : State}

/-- With the event queue off nothing is delivered to the host. -/
theorem State.evDeliver_off (off : s.o 0x503103 = 0) (e : LogEntry) : s.evDeliver e = s := by
  simp [State.evDeliver, State.b, off]

@[simp] theorem State.notify_host (s : State) (e : LogEntry) : (s.notify e).host = s.host := by
  unfold State.notify State.queueFrame State.nextSeq
  split_ifs <;> rfl

theorem State.enterEvent_host (off : s.o 0x503103 = 0) {e : LogEntry} (low : 0x0100 ≤ e.code) (high : e.code ≤ 0x0FFF) :
    (s.enterEvent e).host = s.host := by
  let entry : LogEntry := { e with seq := s.n 0x780002 }
  have logged : EventLogged s (s.logEvent entry) entry := State.logEvent_logs low high
  have still : (s.logEvent entry).o 0x503103 = 0 := (((LogSame.refl s).logEvent entry).objs _ (by decide)).trans off
  unfold State.enterEvent
  rw [State.notify_host, State.evDeliver_off still, logged.host]

/-- An event that is entered: the log takes it, and its delivery leaves the log and its counters. -/
theorem State.enterEvent_logs {e : LogEntry} (low : 0x0100 ≤ e.code) (high : e.code ≤ 0x0FFF) :
    (s.enterEvent e).dict.log = logWith s.dict.log { e with seq := s.n 0x780002 }
    ∧ (s.enterEvent e).o 0x780002 = (s.o 0x780002 + 1) % 2 ^ 64
    ∧ (s.enterEvent e).o (0x781000 + e.code / 256) = min (s.o (0x781000 + e.code / 256) + 1) (2 ^ 32 - 1)
    ∧ (s.enterEvent e).boot = s.boot := by
  let entry : LogEntry := { e with seq := s.n 0x780002 }
  have logged : EventLogged s (s.logEvent entry) entry := State.logEvent_logs low high
  have delivered : Delivered (s.logEvent entry) (s.enterEvent e) := ((Delivered.refl _).evDeliver entry).notify entry
  refine ⟨?_, ?_, ?_, delivered.boot.trans logged.boot⟩
  · rw [delivered.dict, logged.log]
  · rw [delivered.objs _ (by decide), logged.sequence]
  · rw [delivered.objs _ (by simp; omega)]
    exact logged.counted

/-- An event as it is raised, its number still to come. -/
def State.eventOf (s : State) (code seg elem : Nat) (data : Int) : LogEntry :=
  { seq := 0, code, seg, elem, line := s.n 0x202003, section_ := s.n 0x202004, data := wrapU 64 data }

section
variable {code seg elem : Nat} {data : Int}

theorem State.raiseAt_on (on : s.pdOn 2 = true) : s.raiseAt code seg elem data = s.enterEvent (s.eventOf code seg elem data) :=
  if_pos (by simp [on])

theorem State.raiseAt_held (off : s.pdOn 2 = false) (step : s.boot.step ≠ 3) : s.raiseAt code seg elem data =
    if s.boot.held.length < 16 then
      { s with boot := { s.boot with held := s.boot.held ++ [s.eventOf code seg elem data] } }
    else s :=
  if_neg (by simp [off, step])

theorem objectsKept_raiseAt : objectsKept [] s (s.raiseAt code seg elem data) := by
  intro k _ other outside
  refine State.o_raiseAt _ _ _ _ _ ?_
  simp only [List.mem_cons, List.not_mem_nil, or_false, not_or] at other
  simp [logKey, other]
  omega

end

end

/-- Settles O7: while PD2 is on an event enters the log by `State.enterEvent_logs`, and before it is held. -/
theorem eventsEnterTheLog : Obligations.EventsEnterTheLog := by
  unfold Obligations.EventsEnterTheLog
  intro s code seg elem data low high t e
  refine ⟨fun on => ?_, fun off step => State.raiseAt_held off step⟩
  have entered : t = s.enterEvent (s.eventOf code seg elem data) := State.raiseAt_on on
  have lowE : 0x0100 ≤ (s.eventOf code seg elem data).code := low
  have highE : (s.eventOf code seg elem data).code ≤ 0x0FFF := high
  obtain ⟨log, sequence, counted, boot⟩ := s.enterEvent_logs lowE highE
  rw [← entered] at log sequence counted boot
  refine ⟨log, fun bounded => log ▸ length_logWith_le bounded _, sequence, counted, objectsKept_raiseAt, by simp [t], by simp [t],
    by simp [t], by simp [t], by simp [t], by simp [t], by simp [t], by simp [t], boot, by simp [t], fun off => ?_⟩
  rw [entered, State.enterEvent_host off lowE highE]

end Sys2Proof.Machine
end

section
/-!
Requests of the dictionary (R265, R302 to R306): a request that is served at once answers the result of its operation, and what a
request's transaction id comes to.
-/
namespace Sys2Proof.Machine
open Sys2Proof.Safety

/-! ### A request and its operation -/

section
variable {s : State} {w : Sender} {r : DReq}

/-- A served request answers the result of its operation on the state that its port leaves. -/
theorem request_replies (served : Served s w r) (carried : mailboxReq r.mailbox = r) :
    s.request w r = reply w r ((atPort s w r).operate w.port r) := by
  have gate := served.gate
  rw [gate_taken] at gate
  rw [request_served s w r served carried, answer_served s w r served, State.serve, if_pos gate]
  rfl

/-- A command that is a served request answers its operation's result. -/
theorem exec_replies {c : Instr} {x : OpRes} (served : Served s w r) (command : exec c s = s.act (·.request w r))
    (carried : mailboxReq r.mailbox = r) (result : (atPort s w r).operate w.port r = x) :
    exec c s = .next (s.settle (reply w r x)) :=
  exec_acts (·.request w r) served.runs command (result ▸ request_replies served carried)

section
variable (key : r.key < 2 ^ 24) (len : r.len < 2 ^ 32) (txn : r.txn < 2 ^ 32) (arg : r.arg < 2 ^ 32)
include key len txn arg

/-- A read carries no data, so that the mailbox holds it whole. -/
theorem read_carried (op : r.op = 1 ∨ r.op = 6) (data : r.data = []) : mailboxReq r.mailbox = r :=
  mailboxReq_mailbox r (by omega) key len txn arg (.inl data) fun _ => op.imp_right .inl

/-- An operation other than a read is carried whole with its data. -/
theorem write_carried (op : r.op ∈ [2, 3, 4, 5, 7]) (whole : r.len = r.data.length) : mailboxReq r.mailbox = r := by
  have code : r.op < 256 ∧ r.op ≠ 1 ∧ r.op ≠ 6 := by
    simp only [List.mem_cons, List.not_mem_nil, or_false] at op
    omega
  exact mailboxReq_mailbox r code.1 key len txn arg (.inr ⟨whole, code.2⟩) fun empty => .inr (.inr (by rw [whole, empty]; rfl))

end

/-! ### Operations (R302): each acts on the state in which the dictionary serves it -/

theorem operate_read (op : r.op = 1 ∨ r.op = 6) : (atPort s w r).operate w.port r = (taken s w r).opRead w.port r := by
  rcases op with op | op <;> simp [State.operate, taken, op]

theorem operate_write (op : r.op = 2) (whole : r.len = r.data.length) (room : r.data.length ≤ portLimit w.port) :
    (atPort s w r).operate w.port r = (taken s w r).opWriteValue w.port r r.data := by
  simp [State.operate, taken, op, whole, room]

theorem operate_begin (op : r.op = 3) (whole : r.len = r.data.length) (room : r.data.length ≤ portLimit w.port) :
    (atPort s w r).operate w.port r =
    let x := (taken s w r).txnBegin w.port
    { status := x.1, ids := if x.1 = stOk then some (x.2.1, r.arg) else none, data := [], next := x.2.2 } := by
  simp [State.operate, taken, op, whole, room]

theorem operate_txn (op : r.op = 4 ∨ r.op = 5) (whole : r.len = r.data.length) (room : r.data.length ≤ portLimit w.port) :
    (atPort s w r).operate w.port r = (taken s w r).opTxn w.port r := by
  rcases op with op | op <;> simp [State.operate, taken, op, whole, room]

theorem operate_segment (op : r.op = 7) (whole : r.len = r.data.length) (room : r.data.length ≤ portLimit w.port) :
    (atPort s w r).operate w.port r = (taken s w r).opSegment w.port r := by
  simp [State.operate, taken, op, whole, room]

end

theorem portLimit_lt (p : Nat) : portLimit p < 2 ^ 32 := by unfold portLimit; split_ifs <;> decide

/-! ### The transaction that a request names (R302, R305, R318) -/

/-- The port's transaction has been named now. -/
def State.txnTouched (s : State) (p : Nat) : State := s.setTxn p { s.txn p with last := s.now }

section
variable {s : State} {p id : Nat}

theorem State.txnNamed_own (opened : s.txnOpen p = true) (own : s.txnId p = id) : s.txnNamed p id = (stOk, s.txnTouched p) :=
  if_pos (by simp [opened, own])

theorem State.txnNamed_rolled (other : s.txnId p ≠ id) (rolled : id ∈ (s.txn p).rolled) : s.txnNamed p id =
    (stRolledBack, s.setTxn p { s.txn p with rolled := (s.txn p).rolled.filter (· ≠ id) }) :=
  (if_neg (by simp [other])).trans (if_pos (by simp [rolled]))

theorem State.txnNamed_foreign (other : s.txnId p ≠ id) (unknown : id ∉ (s.txn p).rolled) : s.txnNamed p id = (stNotInTxn, s) :=
  (if_neg (by simp [other])).trans (if_neg (by simp [unknown]))

/-- A transaction as it reads after it has been put; a port beyond the table keeps the one that it reads by default. -/
theorem State.txn_setTxn (s : State) (p : Nat) (x : Txn) : (s.setTxn p x).txn p = if p < s.dict.txns.length then x else s.txn p := by
  unfold State.txn State.setTxn
  split
  · next listed => simp [listed]
  · next beyond => simp [Nat.le_of_not_lt beyond]

@[simp] theorem State.txnTouched_staged (s : State) (p : Nat) : ((s.txnTouched p).txn p).staged = (s.txn p).staged := by
  rw [State.txnTouched, State.txn_setTxn]
  split <;> rfl

end

section
variable {s : State} {p : Nat} {r : DReq} {row : ObjRow}

theorem keyExists_of_findRow {k : Nat} (listed : findRow k = some row) : keyExists k = true := by simp [keyExists, listed]

theorem State.named_plain (plain : r.txn = 0) (d : Bool) : s.named p r d = (stOk, s) := if_pos plain

section
variable (named : r.txn ≠ 0) (listed : keyExists r.key = true) (present : s.keyAbsent r.key = false)
include named listed present

/-- A request on an object that is present comes to what the id that it names comes to. -/
theorem State.named_present : s.named p r true = s.txnNamed p r.txn := by
  simp only [State.named, named, listed, present, if_false]
  split <;> rfl

end

/-! ### Reads (R305, R306) -/

/-- What a read that passes its checks answers with a value: the part that it asks for, or the whole where the port carries it. -/
def State.readAnswer (s : State) (p : Nat) (r : DReq) (v : List Nat) : OpRes :=
  if r.op = 6 then
    { status := stOk, ids := some (r.txn, v.length), data := (v.drop r.arg).take (min r.len (portLimit p))
      next := s.readEffect r.key }
  else if portLimit p < v.length then { status := stRange, ids := some (r.txn, v.length), data := [], next := s }
  else { status := stOk, ids := none, data := v, next := s.readEffect r.key }

theorem State.opRead_unlisted (plain : r.txn = 0) (missing : keyExists r.key = false) :
    s.opRead p r = { status := stNoObject, ids := none, data := [], next := s } := by
  simp [State.opRead, State.named_plain plain, missing]

theorem State.opRead_absent (plain : r.txn = 0) (listed : keyExists r.key = true) (absent : s.keyAbsent r.key = true) :
    s.opRead p r = { status := stAbsent, ids := none, data := [], next := s } := by
  simp [State.opRead, State.named_plain plain, listed, absent]

section
variable (listed : findRow r.key = some row) (present : s.keyAbsent r.key = false)
include listed present

theorem State.opRead_writeOnly (plain : r.txn = 0) (hidden : row.acc = .wo) :
    s.opRead p r = { status := stAccess, ids := none, data := [], next := s } := by
  simp [State.opRead, State.named_plain plain, keyExists_of_findRow listed, listed, present, hidden]

/-- A read that names an id that is not the port's own. -/
theorem State.opRead_foreign (named : r.txn ≠ 0) (other : s.txnId p ≠ r.txn) (unknown : r.txn ∉ (s.txn p).rolled) :
    s.opRead p r = { status := stNotInTxn, ids := none, data := [], next := s } := by
  have foreign : s.named p r true = (stNotInTxn, s) :=
    (State.named_present named (keyExists_of_findRow listed) present).trans (State.txnNamed_foreign other unknown)
  unfold State.opRead
  rw [foreign]
  exact if_pos (show stNotInTxn ≠ stOk by decide)

section
variable (readable : row.acc ≠ .wo)
include readable

/-- A read outside a transaction answers the value in force. -/
theorem State.opRead_plain (plain : r.txn = 0) : s.opRead p r = s.readAnswer p r (s.valueBytes r.key) := by
  simp [State.opRead, State.readAnswer, State.named_plain plain, keyExists_of_findRow listed, listed, present, readable, plain]

/-- A read that names the port's open transaction answers the staged value, or that in force where none is staged. -/
theorem State.opRead_own (named : r.txn ≠ 0) (opened : s.txnOpen p = true) (own : s.txnId p = r.txn) : s.opRead p r =
    (s.txnTouched p).readAnswer p r ((mapGet (s.txn p).staged r.key).getD ((s.txnTouched p).valueBytes r.key)) := by
  have touches : s.named p r true = (stOk, s.txnTouched p) :=
    (State.named_present named (keyExists_of_findRow listed) present).trans (State.txnNamed_own opened own)
  simp [State.opRead, State.readAnswer, touches, keyExists_of_findRow listed, listed, present, readable, named]

end

end

end

section
variable {s : State} {w : Sender} {r : DReq} {c : Instr} {x : OpRes}

theorem exec_reads (served : Served s w r) (command : exec c s = s.act (·.request w r)) (op : r.op = 1 ∨ r.op = 6)
    (carried : mailboxReq r.mailbox = r) (result : (taken s w r).opRead w.port r = x) :
    exec c s = .next (s.settle (reply w r x)) :=
  exec_replies served command carried ((operate_read op).trans result)

end

/-- Settles O39: a read without a transaction answers by `State.opRead_plain`, one that names the port's own by `State.opRead_own`. -/
theorem readsAnswerTheValueInForce : Obligations.ReadsAnswerTheValueInForce := by
  unfold Obligations.ReadsAnswerTheValueInForce
  intro s w idx sub off len id idxLt subLt offLt lenLt idLt k p r g u a b c h f answer
  have key : k < 2 ^ 24 := by omega
  have carriedR : mailboxReq r.mailbox = r := readOf_mailbox k key
  have carriedG : mailboxReq g.mailbox = g := read_carried key lenLt (Nat.two_pow_pos 32) offLt (.inr rfl) rfl
  have carriedU : mailboxReq u.mailbox = u := read_carried key (Nat.two_pow_pos 32) idLt (Nat.two_pow_pos 32) (.inl rfl) rfl
  have carriedH : mailboxReq h.mailbox = h := read_carried key lenLt idLt offLt (.inr rfl) rfl
  refine ⟨fun served => ⟨fun missing => ?_, fun listed absent => ?_, fun row listed present hidden => ?_,
    fun row listed present readable => ⟨fun fits => ?_, fun long => ?_⟩⟩, fun x j y cs => ⟨rfl, rfl, rfl, rfl⟩,
    fun served named row listed present readable => ⟨fun opened own => ?_, fun other unknown => ?_⟩,
    fun served named row listed present readable => ⟨fun opened own => ?_, fun other unknown => ?_⟩,
    fun served row listed present readable => ?_⟩
  · exact exec_reads served rfl (.inl rfl) carriedR (State.opRead_unlisted rfl missing)
  · exact exec_reads served rfl (.inl rfl) carriedR (State.opRead_absent rfl listed absent)
  · exact exec_reads served rfl (.inl rfl) carriedR (State.opRead_writeOnly listed present rfl hidden)
  · exact exec_reads served rfl (.inl rfl) carriedR
      ((State.opRead_plain (r := r) listed present readable rfl).trans (if_neg fits.not_gt))
  · exact exec_reads served rfl (.inl rfl) carriedR
      ((State.opRead_plain (r := r) listed present readable rfl).trans (if_pos long))
  · intro d v fits
    exact exec_reads served rfl (.inl rfl) carriedU
      ((State.opRead_own (r := u) listed present readable named opened own).trans (if_neg fits.not_gt))
  · exact exec_reads served rfl (.inl rfl) carriedU (State.opRead_foreign (r := u) listed present named other unknown)
  · exact exec_reads served rfl (.inr rfl) carriedH (State.opRead_own (r := h) listed present readable named opened own)
  · exact exec_reads served rfl (.inr rfl) carriedH (State.opRead_foreign (r := h) listed present named other unknown)
  · exact exec_reads served rfl (.inr rfl) carriedG (State.opRead_plain (r := g) listed present readable rfl)

end Sys2Proof.Machine
end

section
/-!
Writes of the dictionary (R302, R304, R306, R313, R319): what a plain write answers by the checks that it passes, what a segment
keeps or writes, and the statement about writes.
-/
namespace Sys2Proof.Machine
open Sys2Proof.Safety

/-! ### Plain writes -/

section
variable {s : State} {p k : Nat} {bs : List Nat} {row : ObjRow}

theorem State.plainWrite_refused (refused : s.writeStatus k bs false ≠ stOk) :
    s.plainWrite p k bs = (s.writeStatus k bs false, none, [], s) := if_pos refused

section
variable (checks : s.writeStatus k bs false = stOk) (listed : findRow k = some row)
  (direct : row.app ≠ .atSection ∧ row.app ≠ .reset)
include checks listed direct

/-- A write that passes its checks and is of no class that waits is executed at once. -/
theorem State.plainWrite_direct : s.plainWrite p k bs =
    let x := s.writeNow p k row (s.normalBytes k bs)
    (x.1, none, [], if x.1 = stOk && row.acc ≠ .wo then x.2.noteCommit [k] else x.2) := by
  obtain ⟨now, here⟩ := direct
  unfold State.plainWrite
  rw [checks, listed]
  dsimp only
  rw [if_neg (not_not.mpr rfl)]
  split
  next app => exact absurd app now
  next app => exact absurd app here
  next => rfl

/-- A write that the state does not permit. -/
theorem State.plainWrite_unpermitted (state : s.stateStatus k row (s.normalBytes k bs) ≠ stOk) :
    s.plainWrite p k bs = (s.stateStatus k row (s.normalBytes k bs), none, [], s) := by
  have refuses : s.writeNow p k row (s.normalBytes k bs) = (s.stateStatus k row (s.normalBytes k bs), s) := if_pos state
  rw [State.plainWrite_direct checks listed direct, refuses]
  simp [state]

/-- A value in force that passes every check takes effect, and counts as a commit. -/
theorem State.plainWrite_applies (value : row.acc ≠ .wo) (state : s.stateStatus k row (s.normalBytes k bs) = stOk)
    (other : k ≠ 0x540001) (sets : (s.setKey k (s.normalBytes k bs)).1 = stOk) :
    s.plainWrite p k bs = (stOk, none, [], applied s k (s.normalBytes k bs) (s.setKey k (s.normalBytes k bs)).2) := by
  have takes : s.writeNow p k row (s.normalBytes k bs) = s.applyNow k (s.normalBytes k bs) := by
    simp [State.writeNow, state, value, other]
  rw [State.plainWrite_direct checks listed direct, takes]
  simp [State.applyNow, sets, value, applied]

end

/-! ### Segments (R306) -/

section
variable {r : DReq}

theorem State.opWriteValue_of_plain (plain : r.txn = 0) : s.opWriteValue p r bs =
    let y := s.plainWrite p r.key bs
    { status := y.1, ids := y.2.1, data := y.2.2.1, next := y.2.2.2 } := by
  simp [State.opWriteValue, State.named_plain plain, plain]

theorem State.opSegment_unlisted (plain : r.txn = 0) (missing : keyExists r.key = false) :
    s.opSegment p r = { status := stNoObject, ids := none, data := [], next := s } := by
  simp [State.opSegment, State.named_plain plain, missing]

theorem State.opSegment_absent (plain : r.txn = 0) (listed : keyExists r.key = true) (absent : s.keyAbsent r.key = true) :
    s.opSegment p r = { status := stAbsent, ids := none, data := [], next := s } := by
  simp [State.opSegment, State.named_plain plain, listed, absent]

/-- The segment follows the bytes `old` that its port has assembled of its object: none, where it is the first. -/
def State.segmentFollows (s : State) (p : Nat) (r : DReq) (old : List Nat) : Prop :=
  r.arg % 2 ^ 24 = 0 ∧ old = []
    ∨ (s.dict.asm[p]?).getD none = some (r.key, old) ∧ 0 < old.length ∧ r.arg % 2 ^ 24 = old.length

/-- A segment in sequence: the last one writes the whole value, any other only keeps the bytes. -/
theorem State.opSegment_follows {old : List Nat} (plain : r.txn = 0) (listed : keyExists r.key = true)
    (present : s.keyAbsent r.key = false) (follows : s.segmentFollows p r old) (flags : r.arg / 2 ^ 24 % 128 = 0)
    (room : old.length + r.data.length ≤ 65536) : s.opSegment p r =
      if r.arg.testBit 31 then (s.dropAsmBuf p).opWriteValue p r (old ++ r.data)
      else { status := stOk, ids := none, data := [], next := { s with dict := { s.dict with
        asm := s.dict.asm.set p (some (r.key, old ++ r.data)) } } } := by
  unfold State.opSegment
  rw [State.named_plain plain]
  extract_lets off last held base x
  have assembled : base = some old := by
    rcases follows with ⟨first, rfl⟩ | ⟨holds, more, next⟩
    · exact if_pos first
    · have later : off ≠ 0 := by omega
      refine (if_neg later).trans ?_
      simp only [held, holds]
      exact if_pos (by simp [off, next])
  have fits : ¬ (decide (r.arg / 2 ^ 24 % 128 ≠ 0) || decide (65536 < (old ++ r.data).length)) = true := by
    rw [flags]
    simpa using room
  rw [assembled, listed, present]
  dsimp only
  rw [if_neg fits]
  rfl

end

end

section
variable {s : State} {w : Sender} {c : Instr} {k : Nat} {bs : List Nat}

/-- A plain write that is served answers what the write of its value comes to. -/
theorem exec_plainWrite {x : OpRes} (served : Served s w (writeOf k bs))
    (command : exec c s = s.act (·.request w (writeOf k bs))) (key : k < 2 ^ 24) (room : bs.length ≤ portLimit w.port)
    (result : (taken s w (writeOf k bs)).plainWrite w.port k bs = (x.status, x.ids, x.data, x.next)) :
    exec c s = .next (s.settle (reply w (writeOf k bs) x)) := by
  refine exec_replies served command (writeOf_mailbox k bs key (room.trans_lt (portLimit_lt _)))
    ((operate_write rfl rfl room).trans ((State.opWriteValue_of_plain rfl).trans ?_))
  dsimp only [writeOf] at result ⊢
  rw [result]

end

/-- A number of 32 bits has its top bit set from 2^31 on. -/
theorem testBit_31 {x : Nat} (small : x < 2 ^ 32) : x.testBit 31 = decide (2 ^ 31 ≤ x) := by
  rw [Nat.testBit_eq_decide_div_mod_eq]
  congr 1
  rw [eq_iff_iff]
  omega

/-- Settles O40: a plain write answers by the checks that it passes, and a segment by `State.opSegment_follows`. -/
theorem writesAreCheckedThenApplied : Obligations.WritesAreCheckedThenApplied := by
  unfold Obligations.WritesAreCheckedThenApplied
  intro s w idx sub bs idxLt subLt room k r a g answer
  have key : k < 2 ^ 24 := by omega
  refine ⟨fun served refused => ?_, fun served checks row listed value classes state other => ?_,
    fun served checks row listed now here state => ?_, fun arg argLt served => ?_⟩
  · exact exec_plainWrite served rfl key room (State.plainWrite_refused refused)
  · intro y sets
    have direct : row.app ≠ .atSection ∧ row.app ≠ .reset := by rcases classes with app | app <;> simp [app]
    exact exec_plainWrite served rfl key room (State.plainWrite_applies checks listed direct value state other sets)
  · exact exec_plainWrite served rfl key room (State.plainWrite_unpermitted checks listed ⟨now, here⟩ state)
  · intro b d
    have length : bs.length < 2 ^ 32 := room.trans_lt (portLimit_lt _)
    have carried : mailboxReq (g arg).mailbox = g arg := write_carried key length (Nat.two_pow_pos 32) argLt (by simp [g]) rfl
    have segment {x : OpRes} (result : b.opSegment w.port (g arg) = x) : answer (.writeSegment w idx sub 0 arg bs) (g arg) x :=
      exec_replies served rfl carried ((operate_segment rfl rfl room).trans result)
    refine ⟨fun missing => segment (State.opSegment_unlisted rfl missing),
      fun listed absent => segment (State.opSegment_absent rfl listed absent), fun listed present old follows flags fits => ?_⟩
    have kept := State.opSegment_follows (p := w.port) (r := g arg) rfl listed present follows flags fits
    rw [testBit_31 argLt] at kept
    refine ⟨fun more => segment (kept.trans (if_neg (by simpa using more))), fun last => ?_⟩
    intro y
    have ends := kept.trans (if_pos (decide_eq_true last))
    exact ⟨segment (ends.trans (State.opWriteValue_of_plain rfl)), fun refused => State.plainWrite_refused refused⟩

end Sys2Proof.Machine
end

section
/-!
Transactions (R305, R309 to R312, R315, R317, R318): how a port's transaction opens, stages, commits and ends, and the statement about
transactions.
-/
namespace Sys2Proof.Machine
open Sys2Proof.Safety

theorem txnKey_inj {p i j : Nat} : txnKey p i = txnKey p j ↔ i = j := by simp [txnKey]

/-- The objects of a port's transaction are none of those that all ports share. -/
theorem txnKey_ne {p j k : Nat} (low : k < 0x7C1000) : txnKey p j ≠ k := by unfold txnKey; omega

/-! ### Updates that leave the transactions and their objects -/

section
variable {s : State}

theorem State.txn_of_dict_eq {t : State} (same : t.dict.txns = s.dict.txns) (p : Nat) : t.txn p = s.txn p := by
  simp [State.txn, same]

@[simp] theorem State.o_setTxn (s : State) (p : Nat) (x : Txn) (k : Nat) : (s.setTxn p x).o k = s.o k := rfl

@[simp] theorem State.o_pruneHist (s : State) (k : Nat) : s.pruneHist.o k = s.o k := rfl

@[simp] theorem State.showStaging_dict (s : State) : s.showStaging.dict = s.dict := by simp [State.showStaging]

theorem State.o_showStaging_txn (s : State) (p j : Nat) : s.showStaging.o (txnKey p j) = s.o (txnKey p j) := by
  simp [State.showStaging, State.o_put, txnKey_ne]

/-- A transaction that is emptied has nothing staged. -/
theorem State.staged_setTxn_nil {x : Txn} (empty : x.staged = []) (p : Nat) : ((s.setTxn p x).txn p).staged = [] := by
  rw [State.txn_setTxn]
  split
  · exact empty
  · next beyond => simp [State.txn, Nat.le_of_not_lt beyond]

/-! ### BEGIN (R309) -/

theorem State.txnBegin_refused {p : Nat} (opened : s.o (txnKey p 1) ≠ 0) : s.txnBegin p = (stTxnLimit, 0, s) :=
  if_pos (by simpa [State.is] using opened)

/-- A port without a transaction takes the next id. -/
theorem State.txnBegin_opens {p : Nat} (closed : s.o (txnKey p 1) = 0) : ∃ x, s.txnBegin p = (stOk, s.dict.nextId, x)
    ∧ x.o (txnKey p 1) = 1 ∧ x.o (txnKey p 2) = s.dict.nextId ∧ (x.txn p).staged = []
    ∧ x.dict.nextId = (if s.dict.nextId = 2 ^ 32 - 1 then 1 else s.dict.nextId + 1) := by
  unfold State.txnBegin
  rw [if_neg (by simp [State.is, closed])]
  extract_lets id _ a b
  refine ⟨_, rfl, by simp [State.o_put, txnKey_inj], by simp [id], ?_, by simp [b, a, State.setTxn, id]⟩
  rw [State.txn_of_dict_eq (s := b) (by simp)]
  exact State.staged_setTxn_nil rfl p

/-! ### Staging (R310) -/

theorem State.txnStage_ok {p k : Nat} {bs : List Nat} (ok : (s.txnStage p k bs).1 = stOk) : s.txnStage p k bs =
    (stOk, (s.setTxn p { s.txn p with staged := mapPut (s.txn p).staged k bs }).showStaging) := by
  unfold State.txnStage at ok ⊢
  dsimp only at ok ⊢
  split_ifs at ok ⊢
  · cases ok
  · cases ok
  · rfl

/-- A value that the staging memory takes is staged. -/
theorem State.txnStage_stages {p k : Nat} {bs : List Nat} (ok : (s.txnStage p k bs).1 = stOk) (listed : p < s.dict.txns.length) :
    mapGet ((s.txnStage p k bs).2.txn p).staged k = some bs := by
  rw [State.txnStage_ok ok, State.txn_of_dict_eq (congrArg DictState.txns (State.showStaging_dict _)), State.txn_setTxn,
    if_pos listed, mapGet_mapPut, if_pos rfl]

/-- A write that names the port's own transaction and passes its checks comes to the staging of its value. -/
theorem State.opWriteValue_stages {p : Nat} {r : DReq} {row : ObjRow} (named : r.txn ≠ 0) (opened : s.txnOpen p = true)
    (own : s.txnId p = r.txn) (listed : findRow r.key = some row) (stageable : row.acc ≠ .rws)
    (present : s.keyAbsent r.key = false) {bs : List Nat} (checks : (s.txnTouched p).writeStatus r.key bs true = stOk) :
    s.opWriteValue p r bs =
      let y := (s.txnTouched p).txnStage p r.key ((s.txnTouched p).normalBytes r.key bs)
      { status := y.1, ids := none, data := [], next := y.2 } := by
  have touches : s.named p r true = (stOk, s.txnTouched p) :=
    (State.named_present named (keyExists_of_findRow listed) present).trans (State.txnNamed_own opened own)
  simp [State.opWriteValue, touches, named, State.txnWrite, listed, stageable, checks]

/-! ### COMMIT (R311, R312, R315) -/

section
variable {p : Nat} {r : DReq} (opened : s.txnOpen p = true) (own : s.txnId p = r.txn)
include opened own

/-- A COMMIT of the port's own transaction that is accepted answers its epoch and its section. -/
theorem State.opTxn_commits (op : r.op = 4) {epoch section_ : Nat} {x : State}
    (accepts : (s.txnTouched p).txnCommit p r.arg r.data = (stOk, epoch, section_, [], x)) :
    s.opTxn p r = { status := stOk, ids := some (epoch, section_), data := [], next := x } := by
  unfold State.opTxn
  rw [State.txnNamed_own opened own]
  dsimp only
  rw [if_neg (not_not.mpr rfl), if_pos op, accepts]
  rfl

/-- A ROLLBACK of the port's own transaction. -/
theorem State.opTxn_rollsBack (op : r.op = 5) :
    s.opTxn p r = { status := stOk, ids := none, data := [], next := (s.txnTouched p).txnRollback p } := by
  unfold State.opTxn
  rw [State.txnNamed_own opened own]
  dsimp only
  rw [if_neg (not_not.mpr rfl), if_neg (by omega)]

end

/-- The port has no transaction any more: its staged values are the commit's, and the result of its COMMIT is shown. -/
def State.txnCommitted (s : State) (p : Nat) : State :=
  ((s.put (txnKey p 6) stOk).setTxn p { s.txn p with staged := [] }).puts [(txnKey p 1, 0), (txnKey p 2, 0)]

/-- A COMMIT for the next section that passes its checks takes the next epoch. -/
theorem State.txnCommit_accepts {p : Nat}
    (checks : s.commitChecks (some s.applySection) (s.txn p).staged (s.txn p).since = (stOk, [])) : s.txnCommit p 0 [] =
      (stOk, s.nextEpoch, s.applySection, [],
        (s.txnCommitted p).commitAccept (.port p) (some s.applySection) (s.txn p).staged) := by
  have epoch : (s.put (txnKey p 6) stOk).nextEpoch = s.nextEpoch := by
    unfold State.nextEpoch State.n
    rw [State.o_put_ne _ _ (txnKey_ne (by decide)).symm]
  have target : s.commitTarget 0 [] = (stOk, some s.applySection) := if_pos rfl
  have accepted : stOk ≠ stConflict := by decide
  simp only [State.txnCommit, target, checks, epoch, accepted, ne_eq, not_true_eq_false, if_false, OfNat.zero_ne_ofNat]
  rfl

theorem State.txnCommitted_empty (s : State) (p : Nat) :
    (s.txnCommitted p).o (txnKey p 1) = 0 ∧ (s.txnCommitted p).o (txnKey p 2) = 0
    ∧ ((s.txnCommitted p).txn p).staged = [] ∧ (s.txnCommitted p).o (txnKey p 6) = stOk := by
  refine ⟨?_, ?_, ?_, ?_⟩
  · simp [State.txnCommitted, State.o_put, txnKey_inj]
  · simp [State.txnCommitted]
  · unfold State.txnCommitted
    rw [State.txn_of_dict_eq (s := (s.put (txnKey p 6) stOk).setTxn p { s.txn p with staged := [] }) (by simp)]
    exact State.staged_setTxn_nil rfl p
  · simp [State.txnCommitted, State.o_put, txnKey_inj]

/-! ### ROLLBACK and the inactivity timeout (R317, R318) -/

theorem State.o_txnRollback (s : State) (p : Nat) :
    (s.txnRollback p).o (txnKey p 1) = 0 ∧ (s.txnRollback p).o (txnKey p 2) = 0 := by
  have freed (j : Nat) : (s.txnRollback p).o (txnKey p j) =
      (((s.setTxn p { s.txn p with staged := [] }).puts [(txnKey p 1, 0), (txnKey p 2, 0)]).o (txnKey p j)) := by
    unfold State.txnRollback State.txnFree
    rw [State.o_bump_ne _ _ (txnKey_ne (by decide)), State.o_showStaging_txn]
    rfl
  rw [freed, freed]
  simp [State.o_put, txnKey_inj]

theorem State.txns_txnRollback (s : State) (p : Nat) :
    (s.txnRollback p).dict.txns = (s.setTxn p { s.txn p with staged := [] }).dict.txns := by
  simp [State.txnRollback, State.txnFree, State.pruneHist]

/-- A transaction that the device drops is reported later. -/
theorem State.mem_rolled_txnDrop {p : Nat} (listed : p < s.dict.txns.length) : s.txnId p ∈ ((s.txnDrop p).txn p).rolled := by
  unfold State.txnDrop
  rw [State.txn_setTxn, if_pos]
  · exact List.mem_cons_self
  · rw [State.txns_txnRollback]
    simpa [State.setTxn] using listed

theorem State.opTxn_rolled {p : Nat} {r : DReq} (other : s.txnId p ≠ r.txn) (rolled : r.txn ∈ (s.txn p).rolled) : s.opTxn p r =
    { status := stRolledBack, ids := none, data := []
      next := s.setTxn p { s.txn p with rolled := (s.txn p).rolled.filter (· ≠ r.txn) } } := by
  unfold State.opTxn
  rw [State.txnNamed_rolled other rolled]
  exact if_pos (show stRolledBack ≠ stOk by decide)

theorem State.txnTimeout_drops {p : Nat} (opened : s.txnOpen p = true) : s.txnTimeout p =
    ((s.atTick ((s.txn p).last + s.n 0x7C0001 * tickS)).txnDrop p).raise 0x0801 (p + s.txnId p * 2 ^ 8 : Nat) := if_pos opened

end

/-- Settles O41: each operation on the port's own transaction goes by the lemma of its operation. -/
theorem transactionsOpenStageAndCommit : Obligations.TransactionsOpenStageAndCommit := by
  unfold Obligations.TransactionsOpenStageAndCommit
  intro s w id idx sub bs idLt idxLt subLt room p k begin_ stage commit back answer named kept
  have key : k < 2 ^ 24 := by omega
  have nothing : 0 < 2 ^ 32 := Nat.two_pow_pos 32
  have empty : ([] : List Nat).length ≤ portLimit w.port := Nat.zero_le _
  have length : bs.length < 2 ^ 32 := room.trans_lt (portLimit_lt _)
  have carriedBegin : mailboxReq begin_.mailbox = begin_ := write_carried (by decide) nothing nothing nothing (by simp [begin_]) rfl
  have carriedStage : mailboxReq stage.mailbox = stage := write_carried key length idLt nothing (by simp [stage]) rfl
  have carriedCommit : mailboxReq commit.mailbox = commit :=
    write_carried (Nat.two_pow_pos 24) nothing idLt nothing (by simp [commit]) rfl
  have carriedBack : mailboxReq back.mailbox = back := write_carried (Nat.two_pow_pos 24) nothing idLt nothing (by simp [back]) rfl
  refine ⟨fun served => ?_, fun owned row listed stageable present checks => ?_, fun owned => ?_, fun owned => ?_,
    fun v alive opened => ?_, fun served other named rolled => ?_⟩
  · intro a
    refine ⟨fun closed => ?_, fun opened => ?_⟩
    · obtain ⟨x, opens, leaves⟩ := State.txnBegin_opens (p := p) closed
      refine ⟨x, exec_replies served rfl carriedBegin ((operate_begin rfl rfl empty).trans ?_), leaves⟩
      rw [opens]
      rfl
    · refine exec_replies served rfl carriedBegin ((operate_begin rfl rfl empty).trans ?_)
      rw [State.txnBegin_refused (p := p) opened]
      rfl
  · obtain ⟨served, opened, own, nonzero⟩ := owned
    intro y
    have stages := State.opWriteValue_stages (p := p) (r := stage) nonzero opened own listed stageable present checks
    exact ⟨exec_replies served rfl carriedStage ((operate_write rfl rfl room).trans stages), State.txnStage_stages⟩
  · obtain ⟨served, opened, own, nonzero⟩ := owned
    intro b e checks
    exact ⟨b.txnCommitted p, exec_replies served rfl carriedCommit ((operate_txn (.inl rfl) rfl empty).trans
      (State.opTxn_commits (p := p) (r := commit) opened own rfl (State.txnCommit_accepts checks))), b.txnCommitted_empty p⟩
  · obtain ⟨served, opened, own, nonzero⟩ := owned
    exact ⟨exec_replies served rfl carriedBack ((operate_txn (.inr rfl) rfl empty).trans
      (State.opTxn_rollsBack (p := p) (r := back) opened own rfl)), State.o_txnRollback _ p⟩
  · intro a
    exact ⟨exec_acts (·.txnTimeout v) alive rfl (State.txnTimeout_drops opened), fun listed => a.mem_rolled_txnDrop listed⟩
  · intro z x
    exact exec_replies served rfl carriedBack ((operate_txn (.inr rfl) rfl empty).trans
      (State.opTxn_rolled (p := p) (r := back) other rolled))

end Sys2Proof.Machine
end

section
/-!
Stores to flash (R322, R324): what a write of the startup profile leaves, what the end of its store and of a store of integrator
objects leave, and the statement about them.
-/
namespace Sys2Proof.Machine
open Sys2Proof.Safety

section
variable {s : State} {bs : List Nat}

/-! ### The startup profile (R322) -/

theorem findRow_profile : findRow 0x110000 = some ⟨0x1100, 1, 0x00, 1, .blob, .rw, .reset, 0, .lenMax 16384⟩ := by decide +kernel

/-- A startup profile that passes its checks waits for its store, and counts as a commit. -/
theorem State.plainWrite_profile (checks : s.writeStatus 0x110000 bs false = stOk) (p : Nat) : s.plainWrite p 0x110000 bs =
    (stOk, none, [], { s with dict := { s.dict with profStore := some bs } }.noteCommit [0x110000]) := by
  unfold State.plainWrite
  rw [checks, findRow_profile, State.normalBytes_of_lt _ _ (by decide)]
  rfl

theorem maxOf_profileStores : maxOf 0x110105 = 2 ^ 32 - 1 := by decide +kernel

section
variable (storing : s.dict.profStore = some bs)
include storing

theorem State.profileStored_written : (s.profileStored true).dict.profile = bs ∧ (s.profileStored true).dict.profStore = none
    ∧ (s.profileStored true).o 0x110106 = 1 ∧ (s.profileStored true).o 0x110105 = (s.o 0x110105 + 1) % 2 ^ 32 := by
  unfold State.profileStored
  rw [storing]
  simp [State.bump_eq, State.o_put, maxOf_profileStores]

theorem State.profileStored_failed : (s.profileStored false).dict.profile = s.dict.profile
    ∧ (s.profileStored false).dict.profStore = none ∧ (s.profileStored false).o 0x110106 = 2 := by
  unfold State.profileStored
  rw [storing]
  simp

end

/-! ### The integrator objects (R324) -/

/-- A store of integrator objects has ended: the flash holds what was stored, or what it held before. -/
def State.integratorEnded (s : State) (l : List (Nat × List Nat)) (ok : Bool) : State :=
  { s with dict := { s.dict with intStore := none, intAgain := false, intFlash := if ok then l else s.dict.intFlash } }

/-- The result of a store is shown: a good one and its count, or a failure, its count and its event. -/
def State.integratorShown (s : State) (ok : Bool) : State :=
  if ok then (s.put 0x80F001 0).bump 0x80F002 else ((s.put 0x80F001 2).bump 0x80F003).raise 0x0808

theorem State.integratorStored_eq {l : List (Nat × List Nat)} (storing : s.dict.intStore = some l) (ok : Bool) :
    s.integratorStored ok =
      let x := (s.integratorEnded l ok).integratorShown ok
      if s.dict.intAgain then x.integratorWritten else x := by
  unfold State.integratorStored
  rw [storing]
  rfl

theorem State.integratorShown_result (s : State) (ok : Bool) : (s.integratorShown ok).dict.intFlash = s.dict.intFlash
    ∧ (s.integratorShown ok).o 0x80F001 = if ok then 0 else 2 := by
  cases ok with
  | true => exact ⟨by simp [State.integratorShown], by simp [State.integratorShown, State.bump_eq, State.o_put]⟩
  | false =>
    refine ⟨?_, ?_⟩
    · exact (congrArg DictState.intFlash (State.raise_same _ _ _).dict).trans (by simp)
    · exact (State.o_raise _ _ _ (by decide)).trans (by simp [State.bump_eq, State.o_put])

end

/-- Settles O42: a store that ends leaves what `State.profileStored_written` and `State.integratorShown_result` say. -/
theorem storesToFlashEnd : Obligations.StoresToFlashEnd := by
  unfold Obligations.StoresToFlashEnd
  intro s w bs alive out
  refine ⟨fun accepted room => ?_, fun storing => ⟨?_, ?_⟩, fun l storing once => ⟨?_, ?_⟩, fun l ok storing again => ?_⟩
  · intro a
    exact exec_plainWrite accepted.toServed rfl (by decide) room (State.plainWrite_profile accepted.checks _)
  · exact ⟨s.profileStored true, exec_acts (·.profileStored true) alive rfl rfl, State.profileStored_written storing⟩
  · exact ⟨s.profileStored false, exec_acts (·.profileStored false) alive rfl rfl, State.profileStored_failed storing⟩
  · have ends := (State.integratorStored_eq storing true).trans (if_neg (by simp [once]))
    exact ⟨_, exec_acts (·.integratorStored true) alive rfl ends, State.integratorShown_result _ true⟩
  · have ends := (State.integratorStored_eq storing false).trans (if_neg (by simp [once]))
    refine ⟨_, exec_acts (·.integratorStored false) alive rfl ends, ?_⟩
    simp [State.integratorEnded, State.bump_eq, State.o_put]
  · have ends := (State.integratorStored_eq storing ok).trans (if_pos again)
    exact ⟨_, exec_acts (·.integratorStored ok) alive rfl ends, State.integratorShown_result _ ok⟩

end Sys2Proof.Machine
end

section
/-!
Frames of the field network (R328 to R332, R336 to R338, R348): what hearing a frame, enabling transmit, a position report and a
transmission leave, and the statement about frames.
-/
namespace Sys2Proof.Machine

section
variable {s : State}

/-! ### Updates beside the port -/

@[simp] theorem State.o_with_net (s : State) (x : NetState) (k : Nat) : ({ s with net := x } : State).o k = s.o k := rfl
@[simp] theorem State.bump_net (s : State) (k d : Nat) : (s.bump k d).net = s.net := by simp [State.bump]
@[simp] theorem State.sat_net (s : State) (k d : Nat) : (s.sat k d).net = s.net := by simp [State.sat]
@[simp] theorem State.bump_out (s : State) (k d : Nat) : (s.bump k d).out = s.out := by simp [State.bump]
@[simp] theorem State.sat_out (s : State) (k d : Nat) : (s.sat k d).out = s.out := by simp [State.sat]

theorem State.o_sat_ne (s : State) {k j : Nat} (d : Nat) (other : j ≠ k) : (s.sat k d).o j = s.o j := s.o_put_ne _ other

/-- With transmit enabled a frame waits behind the others. -/
theorem State.queueFrame_on (on : s.o 0x540001 ≠ 0) (f : TxFrame) :
    s.queueFrame f = { s with net := { s.net with txq := s.net.txq ++ [f] } } :=
  if_pos (by simp [State.b, on])

/-! ### A frame that is heard (R330, R331) -/

/-- The state in which the silence time has begun again. -/
def State.silenceEnded (s : State) : State := { s with net := { s.net with frameT := s.now } }

theorem State.netHeard_linked (linked : s.o 0x540002 ≠ 3) : s.netHeard = s.silenceEnded :=
  if_neg (by simp [State.is, linked])

theorem State.netHeard_lost (lost : s.o 0x540002 = 3) :
    s.netHeard = (s.silenceEnded.put 0x540002 s.net.before).raise 0x0903 :=
  if_pos (by simp [State.is, lost])

/-- The second state differs from the first in what a frame that is heard can change, at most: the port's state, the time of the last
frame, the count of frames taken, and what an event can change. -/
structure Heard (s t : State) : Prop where
  now : t.now = s.now
  net : t.net = { s.net with frameT := s.now, txq := t.net.txq, seq := t.net.seq }
  commits : t.dict.commits = s.dict.commits
  objs : ∀ k, logKey k = false → k ∉ [0x540002, 0x54000B] → t.o k = s.o k

theorem Heard.n {s t : State} (h : Heard s t) {k : Nat} (log : logKey k = false) (port : k ∉ [0x540002, 0x54000B]) : t.n k = s.n k :=
  congrArg Int.toNat (h.objs k log port)

theorem State.netHeard_hears (s : State) : Heard s s.netHeard := by
  by_cases lost : s.o 0x540002 = 3
  · have event := (s.silenceEnded.put 0x540002 s.net.before).raise_same 0x0903 0
    rw [State.netHeard_lost lost]
    refine ⟨by simp [State.silenceEnded], ?_, ?_, fun k log port => ?_⟩
    · rw [event.net]
      simp [State.silenceEnded]
    · rw [event.dict]
      simp [State.silenceEnded]
    · rw [event.objs k log, State.o_put_ne _ _ (List.ne_of_not_mem_cons port)]
      rfl
  · rw [State.netHeard_linked lost]
    exact ⟨rfl, rfl, rfl, fun _ _ _ => rfl⟩

theorem Heard.put {s t : State} (h : Heard s t) {k : Nat} (here : k ∈ [0x540002, 0x54000B]) (v : Int) : Heard s (t.put k v) where
  now := (t.put_now k v).trans h.now
  net := by simpa using h.net
  commits := by simpa using h.commits
  objs := fun j log port => (t.o_put_ne v (ne_of_mem_of_not_mem here port).symm).trans (h.objs j log port)

/-- A frame that the device takes is heard, and counted. -/
theorem State.netRx_hears (s : State) : Heard s s.netRx := s.netHeard_hears.put (by simp) _

theorem State.netIgnored_good (on : s.o 0x540002 ≠ 0) : s.netIgnored true = s.netHeard.bump 0x540009 := by
  simp [State.netIgnored, State.is, on]

theorem State.netIgnored_bad (on : s.o 0x540002 ≠ 0) : s.netIgnored false = s.sat 0x54000D := by
  simp [State.netIgnored, State.is, on]

/-! ### Transmit (R337, R338) -/

theorem State.o_netEnable (on : Bool) {k : Nat} (port : k ≠ 0x540002) : (s.netEnable on).o k = (s.putB 0x540001 on).o k := by
  unfold State.netEnable
  extract_lets a _ b
  have shown : b.o k = a.o k := by
    unfold b
    split_ifs
    · rfl
    · rfl
    · exact State.o_put_ne _ _ port
  rw [← shown]
  split_ifs <;> rfl

theorem State.netEnable_txq (s : State) : (s.netEnable true).net.txq = s.net.txq := by
  unfold State.netEnable
  extract_lets a _ b
  have enabled : a.net.txq = s.net.txq := by simp [a, State.putB]
  have shown : b.net.txq = s.net.txq := by
    unfold b
    split_ifs
    · exact enabled
    · exact enabled
    · simp [enabled]
  rw [if_pos rfl]
  exact shown

/-- The answer to an ENABLE_TX frame (R337). -/
def State.enableAnswer (s : State) (src seq : Nat) : TxFrame := ⟨2, src, pehel 0x8B seq 0 (s.n 0x100003) ++ List.replicate 12 0⟩

/-- Transmit is enabled for a partner, and the answer waits. -/
def State.partnerSet (s : State) (src seq : Nat) : State :=
  ((s.netRx.netEnable true).put 0x540005 src).queueFrame (s.enableAnswer src seq)

section
variable (up : s.o 0x540002 ≠ 0)
include up

theorem State.enableTx_foreign {serial : Nat} (foreign : serial ≠ s.n 0x100003) (src seq : Nat) :
    s.enableTx serial src seq = s.netHeard.bump 0x540009 := by
  simp [State.enableTx, State.is, up, foreign, State.netIgnored_good]

theorem State.enableTx_own (src seq : Nat) : s.enableTx (s.n 0x100003) src seq = (s.partnerSet src seq).raise 0x0901 src := by
  have serial : ((s.netRx.netEnable true).put 0x540005 src).n 0x100003 = s.n 0x100003 := by
    rw [← s.netRx_hears.n (by decide) (by decide), State.n, State.o_put_ne _ _ (by decide), State.o_netEnable _ (by decide),
      State.putB, State.o_put_ne _ _ (by decide)]
    rfl
  unfold State.enableTx
  rw [if_neg (by simp [State.is, up]), if_neg (not_not.mpr rfl)]
  dsimp only
  rw [serial]
  rfl

end

/-- What an ENABLE_TX frame for this head leaves, before its event. -/
theorem State.partnerSet_queues (s : State) (src seq : Nat) : (s.partnerSet src seq).o 0x540001 = 1
    ∧ (s.partnerSet src seq).o 0x540005 = src
    ∧ (s.partnerSet src seq).net.txq = s.netRx.net.txq ++ [s.enableAnswer src seq] := by
  have on : ((s.netRx.netEnable true).put 0x540005 src).o 0x540001 = 1 := by
    rw [State.o_put_ne _ _ (by decide), State.o_netEnable _ (by decide), State.putB, State.o_put_self]
    rfl
  have queued : s.partnerSet src seq = _ := State.queueFrame_on (by rw [on]; decide) _
  rw [queued]
  exact ⟨on, State.o_put_self _ _ _, by simp [State.netEnable_txq]⟩

theorem State.netRx_txq_linked (linked : s.o 0x540002 ≠ 3) : s.netRx.net.txq = s.net.txq := by
  rw [State.netRx, State.netHeard_linked linked]
  simp [State.silenceEnded]

/-- The place of the next frame that leaves: the first of the first kind that waits. -/
def State.nextFrame (s : State) : Option Nat := [0, 1, 2, 3].findSome? fun k => s.net.txq.findIdx? (·.kind = k)

/-- The state with a frame sent. -/
def State.frameSent (s : State) (i : Nat) (f : TxFrame) (collisions : Nat) : State :=
  ((({ s with net := { s.net with txq := s.net.txq.eraseIdx i } } : State).bump 0x54000C).sat 0x54000E collisions).emit
    (.frame f.kind f.dest f.body)

theorem maxOf_framesSent : maxOf 0x54000C = 2 ^ 64 - 1 := by decide +kernel

section
variable {i : Nat} {f : TxFrame}

theorem State.frameTransmit_sends (up : s.o 0x540002 ≠ 0) (on : s.o 0x540001 ≠ 0) (waits : s.net.txq[i]? = some f)
    (next : s.nextFrame = some i) (collisions : Nat) : s.frameTransmit collisions =
      let x := s.frameSent i f collisions
      if x.net.txOff && !x.net.txq.any (·.kind = 2) then x.netEnable false else x := by
  have clear : ¬ (s.is 0x540002 0 || !s.b 0x540001) = true := by simp [State.is, State.b, up, on]
  unfold State.frameTransmit
  dsimp only
  rw [show ([0, 1, 2, 3].findSome? fun k => s.net.txq.findIdx? (·.kind = k)) = some i from next]
  dsimp only
  rw [if_neg clear, waits]
  rfl

theorem State.frameSent_leaves (s : State) (i : Nat) (f : TxFrame) (collisions : Nat) :
    (s.frameSent i f collisions).net.txOff = s.net.txOff
    ∧ (s.frameSent i f collisions).net.txq = s.net.txq.eraseIdx i
    ∧ (s.frameSent i f collisions).o 0x54000C = (s.o 0x54000C + 1) % 2 ^ 64
    ∧ (s.frameSent i f collisions).out = s.out ++ [.frame f.kind f.dest f.body] := by
  refine ⟨by simp [State.frameSent], by simp [State.frameSent], ?_, by simp [State.frameSent]⟩
  rw [State.frameSent, State.o_emit, State.o_sat_ne _ _ (by decide), State.bump_eq, State.o_put_self, maxOf_framesSent]
  rfl

end

/-! ### Position reports (R348) -/

/-- The entry that a report makes of its sender. -/
def State.reportPeer (s : State) (serial : Nat) (body : List Nat) : Peer :=
  { serial, head := fieldAt body 40 1, sect := fieldAt body 16 4, line := fieldAt body 0 8, pos := sfieldAt body 8 8
    epoch := fieldAt body 20 4, pitch := fieldAt body 44 8, flags := fieldAt body 42 1
    missing := ((s.net.peers.find? (·.serial = serial)).map (·.missing)).getD 0 }

/-- The second state shows the peers as they come to be listed, and differs in nothing else. -/
structure PeersSet (s t : State) (l : List Peer) : Prop where
  now : t.now = s.now
  net : t.net = { s.net with peers := l }
  dict : t.dict = s.dict
  objs : ∀ k, k < 0x546000 → t.o k = s.o k

theorem PeersSet.put {t : State} {l : List Peer} (h : PeersSet s t l) {k : Nat} (high : 0x546000 ≤ k) (v : Int) :
    PeersSet s (t.put k v) l :=
  ⟨(t.put_now k v).trans h.now, (t.put_net k v).trans h.net, (t.put_dict k v).trans h.dict,
    fun j low => (t.o_put_ne v (by omega)).trans (h.objs j low)⟩

theorem PeersSet.peerObjs {t : State} {l : List Peer} (h : PeersSet s t l) (i : Nat) (p : Peer) : PeersSet s (t.peerObjs i p) l :=
  ((((((h.put (by omega) _).put (by omega) _).put (by omega) _).put (by omega) _).put (by omega) _).put (by omega) _).put (by omega) _

theorem State.setPeers_sets (s : State) (l : List Peer) : PeersSet s (s.setPeers l) l := by
  unfold State.setPeers
  refine List.foldlRecOn (motive := fun t => PeersSet s t l) _ _ ⟨rfl, rfl, rfl, fun _ _ => rfl⟩ fun t h i _ => ?_
  split
  · exact h.peerObjs i _
  · exact h

section
variable {serial : Nat} {body : List Nat} (up : s.o 0x540002 ≠ 0)
include up

theorem State.reportReceived_foreign (foreign : fieldAt body 36 4 ≠ s.n 0x808002 ∨ serial = s.n 0x100003) :
    s.reportReceived serial body = s.netRx := by
  have system : s.netRx.n 0x808002 = s.n 0x808002 := s.netRx_hears.n (by decide) (by decide)
  have own : s.netRx.n 0x100003 = s.n 0x100003 := s.netRx_hears.n (by decide) (by decide)
  unfold State.reportReceived
  rw [if_neg (by simp [State.is, up])]
  exact if_pos (by simpa [system, own] using foreign)

/-- A report of another head of the system enters the table or updates its entry, while the table has room. -/
theorem State.reportReceived_lists (system : fieldAt body 36 4 = s.n 0x808002) (other : serial ≠ s.n 0x100003) :
    s.reportReceived serial body =
      let p := s.reportPeer serial body
      if (s.net.peers.find? (·.serial = serial)).isSome then
        s.netRx.setPeers (s.net.peers.map fun q => if q.serial = serial then p else q)
      else if 16 ≤ s.net.peers.length then s.netRx.bump 0x54400F
      else s.netRx.setPeers (s.net.peers ++ [p]) := by
  have head : s.netRx.n 0x808002 = s.n 0x808002 := s.netRx_hears.n (by decide) (by decide)
  have own : s.netRx.n 0x100003 = s.n 0x100003 := s.netRx_hears.n (by decide) (by decide)
  have peers : s.netRx.net.peers = s.net.peers := by rw [s.netRx_hears.net]
  unfold State.reportReceived
  rw [if_neg (by simp [State.is, up]), if_neg (by simp [head, own, system, other]), peers]
  rfl

end

theorem maxOf_reportsLost : maxOf 0x54400F = 2 ^ 32 - 1 := by decide +kernel

section
variable {serial : Nat} {body : List Nat} (up : s.o 0x540002 ≠ 0) (system : fieldAt body 36 4 = s.n 0x808002)
  (other : serial ≠ s.n 0x100003)
include up system other

theorem State.reportReceived_now : (s.reportReceived serial body).now = s.now := by
  rw [State.reportReceived_lists up system other]
  dsimp only
  split_ifs <;> simp [(State.setPeers_sets _ _).now, s.netRx_hears.now]

theorem State.reportReceived_updates (listed : ∃ q ∈ s.net.peers, q.serial = serial) : (s.reportReceived serial body).net.peers =
    s.net.peers.map fun q => if q.serial = serial then s.reportPeer serial body else q := by
  have found : (s.net.peers.find? (·.serial = serial)).isSome = true := by simpa using listed
  rw [State.reportReceived_lists up system other]
  dsimp only
  rw [if_pos found, (State.setPeers_sets _ _).net]

section
variable (unlisted : ∀ q ∈ s.net.peers, q.serial ≠ serial)
include unlisted

theorem State.reportReceived_enters (room : s.net.peers.length < 16) :
    (s.reportReceived serial body).net.peers = s.net.peers ++ [s.reportPeer serial body] := by
  have missing : ¬ (s.net.peers.find? (·.serial = serial)).isSome = true := by simpa using unlisted
  rw [State.reportReceived_lists up system other]
  dsimp only
  rw [if_neg missing, if_neg room.not_ge, (State.setPeers_sets _ _).net]

theorem State.reportReceived_full (full : 16 ≤ s.net.peers.length) : (s.reportReceived serial body).net.peers = s.net.peers
    ∧ (s.reportReceived serial body).o 0x54400F = (s.o 0x54400F + 1) % 2 ^ 32 := by
  have missing : ¬ (s.net.peers.find? (·.serial = serial)).isSome = true := by simpa using unlisted
  have heard := s.netRx_hears
  rw [State.reportReceived_lists up system other]
  dsimp only
  rw [if_neg missing, if_pos full, State.bump_net, heard.net, State.bump_eq, State.o_put_self, maxOf_reportsLost,
    heard.objs _ (by decide) (by decide)]
  exact ⟨rfl, rfl⟩

end
end

/-! ### Link losses (R330) -/

theorem State.netLost_loses (s : State) : s.netLost.o 0x540002 = 3 ∧ s.netLost.net.before = s.o 0x540002 ∧ s.netLost.net.cache = [] := by
  unfold State.netLost
  refine ⟨(State.o_raise _ _ _ (by decide)).trans (State.o_put_self _ _ _), ?_, ?_⟩
  · rw [(State.raise_same _ _ _).net]
    simp
  · rw [(State.raise_same _ _ _).net]
    simp

end

/-- Settles O43: each frame goes by the lemma of its operation. -/
theorem framesMoveThePort : Obligations.FramesMoveThePort := by
  unfold Obligations.FramesMoveThePort
  intro s src seq serial body alive out
  refine ⟨fun plca up => ?_, fun up => ⟨?_, ?_, fun linked => ?_, fun lost => ?_, ?_, fun foreign => ?_, ?_, fun foreign => ?_,
    fun system other => ?_⟩, fun c timeout => ?_, fun f i collisions up on waits next => ?_⟩
  · exact exec_acts (·.plcaBeacon) alive rfl (if_pos (by simp [State.is, plca, up]))
  · exact exec_acts (·.netIgnored true) alive rfl (State.netIgnored_good up)
  · exact exec_acts (·.netIgnored true) alive rfl (State.netIgnored_good up)
  · exact State.netHeard_linked linked
  · rw [State.netHeard_lost lost, State.o_raise _ _ _ (by decide), State.o_put_self]
  · exact exec_acts (·.netIgnored false) alive rfl (State.netIgnored_bad up)
  · exact exec_acts (·.enableTx serial src seq) alive rfl (State.enableTx_foreign up foreign src seq)
  · obtain ⟨transmit, partner, queue⟩ := s.partnerSet_queues src seq
    refine ⟨s.partnerSet src seq, exec_acts (·.enableTx (s.n 0x100003) src seq) alive rfl (State.enableTx_own up src seq), transmit,
      partner, ?_, fun linked => ?_⟩
    · rw [queue]
      exact List.mem_append_right _ (List.mem_singleton_self _)
    · rw [queue, State.netRx_txq_linked linked]
      rfl
  · exact exec_acts (·.reportReceived serial body) alive rfl (State.reportReceived_foreign up foreign)
  · have clock : (s.settle (s.reportReceived serial body)).now = s.now := by
      rw [State.settle_now, State.reportReceived_now up system other, max_self]
    exact ⟨s.settle (s.reportReceived serial body), s.reportPeer serial body, exec_acts (·.reportReceived serial body) alive rfl rfl,
      clock, rfl, rfl, rfl, rfl, rfl, rfl, rfl, State.reportReceived_enters up system other,
      State.reportReceived_full up system other, State.reportReceived_updates up system other⟩
  · obtain ⟨rfl, lost⟩ | ⟨rfl, lost⟩ := timeout
    · exact ⟨_, exec_acts (·.beaconTimeout) alive rfl (if_pos lost), State.netLost_loses _⟩
    · exact ⟨_, exec_acts (·.silenceTimeout) alive rfl (if_pos lost), State.netLost_loses _⟩
  · have sends := State.frameTransmit_sends up on waits next collisions
    obtain ⟨ending, queue, count, sent⟩ := s.frameSent_leaves i f collisions
    dsimp only at sends
    rw [ending] at sends
    refine ⟨s.frameSent i f collisions, queue, count, sent, fun on => ?_, fun off => ?_⟩
    · exact exec_acts (·.frameTransmit collisions) alive rfl (sends.trans (if_neg (by simp [on])))
    · refine exec_acts (·.frameTransmit collisions) alive rfl (sends.trans ?_)
      rw [off]
      generalize (s.frameSent i f collisions).net.txq.any (·.kind = 2) = waiting
      cases waiting <;> rfl

end Sys2Proof.Machine
end

section
/-!
The Sluice barrier (R340 to R346): what joining and leaving answer, how a barrier passes, how it is aborted here and by another head,
and the statement about it.
-/
namespace Sys2Proof.Machine
open Sys2Proof.Safety

section
variable {s : State}

/-! ### Participation (R341, R345) -/

theorem findRow_sluice : findRow 0x545001 = some ⟨0x5450, 1, 0x01, 1, .bool, .rw, .now, 0, .span 0 1⟩ := by decide +kernel

theorem State.setScalar_sluice (s : State) (on : Bool) : s.setScalar 0x545001 (decodeVal .bool [boolByte on]) =
    ((s.sluiceJoin on).1, (s.sluiceJoin on).2.settleDomains) := by
  have value : decide (decodeVal .bool [boolByte on] ≠ 0) = on := by cases on <;> decide
  unfold State.setScalar
  simp [value]

theorem State.setKey_sluice (s : State) (on : Bool) : s.setKey 0x545001 [boolByte on] =
    ((s.sluiceJoin on).1, (s.sluiceJoin on).2.settleDomains) := by
  unfold State.setKey
  rw [findRow_sluice]
  simp [OTy.isBlob, State.setScalar_sluice]

/-- An accepted write of the participation that the head takes. -/
theorem exec_sluiceParticipation {x : State} {w : Sender} {on : Bool} (h : Accepted s w 0x545001 [boolByte on])
    (joins : (taken s w (writeOf 0x545001 [boolByte on])).sluiceJoin on = (stOk, x)) :
    exec (.sluiceParticipation w on) s = .next (s.settle (replyOk w (writeOf 0x545001 [boolByte on])
      (applied (taken s w (writeOf 0x545001 [boolByte on])) 0x545001 [boolByte on] x.settleDomains))) := by
  have written := write_applied s w 0x545001 [boolByte on] _ h findRow_sluice (by decide) (by decide) (by decide)
    (one_le_portLimit _) (State.normalBytes_of_ge _ _ (by decide)) (by decide)
  refine exec_acts (·.write w 0x545001 [boolByte on]) h.runs rfl (written.trans ?_)
  simp [State.applyNow, State.setKey_sluice, joins, replyOk, applied]

theorem State.sluiceJoin_off (off : s.o 0x545002 = 0) :
    s.sluiceJoin true = (stOk, ((s.put 0x545001 1).put 0x545002 1).pull true) := by simp [State.sluiceJoin, State.is, off]

theorem State.sluiceJoin_on (on : s.o 0x545002 ≠ 0) : s.sluiceJoin true = (stOk, s.put 0x545001 1) := by
  simp [State.sluiceJoin, State.is, on]

theorem State.sluiceJoin_leaves (free : s.sluice < 2) :
    s.sluiceJoin false = (stOk, (s.puts [(0x545001, 0), (0x545002, 0), (0x545005, 1)]).pull false) :=
  if_neg free.not_ge

theorem State.sluiceJoin_refused (waits : 2 ≤ s.sluice) : s.sluiceJoin false = (stState, s) := if_pos waits

theorem State.stateStatus_sluice (waits : 2 ≤ s.sluice) :
    s.stateStatus 0x545001 ⟨0x5450, 1, 0x01, 1, .bool, .rw, .now, 0, .span 0 1⟩ [0] = stState := by
  have refuses : (s.setScalar 0x545001 (decodeVal .bool [0])).1 = stState := by
    rw [show s.setScalar 0x545001 (decodeVal .bool [0]) = _ from s.setScalar_sluice false, State.sluiceJoin_refused waits]
  simp [State.stateStatus, OTy.isBlob, refuses]

theorem State.plainWrite_sluiceRefused {p : Nat} (checks : s.writeStatus 0x545001 [0] false = stOk) (waits : 2 ≤ s.sluice) :
    s.plainWrite p 0x545001 [0] = (stState, none, [], s) := by
  have state := State.stateStatus_sluice waits
  rw [← s.normalBytes_of_ge (k := 0x545001) [0] (by decide)] at state
  rw [State.plainWrite_unpermitted checks findRow_sluice (by decide) (by rw [state]; decide), state]

/-- A head whose barrier waits or has passed does not leave. -/
theorem exec_sluiceParticipation_refused {w : Sender} (h : Checked s w 0x545001 [0])
    (waits : 2 ≤ (taken s w (writeOf 0x545001 [0])).sluice) : exec (.sluiceParticipation w false) s =
      .next (s.settle (reply w (writeOf 0x545001 [0])
        { status := stState, ids := none, data := [], next := taken s w (writeOf 0x545001 [0]) })) :=
  exec_plainWrite h.toServed rfl (by decide) (one_le_portLimit _) (State.plainWrite_sluiceRefused h.checks waits)

/-! ### A barrier that is withdrawn (R317, R343) -/

@[simp] theorem State.pull_net (s : State) (low : Bool) : (s.pull low).net = { s.net with low, pullAt := none } := by
  cases low <;> simp [State.pull]

theorem State.o_pull_ne (low : Bool) {k : Nat} (other : k ≠ 0x545005) : (s.pull low).o k = s.o k := by
  cases low with
  | false => rfl
  | true => exact s.o_put_ne 0 other

@[simp] theorem State.showStaging_net (s : State) : s.showStaging.net = s.net := by simp [State.showStaging]

theorem State.o_showStaging {k : Nat} (low : k < 0x7C0000) : s.showStaging.o k = s.o k := by
  simp only [State.showStaging, State.puts_cons, State.puts_nil]
  rw [State.o_put_ne _ _ (by omega), State.o_put_ne _ _ (by omega), State.o_put_ne _ _ (by omega)]

/-- The barrier and its commit are gone. -/
def State.barrierClosed (s : State) (b : Barrier) : State :=
  { s with
    dict := { s.dict with commits := s.dict.commits.filter fun c => c.epoch ≠ b.epoch }
    net := { s.net with barrier := none } }

/-- The second state is the first with its barrier and the barrier's commit withdrawn, and SLUICE pulled low. -/
structure Withdrawn (s t : State) (b : Barrier) : Prop where
  barrier : t.net.barrier = none
  holding : t.o 0x545002 = 1
  now : t.now = s.now
  commits : t.dict.commits = s.dict.commits.filter fun c => c.epoch ≠ b.epoch
  objs : ∀ k, 0x545006 ≤ k → k < 0x780000 → t.o k = s.o k

theorem State.barrierWithdraw_withdraws {b : Barrier} (waits : s.net.barrier = some b) : Withdrawn s s.barrierWithdraw b := by
  have withdrawn : s.barrierWithdraw = ((((((s.barrierClosed b).put ((0x7C10 + b.port) * 256 + 1) 0).put
      ((0x7C10 + b.port) * 256 + 2) 0).put 0x545002 1).showStaging).pull true) := by
    unfold State.barrierWithdraw
    rw [waits]
    rfl
  rw [withdrawn]
  refine ⟨by simp [State.barrierClosed], ?_, ?_, ?_, fun k high low => ?_⟩
  · rw [State.o_pull_ne _ (by decide), State.o_showStaging (by decide), State.o_put_self]
  · simp [State.pull, State.showStaging, State.barrierClosed]
  · simp [State.pull, State.showStaging, State.barrierClosed]
  · rw [State.o_pull_ne _ (by omega), State.o_showStaging (by omega), State.o_put_ne _ _ (by omega), State.o_put_ne _ _ (by omega),
      State.o_put_ne _ _ (by omega)]
    rfl

theorem maxOf_barrierCounts : ∀ k ∈ [0x545007, 0x545008, 0x545009, 0x54500A], maxOf k = 2 ^ 32 - 1 := by decide +kernel

theorem State.o_bump_barrierCount {k : Nat} (counter : k ∈ [0x545007, 0x545008, 0x545009, 0x54500A]) :
    (s.bump k).o k = (s.o k + 1) % 2 ^ 32 := by
  rw [State.bump_eq, State.o_put_self, maxOf_barrierCounts k counter]
  rfl

section
variable {t : State} {b : Barrier} (h : Withdrawn s t b)
include h

/-- What a withdrawn barrier leaves once its end is counted. -/
theorem Withdrawn.counted {k : Nat} (counter : k ∈ [0x545008, 0x545009]) : (t.bump k).net.barrier = none
    ∧ (t.bump k).o 0x545002 = 1 ∧ (t.bump k).now = s.now ∧ (∀ c ∈ (t.bump k).dict.commits, c.epoch ≠ b.epoch)
    ∧ (t.bump k).o k = (s.o k + 1) % 2 ^ 32 := by
  have place : k = 0x545008 ∨ k = 0x545009 := by simpa using counter
  refine ⟨?_, ?_, ?_, ?_, ?_⟩
  · rw [State.bump_net, h.barrier]
  · rw [State.o_bump_ne _ _ (by omega), h.holding]
  · rw [State.bump_now, h.now]
  · rw [State.bump_dict, h.commits]
    simp
  · rw [State.o_bump_barrierCount (by simp; omega), h.objs k (by omega) (by omega)]

/-! ### Aborts (R343) -/

/-- An abort is sent, and its copies are to follow. -/
def State.abortSent (s : State) (body : List Nat) : State :=
  let a := (s.queueFrame ⟨0, s.n 0x540004, body⟩).nextSeq
  { a with net := { a.net with copies := if a.b 0x540001 then some ⟨2, a.now + 500 * tickUs, body⟩ else none } }

theorem Withdrawn.abortSent (body : List Nat) : Withdrawn s (t.abortSent body) b := by
  have queued : LogSame t (t.queueFrame ⟨0, t.n 0x540004, body⟩).nextSeq := ((LogSame.refl t).queueFrame _).nextSeq
  refine ⟨?_, (queued.objs _ (by decide)).trans h.holding, queued.now.trans h.now, ?_, fun k high low => ?_⟩
  · exact (congrArg NetState.barrier queued.net).trans h.barrier
  · exact (congrArg DictState.commits queued.dict).trans h.commits
  · exact (queued.objs k (by simp [logKey]; omega)).trans (h.objs k high low)

end

/-- The body of an abort of a barrier, as the head sends it. -/
def State.abortBody (s : State) (b : Barrier) (cause : Nat) : List Nat :=
  pehel 0x0A s.net.seq 0 (s.n 0x100003) ++ leBytes 4 (s.n 0x808002) ++ leBytes 4 b.epoch ++ leBytes 4 (b.apply.getD 0xFFFFFFFF)
    ++ [cause, 0, 0, 0]

/-- The state in which the head has aborted its barrier. -/
def State.barrierAborted (s : State) (b : Barrier) (cause : Nat) : State :=
  (s.barrierWithdraw.abortSent (s.barrierWithdraw.abortBody b cause)).bump 0x545008

section
variable {b : Barrier} (waits : s.net.barrier = some b)
include waits

theorem State.barrierAbort_aborts (cause : Nat) :
    s.barrierAbort cause = (s.barrierAborted b cause).raise 0x0906 (b.epoch * 2 ^ 8 + cause : Nat) := by
  unfold State.barrierAbort
  rw [waits]
  rfl

theorem State.barrierExpiry_aborts (released : s.o 0x545002 = 2) : s.barrierExpiry =
    ((s.atTick b.deadline).barrierAborted b 1).raise 0x0906 (b.epoch * 2 ^ 8 + 1 : Nat) := by
  unfold State.barrierExpiry
  rw [waits]
  exact (if_pos (by simp [State.is, released])).trans (State.barrierAbort_aborts (s := s.atTick b.deadline) waits 1)

theorem State.command_abort : s.command 0x54500C 1 [1] =
    (stOk, (s.barrierAborted b 3).raise 0x0906 (b.epoch * 2 ^ 8 + 3 : Nat)) := by
  rw [← State.barrierAbort_aborts waits 3]
  exact if_neg (by simp [waits])

/-! ### A pass (R342) -/

/-- The section that a pass fixes. -/
def State.passSection (s : State) (edge : Nat) (near : Option (Nat × Nat)) : Nat :=
  if s.atOnce then s.sectionAtOnce
  else (((near.filter (·.2 ≤ s.n 0x545004 * tickUs)).map (·.1)).getD edge + s.n 0x7C0002) % 2 ^ 32

/-- The barrier has passed with its commit's section fixed. -/
def State.barrierFixed (s : State) (b : Barrier) (sect : Nat) : State :=
  { s with
    dict := { s.dict with commits := s.dict.commits.map fun (c : Commit) => if c.epoch = b.epoch then { c with at_ := some sect } else c }
    net := { s.net with barrier := some { b with apply := some sect }, pullAt := some (s.now + 10 * tickUs) } }

/-- What a pass leaves before its event. -/
def State.barrierPassed (s : State) (b : Barrier) (sect : Nat) : State :=
  ((s.barrierFixed b sect).puts [((0x7C10 + b.port) * 256 + 1, 0), ((0x7C10 + b.port) * 256 + 2, 0), (0x545002, 3), (0x545005, 1),
    (0x545006, sect)]).bump 0x545007

variable (released : s.o 0x545002 = 2) {edge : Nat} {near : Option (Nat × Nat)}
include released

theorem State.sluicePassed_late (late : b.deadline ≤ s.now) : s.sluicePassed edge near = s.barrierExpiry := by
  simp [State.sluicePassed, waits, State.sluice, released, late]

theorem State.sluicePassed_passes (early : s.now < b.deadline) : s.sluicePassed edge near =
    let sect := s.passSection edge near
    ((s.barrierPassed b sect).raise 0x0904 sect).applyIdle := by
  unfold State.sluicePassed
  rw [waits]
  dsimp only
  rw [if_neg (by simp [State.sluice, released]), if_neg early.not_ge]
  unfold State.barrierPass
  rw [waits]
  rfl

end

theorem State.barrierPassed_fixes (s : State) (b : Barrier) (sect : Nat) : let x := s.barrierPassed b sect
    x.o 0x545002 = 3 ∧ x.o 0x545006 = sect ∧ x.net.barrier = some { b with apply := some sect }
    ∧ x.net.pullAt = some (s.now + 10 * tickUs) ∧ (∀ c ∈ x.dict.commits, c.epoch = b.epoch → c.at_ = some sect)
    ∧ x.dict.commits.map (·.epoch) = s.dict.commits.map (·.epoch) := by
  intro x
  have net : x.net = (s.barrierFixed b sect).net := by simp [x, State.barrierPassed]
  have dict : x.dict = (s.barrierFixed b sect).dict := by simp [x, State.barrierPassed]
  refine ⟨?_, ?_, congrArg NetState.barrier net, congrArg NetState.pullAt net, ?_, ?_⟩
  · simp [x, State.barrierPassed, State.o_bump_ne, State.o_put]
  · simp [x, State.barrierPassed, State.o_bump_ne]
  · rw [dict]
    intro c fixed same
    obtain ⟨a, -, rfl⟩ := List.mem_map.mp fixed
    split at same
    · simp_all
    · simp_all
  · rw [dict, State.barrierFixed, List.map_map]
    refine List.map_congr_left fun c _ => ?_
    dsimp only [Function.comp]
    split <;> rfl

/-! ### An abort of another head (R344) -/

/-- The state in which an abort of another head is on record. -/
def State.abortNoted (s : State) (serial seq : Nat) : State :=
  { s.netRx with net := { s.netRx.net with
    aborts := ((serial, seq) :: s.netRx.net.aborts.filter (· ≠ (serial, seq))).take 16 } }

section
variable {serial seq : Nat} (up : s.o 0x540002 ≠ 0)
include up

theorem State.abortReceived_foreign {system : Nat} (foreign : system ≠ s.n 0x808002) :
    s.abortReceived serial seq system = s.netRx := by
  have head : s.netRx.n 0x808002 = s.n 0x808002 := s.netRx_hears.n (by decide) (by decide)
  simp [State.abortReceived, State.is, up, head, foreign]

theorem State.abortReceived_system : s.abortReceived serial seq (s.n 0x808002) =
    if s.net.aborts.contains (serial, seq) || s.sluice < 2 then (s.abortNoted serial seq).bump 0x54500A
    else ((s.abortNoted serial seq).barrierWithdraw.bump 0x545009).raise 0x0908 serial := by
  have head : s.netRx.n 0x808002 = s.n 0x808002 := s.netRx_hears.n (by decide) (by decide)
  have known : s.netRx.net.aborts = s.net.aborts := by rw [s.netRx_hears.net]
  have sluice : (s.abortNoted serial seq).sluice = s.sluice := s.netRx_hears.objs 0x545002 (by decide) (by decide)
  unfold State.abortReceived
  rw [if_neg (by simp [State.is, up]), if_neg (by simp [head]), ← known, ← sluice]
  rfl

end

theorem State.command_abort_none (absent : s.net.barrier = none) : s.command 0x54500C 1 [1] = (stState, s) :=
  if_pos (by simp [absent])

theorem State.abortNoted_records (s : State) (serial seq : Nat) : let x := (s.abortNoted serial seq).bump 0x54500A
    x.net.barrier = s.net.barrier ∧ x.dict.commits = s.dict.commits ∧ x.o 0x54500A = (s.o 0x54500A + 1) % 2 ^ 32
    ∧ (serial, seq) ∈ x.net.aborts := by
  have heard := s.netRx_hears
  refine ⟨?_, ?_, ?_, ?_⟩
  · rw [State.bump_net, State.abortNoted, heard.net]
  · rw [State.bump_dict, State.abortNoted, heard.commits]
  · rw [State.o_bump_barrierCount (by simp), State.abortNoted, State.o_with_net, heard.objs _ (by decide) (by decide)]
  · rw [State.bump_net]
    exact List.mem_cons_self

/-- A matching abort withdraws the barrier, and is counted. -/
theorem State.abortNoted_withdraws {b : Barrier} (waits : s.net.barrier = some b) (serial seq : Nat) :
    let x := (s.abortNoted serial seq).barrierWithdraw.bump 0x545009
    x.net.barrier = none ∧ x.o 0x545002 = 1 ∧ x.o 0x545009 = (s.o 0x545009 + 1) % 2 ^ 32 := by
  have heard := s.netRx_hears
  have noted : (s.abortNoted serial seq).net.barrier = some b := by rw [State.abortNoted, heard.net, waits]
  obtain ⟨closed, holding, -, -, count⟩ := (State.barrierWithdraw_withdraws noted).counted (k := 0x545009) (by simp)
  have kept : (s.abortNoted serial seq).o 0x545009 = s.o 0x545009 := heard.objs _ (by decide) (by decide)
  rw [kept] at count
  exact ⟨closed, holding, count⟩

theorem isCommand_barrierAbort : IsCommand 0x54500C ⟨0x5450, 1, 0x0C, 1, .u8, .wo, .now, 0, .oneOf [1]⟩ where
  listed := by decide +kernel
  acc := rfl
  app := rfl
  high := by decide
  low := by decide

end

/-- Settles O44: each command and event goes by the lemma of its operation. -/
theorem theBarrierPassesOrAborts : Obligations.TheBarrierPassesOrAborts := by
  unfold Obligations.TheBarrierPassesOrAborts
  intro s w edge serial seq system near b out q
  refine ⟨fun accepted => ?_, fun accepted free => ?_, fun checked waits => ?_,
    fun alive waits released => ⟨fun late => ?_, fun early => ?_⟩, fun alive t pulls => ?_,
    fun alive waits released => ?_, fun accepted => ⟨fun waits => ?_, fun absent => ?_⟩,
    fun alive up => ⟨fun foreign => ?_, fun ignored => ?_, fun waits passes new => ?_⟩, fun alive c copies => ?_⟩
  · intro a done
    exact ⟨fun off => exec_sluiceParticipation (on := true) accepted (State.sluiceJoin_off off),
      fun on => exec_sluiceParticipation (on := true) accepted (State.sluiceJoin_on on)⟩
  · exact exec_sluiceParticipation (on := false) accepted (State.sluiceJoin_leaves free)
  · exact exec_sluiceParticipation_refused checked waits
  · exact exec_acts (·.sluicePassed edge near) alive rfl (State.sluicePassed_late waits released late)
  · intro from_ sect
    exact ⟨s.barrierPassed b sect, exec_acts (·.sluicePassed edge near) alive rfl (State.sluicePassed_passes waits released early),
      s.barrierPassed_fixes b sect⟩
  · exact exec_acts (·.sluicePull) alive rfl (by rw [State.sluicePull, pulls]; rfl)
  · have withdrawn := State.barrierWithdraw_withdraws (s := s.atTick b.deadline) waits
    exact ⟨_, exec_acts (·.barrierExpiry) alive rfl (State.barrierExpiry_aborts waits released),
      (withdrawn.abortSent _).counted (by simp)⟩
  · obtain ⟨closed, holding, -⟩ := ((State.barrierWithdraw_withdraws waits).abortSent
      ((q 0x54500C 1).barrierWithdraw.abortBody b 3)).counted (k := 0x545008) (by simp)
    exact ⟨(q 0x54500C 1).barrierAborted b 3,
      exec_commands isCommand_barrierAbort accepted rfl (by decide) (State.command_abort waits), closed, holding⟩
  · exact exec_commands isCommand_barrierAbort accepted rfl (by decide) (State.command_abort_none absent)
  · exact exec_acts (·.abortReceived serial seq system) alive rfl (State.abortReceived_foreign up foreign)
  · have received := State.abortReceived_system (serial := serial) (seq := seq) up
    exact ⟨_, exec_acts (·.abortReceived serial seq (s.n 0x808002)) alive rfl (received.trans (if_pos (by simpa using ignored))),
      s.abortNoted_records serial seq⟩
  · have received := State.abortReceived_system (serial := serial) (seq := seq) up
    have matching : ¬ (s.net.aborts.contains (serial, seq) || decide (s.sluice < 2)) = true := by
      simp only [new, Bool.false_or, decide_eq_true_eq]
      omega
    exact ⟨_, exec_acts (·.abortReceived serial seq (s.n 0x808002)) alive rfl (received.trans (if_neg matching)),
      State.abortNoted_withdraws waits serial seq⟩
  · exact exec_acts (·.abortRepeat) alive rfl (by rw [State.abortRepeat, copies])

end Sys2Proof.Machine
end

section

/-!
Operations that keep the clock.

`State.now` moves only where an event of the queue is taken up (R15): every operation a stop of the run can reach (R42) keeps it.
The lemmas go up the model in its own order to `State.stopNow`, which the lock-step fault calls (R349).
-/

namespace Sys2Proof.Machine

variable (s : State)

theorem now_ite {s a b : State} {c : Prop} [Decidable c] (ha : a.now = s.now) (hb : b.now = s.now) :
    (if c then a else b).now = s.now := by
  split <;> assumption

/-! ### Values in force, interrupts and events (R266, R272, R325) -/

@[simp] theorem State.puts_now (kvs : List (Nat × Int)) : (s.puts kvs).now = s.now := by simp [State.puts, foldl_now]

@[simp] theorem State.putB_now (k : Nat) (b : Bool) : (s.putB k b).now = s.now := by simp [State.putB]

@[simp] theorem State.clrBits_now (k m : Nat) : (s.clrBits k m).now = s.now := by simp [State.clrBits]

@[simp] theorem State.dma_now (kind ring addr : Nat) (bytes : List Nat) : (s.dma kind ring addr bytes).now = s.now :=
  (foldl_now (fun t _ => t.emit_now _) _ _).trans (s.bump_now ..)

@[simp] theorem State.writeBack_now : s.writeBack.now = s.now := by simp [State.writeBack, apply_ite State.now]

@[simp] theorem State.fire_now (v : Nat) : (s.fire v).now = s.now := by simp [State.fire]

@[simp] theorem State.logEvent_now (e : LogEntry) : (s.logEvent e).now = s.now := by simp [State.logEvent, apply_ite State.now]

@[simp] theorem State.evWrite_now (e : LogEntry) : (s.evWrite e).now = s.now := by simp [State.evWrite, apply_ite State.now]

@[simp] theorem State.evDeliver_now (e : LogEntry) : (s.evDeliver e).now = s.now := by simp [State.evDeliver, apply_ite State.now]

@[simp] theorem State.queueFrame_now (f : TxFrame) : (s.queueFrame f).now = s.now := by
  simp [State.queueFrame, apply_ite State.now]

@[simp] theorem State.nextSeq_now : s.nextSeq.now = s.now := rfl

@[simp] theorem State.notify_now (e : LogEntry) : (s.notify e).now = s.now := by simp [State.notify, apply_ite State.now]

@[simp] theorem State.enterEvent_now (e : LogEntry) : (s.enterEvent e).now = s.now := by simp [State.enterEvent]

@[simp] theorem State.raiseFirstAt_now (code seg : Nat) (data : Int) : (s.raiseFirstAt code seg data).now = s.now := by
  simp [State.raiseFirstAt, apply_ite State.now]

/-! ### Completion entries, data rings and staging (R270, R271, R315) -/

@[simp] theorem State.cqWrite_now (e : CqEntry) : (s.cqWrite e).now = s.now := by simp [State.cqWrite, apply_ite State.now]

@[simp] theorem State.detach_now (e : CqEntry) : (s.detach e).now = s.now := by simp [State.detach, apply_ite State.now]

@[simp] theorem State.complete_now (e : CqEntry) : (s.complete e).now = s.now := by simp [State.complete, apply_ite State.now]

@[simp] theorem State.drainBacklog_now (n : Nat) : (State.drainBacklog n s).now = s.now := by
  induction n generalizing s with
  | zero => rfl
  | succ n ih =>
    rw [State.drainBacklog]
    split
    · rfl
    · split
      · rfl
      · simp [ih]

@[simp] theorem State.setRing_now (x : RingSt) : (s.setRing x).now = s.now := rfl

@[simp] theorem State.bufDone_now (r : Nat) : (s.bufDone r).now = s.now := by
  unfold State.bufDone
  split <;> simp

@[simp] theorem State.bufClose_now (r : Nat) : (s.bufClose r).now = s.now := by simp [State.bufClose, apply_ite State.now]

@[simp] theorem State.showStaging_now : s.showStaging.now = s.now := by simp [State.showStaging]

@[simp] theorem State.replanStart_now (cause : Nat) : (s.replanStart cause).now = s.now := by
  simp [State.replanStart, apply_ite State.now]

/-! ### Positions, plans and maps (R58, R101 to R116, R138) -/

@[simp] theorem State.pushSnap_now (sn : Snap) : (s.pushSnap sn).now = s.now := rfl

@[simp] theorem State.virtualSnap_now (base : Int) (t : Nat) : (s.virtualSnap base t).now = s.now := rfl

@[simp] theorem State.standSnap_now (base : Int) (t : Nat) : (s.standSnap base t).now = s.now := rfl

@[simp] theorem State.armUser_now (n : Nat) (typ : Int) : (s.armUser n typ).2.now = s.now := by
  simp [State.armUser, apply_ite Prod.snd, apply_ite State.now]

@[simp] theorem State.refreshPlan_now : s.refreshPlan.now = s.now := (foldl_now (fun _ _ => by simp) _ _).trans (s.put_now ..)

@[simp] theorem State.addRun_now (src bit last : Nat) : (s.addRun src bit last).now = s.now := rfl

@[simp] theorem State.wAbandon_now : s.wAbandon.now = s.now := by
  unfold State.wAbandon
  split <;> simp

@[simp] theorem State.mapBank_now (seg bank : Nat) (new : List Nat) : (s.mapBank seg bank new).now = s.now := by
  simp [State.mapBank, foldl_now, apply_ite State.now]

@[simp] theorem State.mapWritten_now (seg : Nat) (new : List Nat) : (s.mapWritten seg new).now = s.now := by
  simp [State.mapWritten, foldl_now]

@[simp] theorem State.storesLost_now (seg : Nat) : (s.storesLost seg).now = s.now := rfl

@[simp] theorem State.refreshExclusions_now : s.refreshExclusions.now = s.now := foldl_now (fun _ _ => by simp) s _

/-! ### Slip, trim and dark tracking (R130 to R136, R150) -/

@[simp] theorem State.slipClose_now (sect : Nat) : (s.slipClose sect).now = s.now := rfl

@[simp] theorem State.refreshDelays_now : s.refreshDelays.now = s.now :=
  foldl_now (fun _ _ => foldl_now (fun _ _ => State.put_now ..) _ _) s _

@[simp] theorem State.slipPreset_now (st : Int) : (s.slipPreset st).now = s.now := by simp [State.slipPreset]

@[simp] theorem State.slipModeApplied_now : s.slipModeApplied.now = s.now := by
  simp [State.slipModeApplied, apply_ite State.now]

@[simp] theorem State.trimDisabled_now : s.trimDisabled.now = s.now := rfl

@[simp] theorem State.darkRescale_now (src fsOld fsNew : Nat) : (s.darkRescale src fsOld fsNew).now = s.now := by
  simp [State.darkRescale, apply_ite State.now]

/-! ### The stage machine (R197 to R200) -/

@[simp] theorem State.enterKern_now (b : Nat) (on : Bool) : (s.enterKern b on).now = s.now := rfl

@[simp] theorem State.kernHistory_now (b : Nat) : (s.kernHistory b).now = s.now := by
  unfold State.kernHistory
  split
  · split
    · exact foldl_now (fun t _ => t.addRun_now ..) s _
    · rfl
  · rfl

@[simp] theorem State.changeAt_now (e key : Nat) : (s.changeAt e key).now = s.now := by simp [State.changeAt, apply_ite State.now]

@[simp] theorem State.kernelChange_now (b : Nat) : (s.kernelChange b).now = s.now := by simp [State.kernelChange, foldl_now]

@[simp] theorem State.refreshBudget_now : s.refreshBudget.now = s.now := by
  simp [State.refreshBudget, foldl_now, apply_ite State.now]

@[simp] theorem State.wRenumber_now : s.wRenumber.now = s.now := rfl

@[simp] theorem State.wModeSet_now (old : Int) : (s.wModeSet old).now = s.now := by simp [State.wModeSet, apply_ite State.now]

@[simp] theorem State.engStart_now (b : Nat) : (s.engStart b).now = s.now := by simp [State.engStart]

@[simp] theorem State.loadBegin_now (st : Int) : (s.loadBegin st).now = s.now := by
  unfold State.loadBegin
  split
  · exact (State.put_now ..).trans (foldl_now (fun t _ => t.setEngine_now ..) s _)
  · simp

@[simp] theorem State.imageCommit_now (p : ImageParts) : (s.imageCommit p).now = s.now := by
  simp [State.imageCommit, apply_ite State.now]

@[simp] theorem State.stageStopped_now (nextLine : Nat) : (s.stageStopped nextLine).now = s.now := by
  simp [State.stageStopped, apply_ite State.now]

@[simp] theorem State.stageCheck_now : s.stageCheck.now = s.now := by
  unfold State.stageCheck
  extract_lets cands
  split
  · split <;> simp
  · split
    · exact now_ite rfl ((State.stageStopped_now ..).trans (foldl_now (fun t _ => t.setEngine_now ..) s _))
    · rfl

@[simp] theorem State.enableApplied_now (b : Nat) : (s.enableApplied b).now = s.now := by
  simp [State.enableApplied, apply_ite State.now]

@[simp] theorem State.kernelApplied_now (b : Nat) : (s.kernelApplied b).now = s.now := by
  simp [State.kernelApplied, apply_ite State.now]

@[simp] theorem State.reductionApplied_now (b : Nat) : (s.reductionApplied b).now = s.now := by
  unfold State.reductionApplied
  split <;> simp

@[simp] theorem State.restartApplied_now (seg mask b : Nat) : (s.restartApplied seg mask b).now = s.now := by
  simp [State.restartApplied, foldl_now, apply_ite State.now]

@[simp] theorem State.engPowerDown_now (seg : Nat) : (s.engPowerDown seg).now = s.now := rfl

/-! ### Statistics of a section (R170 to R172) -/

@[simp] theorem State.updSection_now (sect : Nat) (f : StatSection → StatSection) : (s.updSection sect f).now = s.now := rfl

@[simp] theorem State.statClose_now (truncated : Bool) : (s.statClose truncated).now = s.now := by
  unfold State.statClose
  split <;> simp

/-! ### Enables of the rings (R267, R295) -/

@[simp] theorem State.ringEnable_now (r : Nat) (on : Bool) : (s.ringEnable r on).2.now = s.now := by
  simp [State.ringEnable, apply_ite Prod.snd, apply_ite State.now]

@[simp] theorem State.cqEnable_now (on : Bool) : (s.cqEnable on).2.now = s.now := by
  simp [State.cqEnable, apply_ite State.now, apply_ite Prod.snd]

@[simp] theorem State.evEnable_now (on : Bool) : (s.evEnable on).now = s.now := by simp [State.evEnable, apply_ite State.now]

/-! ### Reach pages and holds (R277 to R285) -/

@[simp] theorem State.reachCounts_now : s.reachCounts.now = s.now := by simp [State.reachCounts]

@[simp] theorem State.mapPages_now (f : Page → Page) : (s.mapPages f).now = s.now := rfl

@[simp] theorem State.setPage_now (slot : Nat) (f : Page → Page) : (s.setPage slot f).now = s.now := rfl

@[simp] theorem State.holdCounts_now : s.holdCounts.now = s.now := foldl_now (fun _ _ => by simp) s _

@[simp] theorem State.closePage_now (short returning : Bool) : (s.closePage short returning).now = s.now := by
  unfold State.closePage
  split
  · rfl
  · split
    · rfl
    · simp [foldl_now, apply_ite State.now]

@[simp] theorem State.gapReport_now (slot : Nat) : (s.gapReport slot).now = s.now := by
  unfold State.gapReport
  split <;> simp

@[simp] theorem State.reachUnbind_now : s.reachUnbind.now = s.now := by simp [State.reachUnbind, apply_ite State.now]

/-! ### Streams, their books, drops and records (R240 to R246, R292, R293) -/

@[simp] theorem State.setStream_now (x : StreamSt) : (s.setStream x).now = s.now := rfl

@[simp] theorem State.book_now (k sect due acc : Nat) : (s.book k sect due acc).now = s.now := rfl

@[simp] theorem State.takeTokens_now (n : Nat) : (s.takeTokens n).now = s.now := by simp [State.takeTokens]

@[simp] theorem State.runEnd_now (k : Nat) : (s.runEnd k).now = s.now := by
  cases h : (s.stream k).run with
  | none => simp [State.runEnd, h]
  | some r => simp [State.runEnd, h]

@[simp] theorem State.runSettle_now (k : Nat) : (s.runSettle k).now = s.now := by
  unfold State.runSettle
  split <;> simp [apply_ite State.now]

@[simp] theorem State.dropRecord_now (k first last lines sect cause : Nat) :
    (s.dropRecord k first last lines sect cause).now = s.now := by
  unfold State.dropRecord
  simp only [State.runSettle_now, State.book_now, State.setStream_now]
  split <;> simp [apply_ite State.now]

@[simp] theorem State.streamAdmitted_now (k : Nat) : (s.streamAdmitted k).now = s.now := by
  simp [State.streamAdmitted, apply_ite State.now]

@[simp] theorem State.pushRecord_now (k : Nat) (r : SRec) : (s.pushRecord k r).now = s.now := rfl

@[simp] theorem State.offerRecord_now (k : Nat) (x : Shape) (r : SRec) : (s.offerRecord k x r).now = s.now := by
  simp [State.offerRecord, apply_ite State.now]

@[simp] theorem State.decideAsm_now (k : Nat) (a : Asm) : (s.decideAsm k a).now = s.now := by
  simp [State.decideAsm, apply_ite State.now]

@[simp] theorem State.finishAsm_now (k line : Nat) : (s.finishAsm k line).now = s.now := by
  unfold State.finishAsm
  split
  · rfl
  · split
    · rfl
    · dsimp only
      split <;> simp [apply_ite State.now]

@[simp] theorem State.setAsm_now (k line : Nat) (f : Asm → Asm) : (s.setAsm k line f).now = s.now := rfl

@[simp] theorem State.padAsm_now (k line seg : Nat) : (s.padAsm k line seg).now = s.now := by simp [State.padAsm]

/-! ### Millrace stops and groups (R286 to R291) -/

@[simp] theorem State.setStop_now (x : Stop) : (s.setStop x).now = s.now := rfl

@[simp] theorem State.stopLost_now (g : Nat) : (s.stopLost g).now = s.now := rfl

@[simp] theorem State.contribute_now (k line seg : Nat) : (s.contribute k line seg).now = s.now := by
  simp [State.contribute, apply_ite State.now]

@[simp] theorem State.restoreSegments_now (mask : Nat) : (s.restoreSegments mask).now = s.now := by
  simp [State.restoreSegments, foldl_now]

@[simp] theorem State.statSend_now : s.statSend.now = s.now := foldl_now (fun _ _ => foldl_now (fun t _ =>
    (State.setStop_now ..).trans ((State.free_now ..).trans (t.updSection_now ..))) _ _) s _

@[simp] theorem State.closeGroup_now (k g : Nat) : (s.closeGroup k g).now = s.now := by
  simp [State.closeGroup, foldl_now, apply_ite State.now]

@[simp] theorem State.settleGroups_now (src key : Nat) : (s.settleGroups src key).now = s.now :=
  foldl_now (fun _ _ => by simp [apply_ite State.now]) s _

@[simp] theorem State.streamSpan_now (k b : Nat) (on : Option Bool) : (s.streamSpan k b on).now = s.now := rfl

@[simp] theorem State.streamBind_now (k : Nat) : (s.streamBind k).now = s.now := by simp [State.streamBind, apply_ite State.now]

/-! ### The stream machine (R240, R241, R246) -/

@[simp] theorem State.streamBegin_now (k b : Nat) (state : Int) : (s.streamBegin k b state).now = s.now := by
  simp [State.streamBegin]

@[simp] theorem State.streamCut_now (k b : Nat) : (s.streamCut k b).now = s.now := rfl

@[simp] theorem State.streamOff_now (k : Nat) : (s.streamOff k).now = s.now := by simp [State.streamOff, apply_ite State.now]

@[simp] theorem State.streamCheck_now (k : Nat) : (s.streamCheck k).now = s.now := by
  simp [State.streamCheck, apply_ite State.now]

@[simp] theorem State.streamAttrs_now (k b start : Nat) (l : List Nat) : (s.streamAttrs k b start l).now = s.now := rfl

@[simp] theorem State.streamApplied_now (k b : Nat) : (s.streamApplied k b).now = s.now := by
  simp [State.streamApplied, apply_ite State.now]

@[simp] theorem State.streamRenumber_now (num : Nat) : (s.streamRenumber num).now = s.now :=
  foldl_now (fun _ _ => by simp [apply_ite State.now]) s _

/-! ### Exposure and auxiliary channels (R173, R174, R249) -/

@[simp] theorem State.setCtl_now (c : CtlState) : (s.setCtl c).now = s.now := rfl

@[simp] theorem State.ctlBegin_now (src : Nat) : (s.ctlBegin src).now = s.now := by simp [State.ctlBegin, apply_ite State.now]

@[simp] theorem State.ctlLeft_now (src : Nat) : (s.ctlLeft src).now = s.now := rfl

@[simp] theorem State.setAux_now (x : AuxChan) : (s.setAux x).now = s.now := rfl

@[simp] theorem State.csiEnable_now (on : Bool) : (s.csiEnable on).2.now = s.now := by
  simp [State.csiEnable, foldl_now, State.auxStates_now, State.auxClose_now, apply_ite State.now, apply_ite Prod.snd]

@[simp] theorem State.auxEnabled_now (v : Nat) (was : Bool) : (s.auxEnabled v was).now = s.now := by
  simp [State.auxEnabled, State.auxStates_now, apply_ite State.now]

/-! ### The charger, the link and what a reset loses (R261, R295) -/

@[simp] theorem State.adcDown_now : s.adcDown.now = s.now := rfl

@[simp] theorem State.showLimits_now : s.showLimits.now = s.now := by simp [State.showLimits]

@[simp] theorem State.chargerTo_now (st : Int) : (s.chargerTo st).now = s.now := by simp [State.chargerTo]

@[simp] theorem State.chargeCycle_now : s.chargeCycle.now = s.now := by simp [State.chargeCycle]

@[simp] theorem State.chargeFull_now : s.chargeFull.now = s.now := by simp [State.chargeFull]

@[simp] theorem State.chargeFault_now (bit : Nat) : (s.chargeFault bit).now = s.now := by
  simp [State.chargeFault, apply_ite State.now]

@[simp] theorem State.chargerStep_now : s.chargerStep.now = s.now := by simp [State.chargerStep, apply_ite State.now]

@[simp] theorem State.chargerEval_now : s.chargerEval.now = s.now := by simp [State.chargerEval]

@[simp] theorem State.linkDown_now : s.linkDown.now = s.now := by simp [State.linkDown, apply_ite State.now]

@[simp] theorem State.resetRange_now (lo hi : Nat) (keep : List Nat) : (s.resetRange lo hi keep).now = s.now := rfl

@[simp] theorem State.pagesLost_now : s.pagesLost.now = s.now := rfl

/-! ### The field network and the barrier (R330 to R345) -/

@[simp] theorem State.plcaChanged_now : s.plcaChanged.now = s.now := by simp [State.plcaChanged]

@[simp] theorem State.netEnable_now (on : Bool) : (s.netEnable on).now = s.now := by simp [State.netEnable, apply_ite State.now]

@[simp] theorem State.pull_now (low : Bool) : (s.pull low).now = s.now := by simp [State.pull, apply_ite State.now]

@[simp] theorem State.sluiceJoin_now (on : Bool) : (s.sluiceJoin on).2.now = s.now := by
  simp [State.sluiceJoin, apply_ite Prod.snd, apply_ite State.now]

/-! ### The controller port (R373 to R380) -/

@[simp] theorem State.jobStatus_now (j status : Nat) : (s.jobStatus j status).now = s.now := by
  simp [State.jobStatus, apply_ite State.now]

@[simp] theorem State.jobEnd_now (j status : Nat) : (s.jobEnd j status).now = s.now := by simp [State.jobEnd, apply_ite State.now]

@[simp] theorem State.clearBegin_now : s.clearBegin.now = s.now := by
  unfold State.clearBegin
  split <;> simp

@[simp] theorem State.twcUp_now : s.twcUp.now = s.now := by simp [State.twcUp, apply_ite State.now]

@[simp] theorem State.twcDown_now : s.twcDown.now = s.now := by
  unfold State.twcDown
  split <;> simp

@[simp] theorem State.twcEnable_now (on : Bool) : (s.twcEnable on).now = s.now := by simp [State.twcEnable, apply_ite State.now]

@[simp] theorem State.twcShed_now : s.twcShed.now = s.now := by simp [State.twcShed, foldl_now]

/-! ### Domains (R428 to R431) -/

@[simp] theorem State.unitOff_now (n : Nat) : (s.unitOff n).now = s.now := by simp [State.unitOff, apply_ite State.now]

@[simp] theorem State.showDomains_now : s.showDomains.now = s.now := by simp [State.showDomains]

@[simp] theorem State.domainStep_now (n : Nat) : (s.domainStep n).now = s.now := by simp [State.domainStep, apply_ite State.now]

@[simp] theorem State.domainHolders_now (n : Nat) : (s.domainHolders n).now = s.now := by simp [State.domainHolders]

@[simp] theorem State.domainPass_now : s.domainPass.now = s.now := by simp [State.domainPass, foldl_now]

@[simp] theorem State.settleDomains_now : s.settleDomains.now = s.now := by simp [State.settleDomains]

@[simp] theorem State.hold_now (bit : Nat) (on : Bool) (ns : List Nat) : (s.hold bit on ns).now = s.now := by
  simp [State.hold, foldl_now, apply_ite State.now]

@[simp] theorem State.holdImaging_now (on : Bool) : (s.holdImaging on).now = s.now := by
  simp [State.holdImaging, apply_ite State.now]

@[simp] theorem State.domainRequest_now (n v : Nat) : (s.domainRequest n v).2.now = s.now := by
  simp [State.domainRequest, apply_ite Prod.snd, apply_ite State.now]

/-! ### Locks, procedures, clocks and monitors (R182, R383 to R401, R454) -/

@[simp] theorem State.lockWrite_now (v : Nat) : (s.lockWrite v).now = s.now := by simp [State.lockWrite]

@[simp] theorem State.showDefects_now : s.showDefects.now = s.now :=
  (State.put_now ..).trans (foldl_now (fun t _ => t.put_now ..) s _)

@[simp] theorem State.procClear_now : s.procClear.now = s.now := rfl

@[simp] theorem State.procEnd_now (reason : Nat) : (s.procEnd reason).now = s.now := by simp [State.procEnd]

@[simp] theorem State.procStop_now (reason : Nat) : (s.procStop reason).now = s.now := by
  simp [State.procStop, apply_ite State.now]

@[simp] theorem State.procWatch_now : s.procWatch.now = s.now := by simp [State.procWatch, apply_ite State.now]

@[simp] theorem State.procChanged_now (s0 : State) (keys : List Nat) : (State.procChanged s0 s keys).now = s.now := by
  simp [State.procChanged, apply_ite State.now]

@[simp] theorem State.procStrobes_now : s.procStrobes.now = s.now := by simp [State.procStrobes, apply_ite State.now]

@[simp] theorem State.refreshClock_now : s.refreshClock.now = s.now := by simp [State.refreshClock, foldl_now]

@[simp] theorem State.showSlack_now (g : Nat) : (s.showSlack g).now = s.now := by simp [State.showSlack]

@[simp] theorem State.applySegment_now (g : Nat) : (s.applySegment g).now = s.now := by simp [State.applySegment]

/-! ### Scalars (R304) -/

@[simp] theorem State.declareReversal_now (p : Int) : (s.declareReversal p).now = s.now := by simp [State.declareReversal]

@[simp] theorem State.virtualTurn_now (p : Int) : (s.virtualTurn p).now = s.now := by
  simp [State.virtualTurn, apply_ite State.now]

@[simp] theorem State.encoderSet_now (i : Nat) : (s.encoderSet i).now = s.now := by simp [State.encoderSet]

@[simp] theorem State.modeSet_now (old : Int) : (s.modeSet old).now = s.now := by simp [State.modeSet, apply_ite State.now]

@[simp] theorem State.velocitySet_now (old : Int) : (s.velocitySet old).now = s.now := by
  simp [State.velocitySet, apply_ite State.now]

@[simp] theorem State.pitchAtOnce_now : s.pitchAtOnce.now = s.now := by simp [State.pitchAtOnce, apply_ite State.now]

@[simp] theorem State.integratorWritten_now : s.integratorWritten.now = s.now := by
  simp [State.integratorWritten, apply_ite State.now]

@[simp] theorem State.setScalar_now (k : Nat) (v : Int) : (s.setScalar k v).2.now = s.now := by
  simp [State.setScalar, State.auxStates_now, apply_ite Prod.snd, apply_ite State.now]

@[simp] theorem State.setBytes_now (k : Nat) (bs : List Nat) : (s.setBytes_ k bs).now = s.now := by
  simp [State.setBytes_, apply_ite State.now]

@[simp] theorem State.setKey_now (k : Nat) (bs : List Nat) : (s.setKey k bs).2.now = s.now := by
  unfold State.setKey
  split <;> simp [apply_ite State.now, apply_ite Prod.snd]

/-! ### What follows from several keys -/

@[simp] theorem State.switchD_now : s.switchD.now = s.now := by simp [State.switchD, apply_ite State.now]

@[simp] theorem State.refillSource_now (src b n : Nat) : (s.refillSource src b n).now = s.now := rfl

@[simp] theorem State.planFlags_now (s0 : State) (b : Nat) : (State.planFlags s0 s b).now = s.now := by
  simp [State.planFlags, foldl_now, apply_ite State.now]

@[simp] theorem State.gainFlags_now (s0 : State) (b : Nat) : (State.gainFlags s0 s b).now = s.now := by
  simp [State.gainFlags, apply_ite State.now]

@[simp] theorem State.scaleFlags_now (s0 : State) : (State.scaleFlags s0 s).now = s.now := by simp [State.scaleFlags, foldl_now]

@[simp] theorem State.exclusionsApplied_now (s0 : State) (ks : List Nat) : (State.exclusionsApplied s0 s ks).now = s.now :=
  foldl_now (fun t _ => now_ite rfl (t.raiseAt_now ..)) s _

@[simp] theorem State.enginesApplied_now (s0 : State) (kvs : List (Nat × List Nat)) (b : Nat) :
    (State.enginesApplied s0 s kvs b).now = s.now := by
  unfold State.enginesApplied
  extract_lets ks val s₁ started s₂ conf s₃ red s₄ s₅
  have h₁ : s₁.now = s.now := now_ite (s.imageCommit_now ..) rfl
  have h₂ : s₂.now = s.now := now_ite ((s₁.enableApplied_now ..).trans h₁) h₁
  have h₃ : s₃.now = s.now := now_ite ((s₂.kernelApplied_now ..).trans h₂) h₂
  have h₄ : s₄.now = s.now := now_ite ((s₃.reductionApplied_now ..).trans h₃) h₃
  have h₅ : s₅.now = s.now := (foldl_now (fun t _ => by split; exacts [t.restartApplied_now .., rfl]) s₄ _).trans h₄
  exact now_ite (s₅.refreshBudget_now.trans h₅) h₅

@[simp] theorem State.controlsApplied_now (s0 : State) : (State.controlsApplied s0 s).now = s.now := by
  simp [State.controlsApplied, foldl_now, apply_ite State.now]

@[simp] theorem State.effects_now (s0 : State) (kvs : List (Nat × List Nat)) (b : Nat) :
    (State.effects s0 s kvs b).now = s.now := by
  unfold State.effects
  split <;> simp [foldl_now, apply_ite State.now]

@[simp] theorem State.applyKeys_now (kvs : List (Nat × List Nat)) (b : Nat) : (s.applyKeys kvs b).now = s.now := by
  simp [State.applyKeys, foldl_now]

/-! ### Applications (R43, R316, R402) -/

@[simp] theorem State.controlDone_now (c : Commit) : (s.controlDone c).now = s.now := by
  unfold State.controlDone
  split <;> simp

@[simp] theorem State.barrierApplied_now (c : Commit) : (s.barrierApplied c).now = s.now := by
  unfold State.barrierApplied
  split <;> simp [apply_ite State.now]

@[simp] theorem State.applyCommit_now (c : Commit) (b : Nat) : (s.applyCommit c b).now = s.now := by
  unfold State.applyCommit
  split
  · rfl
  · extract_lets ep s₁ d s₂ s₃ s₄
    have h₁ : s₁.now = s.now := now_ite (s.put_now ..) rfl
    have h₄ : s₄.now = s.now := by simp [s₄, s₃, s₂, h₁]
    split
    · exact (s₄.controlDone_now c).trans h₄
    · simp [h₄]
    · exact h₄
    · exact h₄

/-- The epoch of the last application (0x7C.0007) follows a list of commits without reading the clock, whatever order `later` is. -/
theorem lastEpoch_now (later : Nat → Nat → Bool) (l : List Commit) :
    (l.foldl (fun (s : State) c => if later c.epoch (s.n 0x7C0007) then s.put 0x7C0007 c.epoch else s) s).now = s.now :=
  foldl_now (fun t _ => now_ite (t.put_now ..) rfl) s l

@[simp] theorem State.applyWhere_now (f : Commit → Bool) (b : Nat) : (s.applyWhere f b).now = s.now := by
  unfold State.applyWhere
  extract_lets l order later
  generalize later = later
  rw [lastEpoch_now]
  exact foldl_now (fun t _ => t.applyCommit_now ..) s _

@[simp] theorem State.applyIdle_now : s.applyIdle.now = s.now := by
  unfold State.applyIdle
  split
  · simp
  · rfl

@[simp] theorem State.addHot_now : s.addHot.2.now = s.now := by simp [State.addHot, foldl_now, apply_ite State.now]

@[simp] theorem State.planIdle_now : s.planIdle.now = s.now := by
  unfold State.planIdle
  split
  · rfl
  · extract_lets s₁ s₂
    have h₂ : s₂.now = s.now := by simp [s₂, s₁, foldl_now]
    have hx : (if s₂.cal.adds then s₂.addHot else (0, s₂)).2.now = s.now := by split <;> simp [h₂]
    generalize (if s₂.cal.adds then s₂.addHot else (0, s₂)) = x at hx ⊢
    simp [apply_ite State.now, hx]

/-! ### Run control (R41, R42) -/

@[simp] theorem State.settleRun_now : s.settleRun.now = s.now := by
  unfold State.settleRun
  extract_lets ns
  split
  · exact now_ite (foldl_now (fun t _ => t.settleGroups_now ..) s _) rfl
  · rfl

/-- Where no START is latched, entering IDLE starts no run. -/
theorem State.enterIdle_now (hr : s.run ≠ rsPendingStart) : s.enterIdle.now = s.now := by
  simp [State.enterIdle, hr, apply_ite State.now]

/-- A stop takes the run to IDLE from STARTING or WAIT_EPOCH alone, where no START is latched. -/
@[simp] theorem State.stopNow_now (cause : Nat) : (s.stopNow cause).now = s.now := by
  unfold State.stopNow
  extract_lets cmd
  have hcmd : cmd.now = s.now := s.put_now ..
  have hrun : cmd.run = s.run := s.o_put_ne _ (by decide)
  split
  · simp [hcmd]
  · split
    case isTrue hr =>
      have hl : cmd.run ≠ rsPendingStart := by
        rw [hrun]
        rcases Bool.or_eq_true_iff.mp hr with h | h <;> rw [of_decide_eq_true h] <;> decide
      exact (cmd.enterIdle_now hl).trans hcmd
    case isFalse => exact now_ite (s.put_now ..) rfl

end Sys2Proof.Machine

end

section
/-!
Lock step (R349, R350): the evaluation at a section boundary, the majority it finds and the fault it latches, and the statement about
lock step.
-/
namespace Sys2Proof.Machine

/-! ### The majority of the participants (R349) -/

theorem majority_one (h : Head) : majority [h] = some [h] := by simp [majority]

/-- Two participants that disagree have no majority. -/
theorem majority_two {h p : Head} (apart : p.line ≠ h.line ∨ p.pitch ≠ h.pitch) : majority [h, p] = none := by
  have left : ¬ (p.line = h.line ∧ p.pitch = h.pitch) := not_and_or.mpr apart
  have right : ¬ (h.line = p.line ∧ h.pitch = p.pitch) := fun same => left ⟨same.1.symm, same.2.symm⟩
  simp [majority, List.filter_cons, left, right]

/-- Two participants that agree outvote a third. -/
theorem majority_three {h p r : Head} (line : p.line = r.line) (pitch : p.pitch = r.pitch) (apart : p.line ≠ h.line) :
    majority [h, p, r] = some [p, r] := by
  have alone : ¬ r.line = h.line := line ▸ apart
  have left : ¬ h.line = r.line := fun same => alone same.symm
  simp [majority, List.filter_cons, line, pitch, alone, left]

theorem medianPos_one (h : Head) : medianPos [h] = h.pos := by simp [medianPos]

section
variable (s : State) (e : LockEval)

/-! ### The participants (R349) -/

/-- The evaluation is taken up. -/
def State.evaluated : State := { s.atTick e.due with net := { s.net with eval := none } }

/-- This head at the boundary. -/
def LockEval.own : Head := ⟨e.line, e.pitch, e.pos⟩

/-- The heads that take part: this one, and each peer with a report of the section that does not number locally. -/
def State.participants : List Head :=
  e.own :: (s.net.peers.filter fun p => p.sect = e.sect && !p.flags.testBit 0).map fun p => ⟨p.line, p.pitch, p.pos⟩

variable {s e}

theorem State.participants_none (peers : s.net.peers = []) : s.participants e = [e.own] := by simp [State.participants, peers]

theorem State.participants_one {p : Peer} (peers : s.net.peers = [p]) (sect : p.sect = e.sect) (shared : p.flags.testBit 0 = false) :
    s.participants e = [e.own, ⟨p.line, p.pitch, p.pos⟩] := by
  simp [State.participants, peers, sect, shared, -Nat.testBit_zero]

theorem State.participants_two {p r : Peer} (peers : s.net.peers = [p, r]) (sect : p.sect = e.sect) (sect' : r.sect = e.sect)
    (shared : p.flags.testBit 0 = false) (shared' : r.flags.testBit 0 = false) :
    s.participants e = [e.own, ⟨p.line, p.pitch, p.pos⟩, ⟨r.line, r.pitch, r.pos⟩] := by
  simp [State.participants, peers, sect, sect', shared, shared', -Nat.testBit_zero]

/-! ### Peers that miss a section (R349) -/

/-- The second state differs from the first in what a count of the missing reports can change, at most: the peers' entries, and what an
event can change. -/
structure PeersCounted (s t : State) : Prop where
  now : t.now = s.now
  eval : t.net.eval = s.net.eval
  participants : ∀ e, t.participants e = s.participants e
  objs : ∀ k, k < 0x546000 → logKey k = false → t.o k = s.o k

theorem PeersCounted.raise {t : State} (h : PeersCounted s t) (code : Nat) (data : Int) : PeersCounted s (t.raise code data) where
  now := (t.raise_now code data).trans h.now
  eval := by rw [(t.raise_same code data).net]; exact h.eval
  participants e := by
    rw [← h.participants e, State.participants, (t.raise_same code data).net]
    rfl
  objs k low log := (t.o_raise code data log).trans (h.objs k low log)

theorem State.peersMissing_counts (s : State) (k : Nat) : PeersCounted s (s.peersMissing k) := by
  unfold State.peersMissing
  extract_lets l hit
  have sets := s.setPeers_sets l
  refine List.foldlRecOn (motive := PeersCounted s) hit _ ⟨sets.now, by rw [sets.net], fun e => ?_, fun k low _ => sets.objs k low⟩
    fun t h p _ => h.raise _ _
  simp [State.participants, sets.net, l, List.filter_map, Function.comp_def]

/-! ### The comparison (R349) -/

/-- The section and the number of participants are published. -/
def State.compared (s : State) (e : LockEval) : State :=
  ((s.evaluated e).peersMissing e.sect).puts [(0x544009, e.sect), (0x54400A, (s.participants e).length)]

theorem State.evaluated_counts (s : State) (e : LockEval) : PeersCounted (s.evaluated e) ((s.evaluated e).peersMissing e.sect) :=
  State.peersMissing_counts _ _

theorem State.compared_now (s : State) (e : LockEval) : (s.compared e).now = max s.now e.due := by
  rw [State.compared, State.puts_now, (s.evaluated_counts e).now]
  rfl

theorem State.compared_eval (s : State) (e : LockEval) : (s.compared e).net.eval = none := by
  simp only [State.compared, State.puts_cons, State.puts_nil, State.put_net]
  exact (s.evaluated_counts e).eval

theorem State.compared_sect (s : State) (e : LockEval) : (s.compared e).o 0x544009 = e.sect := by
  simp [State.compared, State.o_put]

theorem State.compared_count (s : State) (e : LockEval) : (s.compared e).o 0x54400A = (s.participants e).length := by
  simp [State.compared]

theorem State.o_compared_ne {k : Nat} (low : k < 0x546000) (log : logKey k = false) (other : k ∉ [0x544009, 0x54400A]) :
    (s.compared e).o k = s.o k := by
  simp only [List.mem_cons, List.not_mem_nil, or_false, not_or] at other
  simp only [State.compared, State.puts_cons, State.puts_nil]
  rw [State.o_put_ne _ _ other.2, State.o_put_ne _ _ other.1, (s.evaluated_counts e).objs k low log]
  rfl

/-- The signed distance from the majority's median position. -/
def LockEval.offset (e : LockEval) (g : List Head) : Int := wrapS 64 (e.pos - medianPos g)

/-- The size of the majority and the distance from it are published. -/
def State.measured (s : State) (e : LockEval) (g : List Head) : State :=
  (s.compared e).puts [(0x54400B, g.length), (0x54400C, e.offset g)]

/-- What the comparison finds, with the group that is the majority: the state, and whether a fault is found. -/
def State.judged (s : State) (e : LockEval) : Option (List Head) → State × Bool
  | none => (((s.compared e).put 0x54400B 0).lockFault 4 0, true)
  | some g =>
    let m := g.headD e.own
    if e.line ≠ m.line then ((s.measured e g).lockFault 1 ((e.line : Int) - m.line), true)
    else if e.pitch ≠ m.pitch then ((s.measured e g).lockFault 3 ((e.pitch : Int) - m.pitch), true)
    else if (s.measured e g).o 0x544003 * 65536 < (e.offset g).natAbs then ((s.measured e g).lockFault 2 (e.offset g), true)
    else (s.measured e g, false)

theorem State.lockstep_local (waits : s.net.eval = some e) (numbers : s.localNumbering = true) :
    s.lockstep = (s.evaluated e, false) := by
  unfold State.lockstep
  rw [waits]
  exact if_pos numbers

/-- Lock step judges by the majority of the participants. -/
theorem State.lockstep_judges (waits : s.net.eval = some e) (shares : s.localNumbering = false) :
    s.lockstep = s.judged e (majority (s.participants e)) := by
  have same : ((s.evaluated e).peersMissing e.sect).participants e = s.participants e := (s.evaluated_counts e).participants e
  have judges : s.lockstep = s.judged e (majority (((s.evaluated e).peersMissing e.sect).participants e)) := by
    unfold State.judged State.measured State.compared
    rw [← same]
    unfold State.lockstep
    rw [waits]
    exact if_neg (Bool.eq_false_iff.mp shares)
  rw [judges, same]

/-! ### A fault (R350) -/

theorem State.lockFault_clear (clear : s.o 0x544006 = 0) (cause : Nat) (diff : Int) :
    s.lockFault cause diff = (((s.put 0x544006 1).put 0x544007 cause).bump 0x54400E).raise 0x0905 (cause + 256 * diff) :=
  if_neg (by simp [State.b, clear])

theorem State.lockFault_now (s : State) (cause : Nat) (diff : Int) : (s.lockFault cause diff).now = s.now := by
  unfold State.lockFault
  split <;> simp

/-- A fault latches its cause, and is counted. -/
theorem State.lockFault_latches (clear : s.o 0x544006 = 0) (cause : Nat) (diff : Int) :
    (s.lockFault cause diff).o 0x544006 = 1 ∧ (s.lockFault cause diff).o 0x544007 = cause
      ∧ (s.lockFault cause diff).o 0x54400E = (s.o 0x54400E + 1) % 2 ^ 32 := by
  have width : maxOf 0x54400E + 1 = 2 ^ 32 := by decide +kernel
  rw [State.lockFault_clear clear]
  refine ⟨?_, ?_, ?_⟩ <;> rw [State.o_raise _ _ _ (by decide)]
  · rw [State.o_bump_ne _ _ (by decide), State.o_put_ne _ _ (by decide), State.o_put_self]
  · rw [State.o_bump_ne _ _ (by decide), State.o_put_self]
  · rw [State.bump_eq, State.o_put_self, width, State.o_put_ne _ _ (by decide), State.o_put_ne _ _ (by decide)]
    rfl

theorem State.o_lockFault_ne (clear : s.o 0x544006 = 0) (cause : Nat) (diff : Int) {k : Nat} (log : logKey k = false)
    (other : k ∉ [0x544006, 0x544007, 0x54400E]) : (s.lockFault cause diff).o k = s.o k := by
  simp only [List.mem_cons, List.not_mem_nil, or_false, not_or] at other
  obtain ⟨fault, why, count⟩ := other
  rw [State.lockFault_clear clear, State.o_raise _ _ _ log, State.o_bump_ne _ _ count, State.o_put_ne _ _ why, State.o_put_ne _ _ fault]

/-! ### The evaluation -/

theorem State.measured_now (s : State) (e : LockEval) (g : List Head) : (s.measured e g).now = max s.now e.due := by
  rw [State.measured, State.puts_now, State.compared_now]

theorem State.o_measured_ne {k : Nat} (other : k ∉ [0x54400B, 0x54400C]) (g : List Head) :
    (s.measured e g).o k = (s.compared e).o k := by
  simp only [List.mem_cons, List.not_mem_nil, or_false, not_or] at other
  simp only [State.measured, State.puts_cons, State.puts_nil]
  rw [State.o_put_ne _ _ other.2, State.o_put_ne _ _ other.1]

theorem State.judged_now (s : State) (e : LockEval) (g : Option (List Head)) : (s.judged e g).1.now = max s.now e.due := by
  cases g with
  | none => rw [State.judged, State.lockFault_now, State.put_now, State.compared_now]
  | some g =>
    rw [State.judged]
    split_ifs <;> simp only [State.lockFault_now, State.measured_now]

theorem State.lockstep_now (waits : s.net.eval = some e) : s.lockstep.1.now = max s.now e.due := by
  cases numbers : s.localNumbering with
  | true => rw [State.lockstep_local waits numbers]; rfl
  | false => rw [State.lockstep_judges waits numbers, State.judged_now]

/-- A fault stops the run by policy STOP_NOW alone, and no stop reads the clock. -/
theorem State.lockstepDone_now (s : State) : s.lockstepDone.now = s.lockstep.1.now := now_ite (State.stopNow_now ..) rfl

theorem State.lockstepDone_found (quiet : s.lockstep.2 = false) : s.lockstepDone = s.lockstep.1 := by
  simp [State.lockstepDone, quiet]

theorem State.lockstepDone_kept (policy : s.o 0x544005 ≠ 1) : s.lockstepDone = s.lockstep.1 := by
  simp [State.lockstepDone, State.is, policy]

theorem LockEval.offset_alone (e : LockEval) : e.offset [e.own] = 0 := by
  rw [LockEval.offset, medianPos_one, LockEval.own, sub_self]
  rfl

/-- A head on its own agrees with itself. -/
theorem State.judged_alone (limit : 0 ≤ s.o 0x544003) : s.judged e (some [e.own]) = (s.measured e [e.own], false) := by
  have kept : (s.measured e [e.own]).o 0x544003 = s.o 0x544003 := by
    rw [State.o_measured_ne (by decide), State.o_compared_ne (by decide) (by decide) (by decide)]
  have near : ¬ (s.measured e [e.own]).o 0x544003 * 65536 < (e.offset [e.own]).natAbs := by
    rw [e.offset_alone, kept]
    simpa using limit
  exact (if_neg (not_not.mpr rfl)).trans ((if_neg (not_not.mpr rfl)).trans (if_neg near))

theorem State.judged_line {m : Head} (g : List Head) (line : m.line ≠ e.line) :
    s.judged e (some (m :: g)) = ((s.measured e (m :: g)).lockFault 1 ((e.line : Int) - m.line), true) := if_pos line.symm

theorem isCommand_clearLockstepFault : IsCommand 0x544008 ⟨0x5440, 1, 0x08, 1, .u8, .wo, .now, 0, .oneOf [1]⟩ where
  listed := by decide +kernel
  acc := rfl
  app := rfl
  high := by decide
  low := by decide

theorem exec_lockstepEvaluation {x : State} (alive : s.alive = true) (done : s.lockstepDone = x) :
    exec .lockstepEvaluation s = .next (s.settle x) := exec_acts (·.lockstepDone) alive rfl done

/-! ### The outcomes -/

/-- What a head on its own publishes. -/
theorem State.measured_alone (peers : s.net.peers = []) : let x := s.measured e [e.own]
    x.net.eval = none ∧ x.o 0x544009 = e.sect ∧ x.o 0x54400A = 1 ∧ x.o 0x54400B = 1 ∧ x.o 0x54400C = 0
      ∧ x.o 0x544006 = s.o 0x544006 := by
  intro x
  refine ⟨?_, ?_, ?_, ?_, ?_, ?_⟩
  · simp [x, State.measured, State.compared_eval]
  · rw [State.o_measured_ne (by decide), State.compared_sect]
  · rw [State.o_measured_ne (by decide), State.compared_count, State.participants_none peers]
    rfl
  · simp [x, State.measured, State.o_put]
  · simp [x, State.measured, LockEval.offset_alone]
  · rw [State.o_measured_ne (by decide), State.o_compared_ne (by decide) (by decide) (by decide)]

/-- The state in which no majority is found. -/
def State.divided (s : State) (e : LockEval) : State := ((s.compared e).put 0x54400B 0).lockFault 4 0

section
variable (clear : s.o 0x544006 = 0)
include clear

/-- What a head latches that has no majority. -/
theorem State.divided_latches : (s.divided e).o 0x544006 = 1 ∧ (s.divided e).o 0x544007 = 4 ∧ (s.divided e).o 0x54400B = 0
    ∧ (s.divided e).o 0x54400A = (s.participants e).length ∧ (s.divided e).o 0x54400E = (s.o 0x54400E + 1) % 2 ^ 32
    ∧ (s.divided e).run = s.run := by
  have before {k : Nat} (low : k < 0x546000) (log : logKey k = false) (other : k ∉ [0x544009, 0x54400A]) (size : k ≠ 0x54400B) :
      ((s.compared e).put 0x54400B 0).o k = s.o k := by
    rw [State.o_put_ne _ _ size, State.o_compared_ne low log other]
  have unlatched : ((s.compared e).put 0x54400B 0).o 0x544006 = 0 :=
    (before (by decide) (by decide) (by decide) (by decide)).trans clear
  obtain ⟨fault, cause, count⟩ := State.lockFault_latches unlatched 4 0
  rw [before (by decide) (by decide) (by decide) (by decide)] at count
  refine ⟨fault, cause, ?_, ?_, count, ?_⟩
  · rw [State.divided, State.o_lockFault_ne unlatched _ _ (by decide) (by decide), State.o_put_self]
  · rw [State.divided, State.o_lockFault_ne unlatched _ _ (by decide) (by decide), State.o_put_ne _ _ (by decide), State.compared_count]
  · rw [State.divided, State.run, State.o_lockFault_ne unlatched _ _ (by decide) (by decide),
      before (by decide) (by decide) (by decide) (by decide)]
    rfl

/-- What a head latches whose line number the majority does not share. -/
theorem State.outvoted_latches (g : List Head) (diff : Int) : let x := (s.measured e g).lockFault 1 diff
    x.o 0x544006 = 1 ∧ x.o 0x544007 = 1 ∧ x.o 0x54400B = g.length := by
  intro x
  have unlatched : (s.measured e g).o 0x544006 = 0 := by
    rw [State.o_measured_ne (by decide), State.o_compared_ne (by decide) (by decide) (by decide), clear]
  obtain ⟨fault, cause, -⟩ := State.lockFault_latches unlatched 1 diff
  refine ⟨fault, cause, ?_⟩
  rw [State.o_lockFault_ne unlatched _ _ (by decide) (by decide)]
  simp [State.measured, State.o_put]

end

end

/-- Settles O45: each case goes by what the majority of its participants is. -/
theorem lockStepFindsDisagreement : Obligations.LockStepFindsDisagreement := by
  unfold Obligations.LockStepFindsDisagreement
  intro s w e out
  refine ⟨fun alive waits => ?_, fun alive waits shares peers limit => ?_,
    fun alive waits shares clear policy p peers sect shared apart => ?_,
    fun alive waits shares clear policy p r peers sect sect' shared shared' line pitch apart => ?_, fun accepted => ?_⟩
  · refine ⟨_, exec_lockstepEvaluation alive rfl, ?_, fun numbers => ?_⟩
    · have clock : s.lockstepDone.now = max s.now e.due := (s.lockstepDone_now).trans (State.lockstep_now waits)
      simp [State.settle, clock]
    · rw [State.lockstepDone_found (by rw [State.lockstep_local waits numbers]), State.lockstep_local waits numbers]
      rfl
  · have judged : s.lockstep = (s.measured e [e.own], false) := by
      rw [State.lockstep_judges waits shares, State.participants_none peers, majority_one, State.judged_alone limit]
    have done : s.lockstepDone = s.measured e [e.own] := by rw [State.lockstepDone_found (by rw [judged]), judged]
    obtain ⟨closed, published⟩ := State.measured_alone (e := e) peers
    refine ⟨_, exec_lockstepEvaluation alive done, closed, ?_, published⟩
    simp [State.settle, State.measured_now]
  · have pair := State.participants_one peers sect shared
    have judged : s.lockstep = (s.divided e, true) := by
      rw [State.lockstep_judges waits shares, pair, majority_two apart]
      rfl
    have latched := State.divided_latches (e := e) clear
    rw [pair] at latched
    exact ⟨_, exec_lockstepEvaluation alive ((State.lockstepDone_kept policy).trans (congrArg Prod.fst judged)), latched⟩
  · have judged := State.lockstep_judges waits shares
    rw [State.participants_two peers sect sect' shared shared', majority_three line pitch apart,
      State.judged_line _ apart] at judged
    exact ⟨_, exec_lockstepEvaluation alive ((State.lockstepDone_kept policy).trans (congrArg Prod.fst judged)),
      State.outvoted_latches clear _ _⟩
  · exact exec_commands isCommand_clearLockstepFault accepted rfl (by decide) rfl

end Sys2Proof.Machine
end
